-- ==== Sys2Proof/Word.lean ====
section
/-!
DEFINITION. Word.lean: the words the manual counts in, as abbreviations of BitVec, and their plainest arithmetic.
-/

namespace Sys2Proof

/-- A byte (R83: every multi-byte value is little-endian). -/
abbrev Byte := BitVec 8

/-- The manual's u32 (R11: it wraps modulo 2^32). -/
abbrev W32 := BitVec 32

/-- The manual's u64, the width of an action word, a register and a Compass count. -/
abbrev W64 := BitVec 64

/-- `cond` on Bool as a number: 1 for true (register fields that report a condition). -/
def bit1 (b : Bool) : Nat := if b then 1 else 0

/-- Division of naturals rounded up (the manual's ceil). -/
def ceilDiv (a b : Nat) : Nat := (a + b - 1) / b

end Sys2Proof
end

