-- ==== Sys2Proof/Machine/Store.lean ====
section
/-!
DEFINITION. Machine/Store.lean: sparse storage in one canonical form. A store is a list of key and value pairs with keys
strictly rising and no pair that holds the default; a key not listed reads as the default. Byte memory is the same with
`Host.Cell`. Everything here is a plain function; the laws stand in Laws/Store.lean.
-/

namespace Sys2Proof.Machine

/-- A sparse table of values by number, in canonical form (`storeWf`). -/
abbrev Store (α : Type) := List (Nat × α)

/-- The value at key `k`, or the default `d`. -/
def storeGet {α : Type} (d : α) : Store α → Nat → α
  | [], _ => d
  | (k, v) :: rest, key => if k = key then v else storeGet d rest key

/-- The store with no entry at `key`. -/
def storeDel {α : Type} : Store α → Nat → Store α
  | [], _ => []
  | (k, v) :: rest, key => if k = key then storeDel rest key else (k, v) :: storeDel rest key

/-- The store with `v` at `key`, keys kept rising. -/
def storePut {α : Type} : Store α → Nat → α → Store α
  | [], key, v => [(key, v)]
  | (k, w) :: rest, key, v =>
    if k < key then (k, w) :: storePut rest key v
    else if k = key then (key, v) :: rest
    else (key, v) :: (k, w) :: rest

/-- Write: writing the default removes the entry, so equal contents are equal data. -/
def storeSet {α : Type} [DecidableEq α] (d : α) (m : Store α) (key : Nat) (v : α) : Store α :=
  if v = d then storeDel m key else storePut m key v

/-- The canonical form: keys strictly rising from `lo`, no default listed. -/
def storeWfFrom {α : Type} [DecidableEq α] (d : α) : Nat → Store α → Bool
  | _, [] => true
  | lo, (k, v) :: rest => decide (lo ≤ k) && !decide (v = d) && storeWfFrom d (k + 1) rest

/-- The canonical form of a store. -/
def storeWf {α : Type} [DecidableEq α] (d : α) (m : Store α) : Bool := storeWfFrom d 0 m

/-- Byte memory: address and byte pairs. -/
abbrev Memory := List Host.Cell

/-- What an unlisted byte reads as: 0 (DESIGN CHOICE, log entry 4). -/
def memDefault : Byte := 0

/-- One byte of memory. -/
def Memory.read (m : Memory) (a : Nat) : Byte := storeGet memDefault m a

/-- One byte written. -/
def Memory.write (m : Memory) (a : Nat) (v : Byte) : Memory := storeSet memDefault m a v

/-- The canonical form of memory. -/
def Memory.wf (m : Memory) : Bool := storeWf memDefault m

/-- Bytes written from an address upwards. -/
def Memory.writeBytes : Memory → Nat → List Byte → Memory
  | m, _, [] => m
  | m, a, b :: rest => (m.write a b).writeBytes (a + 1) rest

/-- Bytes read from address `a` upwards, in one pass over the cells. -/
def Memory.readBytes : Memory → Nat → Nat → List Byte
  | _, _, 0 => []
  | m, a, n + 1 =>
    let m' := m.dropWhile (fun c => decide (c.1 < a))
    let v := match m' with
      | c :: _ => if c.1 = a then c.2 else memDefault
      | [] => memDefault
    v :: Memory.readBytes m' (a + 1) n

/-- Little-endian bytes as a number (R83). -/
def leNat : List Byte → Nat
  | [] => 0
  | b :: rest => b.toNat + 256 * leNat rest

/-- The `n` little-endian bytes of a number. -/
def leBytes : Nat → Nat → List Byte
  | 0, _ => []
  | n + 1, v => BitVec.ofNat 8 v :: leBytes n (v / 256)

/-- The bytes `off` to `off + n - 1` of a byte string as a little-endian number; bytes beyond its end read as 0. -/
def leField (bs : List Byte) (off n : Nat) : Nat := leNat ((bs.drop off).take n)

/-- A field [lo + len - 1 : lo] of a number. -/
def fieldN (v lo len : Nat) : Nat := v / 2 ^ lo % 2 ^ len

/-- The first `n` elements of a list by index, from a function. -/
def tab {α : Type} (n : Nat) (f : Nat → α) : List α := (List.range n).map f

/-- The list with element `i` replaced. -/
def listSet {α : Type} : List α → Nat → α → List α
  | [], _, _ => []
  | _ :: rest, 0, v => v :: rest
  | x :: rest, i + 1, v => x :: listSet rest i v

end Sys2Proof.Machine
end

