-- ==== Sys2Proof/Machine/Registers.lean ====
section
/-!
DEFINITION. Machine/Registers.lean: the register tables of the manual as data: where each register stands in BAR0, its width,
reset value, and which bits take which access code (Table 0.3). Bits in no mask are RO or reserved.
-/

namespace Sys2Proof.Machine

/-- One row of a register table: the offset of its first register, two strides with their counts, width in bits, reset
value, and the bits of each access code. -/
structure RegSpec where
  base : Nat
  n1 : Nat := 1
  s1 : Nat := 0
  n2 : Nat := 1
  s2 : Nat := 0
  width : Nat
  reset : Nat := 0
  rw : Nat := 0
  rwl : Nat := 0
  wo : Nat := 0
  w1c : Nat := 0
  w1s : Nat := 0
  rc : Nat := 0
  deriving DecidableEq, Repr

namespace Reg

/-- PACE_CTL (R49). -/
abbrev PACE_CTL : Nat := 0x200000
/-- PACE_N (R49). -/
abbrev PACE_N : Nat := 0x200004
/-- PACE_DESIGN (R49). -/
abbrev PACE_DESIGN : Nat := 0x200008
/-- PACE_NEXT (R49). -/
abbrev PACE_NEXT : Nat := 0x20000c
/-- PACE_AT (R49). -/
abbrev PACE_AT : Nat := 0x200010
/-- PACE_LAG_MAX (R49). -/
abbrev PACE_LAG_MAX : Nat := 0x200018
/-- PACE_STAT (R49). -/
abbrev PACE_STAT : Nat := 0x20001c
/-- PACE_LAG (R49). -/
abbrev PACE_LAG : Nat := 0x200020
/-- PACE_LAG_PEAK (R49). -/
abbrev PACE_LAG_PEAK : Nat := 0x200024
/-- PACE_ERR (R49). -/
abbrev PACE_ERR : Nat := 0x200028
/-- PACE_BEAT (R49). -/
abbrev PACE_BEAT : Nat := 0x200030
/-- PACE_EPOCH (R49). -/
abbrev PACE_EPOCH : Nat := 0x200038
/-- PACE_CAP (R49). -/
abbrev PACE_CAP : Nat := 0x200040
/-- PACE_VMARGIN (R49). -/
abbrev PACE_VMARGIN : Nat := 0x200044
/-- PACE_HANG (R49). -/
abbrev PACE_HANG : Nat := 0x200048
/-- PACE_VTGT (R49). -/
abbrev PACE_VTGT : Nat := 0x20004c
/-- RG_BEAT (R50). -/
abbrev RG_BEAT (i : Nat) : Nat := 0x1000100 + 0x10000 * i
/-- RG_XING_STAT (R50). -/
abbrev RG_XING_STAT (i : Nat) (j : Nat) : Nat := 0x1000200 + 0x10000 * i + 4 * j
/-- PT_CMD (R77). -/
abbrev PT_CMD : Nat := 0xb00000
/-- PT_STAT (R77). -/
abbrev PT_STAT : Nat := 0xb00004
/-- PT_ADDR (R77). -/
abbrev PT_ADDR : Nat := 0xb00008
/-- PT_LEN (R77). -/
abbrev PT_LEN : Nat := 0xb00010
/-- PT_DIGEST (R77). -/
abbrev PT_DIGEST (i : Nat) : Nat := 0xb00020 + 4 * i
/-- PT_LDIGEST (R77). -/
abbrev PT_LDIGEST (i : Nat) : Nat := 0xb00040 + 4 * i
/-- PT_CDIGEST (R77). -/
abbrev PT_CDIGEST (i : Nat) : Nat := 0xb00060 + 4 * i
/-- TR_ADDR (R77). -/
abbrev TR_ADDR : Nat := 0xb00100
/-- TR_LEN (R77). -/
abbrev TR_LEN : Nat := 0xb00108
/-- TR_CMD (R77). -/
abbrev TR_CMD : Nat := 0xb0010c
/-- TR_STAT (R77). -/
abbrev TR_STAT : Nat := 0xb00110
/-- TR_ROW (R77). -/
abbrev TR_ROW : Nat := 0xb00118
/-- TR_BND (R77). -/
abbrev TR_BND : Nat := 0xb00120
/-- TR_BND_DIGEST (R77). -/
abbrev TR_BND_DIGEST : Nat := 0xb00128
/-- TR_LAUNCH_SEG (R77). -/
abbrev TR_LAUNCH_SEG : Nat := 0xb00130
/-- TR_LAUNCH_AT (R77). -/
abbrev TR_LAUNCH_AT : Nat := 0xb00138
/-- TR_FAULT (R77). -/
abbrev TR_FAULT : Nat := 0xb00140
/-- TR_FAULT_BEAT (R77). -/
abbrev TR_FAULT_BEAT : Nat := 0xb00148
/-- RG_STOVE_STAT (R101). -/
abbrev RG_STOVE_STAT (i : Nat) (j : Nat) : Nat := 0x1000300 + 0x10000 * i + 4 * j
/-- RG_KET_STAT (R120). -/
abbrev RG_KET_STAT (i : Nat) (j : Nat) : Nat := 0x1000400 + 0x10000 * i + 4 * j
/-- RG_KET_TSET (R120). -/
abbrev RG_KET_TSET (i : Nat) : Nat := 0x1000440 + 0x10000 * i
/-- RG_SACK_ECC (R148). -/
abbrev RG_SACK_ECC (i : Nat) : Nat := 0x1000500 + 0x10000 * i
/-- RG_SACK_ECC_LOC (R148). -/
abbrev RG_SACK_ECC_LOC (i : Nat) : Nat := 0x1000504 + 0x10000 * i
/-- RG_WIN_STAT (R148). -/
abbrev RG_WIN_STAT (i : Nat) (j : Nat) : Nat := 0x1000600 + 0x10000 * i + 4 * j
/-- RG_PEG_WAIT (R148). -/
abbrev RG_PEG_WAIT (i : Nat) : Nat := 0x1000700 + 0x10000 * i
/-- RG_PEG_WLIM (R148). -/
abbrev RG_PEG_WLIM (i : Nat) : Nat := 0x1000708 + 0x10000 * i
/-- RG_PEG_THR (R148). -/
abbrev RG_PEG_THR (i : Nat) (j : Nat) : Nat := 0x1000800 + 0x10000 * i + 4 * j
/-- RG_PEG_MARK (R148). -/
abbrev RG_PEG_MARK (i : Nat) (j : Nat) : Nat := 0x1001000 + 0x10000 * i + 4 * j
/-- RG_TK_CFG (R171). -/
abbrev RG_TK_CFG (i : Nat) : Nat := 0x1002000 + 0x10000 * i
/-- RG_TK_SLOT (R171). -/
abbrev RG_TK_SLOT (i : Nat) : Nat := 0x1002004 + 0x10000 * i
/-- RG_TK_STAT (R171). -/
abbrev RG_TK_STAT (i : Nat) : Nat := 0x1002008 + 0x10000 * i
/-- RG_TK_T0 (R171). -/
abbrev RG_TK_T0 (i : Nat) : Nat := 0x1002010 + 0x10000 * i
/-- RG_TK_T1 (R171). -/
abbrev RG_TK_T1 (i : Nat) : Nat := 0x1002014 + 0x10000 * i
/-- RG_TK_T2 (R171). -/
abbrev RG_TK_T2 (i : Nat) : Nat := 0x1002018 + 0x10000 * i
/-- RG_TK_X (R171). -/
abbrev RG_TK_X (i : Nat) (j : Nat) : Nat := 0x1002020 + 0x10000 * i + 4 * j
/-- RG_TK_ECC (R171). -/
abbrev RG_TK_ECC (i : Nat) : Nat := 0x1002040 + 0x10000 * i
/-- RG_TK_ECC_LOC (R171). -/
abbrev RG_TK_ECC_LOC (i : Nat) : Nat := 0x1002048 + 0x10000 * i
/-- RG_TK_GUARD (R171). -/
abbrev RG_TK_GUARD (i : Nat) : Nat := 0x1002050 + 0x10000 * i
/-- RG_TK_RETRY (R171). -/
abbrev RG_TK_RETRY (i : Nat) : Nat := 0x1002054 + 0x10000 * i
/-- RG_TK_FAR (R171). -/
abbrev RG_TK_FAR (i : Nat) : Nat := 0x1002058 + 0x10000 * i
/-- RG_TK_REFAGE (R171). -/
abbrev RG_TK_REFAGE (i : Nat) (j : Nat) : Nat := 0x1002060 + 0x10000 * i + 4 * j
/-- FQ_CFG (R199). -/
abbrev FQ_CFG (i : Nat) : Nat := 0x900000 + 4 * i
/-- FQ_CTL (R199). -/
abbrev FQ_CTL (i : Nat) : Nat := 0x900100 + 4 * i
/-- FQ_STAT (R199). -/
abbrev FQ_STAT (i : Nat) : Nat := 0x900200 + 4 * i
/-- FQ_POISON (R199). -/
abbrev FQ_POISON : Nat := 0x900300
/-- FQ_POISONS (R199). -/
abbrev FQ_POISONS : Nat := 0x900308
/-- BR_CFG (R199). -/
abbrev BR_CFG : Nat := 0x901000
/-- BR_SIZE (R199). -/
abbrev BR_SIZE : Nat := 0x901008
/-- BR_CHAN (R199). -/
abbrev BR_CHAN (i : Nat) : Nat := 0x901010 + 4 * i
/-- BR_ECC (R199). -/
abbrev BR_ECC (i : Nat) : Nat := 0x901040 + 4 * i
/-- BK_LIST (R200). -/
abbrev BK_LIST (i : Nat) : Nat := 0xa00000 + 4 * i
/-- BK_COUNT (R200). -/
abbrev BK_COUNT : Nat := 0xa00080
/-- BK_CMD (R200). -/
abbrev BK_CMD : Nat := 0xa00084
/-- BK_STAT (R200). -/
abbrev BK_STAT : Nat := 0xa00088
/-- BK_ERR_POS (R200). -/
abbrev BK_ERR_POS : Nat := 0xa0008c
/-- TP_CACHE (R200). -/
abbrev TP_CACHE : Nat := 0xa00100
/-- AD_SLOT (R200). -/
abbrev AD_SLOT (i : Nat) : Nat := 0xa01000 + 8 * i
/-- GL_CTL (R231). -/
abbrev GL_CTL (i : Nat) : Nat := 0x600000 + 0x10000 * i
/-- GL_LINK_STAT (R231). -/
abbrev GL_LINK_STAT (i : Nat) : Nat := 0x600004 + 0x10000 * i
/-- GL_LINK_ERR (R231). -/
abbrev GL_LINK_ERR (i : Nat) : Nat := 0x600008 + 0x10000 * i
/-- GL_EPOCH (R231). -/
abbrev GL_EPOCH (i : Nat) : Nat := 0x600010 + 0x10000 * i
/-- GL_TX_SEQ (R231). -/
abbrev GL_TX_SEQ (i : Nat) : Nat := 0x600018 + 0x10000 * i
/-- GL_RX_SEQ (R231). -/
abbrev GL_RX_SEQ (i : Nat) : Nat := 0x600020 + 0x10000 * i
/-- GL_REPLAY (R231). -/
abbrev GL_REPLAY (i : Nat) : Nat := 0x600024 + 0x10000 * i
/-- GL_REPLAYS (R231). -/
abbrev GL_REPLAYS (i : Nat) : Nat := 0x600028 + 0x10000 * i
/-- GL_RTO (R231). -/
abbrev GL_RTO (i : Nat) : Nat := 0x600030 + 0x10000 * i
/-- GL_ACK_CFG (R231). -/
abbrev GL_ACK_CFG (i : Nat) : Nat := 0x600034 + 0x10000 * i
/-- GL_LOCK_TMO (R231). -/
abbrev GL_LOCK_TMO (i : Nat) : Nat := 0x600038 + 0x10000 * i
/-- GL_CRED_TMO (R231). -/
abbrev GL_CRED_TMO (i : Nat) : Nat := 0x60003c + 0x10000 * i
/-- GL_LANE_TMO (R231). -/
abbrev GL_LANE_TMO (i : Nat) : Nat := 0x600040 + 0x10000 * i
/-- GL_RETRAIN_TMO (R231). -/
abbrev GL_RETRAIN_TMO (i : Nat) : Nat := 0x600044 + 0x10000 * i
/-- GL_DOWN_RETRY (R231). -/
abbrev GL_DOWN_RETRY (i : Nat) : Nat := 0x600048 + 0x10000 * i
/-- GL_RTT (R231). -/
abbrev GL_RTT (i : Nat) : Nat := 0x60004c + 0x10000 * i
/-- GL_FEC_CORR (R231). -/
abbrev GL_FEC_CORR (i : Nat) : Nat := 0x600050 + 0x10000 * i
/-- GL_FEC_UNC (R231). -/
abbrev GL_FEC_UNC (i : Nat) : Nat := 0x600058 + 0x10000 * i
/-- GL_RX_DROP (R231). -/
abbrev GL_RX_DROP (i : Nat) : Nat := 0x60005c + 0x10000 * i
/-- GL_HOPB (R231). -/
abbrev GL_HOPB (i : Nat) : Nat := 0x600060 + 0x10000 * i
/-- GL_LANE (R231). -/
abbrev GL_LANE (i : Nat) (j : Nat) : Nat := 0x600080 + 0x10000 * i + 4 * j
/-- GL_CRED (R231). -/
abbrev GL_CRED (i : Nat) (j : Nat) : Nat := 0x600100 + 0x10000 * i + 4 * j
/-- GL_NBR_SERIAL (R231). -/
abbrev GL_NBR_SERIAL (i : Nat) : Nat := 0x600200 + 0x10000 * i
/-- GL_NBR_INFO (R231). -/
abbrev GL_NBR_INFO (i : Nat) : Nat := 0x600208 + 0x10000 * i
/-- GL_SELF_COORD (R231). -/
abbrev GL_SELF_COORD : Nat := 0x600210
/-- TARP_STAT (R262). -/
abbrev TARP_STAT : Nat := 0x201000
/-- TARP_A (R262). -/
abbrev TARP_A : Nat := 0x201008
/-- TARP_X (R262). -/
abbrev TARP_X : Nat := 0x201010
/-- TARP_TR (R262). -/
abbrev TARP_TR : Nat := 0x201018
/-- TARP_H (R262). -/
abbrev TARP_H : Nat := 0x201020
/-- TARP_SELF (R262). -/
abbrev TARP_SELF : Nat := 0x201024
/-- TARP_REPEAT (R262). -/
abbrev TARP_REPEAT : Nat := 0x201028
/-- TARP_RMARGIN (R262). -/
abbrev TARP_RMARGIN : Nat := 0x20102c
/-- TARP_DOWN_LIM (R262). -/
abbrev TARP_DOWN_LIM : Nat := 0x201030
/-- TARP_STOP_BND (R262). -/
abbrev TARP_STOP_BND : Nat := 0x201038
/-- TARP_STRIKE (R262). -/
abbrev TARP_STRIKE : Nat := 0x201040
/-- TARP_COUNT (R262). -/
abbrev TARP_COUNT : Nat := 0x201044
/-- TARP_HELD_T (R262). -/
abbrev TARP_HELD_T : Nat := 0x201048
/-- TARP_PEND (R262). -/
abbrev TARP_PEND (i : Nat) : Nat := 0x201080 + 8 * i
/-- TARP_SLACK (R262). -/
abbrev TARP_SLACK (i : Nat) : Nat := 0x201100 + 4 * i
/-- GL_CONTRACT (R263). -/
abbrev GL_CONTRACT (i : Nat) : Nat := 0x600400 + 0x10000 * i
/-- GL_LATE (R263). -/
abbrev GL_LATE (i : Nat) : Nat := 0x600404 + 0x10000 * i
/-- GL_INQ (R263). -/
abbrev GL_INQ (i : Nat) : Nat := 0x600408 + 0x10000 * i
/-- GL_INQ_PEAK (R263). -/
abbrev GL_INQ_PEAK (i : Nat) : Nat := 0x60040c + 0x10000 * i
/-- GL_INQ_FULL (R263). -/
abbrev GL_INQ_FULL (i : Nat) : Nat := 0x600410 + 0x10000 * i
/-- GL_CSTALL (R263). -/
abbrev GL_CSTALL (i : Nat) : Nat := 0x600414 + 0x10000 * i
/-- GL_ESC (R263). -/
abbrev GL_ESC (i : Nat) : Nat := 0x600418 + 0x10000 * i
/-- GL_BND_MISS (R263). -/
abbrev GL_BND_MISS (i : Nat) : Nat := 0x60041c + 0x10000 * i
/-- GL_ESC_TMO (R263). -/
abbrev GL_ESC_TMO : Nat := 0x600500
/-- GL_SINK (R263). -/
abbrev GL_SINK : Nat := 0x600504
/-- GL_SINK_DROP (R263). -/
abbrev GL_SINK_DROP : Nat := 0x600508
/-- CMP_CTL (R295). -/
abbrev CMP_CTL : Nat := 0x100000
/-- CMP_STAT (R295). -/
abbrev CMP_STAT : Nat := 0x100004
/-- CMP_COUNT (R295). -/
abbrev CMP_COUNT : Nat := 0x100008
/-- CMP_FRAC (R295). -/
abbrev CMP_FRAC : Nat := 0x100010
/-- CMP_HOLD_ERR (R295). -/
abbrev CMP_HOLD_ERR : Nat := 0x100014
/-- CMP_HOLD_PPB (R295). -/
abbrev CMP_HOLD_PPB : Nat := 0x100018
/-- CMP_SKEW_LIM (R295). -/
abbrev CMP_SKEW_LIM : Nat := 0x10001c
/-- CMP_FRAME_ERR (R295). -/
abbrev CMP_FRAME_ERR : Nat := 0x100020
/-- CMP_PTP_OFS (R295). -/
abbrev CMP_PTP_OFS : Nat := 0x100028
/-- CMP_WAKE_LEAD (R295). -/
abbrev CMP_WAKE_LEAD : Nat := 0x100030
/-- CMP_CYC_BASE (R295). -/
abbrev CMP_CYC_BASE (i : Nat) : Nat := 0x100100 + 0x20 * i
/-- CMP_CYC_PER (R295). -/
abbrev CMP_CYC_PER (i : Nat) : Nat := 0x100108 + 0x20 * i
/-- CMP_CYC_CFG (R295). -/
abbrev CMP_CYC_CFG (i : Nat) : Nat := 0x10010c + 0x20 * i
/-- CMP_CYC_CNT (R295). -/
abbrev CMP_CYC_CNT (i : Nat) : Nat := 0x100110 + 0x20 * i
/-- CMP_CAP_EN (R295). -/
abbrev CMP_CAP_EN : Nat := 0x100200
/-- CMP_CAP (R295). -/
abbrev CMP_CAP : Nat := 0x100208
/-- CMP_CAP_INFO (R295). -/
abbrev CMP_CAP_INFO : Nat := 0x100210
/-- CMP_CAP_STAT (R295). -/
abbrev CMP_CAP_STAT : Nat := 0x100218
/-- ZP_CTL (R295). -/
abbrev ZP_CTL : Nat := 0x100400
/-- ZP_STAT (R295). -/
abbrev ZP_STAT : Nat := 0x100404
/-- ZP_TARGET (R295). -/
abbrev ZP_TARGET : Nat := 0x100408
/-- ZP_FIRST (R295). -/
abbrev ZP_FIRST : Nat := 0x100410
/-- ZP_FIRST_DIG (R295). -/
abbrev ZP_FIRST_DIG : Nat := 0x100418
/-- ZP_COUNT (R295). -/
abbrev ZP_COUNT : Nat := 0x100420
/-- ZP_MISS (R295). -/
abbrev ZP_MISS : Nat := 0x100424
/-- ZP_GEAR (R295). -/
abbrev ZP_GEAR : Nat := 0x100428
/-- ZP_WATCH (R295). -/
abbrev ZP_WATCH (i : Nat) (j : Nat) : Nat := 0x100800 + 0x10 * i + 4 * j
/-- ZP_BEAT (R295). -/
abbrev ZP_BEAT (i : Nat) (j : Nat) : Nat := 0x101000 + 0x100 * i + 4 * j
/-- CR_WCTL (R313). -/
abbrev CR_WCTL : Nat := 0xa06000
/-- CR_WSTAT (R313). -/
abbrev CR_WSTAT : Nat := 0xa06004
/-- CR_WLEN (R313). -/
abbrev CR_WLEN : Nat := 0xa06008
/-- CR_WDIGEST (R313). -/
abbrev CR_WDIGEST (i : Nat) : Nat := 0xa06020 + 4 * i
/-- CR_GLOG (R313). -/
abbrev CR_GLOG : Nat := 0xa06100
/-- CR_GLOG_INFO (R313). -/
abbrev CR_GLOG_INFO : Nat := 0xa06108
/-- CR_GLOG_STAT (R313). -/
abbrev CR_GLOG_STAT : Nat := 0xa06110
/-- CR_GSCRIPT (R313). -/
abbrev CR_GSCRIPT : Nat := 0xa06200
/-- CR_GSCRIPT_STAT (R313). -/
abbrev CR_GSCRIPT_STAT : Nat := 0xa06208
/-- CR_COUNT (R313). -/
abbrev CR_COUNT : Nat := 0xa06300
/-- CR_LAST (R313). -/
abbrev CR_LAST (i : Nat) : Nat := 0xa06320 + 4 * i
/-- FW_PCAP (R333). -/
abbrev FW_PCAP : Nat := 0x300000
/-- FW_TLIM (R333). -/
abbrev FW_TLIM : Nat := 0x300004
/-- FW_CAP_EFF (R333). -/
abbrev FW_CAP_EFF : Nat := 0x300008
/-- FW_STAT (R333). -/
abbrev FW_STAT : Nat := 0x30000c
/-- FW_POWER (R333). -/
abbrev FW_POWER : Nat := 0x300010
/-- FW_INPUT (R333). -/
abbrev FW_INPUT : Nat := 0x300014
/-- FW_HOT (R333). -/
abbrev FW_HOT : Nat := 0x300018
/-- FW_PACE_LEAD (R333). -/
abbrev FW_PACE_LEAD : Nat := 0x300020
/-- FW_PACE_STEP (R333). -/
abbrev FW_PACE_STEP : Nat := 0x300024
/-- FW_GEAR_WAIT (R333). -/
abbrev FW_GEAR_WAIT : Nat := 0x300028
/-- FW_EHOLD (R333). -/
abbrev FW_EHOLD : Nat := 0x30002c
/-- FW_SET (R333). -/
abbrev FW_SET : Nat := 0x300030
/-- FW_SET_AT (R333). -/
abbrev FW_SET_AT : Nat := 0x300038
/-- FW_VOTE (R333). -/
abbrev FW_VOTE : Nat := 0x300040
/-- FW_VOTE_TMO (R333). -/
abbrev FW_VOTE_TMO : Nat := 0x300044
/-- FW_MCFG (R333). -/
abbrev FW_MCFG : Nat := 0x300048
/-- FW_ACTS (R333). -/
abbrev FW_ACTS : Nat := 0x300050
/-- FW_RTEMP (R333). -/
abbrev FW_RTEMP (i : Nat) : Nat := 0x300100 + 4 * i
/-- FW_HTEMP (R333). -/
abbrev FW_HTEMP (i : Nat) : Nat := 0x300180 + 4 * i
/-- FW_DTEMP (R333). -/
abbrev FW_DTEMP (i : Nat) : Nat := 0x3001e0 + 4 * i
/-- FW_RAIL (R333). -/
abbrev FW_RAIL (i : Nat) : Nat := 0x300200 + 4 * i
/-- HST_LINK (R355). -/
abbrev HST_LINK (i : Nat) : Nat := 0x800000 + 0x1000 * i
/-- HST_ERR (R355). -/
abbrev HST_ERR (i : Nat) : Nat := 0x800004 + 0x1000 * i
/-- HST_VEST (R355). -/
abbrev HST_VEST (i : Nat) : Nat := 0x800008 + 0x1000 * i
/-- HST_VEST_TMO (R355). -/
abbrev HST_VEST_TMO (i : Nat) : Nat := 0x800010 + 0x1000 * i
/-- HST_VEST_STAT (R355). -/
abbrev HST_VEST_STAT (i : Nat) : Nat := 0x800014 + 0x1000 * i
/-- HST_LEASE (R355). -/
abbrev HST_LEASE : Nat := 0x802000
/-- HST_LEASE_CMD (R355). -/
abbrev HST_LEASE_CMD : Nat := 0x802004
/-- HST_LEASE_TERM (R355). -/
abbrev HST_LEASE_TERM : Nat := 0x802008
/-- HST_LEASE_LEFT (R355). -/
abbrev HST_LEASE_LEFT : Nat := 0x80200c
/-- HST_LPEG (R355). -/
abbrev HST_LPEG : Nat := 0x802010
/-- HST_LNEXT (R355). -/
abbrev HST_LNEXT : Nat := 0x802014
/-- HST_LMARGIN (R355). -/
abbrev HST_LMARGIN : Nat := 0x802018
/-- HST_WLOAD (R355). -/
abbrev HST_WLOAD : Nat := 0x802020
/-- HST_WPAGE (R355). -/
abbrev HST_WPAGE : Nat := 0x802028
/-- HST_WLOAD_NT (R355). -/
abbrev HST_WLOAD_NT : Nat := 0x80202c
/-- ETH_LINK (R355). -/
abbrev ETH_LINK (i : Nat) : Nat := 0x804000 + 0x1000 * i
/-- ETH_MAC (R355). -/
abbrev ETH_MAC (i : Nat) : Nat := 0x804008 + 0x1000 * i
/-- ETH_RX (R355). -/
abbrev ETH_RX (i : Nat) : Nat := 0x804010 + 0x1000 * i
/-- ETH_TX (R355). -/
abbrev ETH_TX (i : Nat) : Nat := 0x804018 + 0x1000 * i
/-- ETH_DROP (R355). -/
abbrev ETH_DROP (i : Nat) : Nat := 0x804020 + 0x1000 * i
/-- FC_CMD (R356). -/
abbrev FC_CMD : Nat := 0xc08000
/-- FC_STAT (R356). -/
abbrev FC_STAT : Nat := 0xc08004
/-- FC_ARG (R356). -/
abbrev FC_ARG (i : Nat) : Nat := 0xc08010 + 8 * i
/-- FC_RET (R356). -/
abbrev FC_RET (i : Nat) : Nat := 0xc08050 + 8 * i
/-- FC_DATA (R356). -/
abbrev FC_DATA (i : Nat) : Nat := 0xc09000 + 8 * i
/-- WH_STAT (R367). -/
abbrev WH_STAT : Nat := 0x400000
/-- WH_RAW (R367). -/
abbrev WH_RAW (i : Nat) : Nat := 0x400100 + 4 * i
/-- WH_PEND (R367). -/
abbrev WH_PEND (i : Nat) : Nat := 0x400200 + 4 * i
/-- WH_PEND_SET (R367). -/
abbrev WH_PEND_SET (i : Nat) : Nat := 0x400300 + 4 * i
/-- WH_INSV (R367). -/
abbrev WH_INSV (i : Nat) : Nat := 0x400400 + 4 * i
/-- WH_SRC_CFG (R367). -/
abbrev WH_SRC_CFG (i : Nat) : Nat := 0x401000 + 8 * i
/-- WH_SRC_CTIME (R367). -/
abbrev WH_SRC_CTIME (i : Nat) : Nat := 0x401004 + 8 * i
/-- WH_SRC_CNT (R367). -/
abbrev WH_SRC_CNT (i : Nat) : Nat := 0x403000 + 4 * i
/-- WH_PRIV (R367). -/
abbrev WH_PRIV (i : Nat) : Nat := 0x408000 + 0x10 * i
/-- LN_CTL (R377). -/
abbrev LN_CTL : Nat := 0x500000
/-- LN_FREEZE (R377). -/
abbrev LN_FREEZE : Nat := 0x500008
/-- LN_STAT (R377). -/
abbrev LN_STAT : Nat := 0x500010
/-- LN_SNAP_BEAT (R377). -/
abbrev LN_SNAP_BEAT : Nat := 0x500018
/-- LN_SNAP_COUNT (R377). -/
abbrev LN_SNAP_COUNT : Nat := 0x500020
/-- LN_TAG_CFG (R377). -/
abbrev LN_TAG_CFG : Nat := 0x500030
/-- LN_TAG_SEED (R377). -/
abbrev LN_TAG_SEED : Nat := 0x500038
/-- LN_TRACE_CFG (R377). -/
abbrev LN_TRACE_CFG : Nat := 0x500040
/-- LN_TRACE_STAT (R377). -/
abbrev LN_TRACE_STAT : Nat := 0x500044
/-- LN_TRACE_SKIP (R377). -/
abbrev LN_TRACE_SKIP : Nat := 0x500048
/-- LN_BW_WIN (R377). -/
abbrev LN_BW_WIN : Nat := 0x500060
/-- LN_BW (R377). -/
abbrev LN_BW (i : Nat) : Nat := 0x500100 + 8 * i
/-- LN_BW_PEAK (R377). -/
abbrev LN_BW_PEAK (i : Nat) : Nat := 0x500300 + 8 * i
/-- LN_BW_SNAP (R377). -/
abbrev LN_BW_SNAP (i : Nat) : Nat := 0x500500 + 8 * i
/-- LN_BEAT (R377). -/
abbrev LN_BEAT (i : Nat) : Nat := 0x580000 + 0x800 * i
/-- LN_TIME (R377). -/
abbrev LN_TIME (i : Nat) : Nat := 0x580008 + 0x800 * i
/-- LN_WRAP (R377). -/
abbrev LN_WRAP (i : Nat) : Nat := 0x580010 + 0x800 * i
/-- LN_EVT (R377). -/
abbrev LN_EVT (i : Nat) (j : Nat) : Nat := 0x580100 + 0x800 * i + 8 * j
/-- LN_PCNT (R377). -/
abbrev LN_PCNT (i : Nat) (j : Nat) : Nat := 0x580280 + 0x800 * i + 8 * j
/-- LN_PSEL (R377). -/
abbrev LN_PSEL (i : Nat) (j : Nat) : Nat := 0x5802c0 + 0x800 * i + 4 * j
/-- LN_PRANGE (R377). -/
abbrev LN_PRANGE (i : Nat) (j : Nat) : Nat := 0x580300 + 0x800 * i + 8 * j
/-- LN_SNAP (R377). -/
abbrev LN_SNAP (i : Nat) (j : Nat) : Nat := 0x580400 + 0x800 * i + 8 * j
/-- HUB_SERIAL (R397). -/
abbrev HUB_SERIAL : Nat := 0
/-- HUB_PART (R397). -/
abbrev HUB_PART : Nat := 8
/-- HUB_BOOT (R397). -/
abbrev HUB_BOOT : Nat := 0x10
/-- HUB_RESET (R397). -/
abbrev HUB_RESET : Nat := 0x18
/-- HUB_MAP_STAT (R397). -/
abbrev HUB_MAP_STAT : Nat := 0x20
/-- HUB_MAP_DIGEST (R397). -/
abbrev HUB_MAP_DIGEST (i : Nat) : Nat := 0x40 + 4 * i
/-- HUB_MAP (R397). -/
abbrev HUB_MAP (i : Nat) : Nat := 0x100 + 8 * i
/-- HUB_MAP_PEND (R397). -/
abbrev HUB_MAP_PEND (i : Nat) : Nat := 0x200 + 8 * i
/-- HUB_CAL_STAT (R397). -/
abbrev HUB_CAL_STAT : Nat := 0x300
/-- HUB_CAL_T (R397). -/
abbrev HUB_CAL_T : Nat := 0x308
/-- HUB_CAL_PERIOD (R397). -/
abbrev HUB_CAL_PERIOD : Nat := 0x310
/-- HUB_ST_STAT (R397). -/
abbrev HUB_ST_STAT : Nat := 0x400
/-- HUB_ST_LAST (R397). -/
abbrev HUB_ST_LAST : Nat := 0x404
/-- HUB_SWEEP (R397). -/
abbrev HUB_SWEEP : Nat := 0x408
/-- SEC_STAT (R398). -/
abbrev SEC_STAT : Nat := 0xc00000
/-- SEC_FW_VER (R398). -/
abbrev SEC_FW_VER : Nat := 0xc00004
/-- SEC_SVN (R398). -/
abbrev SEC_SVN : Nat := 0xc00008
/-- SEC_FW_MEAS (R398). -/
abbrev SEC_FW_MEAS (i : Nat) : Nat := 0xc00020 + 4 * i
/-- SEC_KEY_ID (R398). -/
abbrev SEC_KEY_ID (i : Nat) : Nat := 0xc00040 + 4 * i
/-- PE_STAT (R413). -/
abbrev PE_STAT : Nat := 0x300800
/-- PE_PAIR (R413). -/
abbrev PE_PAIR (i : Nat) : Nat := 0x300810 + 4 * i
/-- PE_LIMIT (R413). -/
abbrev PE_LIMIT : Nat := 0x300820
/-- PE_VMIN (R413). -/
abbrev PE_VMIN : Nat := 0x300824
/-- PE_LAST (R413). -/
abbrev PE_LAST : Nat := 0x300828
/-- PE_ERR (R413). -/
abbrev PE_ERR : Nat := 0x300830
/-- LAMP_STAT (R413). -/
abbrev LAMP_STAT (i : Nat) : Nat := 0x300840 + 4 * i
/-- LAMP_SER (R413). -/
abbrev LAMP_SER (i : Nat) : Nat := 0x300880 + 8 * i
/-- LAMP_OPEN (R413). -/
abbrev LAMP_OPEN : Nat := 0x3008c0

end Reg

/-- The register rows of chapter 02. -/
def regTable02 : List RegSpec :=
  [
    { base := 0x200000, width := 32, reset := 4, rwl := 4 },
    { base := 0x200004, width := 32 },
    { base := 0x200008, width := 32, rwl := 0x3fff },
    { base := 0x20000c, width := 32, rw := 0x3fff, wo := 0x40000000 },
    { base := 0x200010, width := 64, rw := 0x3fffffffffffff },
    { base := 0x200018, width := 32, reset := 0x40, rwl := 0x7ff },
    { base := 0x20001c, width := 32 },
    { base := 0x200020, width := 32 },
    { base := 0x200024, width := 32, rc := 0xffffffff },
    { base := 0x200028, width := 32, w1c := 0x1f },
    { base := 0x200030, width := 64 },
    { base := 0x200038, width := 64 },
    { base := 0x200040, width := 32 },
    { base := 0x200044, width := 32, reset := 0xa, rwl := 0x1f },
    { base := 0x200048, width := 32, reset := 0x3d09, rwl := 0xffffff },
    { base := 0x20004c, width := 32, reset := 0x352 },
    { base := 0x1000100, n1 := 32, s1 := 0x10000, width := 64 },
    { base := 0x1000200, n1 := 32, s1 := 0x10000, n2 := 6, s2 := 4, width := 32, rc := 0xf00 }]

/-- The register rows of chapter 03. -/
def regTable03 : List RegSpec :=
  [
    { base := 0xb00000, width := 32, wo := 7 },
    { base := 0xb00004, width := 32 },
    { base := 0xb00008, width := 64, rwl := 0xfffffffffffff000 },
    { base := 0xb00010, width := 32, rwl := 0x1fffff },
    { base := 0xb00020, n1 := 8, s1 := 4, width := 32 },
    { base := 0xb00040, n1 := 8, s1 := 4, width := 32 },
    { base := 0xb00060, n1 := 8, s1 := 4, width := 32 },
    { base := 0xb00100, width := 64, rw := 0xfffffffffffff000 },
    { base := 0xb00108, width := 32, rw := 0x1fffffff },
    { base := 0xb0010c, width := 32, wo := 3 },
    { base := 0xb00110, width := 32 },
    { base := 0xb00118, width := 64 },
    { base := 0xb00120, width := 64 },
    { base := 0xb00128, width := 32 },
    { base := 0xb00130, width := 32, rw := 0x3fff },
    { base := 0xb00138, width := 64, rw := 0xffffffffffffffff },
    { base := 0xb00140, width := 64 },
    { base := 0xb00148, width := 64 }]

/-- The register rows of chapter 04. -/
def regTable04 : List RegSpec :=
  [
    { base := 0x1000300, n1 := 32, s1 := 0x10000, n2 := 8, s2 := 4, width := 32 }]

/-- The register rows of chapter 05. -/
def regTable05 : List RegSpec :=
  [
    { base := 0x1000400, n1 := 32, s1 := 0x10000, n2 := 16, s2 := 4, width := 32, w1c := 7 },
    { base := 0x1000440, n1 := 32, s1 := 0x10000, width := 32 }]

/-- The register rows of chapter 06. -/
def regTable06 : List RegSpec :=
  [
    { base := 0x1000500, n1 := 32, s1 := 0x10000, width := 32, rc := 0xffffffff },
    { base := 0x1000504, n1 := 32, s1 := 0x10000, width := 32 },
    { base := 0x1000600, n1 := 32, s1 := 0x10000, n2 := 7, s2 := 4, width := 32, w1c := 0xff00 },
    { base := 0x1000700, n1 := 32, s1 := 0x10000, width := 64 },
    { base := 0x1000708, n1 := 32, s1 := 0x10000, width := 32, reset := 0x9502f90, rw := 0xffffffff },
    { base := 0x1000800, n1 := 32, s1 := 0x10000, n2 := 512, s2 := 4, width := 32 },
    { base := 0x1001000, n1 := 32, s1 := 0x10000, n2 := 512, s2 := 4, width := 32 }]

/-- The register rows of chapter 07. -/
def regTable07 : List RegSpec :=
  [
    { base := 0x1002000, n1 := 32, s1 := 0x10000, width := 32, rwl := 0xffffff },
    { base := 0x1002004, n1 := 32, s1 := 0x10000, width := 32, rwl := 0xffffffff },
    { base := 0x1002008, n1 := 32, s1 := 0x10000, width := 32 },
    { base := 0x1002010, n1 := 32, s1 := 0x10000, width := 32 },
    { base := 0x1002014, n1 := 32, s1 := 0x10000, width := 32 },
    { base := 0x1002018, n1 := 32, s1 := 0x10000, width := 32 },
    { base := 0x1002020, n1 := 32, s1 := 0x10000, n2 := 8, s2 := 4, width := 32, w1c := 0x80000000 },
    { base := 0x1002040, n1 := 32, s1 := 0x10000, width := 32, rc := 0xffffffff },
    { base := 0x1002048, n1 := 32, s1 := 0x10000, width := 64 },
    { base := 0x1002050, n1 := 32, s1 := 0x10000, width := 32, rc := 0xffffffff },
    { base := 0x1002054, n1 := 32, s1 := 0x10000, width := 32, rc := 0xffffffff },
    { base := 0x1002058, n1 := 32, s1 := 0x10000, width := 32, rc := 0xffffffff },
    { base := 0x1002060, n1 := 32, s1 := 0x10000, n2 := 24, s2 := 4, width := 32, rc := 0xffff }]

/-- The register rows of chapter 08. -/
def regTable08 : List RegSpec :=
  [
    { base := 0x900000, n1 := 64, s1 := 4, width := 32, rwl := 0xfffc0000 },
    { base := 0x900100, n1 := 64, s1 := 4, width := 32, wo := 7 },
    { base := 0x900200, n1 := 64, s1 := 4, width := 32 },
    { base := 0x900300, width := 64 },
    { base := 0x900308, width := 32, rc := 0xffffffff },
    { base := 0x901000, width := 32 },
    { base := 0x901008, width := 64 },
    { base := 0x901010, n1 := 12, s1 := 4, width := 32 },
    { base := 0x901040, n1 := 12, s1 := 4, width := 32, rc := 0xffffffff },
    { base := 0xa00000, n1 := 32, s1 := 4, width := 32, rw := 0xffffffff },
    { base := 0xa00080, width := 32, reset := 1, rw := 0x7f },
    { base := 0xa00084, width := 32, wo := 0xf000ffff },
    { base := 0xa00088, width := 32 },
    { base := 0xa0008c, width := 32 },
    { base := 0xa00100, width := 32, rc := 0xffffffff },
    { base := 0xa01000, n1 := 2048, s1 := 8, width := 64 }]

/-- The register rows of chapter 09. -/
def regTable09 : List RegSpec :=
  [
    { base := 0x600000, n1 := 10, s1 := 0x10000, width := 32, reset := 1, rw := 9, wo := 6 },
    { base := 0x600004, n1 := 10, s1 := 0x10000, width := 32 },
    { base := 0x600008, n1 := 10, s1 := 0x10000, width := 32, w1c := 0x3ff },
    { base := 0x600010, n1 := 10, s1 := 0x10000, width := 32 },
    { base := 0x600018, n1 := 10, s1 := 0x10000, width := 64 },
    { base := 0x600020, n1 := 10, s1 := 0x10000, width := 32 },
    { base := 0x600024, n1 := 10, s1 := 0x10000, width := 32 },
    { base := 0x600028, n1 := 10, s1 := 0x10000, width := 32, rc := 0xffffffff },
    { base := 0x600030, n1 := 10, s1 := 0x10000, width := 32, reset := 0x190, rw := 0xfffff },
    { base := 0x600034, n1 := 10, s1 := 0x10000, width := 32, reset := 0x100040, rw := 0xffffff },
    { base := 0x600038, n1 := 10, s1 := 0x10000, width := 32, reset := 0x2710, rw := 0xffffffff },
    { base := 0x60003c, n1 := 10, s1 := 0x10000, width := 32, reset := 0x186a0, rw := 0xffffffff },
    { base := 0x600040, n1 := 10, s1 := 0x10000, width := 32, reset := 0x3e8, rw := 0xffffffff },
    { base := 0x600044, n1 := 10, s1 := 0x10000, width := 32, reset := 0x4e20, rw := 0xffffffff },
    { base := 0x600048, n1 := 10, s1 := 0x10000, width := 32, reset := 0xf4240, rw := 0xffffffff },
    { base := 0x60004c, n1 := 10, s1 := 0x10000, width := 32 },
    { base := 0x600050, n1 := 10, s1 := 0x10000, width := 64, rc := 0xffffffffffffffff },
    { base := 0x600058, n1 := 10, s1 := 0x10000, width := 32, rc := 0xffffffff },
    { base := 0x60005c, n1 := 10, s1 := 0x10000, width := 32, rc := 0xffffffff },
    { base := 0x600060, n1 := 10, s1 := 0x10000, width := 32, rc := 0xffffffff },
    { base := 0x600080, n1 := 10, s1 := 0x10000, n2 := 16, s2 := 4, width := 32 },
    { base := 0x600100, n1 := 10, s1 := 0x10000, n2 := 4, s2 := 4, width := 32 },
    { base := 0x600200, n1 := 10, s1 := 0x10000, width := 64 },
    { base := 0x600208, n1 := 10, s1 := 0x10000, width := 64 },
    { base := 0x600210, width := 32, rwl := 0xffff }]

/-- The register rows of chapter 10. -/
def regTable10 : List RegSpec :=
  [
    { base := 0x201000, width := 32 },
    { base := 0x201008, width := 64 },
    { base := 0x201010, width := 64 },
    { base := 0x201018, width := 64 },
    { base := 0x201020, width := 32, reset := 0x400, rwl := 0x7fff },
    { base := 0x201024, width := 32, rwl := 0x7fff },
    { base := 0x201028, width := 32, reset := 0x9c, rw := 0xffff },
    { base := 0x20102c, width := 32, reset := 0x10, rw := 0xffff },
    { base := 0x201030, width := 32, reset := 0x2625a, rw := 0xffffffff },
    { base := 0x201038, width := 64, rw := 0xffffffffffffffff },
    { base := 0x201040, width := 32 },
    { base := 0x201044, width := 32, rc := 0xffffffff },
    { base := 0x201048, width := 64, rc := 0xffffffffffffffff },
    { base := 0x201080, n1 := 16, s1 := 8, width := 64 },
    { base := 0x201100, n1 := 32, s1 := 4, width := 32, rc := 0xffffffff },
    { base := 0x600400, n1 := 6, s1 := 0x10000, width := 32, reset := 0x100 },
    { base := 0x660400, n1 := 4, s1 := 0x10000, width := 32, reset := 0x600 },
    { base := 0x600404, n1 := 10, s1 := 0x10000, width := 32, rc := 0xffffffff },
    { base := 0x600408, n1 := 10, s1 := 0x10000, width := 32 },
    { base := 0x60040c, n1 := 10, s1 := 0x10000, width := 32, rc := 0xffffffff },
    { base := 0x600410, n1 := 10, s1 := 0x10000, width := 32, rc := 0xffffffff },
    { base := 0x600414, n1 := 10, s1 := 0x10000, width := 32, rc := 0xffffffff },
    { base := 0x600418, n1 := 10, s1 := 0x10000, width := 32, rc := 0xffffffff },
    { base := 0x60041c, n1 := 10, s1 := 0x10000, width := 32, rc := 0xffffffff },
    { base := 0x600500, width := 32, reset := 0x2710, rw := 0xffffffff },
    { base := 0x600504, width := 32 },
    { base := 0x600508, width := 32, rc := 0xffffffff }]

/-- The register rows of chapter 12. -/
def regTable12 : List RegSpec :=
  [
    { base := 0x100000, width := 32, reset := 3, rw := 7 },
    { base := 0x100004, width := 32 },
    { base := 0x100008, width := 64 },
    { base := 0x100010, width := 32 },
    { base := 0x100014, width := 32 },
    { base := 0x100018, width := 32, reset := 0x32, rw := 0x3ff },
    { base := 0x10001c, width := 32, reset := 0x64, rwl := 0x3ff },
    { base := 0x100020, width := 32, rc := 0xffffffff },
    { base := 0x100028, width := 64, rw := 0xffffffffffffffff },
    { base := 0x100030, width := 32, reset := 0x2625a, rw := 0xffffff },
    { base := 0x100100, n1 := 4, s1 := 0x20, width := 64, rw := 0xffffffffffffffff },
    { base := 0x100108, n1 := 4, s1 := 0x20, width := 32, reset := 0x2faf08, rw := 0xffffffff },
    { base := 0x10010c, n1 := 4, s1 := 0x20, width := 32, rw := 0xffff0000 },
    { base := 0x100110, n1 := 4, s1 := 0x20, width := 32, rc := 0xffffffff },
    { base := 0x100200, width := 32, rw := 0xffe },
    { base := 0x100208, width := 64 },
    { base := 0x100210, width := 64, rc := 0xffffffffffffffff },
    { base := 0x100218, width := 32, w1c := 0xffff0000 },
    { base := 0x100400, width := 32, rw := 0xff000000 },
    { base := 0x100404, width := 32 },
    { base := 0x100408, width := 64, rw := 0xffffffffffffffff },
    { base := 0x100410, width := 64 },
    { base := 0x100418, width := 64 },
    { base := 0x100420, width := 32, rc := 0xffffffff },
    { base := 0x100424, width := 32, rc := 0xffffffff },
    { base := 0x100428, width := 32, rw := 0x80000003 },
    { base := 0x100800, n1 := 32, s1 := 0x10, n2 := 4, s2 := 4, width := 32, rw := 0xffffff81 },
    { base := 0x101000, n1 := 32, s1 := 0x100, n2 := 64, s2 := 4, width := 32 }]

/-- The register rows of chapter 13. -/
def regTable13 : List RegSpec :=
  [
    { base := 0xa06000, width := 32, wo := 3 },
    { base := 0xa06004, width := 32 },
    { base := 0xa06008, width := 64 },
    { base := 0xa06020, n1 := 8, s1 := 4, width := 32 },
    { base := 0xa06100, width := 64 },
    { base := 0xa06108, width := 64, rc := 0xffffffffffffffff },
    { base := 0xa06110, width := 32, w1c := 0xffff0000 },
    { base := 0xa06200, width := 64, wo := 0xffffffff00000003 },
    { base := 0xa06208, width := 32, rw := 0x80000000, rc := 0xffff },
    { base := 0xa06300, width := 32, rc := 0xffffffff },
    { base := 0xa06320, n1 := 8, s1 := 4, width := 32 }]

/-- The register rows of chapter 14. -/
def regTable14 : List RegSpec :=
  [
    { base := 0x300000, width := 32, reset := 0xdac, rw := 0xfff },
    { base := 0x300004, width := 32, reset := 0x695f, rw := 0xffff },
    { base := 0x300008, width := 32, reset := 0xdac },
    { base := 0x30000c, width := 32 },
    { base := 0x300010, width := 32 },
    { base := 0x300014, width := 32 },
    { base := 0x300018, width := 32 },
    { base := 0x300020, width := 32, reset := 8, rwl := 0xff },
    { base := 0x300024, width := 32, rwl := 0x3fff },
    { base := 0x300028, width := 32, reset := 0x400, rw := 0xffff },
    { base := 0x30002c, width := 32, reset := 0x10, rw := 0xffff },
    { base := 0x300030, width := 64 },
    { base := 0x300038, width := 64 },
    { base := 0x300040, width := 32 },
    { base := 0x300044, width := 32, reset := 0x2625a, rw := 0xffffffff },
    { base := 0x300048, width := 32, reset := 3, rw := 3 },
    { base := 0x300050, width := 64, rc := 0xffffffffffffffff },
    { base := 0x300100, n1 := 32, s1 := 4, width := 32 },
    { base := 0x300180, n1 := 24, s1 := 4, width := 32 },
    { base := 0x3001e0, n1 := 7, s1 := 4, width := 32 },
    { base := 0x300200, n1 := 8, s1 := 4, width := 32 }]

/-- The register rows of chapter 15. -/
def regTable15 : List RegSpec :=
  [
    { base := 0x800000, n1 := 2, s1 := 0x1000, width := 32 },
    { base := 0x800004, n1 := 2, s1 := 0x1000, width := 32, w1c := 0xff },
    { base := 0x800008, n1 := 2, s1 := 0x1000, width := 64, rw := 0x800003ffc0000000 },
    { base := 0x800010, n1 := 2, s1 := 0x1000, width := 32, reset := 0x2710, rw := 0xffffffff },
    { base := 0x800014, n1 := 2, s1 := 0x1000, width := 32 },
    { base := 0x802000, width := 32 },
    { base := 0x802004, width := 32, wo := 3 },
    { base := 0x802008, width := 32, reset := 0x64, rw := 0x3fff },
    { base := 0x80200c, width := 32 },
    { base := 0x802010, width := 32, rw := 0x80003fff },
    { base := 0x802014, width := 32, reset := 1, rw := 0xffffffff },
    { base := 0x802018, width := 32, reset := 0x400, rw := 0xffff },
    { base := 0x802020, width := 64, rw := 0xc00000000000ffff },
    { base := 0x802028, width := 32, rw := 0x1f },
    { base := 0x80202c, width := 32 },
    { base := 0x804000, n1 := 2, s1 := 0x1000, width := 32 },
    { base := 0x804008, n1 := 2, s1 := 0x1000, width := 64 },
    { base := 0x804010, n1 := 2, s1 := 0x1000, width := 64, rc := 0xffffffffffffffff },
    { base := 0x804018, n1 := 2, s1 := 0x1000, width := 64, rc := 0xffffffffffffffff },
    { base := 0x804020, n1 := 2, s1 := 0x1000, width := 32, rc := 0xffffffff },
    { base := 0xc08000, width := 32, wo := 0xffff },
    { base := 0xc08004, width := 32 },
    { base := 0xc08010, n1 := 8, s1 := 8, width := 64, rw := 0xffffffffffffffff },
    { base := 0xc08050, n1 := 8, s1 := 8, width := 64 },
    { base := 0xc09000, n1 := 512, s1 := 8, width := 64, rw := 0xffffffffffffffff }]

/-- The register rows of chapter 16. -/
def regTable16 : List RegSpec :=
  [
    { base := 0x400000, width := 32, w1c := 0x40000000 },
    { base := 0x400100, n1 := 32, s1 := 4, width := 32 },
    { base := 0x400200, n1 := 32, s1 := 4, width := 32, w1c := 0xffffffff },
    { base := 0x400300, n1 := 32, s1 := 4, width := 32, w1s := 0xffffffff },
    { base := 0x400400, n1 := 32, s1 := 4, width := 32, w1c := 0xffffffff },
    { base := 0x401000, n1 := 192, s1 := 8, width := 32, reset := 0x40000100, rw := 0xf7ffff00 },
    { base := 0x401600, width := 32, reset := 0x60000100, rw := 0xf7ffff00 },
    { base := 0x401608, width := 32, reset := 0x60010100, rw := 0xf7ffff00 },
    { base := 0x401610, width := 32, reset := 0x60020100, rw := 0xf7ffff00 },
    { base := 0x401618, width := 32, reset := 0x60030100, rw := 0xf7ffff00 },
    { base := 0x401620, width := 32, reset := 0x60040100, rw := 0xf7ffff00 },
    { base := 0x401628, width := 32, reset := 0x60050100, rw := 0xf7ffff00 },
    { base := 0x401630, width := 32, reset := 0x60060100, rw := 0xf7ffff00 },
    { base := 0x401638, width := 32, reset := 0x60070100, rw := 0xf7ffff00 },
    { base := 0x401640, width := 32, reset := 0x60080100, rw := 0xf7ffff00 },
    { base := 0x401648, width := 32, reset := 0x60090100, rw := 0xf7ffff00 },
    { base := 0x401650, width := 32, reset := 0x600a0100, rw := 0xf7ffff00 },
    { base := 0x401658, width := 32, reset := 0x600b0100, rw := 0xf7ffff00 },
    { base := 0x401660, width := 32, reset := 0x600c0100, rw := 0xf7ffff00 },
    { base := 0x401668, width := 32, reset := 0x600d0100, rw := 0xf7ffff00 },
    { base := 0x401670, width := 32, reset := 0x600e0100, rw := 0xf7ffff00 },
    { base := 0x401678, width := 32, reset := 0x600f0100, rw := 0xf7ffff00 },
    { base := 0x401680, width := 32, reset := 0x70000100, rw := 0xf7ffff00 },
    { base := 0x401688, width := 32, reset := 0x70010100, rw := 0xf7ffff00 },
    { base := 0x401690, width := 32, reset := 0x70020100, rw := 0xf7ffff00 },
    { base := 0x401698, width := 32, reset := 0x70030100, rw := 0xf7ffff00 },
    { base := 0x4016a0, width := 32, reset := 0x70040100, rw := 0xf7ffff00 },
    { base := 0x4016a8, width := 32, reset := 0x70050100, rw := 0xf7ffff00 },
    { base := 0x4016b0, width := 32, reset := 0x70060100, rw := 0xf7ffff00 },
    { base := 0x4016b8, width := 32, reset := 0x70070100, rw := 0xf7ffff00 },
    { base := 0x4016c0, width := 32, reset := 0x70080100, rw := 0xf7ffff00 },
    { base := 0x4016c8, width := 32, reset := 0x70090100, rw := 0xf7ffff00 },
    { base := 0x4016d0, width := 32, reset := 0x700a0100, rw := 0xf7ffff00 },
    { base := 0x4016d8, width := 32, reset := 0x700b0100, rw := 0xf7ffff00 },
    { base := 0x4016e0, width := 32, reset := 0x700c0100, rw := 0xf7ffff00 },
    { base := 0x4016e8, width := 32, reset := 0x700d0100, rw := 0xf7ffff00 },
    { base := 0x4016f0, width := 32, reset := 0x700e0100, rw := 0xf7ffff00 },
    { base := 0x4016f8, width := 32, reset := 0x700f0100, rw := 0xf7ffff00 },
    { base := 0x401700, n1 := 800, s1 := 8, width := 32, reset := 0x40000100, rw := 0xf7ffff00 },
    { base := 0x401004, n1 := 1024, s1 := 8, width := 32, rw := 0xffffffff }]

/-- The register rows of chapter 16. -/
def regTable16a : List RegSpec :=
  [
    { base := 0x403000, n1 := 1024, s1 := 4, width := 32 },
    { base := 0x408000, n1 := 4, s1 := 0x10, width := 64 },
    { base := 0x500000, width := 32, wo := 3 },
    { base := 0x500008, width := 64, rw := 0xc000ffffffffffff },
    { base := 0x500010, width := 32 },
    { base := 0x500018, width := 64 },
    { base := 0x500020, width := 64 },
    { base := 0x500030, width := 32, rw := 0x80001f00 },
    { base := 0x500038, width := 64, rw := 0xffffffffffffffff },
    { base := 0x500040, width := 32, rw := 1, wo := 2 },
    { base := 0x500044, width := 32 },
    { base := 0x500048, width := 32, rc := 0xffffffff },
    { base := 0x500060, width := 32, reset := 0x3d09, rw := 0xffffff },
    { base := 0x500100, n1 := 56, s1 := 8, width := 64 },
    { base := 0x500300, n1 := 56, s1 := 8, width := 64, rc := 0xffffffffffffffff },
    { base := 0x500500, n1 := 56, s1 := 8, width := 64 },
    { base := 0x580000, n1 := 32, s1 := 0x800, width := 64 },
    { base := 0x580008, n1 := 32, s1 := 0x800, width := 64 },
    { base := 0x580010, n1 := 32, s1 := 0x800, width := 64, w1c := 0x3ffffffffffffff },
    { base := 0x580100, n1 := 32, s1 := 0x800, n2 := 48, s2 := 8, width := 64 },
    { base := 0x580280, n1 := 32, s1 := 0x800, n2 := 8, s2 := 8, width := 64 },
    { base := 0x5802c0, n1 := 32, s1 := 0x800, n2 := 8, s2 := 4, width := 32, rw := 0xfffce000 },
    { base := 0x580300, n1 := 32, s1 := 0x800, n2 := 16, s2 := 8, width := 64, rw := 0xffffffffffffffff },
    { base := 0x580400, n1 := 32, s1 := 0x800, n2 := 88, s2 := 8, width := 64 }]

/-- The register rows of chapter 17. -/
def regTable17 : List RegSpec :=
  [
    { base := 0, width := 64 },
    { base := 8, width := 32 },
    { base := 0x10, width := 32 },
    { base := 0x18, width := 64 },
    { base := 0x20, width := 32 },
    { base := 0x40, n1 := 8, s1 := 4, width := 32 },
    { base := 0x100, n1 := 32, s1 := 8, width := 64 },
    { base := 0x200, n1 := 32, s1 := 8, width := 64 },
    { base := 0x300, width := 32 },
    { base := 0x308, width := 64 },
    { base := 0x310, width := 32, reset := 0xe10, rw := 0x1ffff },
    { base := 0x400, width := 32 },
    { base := 0x404, width := 32 },
    { base := 0x408, width := 32, rc := 0xffffffff },
    { base := 0xc00000, width := 32 },
    { base := 0xc00004, width := 32 },
    { base := 0xc00008, width := 32 },
    { base := 0xc00020, n1 := 8, s1 := 4, width := 32 },
    { base := 0xc00040, n1 := 8, s1 := 4, width := 32 }]

/-- The register rows of chapter 18. -/
def regTable18 : List RegSpec :=
  [
    { base := 0x300800, width := 32 },
    { base := 0x300810, n1 := 4, s1 := 4, width := 32 },
    { base := 0x300820, width := 32, reset := 0xdac },
    { base := 0x300824, width := 32 },
    { base := 0x300828, width := 64 },
    { base := 0x300830, width := 32, w1c := 0x1f },
    { base := 0x300840, n1 := 8, s1 := 4, width := 32 },
    { base := 0x300880, n1 := 8, s1 := 8, width := 64 },
    { base := 0x3008c0, width := 64 }]

/-- Every register row. -/
def regTable : List RegSpec :=
  regTable02 ++ regTable03 ++ regTable04 ++ regTable05 ++ regTable06 ++ regTable07 ++ regTable08 ++ regTable09 ++ regTable10 ++ regTable12 ++ regTable13 ++ regTable14 ++ regTable15 ++ regTable16 ++ regTable16a ++ regTable17 ++ regTable18

/-- Whether offset `off` (of the register's first byte) is a register of a row. -/
def RegSpec.has (s : RegSpec) (off : Nat) : Bool :=
  decide (s.base ≤ off) &&
  (let d := off - s.base
   if s.n1 = 1 then
     if s.n2 = 1 then decide (d = 0) else decide (d % s.s2 = 0) && decide (d / s.s2 < s.n2)
   else
     decide (d / s.s1 < s.n1) &&
     (let e := d % s.s1
      if s.n2 = 1 then decide (e = 0) else decide (e % s.s2 = 0) && decide (e / s.s2 < s.n2)))

/-- The row of the register that starts at an offset; none at a reserved offset (R9). -/
def regSpec? (off : Nat) : Option RegSpec := regTable.find? (fun s => s.has off)

/-- The reset value at an offset. -/
def regReset (off : Nat) : W64 :=
  match regSpec? off with
  | some s => BitVec.ofNat 64 s.reset
  | none => 0

end Sys2Proof.Machine
end

