-- ==== Sys2Proof/Config.lean ====
section
/-!
DEFINITION. Config.lean: what a part fixes and the manual does not print, and the free values. Every constant here has no
body, so no proof can see its value.
-/

namespace Sys2Proof

/-- FREE VALUE. The n-th free byte: what an undefined destination holds (R75, R123, R169, R182, R260). Log entry 1. -/
opaque Config.freeByte : Nat → BitVec 8

/-- FREE VALUE. The n-th free 64-bit word (an undefined Peg count, register lane or index). Log entry 1. -/
opaque Config.freeWord : Nat → BitVec 64

/-- FREE VALUE. The n-th free 128-byte line (R36, R75, R123, R169, R260). Log entry 1. -/
opaque Config.freeLine : Nat → BitVec 1024

/-- FREE VALUE. The n-th free 2,048-bit vector register (R75, R106, R260). Log entry 1. -/
opaque Config.freeVec : Nat → BitVec 2048

/-- FREE VALUE. The n-th free 640-bit accumulator (R75 on a Stove bank). Log entry 1. -/
opaque Config.freeAcc : Nat → BitVec 640

/-- FREE VALUE. The n-th free choice between two (which of two colliding sidebands is kept, R36). Log entry 1. -/
opaque Config.freeBit : Nat → Bool

/-- OPEN VALUE. The core voltage in mV that gives a capability in beats per epoch (R46 gives the aim, not the curve). Log entry 8. -/
opaque Config.voltageFor : Nat → Nat

/-- OPEN VALUE. The number behind the private identity key of the part with a serial (R384: generated at manufacture, it never
leaves the Security block). Log entry 9. -/
opaque Config.identityKey : BitVec 64 → BitVec 256

/-- OPEN VALUE. The certificate chain in flash, DER (R384, R394). Log entry 9. -/
opaque Config.certChain : List (BitVec 8)

/-- OPEN VALUE. Whether an image's public key hashes to the fused value and its signature verifies (R382: the manual gives
the checks and not the image's byte layout). Log entry 9. -/
opaque Config.imageSigned : List (BitVec 8) → Bool

/-- OPEN VALUE. The firmware version in an image's header (R382). Log entry 9. -/
opaque Config.imageVersion : List (BitVec 8) → BitVec 32

/-- OPEN VALUE. The security version SVN in an image's header (R382). Log entry 9. -/
opaque Config.imageSvn : List (BitVec 8) → BitVec 16

/-- OPEN VALUE. The Kettle table-set bytes inside an image (R116, R382). Log entry 9. -/
opaque Config.imageTset : List (BitVec 8) → List (BitVec 8)

/-- OPEN VALUE. The packs that the Hub sink of one message class holds (R256 says that a sink can be full, not when). Log
entry 12. -/
opaque Config.sinkPacks : Nat

end Sys2Proof
end

