-- ==== Sys2Proof/Machine/Digest.lean ====
section
/-!
DEFINITION. Machine/Digest.lean: SHA-256 and the cyclic redundancy checks the manual names.
-/

namespace Sys2Proof.Machine

/-- The 64 round constants of SHA-256 (FIPS 180-4) as one number, constant 0 in its top 32 bits. -/
def shaKeys : Nat :=
  let quarters :=
    [0x428a2f9871374491b5c0fbcfe9b5dba53956c25b59f111f1923f82a4ab1c5ed5d807aa9812835b01243185be550c7dc372be5d7480deb1fe9bdc06a7c19bf174,
     0xe49b69c1efbe47860fc19dc6240ca1cc2de92c6f4a7484aa5cb0a9dc76f988da983e5152a831c66db00327c8bf597fc7c6e00bf3d5a7914706ca635114292967,
     0x27b70a852e1b21384d2c6dfc53380d13650a7354766a0abb81c2c92e92722c85a2bfe8a1a81a664bc24b8b70c76c51a3d192e819d6990624f40e3585106aa070,
     0x19a4c1161e376c082748774c34b0bcb5391c0cb34ed8aa4a5b9cca4f682e6ff3748f82ee78a5636f84c878148cc7020890befffaa4506cebbef9a3f7c67178f2]
  quarters.foldl (fun n x => n * 2 ^ 512 + x) 0

/-- Round constant i. -/
def shaKey (i : Nat) : W32 := BitVec.ofNat 32 (shaKeys / 2 ^ (32 * (63 - i)))

/-- The eight working words of SHA-256. -/
structure ShaState where
  a : W32
  b : W32
  c : W32
  d : W32
  e : W32
  f : W32
  g : W32
  h : W32
  deriving DecidableEq, Repr

/-- The initial hash value. -/
def shaInit : ShaState :=
  { a := 0x6a09e667, b := 0xbb67ae85, c := 0x3c6ef372, d := 0xa54ff53a,
    e := 0x510e527f, f := 0x9b05688c, g := 0x1f83d9ab, h := 0x5be0cd19 }

/-- One round, with round constant plus schedule word `kw`. -/
def shaRound (s : ShaState) (kw : W32) : ShaState :=
  let s1 := s.e.rotateRight 6 ^^^ s.e.rotateRight 11 ^^^ s.e.rotateRight 25
  let ch := (s.e &&& s.f) ^^^ (~~~s.e &&& s.g)
  let t1 := s.h + s1 + ch + kw
  let s0 := s.a.rotateRight 2 ^^^ s.a.rotateRight 13 ^^^ s.a.rotateRight 22
  let maj := (s.a &&& s.b) ^^^ (s.a &&& s.c) ^^^ (s.b &&& s.c)
  { a := t1 + s0 + maj, b := s.a, c := s.b, d := s.c, e := s.d + t1, f := s.e, g := s.f, h := s.g }

/-- The message schedule, newest word first; `n` words still to make. -/
def shaExtend : Nat → List W32 → List W32
  | 0, w => w
  | n + 1, w =>
    let g (i : Nat) := w.getD i 0
    let x2 := g 1
    let x15 := g 14
    let s0 := x15.rotateRight 7 ^^^ x15.rotateRight 18 ^^^ (x15 >>> 3)
    let s1 := x2.rotateRight 17 ^^^ x2.rotateRight 19 ^^^ (x2 >>> 10)
    shaExtend n ((g 15 + s0 + g 6 + s1) :: w)

/-- A big-endian 32-bit word. -/
def beWord (bs : List Byte) : W32 := bs.foldl (fun v b => (v <<< 8) ||| b.setWidth 32) 0

/-- The sixteen words of a 64-byte block. -/
def shaWords : Nat → List Byte → List W32
  | 0, _ => []
  | n + 1, bs => beWord (bs.take 4) :: shaWords n (bs.drop 4)

/-- One block absorbed. -/
def shaBlock (s : ShaState) (block : List Byte) : ShaState :=
  let w := (shaExtend 48 (shaWords 16 block).reverse).reverse
  let t := (w.zipIdx.map fun e => e.1 + shaKey e.2).foldl shaRound s
  { a := s.a + t.a, b := s.b + t.b, c := s.c + t.c, d := s.d + t.d,
    e := s.e + t.e, f := s.f + t.f, g := s.g + t.g, h := s.h + t.h }

/-- `n` blocks absorbed. -/
def shaBlocks : Nat → ShaState → List Byte → ShaState
  | 0, s, _ => s
  | n + 1, s, bs => shaBlocks n (shaBlock s (bs.take 64)) (bs.drop 64)

/-- The big-endian bytes of a word. -/
def beBytes32 (w : W32) : List Byte :=
  [(w >>> 24).setWidth 8, (w >>> 16).setWidth 8, (w >>> 8).setWidth 8, w.setWidth 8]

/-- SHA-256 of a byte string, as 32 bytes. -/
def sha256 (msg : List Byte) : List Byte :=
  let len := msg.length
  let pad := (119 - len % 64) % 64
  let m := msg ++ [0x80] ++ List.replicate pad 0 ++ (leBytes 8 (8 * len)).reverse
  let s := shaBlocks (m.length / 64) shaInit m
  beBytes32 s.a ++ beBytes32 s.b ++ beBytes32 s.c ++ beBytes32 s.d ++
  beBytes32 s.e ++ beBytes32 s.f ++ beBytes32 s.g ++ beBytes32 s.h

/-- A reflected CRC over bits, least significant bit first, in the low `n` bits of a number. -/
def crcReflBits (poly : Nat) : Nat → Nat → Nat
  | 0, c => c
  | n + 1, c => crcReflBits poly n (if c % 2 = 1 then (c / 2) ^^^ poly else c / 2)

/-- A reflected CRC over bytes with a reflected polynomial. -/
def crcRefl (poly init xorout : Nat) (bs : List Byte) : Nat :=
  (bs.foldl (fun c b => crcReflBits poly 8 (c ^^^ b.toNat)) init) ^^^ xorout

/-- A CRC taken most significant bit first, `width` bits, over the low `n` bits of `v` from bit n - 1 down. -/
def crcMsb (width poly : Nat) : Nat → Nat → Nat → Nat
  | 0, _, c => c
  | n + 1, v, c =>
    let top := (c / 2 ^ (width - 1) % 2) ^^^ (v / 2 ^ n % 2)
    let c' := c * 2 % 2 ^ width
    crcMsb width poly n v (if top = 1 then c' ^^^ poly else c')

/-- The CRC-64 of R206 over bytes from a given start value. -/
def crc64 (init : Nat) (bs : List Byte) : Nat := bs.foldl (fun c b => crcMsb 64 0x42F0E1EBA9EA3693 8 b.toNat c) init

/-- CRC-32C, Castagnoli (R59). -/
def crc32c (bs : List Byte) : Nat := crcRefl 0x82F63B78 0xFFFFFFFF 0xFFFFFFFF bs

end Sys2Proof.Machine
end

