-- ==== Sys2Proof/Machine/Kindling.lean ====
section
/-!
DEFINITION. Machine/Kindling.lean: the Kindling rounds (R117), the module's only source of numbers drawn by counter.
-/

namespace Sys2Proof.Machine

/-- The four words Kindling works on. -/
structure Quad where
  c0 : W32
  c1 : W32
  c2 : W32
  c3 : W32
  deriving DecidableEq, Repr

/-- One round r of R117. -/
def kindlingRound (k0 k1 : W32) (q : Quad) (r : Nat) : Quad :=
  let c0 := q.c0 + q.c1
  let c1 := q.c1.rotateLeft 7 ^^^ c0
  let c2 := q.c2 + q.c3
  let c3 := q.c3.rotateLeft 11 ^^^ c2
  let c0 := c0 + c3
  let c3 := c3.rotateLeft 19 ^^^ c0
  let c2 := c2 + c1
  let c1 := c1.rotateLeft 23 ^^^ c2
  if r % 2 = 1 then
    { c0 := c0 + k0, c1 := c1 + BitVec.ofNat 32 (0x9E3779B9 * (r + 1)), c2 := c2 + k1, c3 := c3 }
  else { c0 := c0, c1 := c1, c2 := c2, c3 := c3 }

/-- kindling(ctr, seed), ten rounds (R117). -/
def kindling (ctr : Quad) (k0 k1 : W32) : Quad :=
  (List.range 10).foldl (kindlingRound k0 k1) ctr

/-- Word `i` of a Kindling draw. -/
def Quad.word (q : Quad) (i : Nat) : W32 :=
  match i with
  | 0 => q.c0
  | 1 => q.c1
  | 2 => q.c2
  | _ => q.c3

/-- The counter whose first two words are the low and high halves of a 64-bit element index (R89, R118). -/
def indexCtr (e : W64) (x2 x3 : W32) : Quad :=
  { c0 := e.setWidth 32, c1 := (e >>> 32).setWidth 32, c2 := x2, c3 := x3 }

end Sys2Proof.Machine
end

