-- ==== Sys2Proof/Machine/Flags.lean ====
section
/-!
DEFINITION. Machine/Flags.lean: number formats, exact values and rounding (R11, R81, R87 to R89, R107), and the sticky
flags a Kettle result raises (R108).
-/

namespace Sys2Proof.Machine

/-- What an operand or an exact result is: a NaN, an infinity, or sign, magnitude `m * 2 ^ e`. -/
inductive Num where
  | nan
  | inf (neg : Bool)
  | fin (neg : Bool) (m : Nat) (e : Int)
  deriving DecidableEq, Repr

/-- Which codes a float format gives to specials (Table 4.2). -/
inductive Specials where
  /-- Top exponent: infinity and NaN, as IEEE 754. -/
  | ieee
  /-- Only S.1111.111 is a NaN, no infinity (FP8 E4M3). -/
  | topNan
  /-- No specials. -/
  | none
  deriving DecidableEq, Repr

/-- A binary float format: exponent bits, fraction bits, bias and specials. -/
structure Fmt where
  eb : Nat
  fb : Nat
  bias : Nat
  sp : Specials
  deriving DecidableEq, Repr

/-- IEEE 754 binary32. -/
def fmtF32 : Fmt := { eb := 8, fb := 23, bias := 127, sp := .ieee }
/-- BF16. -/
def fmtBf16 : Fmt := { eb := 8, fb := 7, bias := 127, sp := .ieee }
/-- IEEE 754 binary16. -/
def fmtF16 : Fmt := { eb := 5, fb := 10, bias := 15, sp := .ieee }
/-- OCP FP8 E4M3. -/
def fmtE4M3 : Fmt := { eb := 4, fb := 3, bias := 7, sp := .topNan }
/-- OCP FP8 E5M2. -/
def fmtE5M2 : Fmt := { eb := 5, fb := 2, bias := 15, sp := .ieee }
/-- MXFP6 E3M2. -/
def fmtE3M2 : Fmt := { eb := 3, fb := 2, bias := 3, sp := .none }
/-- MXFP6 E2M3. -/
def fmtE2M3 : Fmt := { eb := 2, fb := 3, bias := 1, sp := .none }
/-- MXFP4 E2M1. -/
def fmtE2M1 : Fmt := { eb := 2, fb := 1, bias := 1, sp := .none }

/-- Total bits. -/
def Fmt.bits (f : Fmt) : Nat := 1 + f.eb + f.fb

/-- The code of the largest finite magnitude. -/
def Fmt.maxEnc (f : Fmt) : Nat :=
  match f.sp with
  | .ieee => (2 ^ f.eb - 1) * 2 ^ f.fb - 1
  | .topNan => 2 ^ (f.eb + f.fb) - 2
  | .none => 2 ^ (f.eb + f.fb) - 1

/-- The exponent of one unit of the last place of subnormals. -/
def Fmt.emin (f : Fmt) : Int := 1 - (f.bias : Int) - f.fb

/-- The value of a code (Table 4.2; subnormals honoured, R81). -/
def Fmt.decode (f : Fmt) (v : Nat) : Num :=
  let neg := decide (v / 2 ^ (f.eb + f.fb) % 2 = 1)
  let mag := v % 2 ^ (f.eb + f.fb)
  let ex := mag / 2 ^ f.fb
  let fr := mag % 2 ^ f.fb
  if f.maxEnc < mag then
    match f.sp with
    | .ieee => if fr = 0 then .inf neg else .nan
    | _ => .nan
  else if ex = 0 then .fin neg fr f.emin
  else .fin neg (2 ^ f.fb + fr) (f.emin + (ex : Int) - 1)

/-- floor(log2 m), 0 for m = 0. -/
def log2 (m : Nat) : Nat := Nat.log2 m

/-- How an inexact magnitude is rounded: to nearest even, or towards `hi` when a 32-bit draw is below the fraction (R89). -/
inductive RMode where
  | rne
  | draw (w : W32)
  deriving DecidableEq, Repr

/-- `m * 2 ^ e` in whole units of `2 ^ q`: quotient, remainder and divisor. -/
def units (m : Nat) (e q : Int) : Nat × Nat × Nat :=
  if q ≤ e then (m * 2 ^ (e - q).toNat, 0, 1)
  else let d := 2 ^ (q - e).toNat; (m / d, m % d, d)

/-- Rounds quotient and remainder of a magnitude of sign `neg` to whole units (R11, R89). -/
def roundUnits (r : RMode) (neg : Bool) (u : Nat × Nat × Nat) : Nat :=
  let (q, rem, d) := u
  if rem = 0 then q
  else match r with
    | .rne => if 2 * rem < d then q else if d < 2 * rem then q + 1 else q + q % 2
    | .draw w =>
      if neg then (if w.toNat < (d - rem) * 2 ^ 32 / d then q else q + 1)
      else (if w.toNat < rem * 2 ^ 32 / d then q + 1 else q)

/-- The code of a rounded magnitude before any overflow rule; above `maxEnc` it overflows. -/
def Fmt.roundEnc (f : Fmt) (r : RMode) (neg : Bool) (m : Nat) (e : Int) : Nat :=
  if m = 0 then 0
  else
    let top : Int := e + (log2 m : Int)
    let q : Int := max (top - f.fb) f.emin
    let n := roundUnits r neg (units m e q)
    n + (q - f.emin).toNat * 2 ^ f.fb

/-- Whether a magnitude lies above the largest finite value. -/
def Fmt.beyond (f : Fmt) (m : Nat) (e : Int) : Bool :=
  match f.decode f.maxEnc with
  | .fin _ m2 e2 =>
    let lo := min e e2
    decide (m2 * 2 ^ (e2 - lo).toNat < m * 2 ^ (e - lo).toNat)
  | _ => false

/-- Where an overflowing magnitude goes (Table 4.4). -/
def Fmt.overflowEnc (f : Fmt) (sat : Bool) : Nat :=
  if sat then f.maxEnc
  else match f.sp with
    | .ieee | .topNan => f.maxEnc + 1
    | .none => f.maxEnc

/-- The sign bit in place. -/
def Fmt.signed (f : Fmt) (neg : Bool) (mag : Nat) : Nat := if neg then mag + 2 ^ (f.eb + f.fb) else mag

/-- The code of a finite value rounded once; values outside the range round as RNE does (R87, R89). A zero keeps the sign
given. An E4M3 overflow without SAT is the NaN 0x7F. -/
def Fmt.encodeFin (f : Fmt) (r : RMode) (sat : Bool) (neg : Bool) (m : Nat) (e : Int) : Nat :=
  let r' := if f.beyond m e then .rne else r
  let c := f.roundEnc r' neg m e
  if f.maxEnc < c then
    if f.sp = .topNan && !sat then f.overflowEnc false else f.signed neg (f.overflowEnc sat)
  else f.signed neg c

/-- An exact sum of signed dyadic magnitudes, with the sign a zero result takes. -/
def addFin (na : Bool) (ma : Nat) (ea : Int) (nb : Bool) (mb : Nat) (eb : Int) : Num :=
  let lo := min ea eb
  let a : Int := (ma * 2 ^ (ea - lo).toNat : Nat)
  let b : Int := (mb * 2 ^ (eb - lo).toNat : Nat)
  let s := (if na then -a else a) + (if nb then -b else b)
  if s = 0 then .fin (na && nb) 0 lo
  else .fin (decide (s < 0)) s.natAbs lo

/-- The canonical quiet NaN of a Kettle (R107). -/
def f32Nan : Nat := 0x7FC00000

/-- The sticky flags a result raises (R108). -/
structure KFlags where
  nv : Bool := false
  dz : Bool := false
  of : Bool := false
  deriving DecidableEq, Repr

/-- Flags of several results together. -/
def KFlags.or (a b : KFlags) : KFlags := { nv := a.nv || b.nv, dz := a.dz || b.dz, of := a.of || b.of }

/-- The f32 code of an exact result with its flags: `fromFin` says whether every operand was finite, so that an overflow to
infinity sets OF (R108). -/
def f32Of (x : Num) : Nat × KFlags :=
  match x with
  | .nan => (f32Nan, {})
  | .inf neg => (fmtF32.signed neg 0x7F800000, {})
  | .fin neg m e =>
    let c := fmtF32.roundEnc .rne neg m e
    if fmtF32.maxEnc < c then (fmtF32.signed neg 0x7F800000, { of := true }) else (fmtF32.signed neg c, {})

/-- a + b exactly, with NV for infinity minus infinity. -/
def numAdd (a b : Num) : Num × KFlags :=
  match a, b with
  | .nan, _ => (.nan, {})
  | _, .nan => (.nan, {})
  | .inf s, .inf t => if s = t then (.inf s, {}) else (.nan, { nv := true })
  | .inf s, .fin _ _ _ => (.inf s, {})
  | .fin _ _ _, .inf t => (.inf t, {})
  | .fin na ma ea, .fin nb mb eb => (addFin na ma ea nb mb eb, {})

/-- a × b exactly, with NV for zero times infinity. -/
def numMul (a b : Num) : Num × KFlags :=
  match a, b with
  | .nan, _ => (.nan, {})
  | _, .nan => (.nan, {})
  | .inf s, .inf t => (.inf (s != t), {})
  | .inf s, .fin t m _ => if m = 0 then (.nan, { nv := true }) else (.inf (s != t), {})
  | .fin s m _, .inf t => if m = 0 then (.nan, { nv := true }) else (.inf (s != t), {})
  | .fin s ma ea, .fin t mb eb => (.fin (s != t) (ma * mb) (ea + eb), {})

/-- The value of an f32 code. -/
def f32Val (v : Nat) : Num := fmtF32.decode v

/-- An f32 result of a computation in `Num`, flags joined. -/
def f32Res (x : Num × KFlags) : Nat × KFlags :=
  let (c, f) := f32Of x.1
  (c, f.or x.2)

/-- f32 addition (R107, R110). -/
def f32Add (a b : Nat) : Nat × KFlags := f32Res (numAdd (f32Val a) (f32Val b))

/-- f32 multiplication (R107, R110). -/
def f32Mul (a b : Nat) : Nat × KFlags := f32Res (numMul (f32Val a) (f32Val b))

/-- f32 a × b + c rounded once (R107). -/
def f32Fma (a b c : Nat) : Nat × KFlags :=
  let p := numMul (f32Val a) (f32Val b)
  let s := numAdd p.1 (f32Val c)
  f32Res (s.1, p.2.or s.2)

/-- Whether an f32 code is a NaN. -/
def f32IsNan (v : Nat) : Bool := decide (0x7F800000 < v % 2 ^ 31)

/-- The key that ranks f32 values as KMAX and KMIN rank them, -0 below +0 (R107). -/
def f32Rank (v : Nat) : Int :=
  if v / 2 ^ 31 % 2 = 1 then -1 - ((v % 2 ^ 31 : Nat) : Int) else ((v % 2 ^ 31 : Nat) : Int)

/-- f32 ordering with the two zeros equal (comparisons, R110). Neither operand is a NaN. -/
def f32Order (v : Nat) : Int :=
  if v / 2 ^ 31 % 2 = 1 then -((v % 2 ^ 31 : Nat) : Int) else ((v % 2 ^ 31 : Nat) : Int)

/-- KMAX (pick the larger) or KMIN (the smaller) with the NaN rule of NUM (R107, R110). -/
def f32Pick (larger num : Bool) (a b : Nat) : Nat :=
  let better (x y : Nat) : Nat :=
    if larger then (if f32Rank x < f32Rank y then y else x) else (if f32Rank y < f32Rank x then y else x)
  if f32IsNan a && f32IsNan b then f32Nan
  else if f32IsNan a then (if num then b else f32Nan)
  else if f32IsNan b then (if num then a else f32Nan)
  else better a b

/-- A 32-bit code as a signed integer. -/
def s32 (v : Nat) : Int := if v / 2 ^ 31 % 2 = 1 then (v % 2 ^ 32 : Nat) - (2 ^ 32 : Nat) else (v % 2 ^ 32 : Nat)

/-- An integer modulo 2^32. -/
def u32OfInt (i : Int) : Nat := (i % (2 ^ 32 : Nat)).toNat

/-- An integer as f32, rounded to nearest even. -/
def f32OfInt (i : Int) : Nat := (f32Of (.fin (decide (i < 0)) i.natAbs 0)).1

/-- f32 to s32, saturating; `rne` rounds to nearest even, else toward zero (Table 5.5). -/
def f32ToS32 (rne : Bool) (v : Nat) : Nat × KFlags :=
  match f32Val v with
  | .nan => (0, { nv := true })
  | .inf neg => (if neg then 2 ^ 31 else 2 ^ 31 - 1, {})
  | .fin neg m e =>
    let u := units m e 0
    let q := if rne then roundUnits .rne neg u else u.1
    if neg then (if 2 ^ 31 < q then (2 ^ 31, {}) else (u32OfInt (-(q : Int)), {}))
    else (if 2 ^ 31 ≤ q then (2 ^ 31 - 1, {}) else (q, {}))

/-- f32 to the nearest integral f32, ties to even; the sign of zero is kept (Table 5.5). -/
def f32Integral (v : Nat) : Nat :=
  match f32Val v with
  | .nan => f32Nan
  | .inf _ => v
  | .fin neg m e => if 0 ≤ e then v else fmtF32.signed neg (fmtF32.roundEnc .rne neg (roundUnits .rne neg (units m e 0)) 0)

/-- An f32 rounded to a narrower format: its code there, with OF when a finite operand gives an infinity. `sat` clamps
(KCVT 0xA and 0xB). -/
def f32Narrow (f : Fmt) (sat : Bool) (nanEnc : Nat) (v : Nat) : Nat × KFlags :=
  match f32Val v with
  | .nan => (nanEnc, {})
  | .inf neg => (f.signed neg (f.overflowEnc sat), {})
  | .fin neg m e =>
    let c := f.roundEnc .rne neg m e
    if f.maxEnc < c then (f.signed neg (f.overflowEnc sat), { of := !sat }) else (f.signed neg c, {})

/-- A narrow code widened to f32, exact (KCVT unpacking, and modes 0x5 and 0x6). -/
def f32Widen (f : Fmt) (v : Nat) : Nat := (f32Of (f.decode v)).1

end Sys2Proof.Machine
end

