-- ==== Sys2Proof/Machine/KettleMath.lean ====
section
/-!
DEFINITION. Machine/KettleMath.lean: what a Kettle computes in its lanes (R107 to R118). A lane is its 32-bit code as a
number; a vector is its 64 lanes. Every function gives the result with the sticky flags it raises (R108).
-/

namespace Sys2Proof.Machine

/-- A 64-lane vector register (R103): lane i in bits [32i+31:32i]. -/
abbrev Vec := BitVec 2048

/-- A Sack line of 128 bytes (R83): byte i in bits [8i+7:8i]. -/
abbrev Line := BitVec 1024

/-- Lane i of a vector. -/
def lane (v : Vec) (i : Nat) : Nat := (v.extractLsb' (32 * i) 32).toNat

/-- A vector from its lanes. -/
def vecOf (f : Nat → Nat) : Vec :=
  (List.range 64).foldr (fun i v => (v <<< 32) ||| BitVec.ofNat 2048 (f i % 2 ^ 32)) 0

/-- Byte i of a line. -/
def lineByte (l : Line) (i : Nat) : Byte := l.extractLsb' (8 * i) 8

/-- A field of a line, little-endian, by byte offset and length. -/
def lineField (l : Line) (off n : Nat) : Nat := l.toNat / 2 ^ (8 * off) % 2 ^ (8 * n)

/-- A line from its bytes in ascending order. -/
def lineOf (bs : List Byte) : Line := BitVec.ofNat 1024 (leNat (bs.take 128))

/-- The bytes of a line in ascending order. -/
def lineBytes (l : Line) : List Byte := tab 128 (lineByte l)

/-- A vector from the lines of its two Sacks: lanes 0 to 31 in the lower (R104). -/
def vecOfLines (lo hi : Line) : Vec := hi ++ lo

/-- The line that holds one half of a vector (R104, R119). -/
def vecHalf (v : Vec) (hi : Bool) : Line := if hi then v.extractLsb' 1024 1024 else v.extractLsb' 0 1024

/-- A vector with one half replaced (R119, mode 0). -/
def vecSetHalf (v : Vec) (hi : Bool) (l : Line) : Vec :=
  if hi then l ++ vecHalf v false else vecHalf v true ++ l

/-- Lanes with flags, from a function of the lane. -/
def mapLanes (f : Nat → Nat × KFlags) : Vec × KFlags :=
  let r := tab 64 f
  (vecOf (fun i => (r.getD i (0, {})).1), r.foldl (fun a x => a.or x.2) {})

/-- Operand A with NEGA, or B or C with NEGX: bit 31 of each lane inverted (Table 5.3). -/
def negLane (neg : Bool) (x : Nat) : Nat := if neg then x ^^^ 2 ^ 31 else x

/-- KCMP's condition (R110): 0 EQ, 1 NE, 2 LT, 3 LE, 4 UNORD; integer lanes compare as s32. -/
def kCmp (cond : Nat) (int : Bool) (a b : Nat) : Nat × KFlags :=
  let truth (c : Bool) : Nat := if c then 2 ^ 32 - 1 else 0
  if int then
    (truth (match cond with
      | 0 => s32 a == s32 b
      | 1 => s32 a != s32 b
      | 2 => decide (s32 a < s32 b)
      | _ => decide (s32 a ≤ s32 b)), {})
  else if f32IsNan a || f32IsNan b then
    (truth (cond == 1 || cond == 4), { nv := cond == 2 || cond == 3 })
  else
    (truth (match cond with
      | 0 => f32Order a == f32Order b
      | 1 => f32Order a != f32Order b
      | 2 => decide (f32Order a < f32Order b)
      | 3 => decide (f32Order a ≤ f32Order b)
      | _ => false), {})

/-- The lane conversions of KCVT, modes 0x0 to 0x6 (Table 5.5). -/
def kCvtLane (mode : Nat) (a : Nat) : Nat × KFlags :=
  match mode with
  | 0x0 => f32ToS32 true a
  | 0x1 => f32ToS32 false a
  | 0x2 => (f32OfInt (s32 a), {})
  | 0x3 => (f32OfInt a, {})
  | 0x4 => (f32Integral a, {})
  | 0x5 => let r := f32Narrow fmtBf16 false 0x7FC0 a; (r.1 * 2 ^ 16, r.2)
  | _ => let r := f32Narrow fmtF16 false 0x7E00 a; (f32Widen fmtF16 r.1, r.2)

/-- The packed line of KCVT modes 0x8 to 0xB (Table 5.5). -/
def kPack (mode : Nat) (x : Nat → Nat) : Line × KFlags :=
  let wide := decide (mode < 0xA)
  let conv (a : Nat) : Nat × KFlags :=
    match mode with
    | 0x8 => f32Narrow fmtBf16 false 0x7FC0 a
    | 0x9 => f32Narrow fmtF16 false 0x7E00 a
    | 0xA => f32Narrow fmtE4M3 true 0x7F a
    | _ => f32Narrow fmtE5M2 true 0x7F a
  let r := tab 64 (fun i => conv (x i))
  (lineOf (r.flatMap fun c => leBytes (if wide then 2 else 1) c.1), r.foldl (fun a c => a.or c.2) {})

/-- The lanes of KCVT modes 0xC to 0xF (Table 5.5). -/
def kUnpack (mode : Nat) (upper : Bool) (l : Line) : Vec :=
  vecOf fun i =>
    match mode with
    | 0xC => f32Widen fmtE4M3 (lineField l (i + if upper then 64 else 0) 1)
    | 0xD => f32Widen fmtE5M2 (lineField l (i + if upper then 64 else 0) 1)
    | 0xE => f32Widen fmtBf16 (lineField l (2 * i) 2)
    | _ => f32Widen fmtF16 (lineField l (2 * i) 2)

/-- Coefficient c0, c1 or c2 (k = 0 to 2) of segment j of function f in a table set (Table 5.7). -/
def tsetCoef (tset : List Byte) (f j k : Nat) : Nat := leField tset (64 + 1552 * f + 16 + 12 * j + 4 * k) 4

/-- The quadratic of R114: two fused steps, each rounded to f32 and each raising its flags (R108). `t` is exact. -/
def tsetEval (tset : List Byte) (f j : Nat) (t : Num) : Nat × KFlags :=
  let step (c d : Nat) : Nat × KFlags :=
    let p := numMul (f32Val c) t
    let r := numAdd p.1 (f32Val d)
    f32Res (r.1, p.2.or r.2)
  let u := step (tsetCoef tset f j 2) (tsetCoef tset f j 1)
  let y := step u.1 (tsetCoef tset f j 0)
  (y.1, u.2.or y.2)

/-- A value times 2 ^ n. -/
def numScale (x : Num) (n : Int) : Num :=
  match x with
  | .fin neg m e => .fin neg m (e + n)
  | y => y

/-- A value with its sign flipped if `neg`. -/
def numSign (neg : Bool) (x : Num) : Num :=
  match x with
  | .fin s m e => .fin (s != neg) m e
  | .inf s => .inf (s != neg)
  | .nan => .nan

/-- KEXP2 (Table 5.6). -/
def kExp2 (tset : List Byte) (x : Nat) : Nat × KFlags :=
  match f32Val x with
  | .nan => (f32Nan, {})
  | .inf neg => (if neg then 0 else 0x7F800000, {})
  | .fin neg m e =>
    if !neg && decide (f32Order 0x43000000 ≤ f32Order x) then (0x7F800000, { of := true })
    else if neg && decide (f32Order x < f32Order 0xC3160000) then (0, {})
    else
      let g := (-e).toNat + 7
      let v : Int := (m * 2 ^ (e + g).toNat : Nat)
      let v := if neg then -v else v
      let n := v / (2 ^ g : Nat)
      let f := (v % (2 ^ g : Nat)).toNat
      let j := f / 2 ^ (g - 7)
      let t := Num.fin false (f % 2 ^ (g - 7)) (-(g : Int))
      let y := tsetEval tset 0 j t
      f32Res (numScale (f32Val y.1) n, y.2)

/-- Exponent, segment and offset of a positive magnitude in [1, 2): shared by KLOG2 and KRCP (Table 5.6). -/
def mantissaSplit (m : Nat) (e : Int) : Int × Nat × Num :=
  let l := log2 m
  let f := (m - 2 ^ l) * 128
  (e + l, f / 2 ^ l, .fin false (f % 2 ^ l) (-(l : Int) - 7))

/-- KLOG2 (Table 5.6), with NV for a NaN as for a negative number (log entry 90). -/
def kLog2 (tset : List Byte) (x : Nat) : Nat × KFlags :=
  match f32Val x with
  | .nan => (f32Nan, { nv := true })
  | .inf neg => if neg then (f32Nan, { nv := true }) else (0x7F800000, {})
  | .fin neg m e =>
    if m = 0 then (0xFF800000, { dz := true })
    else if neg then (f32Nan, { nv := true })
    else
      let (n, j, t) := mantissaSplit m e
      let y := tsetEval tset 1 j t
      let r := numAdd (.fin (decide (n < 0)) n.natAbs 0) (f32Val y.1)
      f32Res (r.1, r.2.or y.2)

/-- KRCP (Table 5.6). -/
def kRcp (tset : List Byte) (x : Nat) : Nat × KFlags :=
  match f32Val x with
  | .nan => (f32Nan, {})
  | .inf neg => (fmtF32.signed neg 0, {})
  | .fin neg m e =>
    if m = 0 then (fmtF32.signed neg 0x7F800000, { dz := true })
    else
      let (n, j, t) := mantissaSplit m e
      let y := tsetEval tset 2 j t
      f32Res (numSign neg (numScale (f32Val y.1) (-n)), y.2)

/-- KRSQ (Table 5.6), with NV for a NaN as for a negative number (log entry 90). -/
def kRsq (tset : List Byte) (x : Nat) : Nat × KFlags :=
  match f32Val x with
  | .nan => (f32Nan, { nv := true })
  | .inf neg => if neg then (f32Nan, { nv := true }) else (0, {})
  | .fin neg m e =>
    if m = 0 then (fmtF32.signed neg 0x7F800000, { dz := true })
    else if neg then (f32Nan, { nv := true })
    else
      let l := log2 m
      let ex := e + l
      let p := (ex % 2).toNat
      let f := (m - 2 ^ l) * 64
      let t := Num.fin false (f % 2 ^ l) (-(l : Int) - 6 + p)
      let y := tsetEval tset 3 (p * 64 + f / 2 ^ l) t
      f32Res (numScale (f32Val y.1) (-(ex / 2)), y.2)

/-- KTANH (Table 5.6). -/
def kTanh (tset : List Byte) (x : Nat) : Nat × KFlags :=
  match f32Val x with
  | .nan => (f32Nan, {})
  | .inf neg => (fmtF32.signed neg 0x3F800000, {})
  | .fin neg m e =>
    if decide (0x41000000 ≤ x % 2 ^ 31) then (fmtF32.signed neg 0x3F800000, {})
    else
      let g := (-e).toNat + 4
      let v := m * 2 ^ (e + g).toNat
      let j := v / 2 ^ (g - 4)
      let t := Num.fin false (v % 2 ^ (g - 4)) (-(g : Int))
      let y := tsetEval tset 4 j t
      f32Res (numSign neg (f32Val y.1), y.2)

/-- One level of KSUM's fixed order (R111). -/
def kSumLevel (isMax : Bool) (st : List Nat × KFlags) (l : Nat) : List Nat × KFlags :=
  (List.range 64).foldl (fun s i =>
    if i % 2 ^ (l + 1) = 0 then
      let a := s.1.getD i 0
      let b := s.1.getD (i + 2 ^ l) 0
      if isMax then (listSet s.1 i (f32Pick true false a b), s.2)
      else let r := f32Add a b; (listSet s.1 i r.1, s.2.or r.2)
    else s) st

/-- KSUM over groups of 2 ^ g lanes (R111). -/
def kSum (g : Nat) (isMax : Bool) (x : Nat → Nat) : Vec × KFlags :=
  let r := (List.range g).foldl (kSumLevel isMax) (tab 64 x, {})
  (vecOf (fun i => r.1.getD (i - i % 2 ^ g) 0), r.2)

/-- One lane of KMERGE (R112): the results m, s and the values, from those of partials A and B, as the pseudocode computes them: an
empty partial's s and v are multiplied by 0, an infinity or NaN among them too (log entry 91). -/
def kMergeLane (tset : List Byte) (a b : List Nat) : List Nat × KFlags :=
  let ma := a.getD 0 0
  let mb := b.getD 0 0
  if f32IsNan ma || f32IsNan mb || ma == 0x7F800000 || mb == 0x7F800000 then
    (a.map fun _ => f32Nan, { nv := true })
  else
    let m := f32Pick true false ma mb
    let weight (x : Nat) : Nat × KFlags :=
      if x = 0xFF800000 then (0, {})
      else
        let d := f32Add x (negLane true m)
        let w := kExp2 tset d.1
        (w.1, d.2.or w.2)
    let alpha := weight ma
    let beta := weight mb
    let term (va vb : Nat) : Nat × KFlags :=
      let p := f32Mul va alpha.1
      let r := f32Fma vb beta.1 p.1
      (r.1, p.2.or r.2)
    let rs := List.zipWith term (a.drop 1) (b.drop 1)
    (m :: rs.map (·.1), rs.foldl (fun f r => f.or r.2) (alpha.2.or beta.2))

/-- KIDX ARGMAX (R113): index and value. -/
def kArgmax (a : Nat → Nat) (base : Nat) : Nat × Nat :=
  let best := (List.range 64).foldl (fun (b : Option Nat) i =>
    if f32IsNan (a i) then b
    else match b with
      | none => some i
      | some j => if f32Rank (a j) < f32Rank (a i) then some i else b) none
  match best with
  | none => (2 ^ 32 - 1, f32Nan)
  | some i => ((i + base) % 2 ^ 32, a i)

/-- KIDX CUMSEL (R113): the index, the value p_63 and the flags of the sums. `u` is the threshold. A lane of -0 counts as +0 (log
entry 92). -/
def kCumsel (a : Nat → Nat) (u base : Nat) : Nat × Nat × KFlags :=
  let clean (x : Nat) : Nat := if f32IsNan x || decide (f32Order x < 0) || decide (x / 2 ^ 31 % 2 = 1) then 0 else x
  let above (p : Nat) : Bool := !f32IsNan p && !f32IsNan u && decide (f32Order u < f32Order p)
  let step (s : Nat × Option Nat × KFlags) (i : Nat) : Nat × Option Nat × KFlags :=
    let r := if i = 0 then (clean (a 0), {}) else f32Add s.1 (clean (a i))
    let hit := match s.2.1 with
      | some j => some j
      | none => if above r.1 then some i else none
    (r.1, hit, s.2.2.or r.2)
  let r := (List.range 64).foldl step (0, none, {})
  (match r.2.1 with
    | some i => (i + base) % 2 ^ 32
    | none => 2 ^ 32 - 1, r.1, r.2.2)

/-- The lane KRNG writes (R118): the word as u32, or f32(w >> 8) × 2^-24. -/
def kRngLane (form1 : Bool) (w : W32) : Nat :=
  if form1 then (f32Of (.fin false (w.toNat / 256) (-24))).1 else w.toNat

end Sys2Proof.Machine
end

