-- ==== Sys2Proof/Machine/StoveMath.lean ====
section
/-!
DEFINITION. Machine/StoveMath.lean: what a Stove computes (R81 to R89): operand elements, the exact accumulator, and the one
rounding of SOUT.
-/

namespace Sys2Proof.Machine

/-- One accumulator with its flags (R80, R85). -/
structure Acc where
  v : BitVec 640
  nan : Bool
  pinf : Bool
  ninf : Bool
  deriving DecidableEq, Repr

/-- The launch value of an accumulator (Table 4.1). -/
def Acc.zero : Acc := { v := 0, nan := false, pinf := false, ninf := false }

/-- The sum of two accumulators: the wide add wraps modulo 2^640, flags join (R85, R94). -/
def Acc.add (a b : Acc) : Acc :=
  { v := a.v + b.v, nan := a.nan || b.nan, pinf := a.pinf || b.pinf, ninf := a.ninf || b.ninf }

/-- The classes of Table 4.3. -/
inductive FmtClass where
  | a
  | b
  | c
  deriving DecidableEq, Repr

/-- The class of an operand format; none for code 0 and the reserved codes (R82). -/
def fmtClass (f : Nat) : Option FmtClass :=
  match f with
  | 0x7 | 0xC => some .b
  | 0x9 | 0xA => some .c
  | 0x1 | 0x2 | 0x3 | 0x4 | 0x5 | 0x6 | 0x8 | 0xB => some .a
  | _ => none

/-- MX formats: those that carry block scales (Table 4.2). -/
def fmtMx (f : Nat) : Bool := 0x3 ≤ f && f ≤ 0x8

/-- K per tile (Table 4.3). -/
def FmtClass.kt (cls : FmtClass) : Nat :=
  match cls with
  | .a => 128
  | .b => 256
  | .c => 64

/-- Beats per vector (Table 4.3). -/
def FmtClass.bpv (cls : FmtClass) : Nat :=
  match cls with
  | .c => 2
  | _ => 1

/-- Weight scale lines of an MX format: 4 in class A, 8 in class B (R95). -/
def scaleLines (f : Nat) : Nat := if fmtClass f = some .b then 8 else 4

/-- A two's-complement integer element times 2 ^ e. -/
def intElem (bits v : Nat) (e : Int) : Num :=
  if v / 2 ^ (bits - 1) % 2 = 1 then .fin true (2 ^ bits - v) e else .fin false v e

/-- Element i of an operand line (R81, R83). -/
def elemOf (f : Nat) (l : Line) (i : Nat) : Num :=
  let v (bits : Nat) : Nat := l.toNat / 2 ^ (bits * i) % 2 ^ bits
  match f with
  | 0x1 | 0x3 => fmtE4M3.decode (v 8)
  | 0x2 | 0x4 => fmtE5M2.decode (v 8)
  | 0x5 => fmtE3M2.decode (v 6)
  | 0x6 => fmtE2M3.decode (v 6)
  | 0x7 => fmtE2M1.decode (v 4)
  | 0x8 => intElem 8 (v 8) (-6)
  | 0x9 => fmtBf16.decode (v 16)
  | 0xA => fmtF16.decode (v 16)
  | 0xB => intElem 8 (v 8) 0
  | _ => intElem 4 (v 4) 0

/-- A block sum: an integer in units of 2^-270, with the flags of R85. -/
structure BlockSum where
  sum : Int
  nan : Bool
  pinf : Bool
  ninf : Bool
  deriving DecidableEq, Repr

/-- One product added to a block (R85: an infinity adds nothing and sets the flag of its sign). -/
def BlockSum.addProduct (b : BlockSum) (w x : Num) : BlockSum :=
  match (numMul w x).1 with
  | .nan => { b with nan := true }
  | .inf true => { b with ninf := true }
  | .inf false => { b with pinf := true }
  | .fin neg m e =>
    let p : Int := (m * 2 ^ (e + 270).toNat : Nat)
    { b with sum := b.sum + (if neg then -p else p) }

/-- The 32 products of block j of a weight row and an activation line. -/
def blockDot (wf xf : Nat) (w x : Line) (j : Nat) : BlockSum :=
  (List.range 32).foldl (fun b k => b.addProduct (elemOf wf w (32 * j + k)) (elemOf xf x (32 * j + k)))
    { sum := 0, nan := false, pinf := false, ninf := false }

/-- A block sum times its two scales, in accumulator units of 2^-290 (R84, R85). A scale byte of 255 is NaN. -/
def blockAcc (b : BlockSum) (ea ew : Nat) : Acc :=
  let n : Int := (ea : Int) + ew - 234
  let v : Int := if 0 ≤ n then b.sum * (2 ^ n.toNat : Nat) else b.sum / (2 ^ (-n).toNat : Nat)
  { v := BitVec.ofInt 640 v, nan := b.nan || ea == 255 || ew == 255, pinf := b.pinf, ninf := b.ninf }

/-- The output formats of Table 4.4. -/
inductive OFmt where
  | f32
  | bf16
  | f16
  | e4m3
  | e5m2
  | mxE4M3
  | mxE5M2
  | mxE3M2
  | mxE2M3
  | mxE2M1
  | mxInt8
  | raw
  deriving DecidableEq, Repr

/-- OFMT codes; 0x0 and 0xC to 0xE are reserved. -/
def ofmtOf (c : Nat) : Option OFmt :=
  match c with
  | 0x1 => some .f32
  | 0x2 => some .bf16
  | 0x3 => some .f16
  | 0x4 => some .e4m3
  | 0x5 => some .e5m2
  | 0x6 => some .mxE4M3
  | 0x7 => some .mxE5M2
  | 0x8 => some .mxE3M2
  | 0x9 => some .mxE2M3
  | 0xA => some .mxE2M1
  | 0xB => some .mxInt8
  | 0xF => some .raw
  | _ => none

/-- Whether an output format writes block scales. -/
def OFmt.mx (o : OFmt) : Bool :=
  match o with
  | .mxE4M3 | .mxE5M2 | .mxE3M2 | .mxE2M3 | .mxE2M1 | .mxInt8 => true
  | _ => false

/-- Element lines written (Table 4.4). -/
def OFmt.lines (o : OFmt) : Nat :=
  match o with
  | .f32 => 4
  | .bf16 | .f16 => 2
  | .raw => 128
  | _ => 1

/-- W of Table 4.5: element lines, plus the scale line of an MX format. -/
def OFmt.width (o : OFmt) : Nat := o.lines + if o.mx then 1 else 0

/-- The element format of a float output. -/
def OFmt.elem (o : OFmt) : Fmt :=
  match o with
  | .f32 => fmtF32
  | .bf16 => fmtBf16
  | .f16 => fmtF16
  | .e4m3 | .mxE4M3 => fmtE4M3
  | .e5m2 | .mxE5M2 => fmtE5M2
  | .mxE3M2 => fmtE3M2
  | .mxE2M3 => fmtE2M3
  | _ => fmtE2M1

/-- The NaN written (Table 4.4). -/
def OFmt.nanEnc (o : OFmt) : Nat :=
  match o with
  | .f32 => 0x7FC00000
  | .bf16 => 0x7FC0
  | .f16 => 0x7E00
  | _ => 0x7F

/-- emax of R88. -/
def OFmt.emax (o : OFmt) : Int :=
  match o with
  | .mxE4M3 => 8
  | .mxE5M2 => 15
  | .mxE3M2 => 4
  | .mxE2M3 | .mxE2M1 => 2
  | _ => 0

/-- The exact value y = A × 2^(OSCALE - 290) of an accumulator, as sign, magnitude and exponent (R87). -/
def accFin (a : Acc) (oscale : Int) : Bool × Nat × Int := (decide (a.v.toInt < 0), a.v.toInt.natAbs, oscale - 290)

/-- One non-MX element of SOUT (R87, Table 4.4). -/
def soutElem (o : OFmt) (r : RMode) (sat : Bool) (oscale : Int) (a : Acc) : Nat :=
  let f := o.elem
  let infCode (neg : Bool) : Nat := f.signed neg (if sat || f.sp != .ieee then f.maxEnc else f.maxEnc + 1)
  if a.nan || (a.pinf && a.ninf) then o.nanEnc
  else if a.pinf then infCode false
  else if a.ninf then infCode true
  else
    let (neg, m, e) := accFin a oscale
    f.encodeFin r sat neg m e

/-- An MXINT8 element from z = ± m × 2^e (R88, R89). -/
def mxInt8Elem (r : RMode) (neg : Bool) (m : Nat) (e : Int) : Nat :=
  let u := units m e (-6)
  let limit := if neg then 128 else 127
  let out := decide (limit < u.1) || (decide (u.1 = limit) && decide (u.2.1 ≠ 0))
  let q := min (roundUnits (if out then .rne else r) neg u) limit
  if neg then (256 - q) % 256 else q

/-- One block of MX output: the scale byte and 32 elements (R88). -/
def mxBlock (o : OFmt) (oscale : Int) (rows : List (Acc × RMode)) : Nat × List Nat :=
  if rows.any (fun x => x.1.nan || x.1.pinf || x.1.ninf) then (0xFF, rows.map fun _ => 0)
  else
    let m := rows.foldl (fun m x => max m x.1.v.toInt.natAbs) 0
    let x : Int := if m = 0 then 0 else max (-127) (min 127 ((log2 m : Int) + oscale - 290 - o.emax))
    let elem (p : Acc × RMode) : Nat :=
      let (neg, mag, e) := accFin p.1 oscale
      if o = .mxInt8 then mxInt8Elem p.2 neg mag (e - x) else o.elem.encodeFin p.2 true neg mag (e - x)
    ((x + 127).toNat, rows.map elem)

/-- Codes of a fixed bit width packed from bit 0 upwards (R83); the bits above are 0. -/
def packBits (bits : Nat) (codes : List Nat) : Nat :=
  codes.foldr (fun c v => v * 2 ^ bits + c % 2 ^ bits) 0

/-- A RAW line (R87): A in bytes 0 to 79, the flags in byte 80. -/
def rawLine (a : Acc) : Line :=
  BitVec.ofNat 1024 (a.v.toNat + 2 ^ 640 * (bit1 a.nan + 2 * bit1 a.pinf + 4 * bit1 a.ninf))

/-- The accumulator of a RAW line, as SLOAD MODE 1 adds it (R94). -/
def accOfRaw (l : Line) : Acc :=
  { v := l.extractLsb' 0 640, nan := l.getLsbD 640, pinf := l.getLsbD 641, ninf := l.getLsbD 642 }

/-- The element lines and the four scale bytes that SOUT writes from the 128 rows of a bank (R87 to R89). -/
def soutLines (o : OFmt) (sat : Bool) (oscale : Int) (rows : List (Acc × RMode)) : List Line × Nat :=
  match o with
  | .raw => (rows.map fun x => rawLine x.1, 0)
  | .mxE4M3 | .mxE5M2 | .mxE3M2 | .mxE2M3 | .mxE2M1 | .mxInt8 =>
    let blocks := tab 4 (fun j => mxBlock o oscale ((rows.drop (32 * j)).take 32))
    let bits := if o = .mxInt8 then 8 else o.elem.bits
    ([BitVec.ofNat 1024 (packBits bits (blocks.flatMap (·.2)))], packBits 8 (blocks.map (·.1)))
  | _ =>
    let codes := rows.map fun x => soutElem o x.2 sat oscale x.1
    let per := 128 / o.lines
    (tab o.lines (fun i => BitVec.ofNat 1024 (packBits o.elem.bits ((codes.drop (per * i)).take per))), 0)

end Sys2Proof.Machine
end

