-- ==== Sys2Proof/Syntax.lean ====
section
/-!
DEFINITION. Syntax.lean: the commands the block takes, one constructor per row of spec/opcode_table.json, in the table's
order, with the operands each row carries. Fields that a 64-bit action word encodes keep the word's own coding and width.
-/

namespace Sys2Proof

/-- Who writes or reads a register: a host port or firmware on the Rangers (R10). -/
inductive Requester where
  | host (p : Fin 2)
  | ranger
  deriving DecidableEq, Repr

/-- A size of access to a BAR (R10, R144). -/
inductive Size where
  | b1
  | b2
  | b4
  | b8
  deriving DecidableEq, Repr

/-- How a 64-bit register that acts on its upper half is written (R10): the upper half alone, or the whole at once. -/
inductive HalfWrite where
  | upper (hi : BitVec 32)
  | whole (v : BitVec 64)
  deriving DecidableEq, Repr

/-- What starts a launch (R78, R288, R348). -/
inductive LaunchSource where
  /-- An armed TR_LAUNCH_AT reaches its count. -/
  | register
  /-- An armed cycle timer with a launch action reaches its count. -/
  | cycle (j : Fin 4)
  /-- The launch count taken from the launch Peg. -/
  | peg
  deriving DecidableEq, Repr

/-- The Kettle opcodes of the common layout (Table 5.2); KIDX by its two modes. -/
inductive KOp where
  | kadd
  | kmul
  | kfma
  | kmax
  | kmin
  | ksel
  | kcmp
  | kcvt
  | kexp2
  | klog2
  | krcp
  | krsq
  | ktanh
  | ksum
  | kmerge
  | kidx
  | krng
  deriving DecidableEq, Repr

/-- The Kettle operand layout of Table 5.3. -/
structure KOps where
  dm : Bool
  dp : Bool
  d : BitVec 13
  am : Bool
  ap : Bool
  a : BitVec 13
  b : BitVec 5
  c : BitVec 5
  nega : Bool
  negx : Bool
  func : BitVec 8
  deriving DecidableEq, Repr

/-- How a failed stack command is reported (R170): command/address parity or write-data CRC. -/
inductive StackError where
  | parity
  | writeCrc
  deriving DecidableEq, Repr

/-- What blocks an MSI-X message (R352). -/
inductive MsixGate where
  /-- MSI-X enabled and its function mask clear. -/
  | function
  | vector (v : BitVec 11)
  | busMaster
  | link
  deriving DecidableEq, Repr

/-- What Firewatch's sensors read over an epoch (Table 14.1): the input's samples, oldest first, each a voltage in 10 mV and a current
in 10 mA; junctions and dies in 0.25 °C; HBM cases in °C with the doubled-rate request in bit 8; rails in 100 mA. -/
structure Sensors where
  input : List (BitVec 16 × BitVec 16)
  junction : List (BitVec 10)
  die : List (BitVec 10)
  hbm : List (BitVec 9)
  rail : List (BitVec 16)
  deriving DecidableEq, Repr

/-- Whether a received Ethernet frame is good (R353). -/
inductive FrameCheck where
  | good
  | fcs
  | codeword
  deriving DecidableEq, Repr

/-- A conductor pair as the power-entry controller samples it (R402): voltage in 10 mV, current in 10 mA. -/
structure Pair where
  volt : BitVec 16
  amp : BitVec 16
  deriving DecidableEq, Repr

/-- A Lamp as step 1 finds it (R406, R409): present, its output and self-check good, of the right type, output in mW. -/
structure Lamp where
  present : Bool
  good : Bool
  typeOk : Bool
  serial : BitVec 64
  power : BitVec 16
  deriving DecidableEq, Repr

/-- A DIMM socket as step 3 finds it (R173, R174): of a supported kind, its fastest speed as BR_CFG.SPEED, none below DDR5-4800,
capacity in GB, and whether it trains. -/
structure Dimm where
  fitted : Bool
  kindOk : Bool
  speed : Option (Fin 5)
  size : BitVec 10
  trained : Bool
  deriving DecidableEq, Repr

/-- What a calibration measures (R34). `delays` has for crossing i of region r, at 6r + i, the delay of its slowest stage for each
allowed d in rising order, in 0.01% of the shortest beat at 0.85 V; `caps` the regions' capabilities in beats per epoch. -/
structure Measure where
  delays : List (List (BitVec 16))
  caps : List (BitVec 15)
  deriving DecidableEq, Repr

/-- What a bring-up step finds (Table 17.1). -/
inductive BringUp where
  /-- Step 1 (R406): sense pin mated, input in 10 mV, precharge in time, the four pairs, lid closed, leak, a shorted rail, Lamps. -/
  | power (mated : Bool) (volt : BitVec 16) (charged : Bool) (pairs : List Pair) (lid leak : Bool) (short : Option (Fin 8))
      (lamps : List Lamp)
  /-- Step 2: the identity key passes its self-check (R384). -/
  | firmware (keyOk : Bool)
  /-- Step 3: failed tracks by region, DIMMs by socket. -/
  | memory (failed : List (BitVec 24)) (dimms : List Dimm)
  /-- Step 4: the measures, and the clusters that fail the power-on self-test by region. -/
  | calibrate (m : Measure) (failed : List (BitVec 9))
  /-- Step 5: bad lanes by Guyline port, Ethernet lanes locked by port. -/
  | lanes (bad : List (BitVec 16)) (eth : List (BitVec 4))
  /-- Step 6: the host ports that train, with speed and width as for HOST_LINK_TRAINED. -/
  | pcie (ports : List (Option (Fin 3 × Fin 4)))
  /-- Step 7: the Ethernet ports that come up. -/
  | ethernet (up : BitVec 2)
  /-- Step 8. -/
  | compass
  /-- Step 9. -/
  | guyline
  deriving DecidableEq, Repr

/-- A command of the block: one constructor per row of the opcode table. -/
inductive Instr where
  /-- REGISTER_WRITE (R7): a write of `v` to BAR0 offset `off` (a 4-byte write uses its low half). `hw` names the bits that the
  hardware sets in the same moment (R8). -/
  | registerWrite (q : Requester) (off : BitVec 26) (size8 : Bool) (v hw : BitVec 64)
  /-- REGISTER_READ_CLEAR (R7): a read of a register that holds RC fields; `hw` as for the write. -/
  | registerReadClear (q : Requester) (off : BitVec 26) (size8 : Bool) (hw : BitVec 64)
  /-- LOWER_HALF_READ_LATCH (R10): a 4-byte read of the lower half of a 64-bit register. -/
  | lowerHalfReadLatch (q : Requester) (off : BitVec 26)
  /-- BAR0_ODD_ACCESS (R10): an access of odd size or alignment outside the Peg window. -/
  | bar0OddAccess (q : Requester) (off : BitVec 26) (size : Size) (write : Bool) (v : BitVec 64)
  /-- PERMIT_RELEASE (R37): the pacer's next permit falls due. -/
  | permitRelease
  /-- BEGIN_BEAT (R28): a region begins its next beat, if it may. -/
  | beginBeat (r : Fin 32)
  /-- UNIT_ACKNOWLEDGE (R29): a unit slot acknowledges the beat in progress. -/
  | unitAcknowledge (r : Fin 32) (slot : Fin 64)
  /-- CROSSING_ARRIVAL (R32): the entry due at the beat in progress is delivered from crossing slot `i`; `flip` names a data or
  sideband bit received inverted, which the parity check finds (R129). -/
  | crossingArrival (r : Fin 32) (i : Fin 6) (flip : Option (BitVec 11))
  /-- PACE_EPOCH_BOUNDARY (R45): a pace epoch starts. `cap`: the lowest capability of a region now, `top`: its highest value
  in the epoch that ends, in beats per epoch (R48); `mv`: the core voltage reached, in mV (R46). -/
  | paceEpochBoundary (cap top : BitVec 15) (mv : BitVec 10)
  /-- PACE_ARM (R44): the write of the upper half of PACE_AT. -/
  | paceArm (q : Requester) (w : HalfWrite)
  /-- PACE_CANCEL (R44): a write of PACE_NEXT with CANCEL = 1. -/
  | paceCancel (q : Requester)
  /-- LAG_CEILING_HOLD (R42): the module's lag exceeds PACE_LAG_MAX. -/
  | lagCeilingHold
  /-- BEAT_HANG (R43): the hang timer of a region expires. -/
  | beatHang (r : Fin 32)
  /-- PITCH_APPLY (R71): PT_CMD.APPLY. -/
  | pitchApply (q : Requester)
  /-- PITCH_WITHDRAW (R72): PT_CMD.WITHDRAW. -/
  | pitchWithdraw (q : Requester)
  /-- PITCH_FORCED_WITHDRAW (R72): PT_CMD.WITHDRAW with FORCE. -/
  | pitchForcedWithdraw (q : Requester)
  /-- TRAIL_LOAD (R73): TR_CMD.LOAD. -/
  | trailLoad (q : Requester)
  /-- TRAIL_UNLOAD (Table 3.14): TR_CMD.UNLOAD. -/
  | trailUnload (q : Requester)
  /-- LAUNCH_ARM (R78): the write of the upper half of TR_LAUNCH_AT. -/
  | launchArm (q : Requester) (w : HalfWrite)
  /-- LAUNCH_START (R78, R288, R348): a launch count is reached. -/
  | launchStart (src : LaunchSource)
  /-- SLOAD with MODE 0 (R94). `nrows` is rows minus 1. -/
  | sloadWeights (r : Fin 32) (c : Fin 8) (sack : BitVec 2) (line : BitVec 13) (nrows : BitVec 7)
  /-- SLOAD with MODE 1 (R94). -/
  | sloadRawAdd (r : Fin 32) (c : Fin 8) (sack : BitVec 2) (line : BitVec 13) (nrows : BitVec 7) (acc : BitVec 4)
  /-- SMXS with TARGET 0 (R95). -/
  | smxsWeightScales (r : Fin 32) (c : Fin 8) (sack : BitVec 2) (line : BitVec 13)
  /-- SMXS with TARGET 1 (R95). -/
  | smxsAsb (r : Fin 32) (c : Fin 8) (sack : BitVec 2) (line : BitVec 13)
  /-- SFMT (R96). -/
  | sfmt (r : Fin 32) (c : Fin 8) (wfmt afmt : BitVec 4) (both keyld : Bool) (sack : BitVec 2) (line : BitVec 13)
  /-- SMAC (R97). `nvec` is vectors minus 1. -/
  | smac (r : Fin 32) (c : Fin 8) (sack : BitVec 2) (line : BitVec 13) (acc nvec : BitVec 4) (asb : BitVec 7) (flip : Bool)
  /-- SOUT (R98). -/
  | sout (r : Fin 32) (c : Fin 8) (acc : BitVec 4) (sack : BitVec 2) (line : BitVec 13) (ofmt : BitVec 4)
      (rmode sat clr : Bool) (oscale : BitVec 9) (sline : BitVec 13)
  /-- SCLR (R99). -/
  | sclr (r : Fin 32) (c : Fin 8) (banks : BitVec 16) (asb planes key : Bool)
  | kadd (r : Fin 32) (u : Fin 16) (o : KOps)
  | kmul (r : Fin 32) (u : Fin 16) (o : KOps)
  | kfma (r : Fin 32) (u : Fin 16) (o : KOps)
  | kmax (r : Fin 32) (u : Fin 16) (o : KOps)
  | kmin (r : Fin 32) (u : Fin 16) (o : KOps)
  | ksel (r : Fin 32) (u : Fin 16) (o : KOps)
  | kcmp (r : Fin 32) (u : Fin 16) (o : KOps)
  | kcvt (r : Fin 32) (u : Fin 16) (o : KOps)
  | kexp2 (r : Fin 32) (u : Fin 16) (o : KOps)
  | klog2 (r : Fin 32) (u : Fin 16) (o : KOps)
  | krcp (r : Fin 32) (u : Fin 16) (o : KOps)
  | krsq (r : Fin 32) (u : Fin 16) (o : KOps)
  | ktanh (r : Fin 32) (u : Fin 16) (o : KOps)
  | ksum (r : Fin 32) (u : Fin 16) (o : KOps)
  | kmerge (r : Fin 32) (u : Fin 16) (o : KOps)
  /-- KIDX with MODE 0 (R113): FUNC is 0. -/
  | kidxArgmax (r : Fin 32) (u : Fin 16) (o : KOps)
  /-- KIDX with MODE 1 (R113): FUNC is 1. -/
  | kidxCumsel (r : Fin 32) (u : Fin 16) (o : KOps)
  | krng (r : Fin 32) (u : Fin 16) (o : KOps)
  /-- KSR mode 0 (R119). -/
  | ksrSackToRegister (r : Fin 32) (u : Fin 16) (sack : BitVec 2) (line : BitVec 13) (reg : BitVec 5) (half : Bool)
  /-- KSR mode 1 (R119). -/
  | ksrRegisterToSack (r : Fin 32) (u : Fin 16) (sack : BitVec 2) (line : BitVec 13) (reg : BitVec 5) (half : Bool)
  /-- KSR mode 2 (R119). -/
  | ksrRegisterCopy (r : Fin 32) (u : Fin 16) (dst src : BitVec 5) (bcast : Bool) (lane : BitVec 6)
  /-- KSR mode 3 (R119). -/
  | ksrKeyLoad (r : Fin 32) (u : Fin 16) (sack : BitVec 2) (line : BitVec 13)
  /-- SRD (R126), in the slot of Sack `s`. -/
  | srd (r s : Fin 32) (dsack : BitVec 5) (line dline nlines : BitVec 13)
  /-- SWR with MODE 0 (R127). -/
  | swrFill (r s : Fin 32) (line nlines : BitVec 13) (imm : BitVec 16)
  /-- SWR with MODE 1 (R127). -/
  | swrPegSnapshot (r s : Fin 32) (line : BitVec 13) (peg : BitVec 9)
  /-- SGATH (R128). -/
  | sgath (r s : Fin 32) (iline : BitVec 13) (dsack : BitVec 5) (dline : BitVec 13) (base : BitVec 8) (wbits : BitVec 4)
      (nidx : BitVec 5)
  /-- PASS (R131) at face `f`: 0 to 3 the Poles N, E, S, W, 4 the Ridge, 5 the Hub, 6 the Guyline face (R148). -/
  | pass (r : Fin 32) (f : Fin 7) (ssack : BitVec 5) (sline : BitVec 13) (dsack : BitVec 5) (dline : BitVec 13)
      (nlines : BitVec 8)
  /-- SEND (R132). -/
  | send (r : Fin 32) (f : Fin 7) (ssack : BitVec 5) (sline : BitVec 13) (wid : BitVec 3) (seq0 : BitVec 16)
      (nlines : BitVec 8)
  /-- RWIN with OPEN = 1 (R133). `len` is lines minus 1. -/
  | rwinOpen (r : Fin 32) (f : Fin 7) (wid : BitVec 3) (dsack : BitVec 5) (base len : BitVec 13) (peg : BitVec 9)
  /-- RWIN with OPEN = 0 (R133). -/
  | rwinClose (r : Fin 32) (f : Fin 7) (wid : BitVec 3)
  /-- THRU where neither IN nor the output face is Guyline (R134); `inn` is a code of Table 6.9. -/
  | thru (r : Fin 32) (f : Fin 7) (inn : BitVec 3) (nbeats : BitVec 8) (dly : BitVec 4)
  /-- THRU where IN or the output face is Guyline (R134, R241). -/
  | thruGuyline (r : Fin 32) (f : Fin 7) (inn : BitVec 3) (nbeats : BitVec 8) (dly : BitVec 4)
  /-- PINC (R137). -/
  | pinc (r : Fin 32) (peg : BitVec 9) (amount : BitVec 16)
  /-- PSET with TGT = 0 (R137). -/
  | psetCount (r : Fin 32) (peg : BitVec 9) (value : BitVec 32)
  /-- PSET with TGT = 1 (R137). -/
  | psetMark (r : Fin 32) (peg : BitVec 9) (value : BitVec 32)
  /-- PERR with OP = 1 (R137). -/
  | perrSet (r : Fin 32) (peg : BitVec 9)
  /-- PERR with OP = 0 (R137). -/
  | perrClear (r : Fin 32) (peg : BitVec 9)
  /-- PWAIT (R138). -/
  | pwait (r : Fin 32) (peg : BitVec 9) (rel adv : Bool) (t : BitVec 24)
  /-- PWAIT_RECHECK (R139): the check of a stalled wait is repeated. -/
  | pwaitRecheck (r : Fin 32)
  /-- PEG_WAIT_LIMIT (R140): the time of a stalled wait reaches RG_PEG_WLIM. -/
  | pegWaitLimit (r : Fin 32)
  /-- PEG_WLIM_WRITE (R140): a write of RG_PEG_WLIM. -/
  | pegWlimWrite (q : Requester) (r : Fin 32) (v : BitVec 32)
  /-- PARM with DISARM = 0 (R142). -/
  | parmArm (r : Fin 32) (peg : BitVec 9) (rel : Bool) (nsrc : BitVec 2) (t : BitVec 24)
  /-- PARM with DISARM = 1 (R142). -/
  | parmDisarm (r : Fin 32) (peg : BitVec 9)
  /-- PEG_WINDOW_WRITE (R144): a host write at byte offset `off` of the Peg window. -/
  | pegWindowWrite (p : Fin 2) (off : BitVec 17) (size : Size) (v : BitVec 64)
  /-- CIDLE (R58). -/
  | cidle (r : Fin 32) (count : BitVec 32)
  /-- CREP (R58). -/
  | crep (r : Fin 32) (body : BitVec 12) (total : BitVec 32)
  /-- CBND (R62). -/
  | cbnd (r : Fin 32) (peg : BitVec 14) (shift : BitVec 5)
  /-- CHLT (R146). -/
  | chlt (r : Fin 32) (setseg : Bool) (gear : BitVec 2) (seg : BitVec 12)
  /-- FQPOST (R147). -/
  | fqpost (r : Fin 32) (queue : BitVec 6) (dsack : BitVec 5) (line : BitVec 13)
  /-- TACT (R155). -/
  | tact (r : Fin 32) (track : BitVec 5) (bank : BitVec 4) (row : BitVec 16) (xen : Bool) (x : BitVec 3)
  /-- TRD (R156). `nl` is lines minus 1. -/
  | trd (r : Fin 32) (track : BitVec 5) (bank col nl : BitVec 4) (sack : BitVec 5) (line : BitVec 13) (ap : Bool)
  /-- TWR (R156). -/
  | twr (r : Fin 32) (track : BitVec 5) (bank col nl : BitVec 4) (sack : BitVec 5) (line : BitVec 13) (ap : Bool)
  /-- TPRE (R157). -/
  | tpre (r : Fin 32) (track : BitVec 5) (bank : BitVec 4) (all : Bool)
  /-- TSLOT with KIND 0 (R159). -/
  | tslotRefresh (r : Fin 32) (mask : BitVec 24) (pair : BitVec 3)
  /-- TSLOT with KIND 1 (R163). -/
  | tslotFar (r : Fin 32) (mask : BitVec 24) (nbeats : BitVec 16)
  /-- TIDX with MODE 0 (R167). -/
  | tidxColumn (r : Fin 32) (track : BitVec 5) (bank : BitVec 4) (isack : BitVec 5) (iline : BitVec 13) (nlog : BitVec 2)
      (dsack : BitVec 5) (dline : BitVec 13)
  /-- TIDX with MODE 1 (R168). -/
  | tidxLoadIndex (r : Fin 32) (x : BitVec 3) (isack : BitVec 5) (iline : BitVec 13) (word : BitVec 5) (stride : BitVec 15)
      (count : BitVec 8)
  /-- TIMING_GUARD_SEND (R154): the last command or line of the beat held by the timing guard is through. -/
  | timingGuardSend (r : Fin 32)
  /-- GUARD_REFRESH (R161): a bank's time since its last refresh reaches its required interval. -/
  | guardRefresh (r : Fin 32) (t : Fin 24) (bank : Fin 16)
  /-- HELD_REFRESH (R165): a bank is refreshed while the pacer is HELD. -/
  | heldRefresh (r : Fin 32) (t : Fin 24) (bank : Fin 16)
  /-- BANK_RESTORE (R165): a track restores its banks before its region's first beat after T_r. -/
  | bankRestore (r : Fin 32) (t : Fin 24)
  /-- IDLE_TRACK_REFRESH (R164): a bank is refreshed while no program runs. -/
  | idleTrackRefresh (r : Fin 32) (t : Fin 24) (bank : Fin 16)
  /-- FAR_ACCESS_SERVE (R163): the oldest far access waiting on a track is served. -/
  | farAccessServe (r : Fin 32) (t : Fin 24)
  /-- TRACK_LAUNCH_QUIESCE (R164): a track closes its banks for a launch that is armed. -/
  | trackLaunchQuiesce (r : Fin 32) (t : Fin 24)
  /-- STACK_ERROR_RETRY (R170): a stack reports an error; `ok` says whether the one retry succeeds. -/
  | stackErrorRetry (r : Fin 32) (t : Fin 24) (kind : StackError) (ok : Bool)
  /-- STACK_TIMEOUT (R170): a stack returns no data within 4 × RDL. -/
  | stackTimeout (r : Fin 32) (t : Fin 24)
  /-- PATROL_SCRUB (R176): the patrol scrub has read the whole Barrel. -/
  | patrolScrub
  /-- BREAD (R179): request `k`, counted from the oldest, of far queue `q` is carried out. -/
  | bread (q : Fin 64) (k : Fin 32)
  /-- BWRITE (R179). -/
  | bwrite (q : Fin 64) (k : Fin 32)
  /-- HREAD (R179): `data` are the bytes that host memory returns; `err`: a completion error. -/
  | hread (q : Fin 64) (k : Fin 32) (data : List Byte) (err : Bool)
  /-- HWRITE (R179); `err`: the read that orders the writes ends in a completion error. -/
  | hwrite (q : Fin 64) (k : Fin 32) (err : Bool)
  /-- FILL (R187). -/
  | fill (q : Fin 64) (k : Fin 32)
  /-- SPILL (R187). -/
  | spill (q : Fin 64) (k : Fin 32)
  /-- SCRUB (R187). -/
  | scrub (q : Fin 64) (k : Fin 32)
  /-- CAIRN (R194). -/
  | cairn (q : Fin 64) (k : Fin 32)
  /-- FAR_COMPLETION (R180). -/
  | farCompletion (q : Fin 64) (k : Fin 32)
  /-- HUB_WINDOW_ARRIVAL (R184) at attachment 0 (W9) or 1 (E6); `flip` as for CROSSING_ARRIVAL. -/
  | hubWindowArrival (a : Fin 2) (flip : Option (BitVec 11))
  /-- FQ_ENABLE (R183): FQ_CTL(q).ENABLE. -/
  | fqEnable (w : Requester) (q : Fin 64)
  /-- FQ_DISABLE (R183): FQ_CTL(q).DISABLE. -/
  | fqDisable (w : Requester) (q : Fin 64)
  /-- FQ_FORCE_DISABLE (R183): FQ_CTL(q).DISABLE with FORCE. -/
  | fqForceDisable (w : Requester) (q : Fin 64)
  /-- FQ_DISABLE_EFFECT (R183). -/
  | fqDisableEffect (q : Fin 64)
  /-- STAGE (R191): BK_CMD with OP 1. -/
  | stage (w : Requester)
  /-- STAGE_COMPLETE (R193): staging has loaded its entries. -/
  | stageComplete
  /-- BUNK_LOAD (R190): BK_CMD with OP 2. -/
  | bunkLoad (w : Requester) (i : BitVec 16)
  /-- EVICT (R190): BK_CMD with OP 3. -/
  | evict (w : Requester) (i : BitVec 16)
  /-- INVAL (R190): BK_CMD with OP 4. -/
  | inval (w : Requester) (i : BitVec 16)
  /-- FLUSH (R190): BK_CMD with OP 5. -/
  | flush (w : Requester)
  /-- BK_LIST_WRITE (R191): a write of BK_LIST(i), or of BK_COUNT for i = 32. -/
  | bkListWrite (w : Requester) (i : Fin 33) (v : BitVec 32)
  /-- PACK_SLOT (R213): a pack slot of the sender of port `p`. -/
  | packSlot (p : Fin 10)
  /-- PACK_RECEIVE (R206): a pack arrives, as eight units of 32 bytes in stream order, each with the lane it came on (R204); with the
  symbols that the lanes' FEC has corrected in it and the codewords that it could not (R232). -/
  | packReceive (p : Fin 10) (units : List (Fin 16 × List Byte)) (corrected : BitVec 16) (lost : BitVec 8)
  /-- ACK_SEND (R210). -/
  | ackSend (p : Fin 10)
  /-- ACK (R211): a copy of a control symbol arrives, 64 bits (Table 9.7). -/
  | ack (p : Fin 10) (v : BitVec 64)
  /-- REPLAY_TIMEOUT (R212). -/
  | replayTimeout (p : Fin 10)
  /-- CREDIT_SEND (R219). -/
  | creditSend (p : Fin 10) (c : Fin 4)
  /-- CREDIT (R219). -/
  | credit (p : Fin 10) (v : BitVec 64)
  /-- CREDIT_TIMEOUT (R221). -/
  | creditTimeout (p : Fin 10) (c : Fin 4)
  /-- LANE_BAD (R222): a lane is found bad. -/
  | laneBad (p : Fin 10) (lane : Fin 16)
  /-- PAUSE_REQ (R223). -/
  | pauseReq (p : Fin 10) (v : BitVec 64)
  /-- PAUSE_ACK (R223). -/
  | pauseAck (p : Fin 10) (v : BitVec 64)
  /-- RESUME (R223). -/
  | resume (p : Fin 10) (v : BitVec 64)
  /-- IDENT (R227). -/
  | ident (p : Fin 10) (v : BitVec 64)
  /-- LINK_TRAINING_COMPLETE (R203): lanes that passed, the lane each arriving marker names (4 bits a lane), each lane's error rate as
  GL_LANE [15:8] gives it (8 bits a lane), the measured round trip in ns. -/
  | linkTrainingComplete (p : Fin 10) (good : BitVec 16) (markers : BitVec 64) (ber : BitVec 128) (rtt : BitVec 32)
  /-- RETRAIN_TIMEOUT (R223). -/
  | retrainTimeout (p : Fin 10)
  /-- LOCK_LOSS_TIMEOUT (R225): lock has been lost for GL_LOCK_TMO. -/
  | lockLossTimeout (p : Fin 10)
  /-- DOWN_RETRY (R225). -/
  | downRetry (p : Fin 10)
  /-- GL_ENABLE (R231): a write of GL_CTL.EN. -/
  | glEnable (w : Requester) (p : Fin 10) (en : Bool)
  /-- GL_RETRAIN (R223): GL_CTL.RETRAIN. -/
  | glRetrain (w : Requester) (p : Fin 10)
  /-- GL_RESTORE (R222): GL_CTL.RESTORE. -/
  | glRestore (w : Requester) (p : Fin 10)
  /-- GL_SPEED (R223): a write of GL_CTL.SPEED. -/
  | glSpeed (w : Requester) (p : Fin 10) (half : Bool)
  /-- SELF_COORD_WRITE (R228): a write of GL_SELF_COORD. -/
  | selfCoordWrite (w : Requester) (v : BitVec 32)
  /-- LANDING_RELEASE (R238). -/
  | landingRelease (p : Fin 10)
  /-- HOLD (R248): a copy of a control symbol arrives. -/
  | hold (p : Fin 10) (v : BitVec 64)
  /-- HOLD_REPEAT (R248). -/
  | holdRepeat
  /-- RELEASE_REPEAT (R250). -/
  | releaseRepeat
  /-- RELEASE (R250). -/
  | release (p : Fin 10) (v : BitVec 64)
  /-- TARP_RESUME (R251). -/
  | tarpResume
  /-- BND (R254). -/
  | bnd (p : Fin 10) (v : BitVec 64)
  /-- STRIKE (R260): an FM symbol of kind 2. -/
  | strike (p : Fin 10) (v : BitVec 64)
  /-- STOP_AT_SEND (R261): the write of the upper half of TARP_STOP_BND. -/
  | stopAtSend (w : Requester) (v : HalfWrite)
  /-- STOP_AT (R261): an FM symbol of kind 1. -/
  | stopAt (p : Fin 10) (v : BitVec 64)
  /-- PORT_DOWN_LIMIT (R259). -/
  | portDownLimit (p : Fin 10)
  /-- MESSAGE_FORWARD (R255): the oldest message of a receive buffer. -/
  | messageForward (p : Fin 10) (c : Fin 4)
  /-- ESCAPE_TIMEOUT (R257). -/
  | escapeTimeout (p : Fin 10) (c : Fin 4)
  /-- REFERENCE_FRAME (R281): the 19 symbols after a K28.5 mark, and the code violations met. -/
  | referenceFrame (frame : List Byte) (violations : BitVec 16)
  /-- SYMBOL_LOCK (Table 12.3). -/
  | symbolLock
  /-- SYMBOL_LOCK_LOSS (Table 12.3). -/
  | symbolLockLoss
  /-- HOLDOVER_SKEW_FAULT (R283). -/
  | holdoverSkewFault
  /-- SLEW_COMPLETE (R284). -/
  | slewComplete
  /-- PTP_SYNC_TIMEOUT (R285). -/
  | ptpSyncTimeout
  /-- PTP_OFFSET_WRITE (R285): the write of the upper half of CMP_PTP_OFS. -/
  | ptpOffsetWrite (q : Requester) (w : HalfWrite)
  /-- CYCLE_CONFIG_WRITE (R287): a write of CMP_CYC_CFG(j). -/
  | cycleConfigWrite (q : Requester) (j : Fin 4) (v : BitVec 32)
  /-- CYCLE_FIRE (R287). -/
  | cycleFire (j : Fin 4)
  /-- WAKE_SIGNAL (R289). -/
  | wakeSignal
  /-- CAPTURE_POP (R290): a read of CMP_CAP_INFO. -/
  | capturePop (q : Requester)
  /-- ZIPPER_WINDOW_DIGEST (R291). -/
  | zipperWindowDigest (r : Fin 32)
  /-- ZIPPER_BOUNDARY_DIGEST (R292). -/
  | zipperBoundaryDigest (r : Fin 32)
  /-- ZIP (R293): a copy of a control symbol arrives. -/
  | zip (p : Fin 10) (v : BitVec 64)
  /-- GEAR_LOG_POP (R306): a read of CR_GLOG_INFO. -/
  | gearLogPop (q : Requester)
  /-- GEAR_SCRIPT_PUSH (R307): the write of the upper half of CR_GSCRIPT. -/
  | gearScriptPush (q : Requester) (w : HalfWrite)
  /-- GEAR_SCRIPT_ENABLE (R307): a write of CR_GSCRIPT_STAT. -/
  | gearScriptEnable (q : Requester) (en : Bool)
  /-- WEIGHT_LOAD_OPEN (R312): CR_WCTL.OPEN. -/
  | weightLoadOpen (q : Requester)
  /-- WEIGHT_LOAD_CLOSE (R312): CR_WCTL.CLOSE. -/
  | weightLoadClose (q : Requester)
  /-- WEIGHT_LOAD_WRITE (R346): a BAR2 write of the weight-load source, at BAR2 offset `off`. -/
  | weightLoadWrite (p : Fin 2) (off : BitVec 36) (data : List Byte)
  /-- FIREWATCH_EPOCH (R320), with what the sensors read. -/
  | firewatchEpoch (x : Sensors)
  /-- EMERGENCY_HOLD_END (R328). -/
  | emergencyHoldEnd
  /-- PACE_ASK (R321): the lookout takes the oldest PACE_ASK of its sink. -/
  | paceAsk
  /-- LOOKOUT_EPOCH (R322). -/
  | lookoutEpoch
  /-- PACE_SET (R323): the oldest PACE_SET of the sink is taken. -/
  | paceSet
  /-- PACE_ACK (R324): the lookout takes the oldest PACE_ACK of its sink. -/
  | paceAck
  /-- PACE_ACK_DEADLINE (R324). -/
  | paceAckDeadline
  /-- GEAR_VOTE_CAST (R326). -/
  | gearVoteCast
  /-- GEAR (R326): a copy of a control symbol arrives. -/
  | gear (p : Fin 10) (v : BitVec 64)
  /-- GEAR_VOTE_TIMEOUT (R327). -/
  | gearVoteTimeout
  /-- THERMAL_TRIP (R318), with what the junctions read in 0.25 °C and the HBM cases in °C. -/
  | thermalTrip (junction : List (BitVec 10)) (hbm : List (BitVec 8))
  /-- THERMAL_RECOVERY (R318), with the same readings. -/
  | thermalRecovery (junction : List (BitVec 10)) (hbm : List (BitVec 8))
  /-- UNIT_WAKE (R330): the unit's gate starts its wake; or, once its time is over, the unit is awake. -/
  | unitWake (r : Fin 32) (slot : Fin 64)
  /-- UNIT_IDLE_ENTRY (R330): depth 1 to 3 is A1 to A3. -/
  | unitIdleEntry (r : Fin 32) (slot : Fin 64) (depth : Fin 4)
  /-- MODULE_STATE_CHANGE (R331). -/
  | moduleStateChange
  /-- HOST_PORT_RESET (R337): PERST#, or with `flr` a function-level reset. -/
  | hostPortReset (p : Fin 2) (flr : Bool)
  /-- HOST_LINK_TRAINED (R336): `speed` 0 to 2 is 16, 32, 64 GT/s, `width` the power of two. -/
  | hostLinkTrained (p : Fin 2) (speed : Fin 3) (width : Fin 4)
  /-- HOST_LINK_DOWN (R357). -/
  | hostLinkDown (p : Fin 2)
  /-- ACQUIRE (R341): HST_LEASE_CMD by a port. -/
  | acquire (p : Fin 2)
  /-- RENEW (R341). -/
  | renew (p : Fin 2)
  /-- RELEASE_LEASE (R341). -/
  | releaseLease (p : Fin 2)
  /-- LEASE_EXPIRY (R341). -/
  | leaseExpiry
  /-- VESTIBULE_WRITE (R343): a BAR2 write of at most 512 bytes. -/
  | vestibuleWrite (p : Fin 2) (off : BitVec 36) (data : List Byte) (poisoned : Bool)
  /-- VESTIBULE_READ (R344): a BAR2 read of `len` bytes. -/
  | vestibuleRead (p : Fin 2) (off : BitVec 36) (len : BitVec 13)
  /-- VESTIBULE_READ_TIMEOUT (R344). -/
  | vestibuleReadTimeout (p : Fin 2)
  /-- INFO (R351): FC_CMD written by a port; its arguments stand in FC_ARG and FC_DATA. -/
  | info (p : Fin 2) (seq : BitVec 8)
  /-- EVENTS (R351). -/
  | events (p : Fin 2) (seq : BitVec 8)
  /-- COORD (R351). -/
  | coord (p : Fin 2) (seq : BitVec 8)
  /-- NET_CFG (R351). -/
  | netCfg (p : Fin 2) (seq : BitVec 8)
  /-- NET_LOAD (R351). -/
  | netLoad (p : Fin 2) (seq : BitVec 8)
  /-- NET_PUT (R351). -/
  | netPut (p : Fin 2) (seq : BitVec 8)
  /-- NET_GET (R351). -/
  | netGet (p : Fin 2) (seq : BitVec 8)
  /-- NETWORK_COMMAND_COMPLETE (R350): the transfer ends, with the data fetched and the frames that Ethernet port `e` has sent for it;
  `ok` false: it failed. -/
  | networkCommandComplete (ok : Bool) (data : List Byte) (e : Fin 2) (frames : BitVec 64)
  /-- TLM_CFG (R351). -/
  | tlmCfg (p : Fin 2) (seq : BitVec 8)
  /-- RESET (R351). -/
  | reset (p : Fin 2) (seq : BitVec 8)
  /-- CANCEL (R350). -/
  | cancel (p : Fin 2) (seq : BitVec 8)
  /-- ATTEST (R385). -/
  | attest (p : Fin 2) (seq : BitVec 8)
  /-- CERT (R394). -/
  | cert (p : Fin 2) (seq : BitVec 8)
  /-- MAP (R394). -/
  | map (p : Fin 2) (seq : BitVec 8)
  /-- FW_STAGE (R394). -/
  | fwStage (p : Fin 2) (seq : BitVec 8)
  /-- FW_ACTIVATE (R394). -/
  | fwActivate (p : Fin 2) (seq : BitVec 8)
  /-- SELFTEST (R391). -/
  | selftest (p : Fin 2) (seq : BitVec 8)
  /-- ST_STATUS (R394). -/
  | stStatus (p : Fin 2) (seq : BitVec 8)
  /-- ST_CANCEL (R394). -/
  | stCancel (p : Fin 2) (seq : BitVec 8)
  /-- TELEMETRY_SEND (R354). -/
  | telemetrySend
  /-- ETHERNET_FRAME (R353): a frame without its FCS, and what the receiver finds of it. -/
  | ethernetFrame (e : Fin 2) (frame : List Byte) (check : FrameCheck)
  /-- ETHERNET_LINK_DOWN (R353): the lanes still locked. -/
  | ethernetLinkDown (e : Fin 2) (lanes : BitVec 4)
  /-- MSIX_UNBLOCK (R352): a blocking condition of a port clears. -/
  | msixUnblock (p : Fin 2) (gate : MsixGate)
  /-- WHISTLE_TIMER (R362). -/
  | whistleTimer (n : Fin 1024)
  /-- WHISTLE_DELIVER (R363). -/
  | whistleDeliver (n : Fin 1024)
  /-- WHISTLE_SERVICE_END (R363): a write of WH_INSV(w). -/
  | whistleServiceEnd (q : Requester) (w : Fin 32) (v : BitVec 32)
  /-- WHISTLE_PEND_SET (R363): a write of WH_PEND_SET(w). -/
  | whistlePendSet (q : Requester) (w : Fin 32) (v : BitVec 32)
  /-- WHISTLE_PEND_CLEAR (R363): a write of WH_PEND(w). -/
  | whistlePendClear (q : Requester) (w : Fin 32) (v : BitVec 32)
  /-- WHISTLE_SOURCE_CONFIG (R360): a write of WH_SRC_CFG(n), or with `time` of WH_SRC_CTIME(n). -/
  | whistleSourceConfig (q : Requester) (n : Fin 1024) (time : Bool) (v : BitVec 32)
  /-- WHISTLE_RETENTION_WAKE (R366); `ok`: the retained copy passes its check. -/
  | whistleRetentionWake (ok : Bool)
  /-- LANTERN_CLEAR (R371): LN_CTL.CLEAR. -/
  | lanternClear (q : Requester)
  /-- LANTERN_THAW (R372): LN_CTL.THAW. -/
  | lanternThaw (q : Requester)
  /-- LANTERN_FREEZE_ARM (R373): the write of the upper half of LN_FREEZE. -/
  | lanternFreezeArm (q : Requester) (w : HalfWrite)
  /-- LANTERN_SNAPSHOT (R372). -/
  | lanternSnapshot
  /-- BANDWIDTH_WINDOW (R374). -/
  | bandwidthWindow
  /-- TRACE_RECORD (R376). -/
  | traceRecord (r : Fin 32)
  /-- TRACE_RESET (R376): LN_TRACE_CFG.RESET. -/
  | traceReset (q : Requester)
  /-- POWER_ON (R379). -/
  | powerOn
  /-- BRING_UP_STEP (R379): the step in progress completes with what it found. -/
  | bringUpStep (x : BringUp)
  /-- BRING_UP_STEP_TIMEOUT (R379). -/
  | bringUpStepTimeout
  /-- MODULE_RESET (R395): a level-3 fault, by the 12 low bits of its code. -/
  | moduleReset (code : BitVec 12)
  /-- RANGER_WATCHDOG (R395). -/
  | rangerWatchdog
  /-- SPARE_SWEEP (R389): a pass over physical cluster `k` of a region. -/
  | spareSweep (r : Fin 32) (k : Fin 9) (pass : Bool)
  /-- SELFTEST_RUN (R390). -/
  | selftestRun
  /-- SELFTEST_COMPLETE (R393): failed clusters and tracks by region. -/
  | selftestComplete (clusters : List (BitVec 9)) (tracks : List (BitVec 24))
  /-- SELFTEST_TIMEOUT (R391). -/
  | selftestTimeout
  /-- RECALIBRATION (R388). -/
  | recalibration (m : Measure)
  /-- INPUT_UNDERVOLTAGE (R400): the highest input of the last `us` microseconds, in 10 mV. -/
  | inputUndervoltage (volt : BitVec 16) (us : BitVec 32)
  /-- INPUT_OVERVOLTAGE (R400): the lowest input of the last `us` microseconds, in 10 mV. -/
  | inputOvervoltage (volt : BitVec 16) (us : BitVec 32)
  /-- INPUT_RESTORED (R400): the lowest and the highest input of the last `ms` milliseconds, in 10 mV. -/
  | inputRestored (low high : BitVec 16) (ms : BitVec 32)
  /-- SENSE_PIN_BREAK (R401). -/
  | sensePinBreak
  /-- ENTRY_LIMIT_UPDATE (R402): the epoch's samples of the input, in 10 mV, and of the pairs. -/
  | entryLimitUpdate (volt : BitVec 16) (pairs : List Pair)
  /-- PAIR_LOST (R402), with the pairs' samples. -/
  | pairLost (i : Fin 4) (pairs : List Pair)
  /-- PAIR_RETURN (R402), with the pairs' samples. -/
  | pairReturn (i : Fin 4) (pairs : List Pair)
  /-- PAIR_SHORTAGE (R403). -/
  | pairShortage
  /-- PAIR_RESTORED (R403). -/
  | pairRestored
  /-- RAIL_SHORT (R404). -/
  | railShort (k : Fin 8)
  /-- LAMP_FAIL (R408): the Lamp's output and its setting in mW, whether its self-check passes, and the output of its partner from now
  on. -/
  | lampFail (l : Fin 8) (own setting : BitVec 16) (check : Bool) (power : BitVec 16)
  /-- LAMP_REMOVE (R409). -/
  | lampRemove (l : Fin 8) (power : BitVec 16)
  /-- LAMP_INSERT (R409). -/
  | lampInsert (l : Fin 8) (typeOk : Bool) (serial : BitVec 64)
  /-- LAMP_RAMP_DONE (R409): the Lamp's own output and its partner's. -/
  | lampRampDone (l : Fin 8) (own other : BitVec 16)
  /-- FIBRE_OPEN (R410): a pair by its bit of LAMP_OPEN, and how long it has been dark. -/
  | fibreOpen (q : Fin 55) (us : BitVec 32)
  /-- FIBRE_PROBE (R410). -/
  | fibreProbe (q : Fin 55)
  /-- FIBRE_RESTORED (R410), with how long light has been received. -/
  | fibreRestored (q : Fin 55) (us : BitVec 32)
  /-- COOLANT_LEAK (R411). -/
  | coolantLeak
  /-- LID_OPEN (R412). -/
  | lidOpen
  /-- TRAIL_LOAD_COMPLETE (R73). -/
  | trailLoadComplete
  /-- ETHERNET_LINK_UP (R353): the lanes locked. -/
  | ethernetLinkUp (e : Fin 2) (lanes : BitVec 4)
  /-- LINK_LOCK_RETURN (R223). -/
  | linkLockReturn (p : Fin 10)
  deriving DecidableEq, Repr

end Sys2Proof
end

