-- ==== Sys2Proof/Machine/RegionState.lean ====
section
/-!
DEFINITION. Machine/RegionState.lean: the state of one region: its beats, units, Pegs, windows, crossings and tracks
(chapters 02 to 07), and the work that earlier beats have left due at later ones.
-/

namespace Sys2Proof.Machine

/-- A weight plane of a Stove (Table 4.1). Scales are keyed 8 × row + block and default to 127. -/
structure Plane where
  rows : Store Line
  scales : Store Byte
  wfmt : Nat
  elemOk : Bool
  scaleOk : Bool
  deriving DecidableEq, Repr

/-- A plane at launch. -/
def Plane.launch : Plane := { rows := [], scales := [], wfmt := 0, elemOk := false, scaleOk := false }

/-- One logical Stove (Table 4.1) with the beats its pipes and planes are taken until (Table 4.5, R92). `acc` is keyed
128 × bank + row. `lFree`, `mFree` and `oFree` are the first beats at which a pipe is free; `landing` is the first beat at
which no plane load is landing; `useEnd` holds, for planes 0 and 1, the first beat at which no SMAC uses the plane. -/
structure Stove where
  plane0 : Plane
  plane1 : Plane
  act : Bool
  afmt : Nat
  asb : Store Byte
  acc : Store Acc
  k0 : W32
  k1 : W32
  tid : W32
  eidx : W64
  lFree : Nat
  mFree : Nat
  oFree : Nat
  landing : Nat
  useEnd0 : Nat
  useEnd1 : Nat
  deriving DecidableEq, Repr

/-- A Stove at launch (Table 4.1). -/
def Stove.launch : Stove :=
  { plane0 := Plane.launch, plane1 := Plane.launch, act := false, afmt := 0, asb := [], acc := [], k0 := 0, k1 := 0,
    tid := 0, eidx := 0, lFree := 0, mFree := 0, oFree := 0, landing := 0, useEnd0 := 0, useEnd1 := 0 }

/-- One logical Kettle (Table 5.1): vector registers by number, random key and sticky flags. -/
structure Kettle where
  regs : Store Vec
  k0 : W32
  k1 : W32
  stream : W32
  step : W32
  eidx : W64
  flags : KFlags
  deriving DecidableEq, Repr

/-- A Kettle at launch. -/
def Kettle.launch : Kettle := { regs := [], k0 := 0, k1 := 0, stream := 0, step := 0, eidx := 0, flags := {} }

/-- One Peg (R135). -/
structure Peg where
  count : W32
  err : Bool
  mark : W32
  thr : W32
  armed : Bool
  nsrc : Nat
  deriving DecidableEq, Repr

/-- A Peg with every field 0. -/
def Peg.zero : Peg := { count := 0, err := false, mark := 0, thr := 0, armed := false, nsrc := 0 }

/-- A receive window of a face (R133). `len` is the number of lines. -/
structure Window where
  isOpen : Bool
  dsack : Nat
  base : Nat
  len : Nat
  peg : Nat
  drop : Bool
  deriving DecidableEq, Repr

/-- A closed window that has dropped nothing. -/
def Window.closed : Window := { isOpen := false, dsack := 0, base := 0, len := 0, peg := 0, drop := false }

/-- A crossing entry on its way to this region (R32, R129): data, sideband, the producer's beat and slot, the beat its action
issued at, and the beat at which it is due here. `alt` is the sideband of the entry lost in a port collision (R36). -/
structure Entry where
  data : Line
  side : W64
  made : Nat
  slot : Nat
  issue : Nat
  due : Nat
  alt : Option W64
  deriving DecidableEq, Repr

/-- A THRU in progress (R134): output face, arrival it forwards, first and last beat, delay. -/
structure Thru where
  out : Nat
  inn : Nat
  first : Nat
  last : Nat
  dly : Nat
  deriving DecidableEq, Repr

/-- Where a line read by a movement action goes. -/
inductive Dest where
  /-- A Sack line of the region, present `delay` beats after the read. -/
  | sack (s line delay : Nat)
  /-- The crossing of a Pole, Ridge or Hub face, with its sideband but for tag and parity; `extra` detour beats. -/
  | face (f : Nat) (side : W64) (extra : Nat)
  /-- The home port: window and sequence number of the record, entering it `delay` beats after the read. -/
  | guyline (wid seq delay : Nat)
  deriving DecidableEq, Repr

/-- What a beat does later: one effect of an action, at the beat it is due (R11, R29). -/
inductive Micro where
  /-- Bytes of a Sack line written; bit j of `mask` takes byte j. -/
  | sackPut (s line : Nat) (v : Line) (mask : BitVec 128)
  /-- A Guyline record landing in the Sack of its window, whose write port its face owns (R238, R239). -/
  | landPut (s line : Nat) (v : Line)
  /-- A track's line delivered to a Sack; `ue` raises 0x2702 (R169); `arrive` is the real time it is there (R154). -/
  | trackPut (s line : Nat) (v : Line) (ue : Bool) (arrive : Nat)
  | planePut (c : Fin 8) (p : Bool) (row : Nat) (v : Line)
  | elemOk (c : Fin 8) (p : Bool)
  | scalePut (c : Fin 8) (p : Bool) (m : Nat) (v : Line)
  | scaleOk (c : Fin 8) (p : Bool)
  | asbPut (c : Fin 8) (v : Line)
  | accAdd (c : Fin 8) (bank row : Nat) (vals : List Acc)
  | stoveFmt (c : Fin 8) (wfmt afmt : Nat) (both : Bool)
  | stoveKey (c : Fin 8) (k0 k1 tid : W32) (eidx : W64)
  | kregPut (u : Fin 16) (reg : Nat) (v : Vec)
  | khalfPut (u : Fin 16) (reg : Nat) (hi : Bool) (v : Line)
  | kkeyPut (u : Fin 16) (k0 k1 stream step : W32) (eidx : W64)
  | pegCount (p : Nat) (v : W32)
  | pegMark (p : Nat) (v : W32)
  | pegErr (p : Nat) (on : Bool)
  | pegInc (p : Nat) (n : Nat)
  /-- The count of a landed Guyline record (R238). -/
  | landInc (p : Nat)
  | pegArm (p : Nat) (nsrc thr : Nat)
  | pegDisarm (p : Nat)
  /-- An index register loaded; none: out of range (R168). -/
  | xregPut (x : Nat) (v : Option Nat)
  /-- A record entering the home port (R132, R237), sent through the Guyline face in beat `used`. -/
  | portPut (wid seq used : Nat) (v : Line)
  /-- A line leaving by a face later than it was read: a forwarded Guyline record (R241), or, with `used`, a line of a detoured
  cluster whose action held the face in beat `used` (R67, R131). -/
  | facePut (f : Nat) (side : W64) (used : Option Nat) (v : Line)
  /-- One beat of a THRU with IN = 6: output face and delay (R241). -/
  | thruTake (out dly : Nat)
  /-- The column command of a TIDX MODE 0 (R167): track, bank, index in range or not, lines, destination. -/
  | tidxColumn (t bank : Nat) (idx : Option Nat) (nl dsack dline : Nat)
  /-- KSR mode 2, after the register writes of its beat and before its reads (R119). -/
  | kcopy (u : Fin 16) (dst src : Nat) (bcast : Option Nat)
  /-- A Sack line read and sent on; no line: a zero line, the port used all the same (R128). -/
  | move (src : Nat) (line : Option Nat) (dest : Dest)
  | planeRead (c : Fin 8) (p : Bool) (row src line : Nat)
  | rawRead (c : Fin 8) (bank row src line : Nat)
  | scaleRead (c : Fin 8) (p : Bool) (m src line : Nat)
  /-- An activation vector read (R97): plane, formats, bank, first ASB entry. -/
  | macRead (c : Fin 8) (p : Bool) (wf af bank asb0 src line : Nat)
  /-- The same vector arrived at the array, its scales taken from the ASB now; the adds are due `wait` beats on. -/
  | macArrive (c : Fin 8) (p : Bool) (wf af bank asb0 wait : Nat) (v : Line)
  /-- A Kettle instruction at the beat it reads its registers; `opa` is operand A read from a Sack pair (R105). -/
  | kexec (u : Fin 16) (op : KOp) (o : KOps) (opa : Option Vec) (key : Option (Quad × W32 × W32))
  /-- KSR mode 1 at the beat it reads its register. -/
  | ksrStore (u : Fin 16) (reg : Nat) (hi : Bool) (s line : Nat)
  /-- A TWR line read from its Sack and written to HBM line `addr` (R156). -/
  | twrRead (src line addr : Nat)
  /-- A TWR line of a detoured cluster's Sack, at the stack 12 beats after its read (R67). -/
  | hbmPut (addr : Nat) (v : Line)
  deriving DecidableEq, Repr

/-- An effect with the beat it is due at, the beat of the action that issued it, and that action's slot. -/
structure Due where
  beat : Nat
  issue : Nat
  slot : Nat
  op : Micro
  deriving DecidableEq, Repr

/-- An unsatisfied wait of the region (R139, R147): a PWAIT, or an FQPOST on a full queue with its descriptor. `since` is the
time at which the check first failed. -/
inductive Wait where
  | pwait (peg : Nat) (rel adv : Bool) (t : Nat) (since : Nat)
  | fqpost (queue : Nat) (desc : Line) (since : Nat)
  /-- A THRU that found no record (R241): output face and delay. -/
  | thru (out dly : Nat) (since : Nat)
  deriving DecidableEq, Repr

/-- A CREP body being run (R58): its first and its end position among the row words, and the runs still to start. -/
structure Loop where
  first : Nat
  stop : Nat
  left : Nat
  deriving DecidableEq, Repr

/-- Where the region control stands in its row store (R54, R58). `start` is the beat of row 0; `pos` indexes the row words of
the record; `idle` counts empty rows still to pass. -/
structure Fetch where
  active : Bool
  seg : Nat
  gear : Nat
  start : Nat
  pos : Nat
  idle : Nat
  loops : List Loop
  deriving DecidableEq, Repr

/-- Nothing to fetch. -/
def Fetch.none : Fetch := { active := false, seg := 0, gear := 0, start := 0, pos := 0, idle := 0, loops := [] }

/-- What the track group keeps of one bank (R153). Beats are those of the commands; `pre` is the beat at which a pending or
started precharge starts. `refreshed` is the time of the last refresh. -/
structure Bank where
  row : Option Nat
  actAt : Nat
  wrEnd : Nat
  pre : Option Nat
  /-- First beat at which a TACT may follow the last TSLOT that named the bank (RFC). -/
  refAt : Nat
  /-- Time of the last refresh. -/
  refreshed : Nat
  /-- Real times from which the stack takes an activate, a column command and a precharge of this bank (R154). -/
  actReady : Nat
  colReady : Nat
  preReady : Nat
  deriving DecidableEq, Repr

/-- A closed bank, never used. -/
def Bank.idle : Bank :=
  { row := none, actAt := 0, wrEnd := 0, pre := none, refAt := 0, refreshed := 0, actReady := 0, colReady := 0, preReady := 0 }

/-- What the track group keeps of one track: the first beats at which the bus, any command, a read or a write may follow, the
beats of the last activates with their banks, the bank index of the far slot's end, and the real time its stack answers. -/
structure Track where
  busFree : Nat
  slotFree : Nat
  readFree : Nat
  writeFree : Nat
  acts : List (Nat × Nat)
  farEnd : Nat
  hot : Bool
  /-- Real times from which the stack takes a column command, a read, a write, and any command (R154). -/
  busReady : Nat
  readReady : Nat
  writeReady : Nat
  cmdReady : Nat
  /-- The last activates sent, with their real times and banks (R154). -/
  sent : List (Nat × Nat)
  /-- Banks that a hold's far service closed, as the Trail left them (R165). -/
  saved : List (Nat × Bank)
  /-- Longest interval between refreshes of any bank since the last read, in ticks (RG_TK_REFAGE). -/
  refAge : Nat
  deriving DecidableEq, Repr

/-- A track with nothing in progress. -/
def Track.idle : Track :=
  { busFree := 0, slotFree := 0, readFree := 0, writeFree := 0, acts := [], farEnd := 0, hot := false, busReady := 0, readReady := 0,
    writeReady := 0, cmdReady := 0, sent := [], saved := [], refAge := 0 }

/-- One region. -/
structure Region where
  /-- RG_BEAT: beats begun since launch (R50). -/
  begun : Nat
  /-- Beats completed since launch (R28). -/
  completed : Nat
  /-- Slots that have acknowledged the beat in progress (R28, R29). -/
  acked : BitVec 64
  /-- The beat in progress still expects arrivals, and its row has not issued. -/
  rowWait : Bool
  /-- Time at which the hang timer of the beat in progress last started (R43). -/
  hangFrom : Nat
  /-- Time at which the beat in progress began (R368). -/
  begunAt : Nat
  /-- The region has waited for a permit, or for its neighbours, since its last beat (Table 16.5). -/
  permitWait : Bool
  slackWait : Bool
  /-- Declared waits by slot (R43). -/
  waits : List (Nat × Wait)
  /-- Slots that withhold their acknowledgement in a declared wait with no record of its own: port unit, timing guard
  (R43). -/
  held : BitVec 64
  /-- Slots whose acknowledgement the late wake of their unit withholds (R330). -/
  asleep : BitVec 64
  /-- Real time at which the timing guard lets go (R154). -/
  guard : Nat
  due : List Due
  /-- Sack read ports used in the beat in progress, with the slot (R123). -/
  readers : List (Nat × Nat)
  /-- Sack write ports used in the beat in progress: Sack, line, slot. -/
  writers : List (Nat × Nat × Nat)
  /-- Faces used in the beat in progress, with the slot. -/
  faces : List (Nat × Nat)
  fetch : Fetch
  /-- Rows begun in the current segment (TR_ROW). -/
  rowsBegun : Nat
  /-- The beat of the last CBND, if one was taken since launch (R55). -/
  bndBeat : Option Nat
  sacks : Store Line
  stoves : Vector Stove 8
  kettles : Vector Kettle 16
  pegs : Store Peg
  /-- Increments and ERR whose beat is not fixed, waiting for the next beat (R136): Peg, amount, ERR. -/
  pegLater : List (Nat × Nat × Bool)
  /-- Windows keyed 8 × face + window. -/
  windows : Store Window
  thrus : List Thru
  /-- Entries on their way to this region, per arriving crossing (R50). -/
  xings : Vector (List Entry) 6
  /-- OCC_PEAK of each crossing (R50). -/
  occPeak : Vector Nat 6
  tracks : Store Track
  /-- Banks keyed 16 × track + bank. -/
  banks : Store Bank
  /-- Index registers with their OOR flags (R168). -/
  xregs : Vector (BitVec 16 × Bool) 8
  /-- Self-timed capability in beats per epoch (R46). -/
  cap : Nat
  /-- Units in an idle state, by slot: depth 1 to 3 (R330), 0 awake. -/
  idleOf : Store Nat
  /-- Units whose gate has started their wake, by slot: when it is over (R330). -/
  waking : Store Nat
  deriving DecidableEq, Repr

/-- A region at reset. -/
def Region.reset : Region :=
  { begun := 0, completed := 0, acked := 0, rowWait := false, hangFrom := 0, begunAt := 0, permitWait := false, slackWait := false, waits := [], held := 0, asleep := 0, guard := 0, due := [],
    readers := [], writers := [], faces := [], fetch := Fetch.none, rowsBegun := 0, bndBeat := none, sacks := [],
    stoves := Vector.replicate 8 Stove.launch, kettles := Vector.replicate 16 Kettle.launch, pegs := [], pegLater := [],
    windows := [], thrus := [], xings := Vector.replicate 6 [], occPeak := Vector.replicate 6 0, tracks := [],
    banks := [], xregs := Vector.replicate 8 (0, false), cap := 0, idleOf := [], waking := [] }

end Sys2Proof.Machine
end

