-- ==== Sys2Proof/Machine/FarState.lean ====
section
/-!
DEFINITION. Machine/FarState.lean: the state of the far path (chapter 08): far requests, Hub windows, the Bunk store, the Topo
cache and the weight load (R312).
-/

namespace Sys2Proof.Machine

/-- The Hub window of a SRCW request (R184). `opens` is the beat at whose end it opens; `undef`: an SEQ arrived twice, so the
data are undefined. -/
structure HubWin where
  hub : Nat
  wid : Nat
  len : Nat
  opens : Nat
  isOpen : Bool
  count : Nat
  lines : Store Line
  undef : Bool
  deriving DecidableEq, Repr

/-- An outstanding far request (R177): its number, queue, owner region, FQPOST beat and descriptor. `done`: it has been carried
out, or has met a poison cause. `served` are the tracks that serve it, each with the end of the far slot in which it does while the
pacer runs (R163); `moved` are the tracks whose part of its bytes has moved, `pages` the pages it has handled. -/
structure FarReq where
  id : Nat
  queue : Nat
  owner : Nat
  beat : Nat
  desc : Line
  win : Option HubWin
  done : Bool
  poison : Option Nat
  served : List (Nat × Option Nat) := []
  moved : List Nat := []
  pages : Nat := 0
  deriving DecidableEq, Repr

/-- A Bunk entry in the store (R190): its 256 bytes, and whether they differ from the table in HBM. -/
structure BunkEntry where
  bytes : List Byte
  changed : Bool
  deriving DecidableEq, Repr

/-- The weight load (R312): bytes hashed in delivery order, the next expected offset, the marked 1 MiB pages. -/
structure WeightLoad where
  bytes : List Byte
  next : Nat
  pages : List Nat
  deriving DecidableEq, Repr

/-- A wait of some access for its tracks (R163 to R165): global track number and the number of the request or access. -/
structure TrackWait where
  track : Nat
  id : Nat
  deriving DecidableEq, Repr

/-- The far path of the module. `seq` numbers requests and Vestibule accesses; `waits` are accesses not yet served by their
tracks, oldest first. -/
structure Far where
  seq : Nat
  reqs : List FarReq
  waits : List TrackWait
  /-- The Bunk store by index. -/
  bunks : Store BunkEntry
  /-- The sessions that a STAGE in progress is loading (R190). -/
  loading : Option (List Nat)
  /-- The staged launch list, and the list of the last launch. -/
  staged : List Nat
  running : List Nat
  /-- A launch waits for staging before its Bunk load (R193). -/
  bunkWait : Bool
  /-- Cached Topo entries by entry number (R188). -/
  topo : Store (BitVec 128)
  weights : WeightLoad
  deriving DecidableEq, Repr

/-- An idle far path. -/
def Far.reset : Far :=
  { seq := 0, reqs := [], waits := [], bunks := [], loading := none, staged := [], running := [], bunkWait := false,
    topo := [], weights := { bytes := [], next := 0, pages := [] } }

end Sys2Proof.Machine
end

