-- ==== Sys2Proof/Machine/LinkState.lean ====
section
/-!
DEFINITION. Machine/LinkState.lean: the state of one Guyline port (chapters 09 and 10).
-/

namespace Sys2Proof.Machine

/-- Link states (Table 9.9). -/
inductive LinkMode where
  | off
  | training
  | ident
  | up
  | degraded
  | retrain
  | down
  deriving DecidableEq, Repr

/-- GL_LINK_STAT.STATE of a mode. -/
def LinkMode.code : LinkMode → Nat
  | .off => 0
  | .training => 1
  | .ident => 2
  | .up => 3
  | .degraded => 4
  | .retrain => 5
  | .down => 6

/-- A pack not yet acknowledged (R211): its sequence number, channel, bytes 0 to 247, and when it was last sent. -/
structure SentPack where
  seq : Nat
  chan : Nat
  bytes : List Byte
  sentAt : Nat
  deriving DecidableEq, Repr

/-- A record on its way out (R208). -/
structure OutRec where
  wid : Nat
  seq : Nat
  sbeat : Nat
  data : Line
  deriving DecidableEq, Repr

/-- A record in the ingress store (R237). `since` is the number of beats its home region had begun when it entered. -/
structure InRec where
  wid : Nat
  seq : Nat
  data : Line
  since : Nat
  deriving DecidableEq, Repr

/-- An unscheduled message in a receive buffer (R255): its packs' payloads, whether EOM has come, whether it has moved to UESC,
since when it has waited for credits (R257), and up to when GL_CSTALL holds that (R263). -/
structure Message where
  packs : List (List Byte)
  complete : Bool
  esc : Bool
  since : Nat
  counted : Nat
  deriving DecidableEq, Repr

/-- One credited sub-channel (R219): as sender the adopted capacity, the FREED count received and the packs sent, all since the
last INIT, with the packs waiting; as receiver the FREED count, what was last sent and when, and the messages held. -/
structure Channel where
  cap : Nat
  freedSeen : Nat
  sent : Nat
  tx : List (List Byte)
  /-- Since when a pack has waited with no credit (R221). -/
  stallSince : Option Nat
  freed : Nat
  freedTold : Nat
  toldAt : Nat
  rx : List Message
  deriving DecidableEq, Repr

/-- An idle sub-channel. -/
def Channel.idle : Channel :=
  { cap := 0, freedSeen := 0, sent := 0, tx := [], stallSince := none, freed := 0, freedTold := 0, toldAt := 0, rx := [] }

/-- How far a training or retrain has come (Table 9.10): the partner has paused, this side's lanes have passed, identity and epoch
are agreed, and the LANES of a RESUME that has come. -/
structure Training where
  paused : Bool
  passed : Bool
  agreed : Bool
  resume : Option (BitVec 16)
  deriving DecidableEq, Repr

/-- Nothing done yet. -/
def Training.start : Training := { paused := false, passed := false, agreed := false, resume := none }

/-- One Guyline port. Sequence numbers and counts are modulo 2^32. -/
structure Port where
  mode : LinkMode
  idstat : Nat
  width : Nat
  good : BitVec 16
  removed : BitVec 16
  /-- Consecutive failed retrains (R223). -/
  failed : Nat
  epoch : W32
  /-- This side's epoch proposal and the partner's, once received (R224). -/
  proposal : W32
  txNext : Nat
  buffer : List SentPack
  /-- Sequence numbers due for replay, in order. -/
  replay : List Nat
  /-- The egress record queue, oldest first, and how many bytes of its head record are already in packs. -/
  egress : List OutRec
  cut : Nat
  /-- Records that the port unit must accept but cannot yet (R215). -/
  blocked : List OutRec
  rxNext : Nat
  /-- Bytes held of the record being received; none: the stream is taken up at the next FIRST offset. -/
  part : Option (List Byte)
  landing : List InRec
  through : List InRec
  /-- The last beat at which the landing queue released a record. -/
  landBeat : Option Nat
  /-- Packs accepted since the last ACK, when the first of them was, and when the last ACK was sent (R210). -/
  unacked : Nat
  unackedAt : Nat
  ackAt : Nat
  channels : Vector Channel 4
  /-- Serial of the next symbol to send, and the last one accepted (R216, R217). -/
  txSer : Nat
  rxSer : Option Nat
  /-- Symbols queued in RETRAIN and DOWN (R218): type and payload. -/
  queue : List (Nat × BitVec 40)
  /-- IDENT words received in this exchange, by WORD (R227). -/
  ident : Store W32
  /-- When the retrain in progress, or the DOWN state, began. -/
  phaseAt : Nat
  /-- The lane alignment of this training was wrong (R228). -/
  crossed : Bool
  /-- Since when the port has been DOWN or not VERIFIED (R259). -/
  badSince : Option Nat
  /-- Largest and smallest hop since the last read (R209). -/
  hop : Option (Nat × Nat)
  /-- When each rate-limited event was last logged (R232, Table 10.8), by cause. -/
  logged : Store Nat
  training : Training
  /-- This side has asked for the identity exchange that is under way without a retrain (R228). -/
  asked : Bool
  /-- The place in the active lanes at which the next 32 B unit sent goes (R204). -/
  txLane : Nat
  /-- Camp symbols discarded (R235). -/
  campDrops : Nat
  deriving DecidableEq, Repr

/-- A port at reset (R207): OFF, sequences 0. -/
def Port.reset : Port :=
  { mode := .off, idstat := 0, width := 0, good := 0, removed := 0, failed := 0, epoch := 0, proposal := 0, txNext := 0,
    buffer := [], replay := [], egress := [], cut := 0, blocked := [], rxNext := 0, part := some [], landing := [],
    through := [], landBeat := none, unacked := 0, unackedAt := 0, ackAt := 0, channels := Vector.replicate 4 Channel.idle,
    txSer := 0, rxSer := none, queue := [], ident := [], phaseAt := 0, crossed := false, badSince := none, hop := none,
    logged := [], training := Training.start, asked := false, txLane := 0, campDrops := 0 }

/-- The active lanes in ascending order (R203, R204): the lowest good ones (DESIGN CHOICE, log entry 99). -/
def Port.lanes (g : Port) : List Nat := ((List.range 16).filter (fun i => g.good.getLsbD i)).take g.width

/-- The lanes of `n` units in turn, the first on the `k`th of the active lanes (R204). -/
def laneRun (lanes : List Nat) (k n : Nat) : List Nat := (List.range n).map fun i => lanes.getD ((k + i) % lanes.length) 0

/-- The stream's bytes in 32 B units, each with its lane (R204). -/
def spread (lanes : List Nat) (k : Nat) (bytes : List Byte) : List (Nat × List Byte) :=
  (laneRun lanes k (bytes.length / 32)).zip (tab (bytes.length / 32) fun i => (bytes.drop (32 * i)).take 32)

/-- Whether units came on the active lanes in turn (R204). -/
def onLanes (lanes : List Nat) (units : List (Fin 16 × List Byte)) : Bool :=
  match units with
  | [] => false
  | u :: _ => lanes.contains u.1.val && units.map (·.1.val) == laneRun lanes (lanes.idxOf u.1.val) units.length

end Sys2Proof.Machine
end

