-- ==== Sys2Proof/Machine/SystemState.lean ====
section
/-!
DEFINITION. Machine/SystemState.lean: the state of the parts around the regions: Compass and Zipper (chapter 12), gear log and
script (13), Firewatch (14), host ports and the firmware command block (15), Whistle and Lantern (16), start-up (17) and power
entry (18), as far as no register holds it.
-/

namespace Sys2Proof.Machine

/-- The Compass (chapter 12). Its state is CMP_STAT.STATE. Differences and times are in 1/256 tick. -/
structure Compass where
  /-- A count exists: the Compass is not UNLOCKED (R280). -/
  valid : Bool
  count : W64
  /-- 1/256 tick within the count. -/
  frac : Nat
  /-- Bad frames, and good frames, since the last of the other kind (Table 12.3). -/
  bad : Nat
  good : Nat
  /-- COUNT of the last good frame while ACQUIRING. -/
  first : Option Nat
  /-- The reference minus the own count, as far as a slew has yet to remove it (R284), and since when. -/
  diff : Int
  slewFrom : Nat
  /-- How long the count stands still, where the reference taken lies behind it: it never steps backwards (R280). -/
  stall : Nat
  /-- The reference minus the own count, where it is taken once the pacer leaves RUN and HELD (R284). -/
  owed : Option Int
  /-- When HOLDOVER was entered (R283). -/
  holdFrom : Nat
  /-- HOLD_ERR of the last good frame, in ns. -/
  hubErr : Nat
  ofsValid : Bool
  /-- The sequenceId of the next Delay_Req (R285). -/
  ptpSeq : Nat
  /-- The next firing count of each cycle timer (R287). -/
  cycles : List (Option Nat)
  /-- The count that the last wake signal was given for (R289). -/
  wokeFor : Option Nat
  /-- The capture FIFO, oldest first: KIND, word 0, word 1 (R290). -/
  capture : List (Nat × W64 × W64)
  deriving DecidableEq, Repr

/-- The Compass after reset: UNLOCKED. -/
def Compass.reset : Compass :=
  { valid := false, count := 0, frac := 0, bad := 0, good := 0, first := none, diff := 0, slewFrom := 0, stall := 0,
    owed := none, holdFrom := 0, hubErr := 0, ofsValid := false, ptpSeq := 0, cycles := [none, none, none, none], wokeFor := none, capture := [] }

/-- A digest of a window (R291, R292): region, window number, digest. -/
structure WinDigest where
  region : Nat
  window : Nat
  digest : Nat
  deriving DecidableEq, Repr

/-- A record of the beat in progress (R291): region, slot, Sack, bytes. -/
structure ZipRec where
  region : Nat
  slot : Nat
  sack : Nat
  bytes : List Byte
  deriving DecidableEq, Repr

/-- Zipper (R291 to R294): records of the beats in progress, the CRC of each region's window, how many windows it has finished, digests that wait for their
counterparts, newest last. -/
structure Zipper where
  recs : List ZipRec
  crcs : List W64
  done : Store Nat
  own : List WinDigest
  peer : List WinDigest
  deriving DecidableEq, Repr

/-- Zipper at reset and at a launch. -/
def Zipper.reset : Zipper := { recs := [], crcs := List.replicate 32 (BitVec.allOnes 64), done := [], own := [], peer := [] }

/-- A gear vote (R326): boundary count, segment, voting module, gear. -/
structure Vote where
  bnd : Nat
  seg : Nat
  who : Nat
  gear : Nat
  deriving DecidableEq, Repr

/-- An emergency hold (R328): the epoch in which the Tarp hold was raised, whether power is a cause, the lowered WANT, whether WANT
was already at the floor, and whether the regions have run to beat a, so that the units are gated. -/
structure Emergency where
  raised : Option Nat
  power : Bool
  want : Nat
  atFloor : Bool
  gated : Bool
  deriving DecidableEq, Repr

/-- Firewatch (chapter 14). `hist` has the input samples of each of the last epochs, newest first: the sum of their powers in 100 µW,
and how many they are. -/
structure Firewatch where
  hist : List (Nat × Nat)
  gwant : Nat
  want : Nat
  /-- The epoch of the last change of GWANT or WANT (R320). -/
  changed : Option Nat
  /-- A change has been made in the RED or CRITICAL spell in progress. -/
  spell : Bool
  /-- At the last boundary that held a vote and left the gear open, the gear taken was below GWANT (R319). -/
  tooSparse : Bool
  /-- The emergency in progress (R328). -/
  ehold : Option Emergency
  /-- Latest asks by logical index: WANT, last SER, epoch (R321). -/
  asks : Store (Nat × Nat × Nat)
  /-- This module's last ask: WANT and epoch. -/
  asked : Option (Nat × Nat)
  /-- Last SER seen (R323), and the lookout's last SER (R322). -/
  serSeen : Nat
  serSent : Nat
  /-- The lookout's pending SET: SER, N, E, and who has acknowledged it (R322, R324). -/
  pend : Option (Nat × Nat × Nat)
  acks : List Nat
  /-- Votes for the boundary to come and the one after it (R326). -/
  votes : List Vote
  voteCast : Bool
  /-- The scripted gear cast for the coming boundary (R307). -/
  scripted : Option Nat
  /-- Since when beat B has waited for votes (R327). -/
  voteWait : Option Nat
  /-- Input voltage samples of the last epochs, newest first, in 10 mV (R402). -/
  volts : List Nat
  /-- Core voltage set, in mV, where Firewatch has lowered it: 650; none: that of the pace in force (R46, R328, R331). -/
  low : Bool
  /-- When the last wake from a module state is over (Table 14.6, R332). -/
  awakeAt : Nat
  /-- Since when no Pitch has been applied, no launch armed and no timer enabled (Table 14.6). -/
  quietFrom : Option Nat
  deriving DecidableEq, Repr

/-- Firewatch after reset. -/
def Firewatch.reset : Firewatch :=
  { hist := [], gwant := 0, want := 0, changed := none, spell := false, tooSparse := false, ehold := none, asks := [],
    asked := none, serSeen := 0, serSent := 0, pend := none, acks := [], votes := [], voteCast := false, scripted := none, voteWait := none,
    volts := [], low := false, awakeAt := 0, quietFrom := none }

/-- A host access that waits: a Vestibule write or a Peg-window write behind one (R344, R345). -/
inductive Posted where
  /-- A write to HBM by a BAR2 access with its number among the far path's waits. `priv`: the bit of LN_PSEL's PRIV (R370). -/
  | vest (id addr priv : Nat) (bytes : List Byte)
  /-- A write to the Barrel, which still wakes (R332). -/
  | barrel (addr : Nat) (bytes : List Byte)
  /-- A write of the weight-load path, while the module still wakes (R332). -/
  | weight (priv w : Nat) (bytes : List Byte)
  | peg (off : BitVec 17) (size : Size) (v : W64) (priv : Nat)
  deriving DecidableEq, Repr

/-- A Vestibule read that waits (R344). -/
structure VestRead where
  id : Nat
  /-- The number of the read of which this is a part (R343), and whether it is of the Barrel. -/
  req : Nat
  barrel : Bool
  priv : Nat
  addr : Nat
  len : Nat
  since : Nat
  deriving DecidableEq, Repr

/-- A host port (chapter 15): its MSI-X state (R352), posted writes in order and outstanding reads. `table` holds the MSI-X
table's 32-bit words. -/
structure HostPort where
  table : Store W32
  pba : BitVec 2048
  /-- MSI-X enabled and not function-masked. -/
  msix : Bool
  posted : List Posted
  reads : List VestRead
  deriving DecidableEq, Repr

/-- A host port after reset. -/
def HostPort.reset : HostPort := { table := [], pba := 0, msix := false, posted := [], reads := [] }

/-- A firmware command in progress (R350). -/
structure FcRun where
  op : Nat
  /-- The number of its accesses among the far path's waits. -/
  id : Nat
  port : Fin 2
  seq : Nat
  args : List W64
  data : List Byte
  deriving DecidableEq, Repr

/-- The firmware command block and the ordinary network: the running command, NET_CFG of each Ethernet port, telemetry. -/
structure Firmware where
  run : Option FcRun
  net : List (List Byte)
  /-- Period in ms, destination, time of the next datagram (R354). -/
  tlm : Option (Nat × List Byte × Nat)
  tlmSeq : Nat
  /-- Datagrams dropped. -/
  tlmDrop : Nat
  /-- When the steward's term was last started (R341). -/
  leaseFrom : Nat
  deriving DecidableEq, Repr

/-- The firmware side after reset. -/
def Firmware.reset : Firmware := { run := none, net := [[], []], tlm := none, tlmSeq := 0, tlmDrop := 0, leaseFrom := 0 }

/-- Whistle (chapter 16). Routing stands in its registers. `raw` is what the state sources last showed; `timers` holds the time at which a source's timer started, or a LEVEL
source's condition became true. -/
structure Whistle where
  pend : BitVec 1024
  insv : BitVec 1024
  raw : BitVec 1024
  counts : Store Nat
  timers : Store Nat
  latched : BitVec 1024
  retained : Bool
  deriving DecidableEq, Repr

/-- Whistle at its reset state: the Compass is not LOCKED, and no Guyline or Ethernet port is up. -/
def Whistle.reset : Whistle :=
  { pend := 0, insv := 0, raw := 1#1024 <<< 156 ||| 0x3ff#1024 <<< 160 ||| 3#1024 <<< 170, counts := [], timers := [], latched := 0, retained := false }

/-- A tagged row in flight (R375). -/
structure TagRow where
  region : Nat
  beat : Nat
  last : Nat
  seg : Nat
  gear : Nat
  row : Nat
  issued : Nat
  fetched : Nat
  held : Bool
  lag : Bool
  wake : Bool
  guard : Bool
  /-- When its completion beat ended, in 1/256 tick. -/
  ended : Option Nat
  deriving DecidableEq, Repr

/-- Lantern (chapter 16). Counter k of region r is keyed 64 × r + k, k the counter's bit of LN_WRAP: LN_EVT 0 to 47, LN_PCNT 48 to
55, LN_BEAT 56, LN_TIME 57. -/
structure Lantern where
  counts : Store Nat
  wraps : Store W64
  snap : Store Nat
  snapWraps : Store W64
  /-- The armed beat, and whether it freezes. -/
  arm : Option (Nat × Bool)
  /-- Regions that have taken the snapshot of the armed beat. -/
  snapped : BitVec 32
  /-- Regions whose counters stand still, and those that count again from their next beat (R372). -/
  frozen : BitVec 32
  thawing : BitVec 32
  tagged : List TagRow
  trace : Store (List W64)
  /-- Bytes moved in the window in progress, by index: out and in (R374). -/
  bw : Store (Nat × Nat)
  /-- The count at which the window in progress started. -/
  bwWin : Nat
  /-- The time of the last CLEAR: LN_TIME counts what comes after it (R371). -/
  cleared : Nat
  /-- The count at which the last region ended the armed beat (R372). -/
  endedAt : W64
  deriving DecidableEq, Repr

/-- Lantern after reset. -/
def Lantern.reset : Lantern :=
  { counts := [], wraps := [], snap := [], snapWraps := [], arm := none, snapped := 0, frozen := 0, thawing := 0, tagged := [], trace := [], bw := [], bwWin := 0,
    cleared := 0, endedAt := 0 }

/-- What a part keeps without power: the flash banks, the fused SVN, whether a verified image is staged (R382, R394). -/
structure Flash where
  bankA : List Byte
  bankB : List Byte
  fused : Nat
  deriving DecidableEq, Repr

/-- A self-test (R391): ticket, type, timeout in ms, when it was requested, whether it runs and since which Compass tick, and
whether the recalibration that it includes has been done; `forced`: it runs as soon as the pacer is ARMED. -/
structure SelfTest where
  ticket : Nat
  kind : Nat
  timeout : Nat
  since : Nat
  running : Bool
  began : Nat
  measured : Bool
  forced : Bool
  deriving DecidableEq, Repr

/-- Why the converters are off, and what turns them on again (Table 18.1, R403, R404). -/
inductive PowerState where
  | off
  | on
  /-- After an input out of range: within range for 1 s. -/
  | input
  /-- Fewer than two good pairs: two good for 1 s. -/
  | pairs
  /-- Until a power cycle. -/
  | dead
  deriving DecidableEq, Repr

/-- The front status indicator (R405). -/
inductive Indicator where
  | red
  | amber
  | green
  deriving DecidableEq, Repr

/-- Start-up and upkeep (chapter 17) and power entry (chapter 18). -/
structure Startup where
  power : PowerState
  /-- When the bring-up step in progress started. -/
  stepFrom : Nat
  /-- Held in reset by the thermal trip (R318). -/
  thermal : Bool
  test : Option SelfTest
  /-- Tickets given out. -/
  tickets : Nat
  /-- Ticket, result, Compass count at the end. -/
  results : List (Nat × Nat × W64)
  /-- Sequence of the map, and the count of its last change (Table 17.2). -/
  mapSeq : Nat
  mapCount : W64
  /-- Crossing values held until the Pitch is withdrawn (R388): region, crossing, d. -/
  heldD : List (Nat × Nat × Nat)
  /-- Lamps that ramp up, by number, with the time of insertion (R409). -/
  ramps : Store Nat
  /-- Since when the good pairs have been fewer than two, or two or more (R403). -/
  pairsFrom : Nat
  /-- Open fibres, by pair, with the time of their next probe (R410). -/
  probes : Store Nat
  deriving DecidableEq, Repr

/-- Start-up after power-on reset: the converters are off until POWER_ON. -/
def Startup.reset : Startup :=
  { power := .off, stepFrom := 0, thermal := false, test := none, tickets := 0, results := [], mapSeq := 0, mapCount := 0, heldD := [],
    ramps := [], pairsFrom := 0, probes := [] }

end Sys2Proof.Machine
end

