-- ==== Sys2Proof/Machine/State.lean ====
section
/-!
DEFINITION. Machine/State.lean: the whole state of the block.
-/

namespace Sys2Proof.Machine

/-- Pacer states (Table 2.3). -/
inductive PacerMode where
  | off
  | cal
  | armed
  | run
  | held
  deriving DecidableEq, Repr

/-- The pacer (chapter 02). Times are Compass counts in 1/256 tick. `base` is the epoch and the permit number that its permits
start from, once an epoch boundary has passed since the anchor (R37, R39). -/
structure Pacer where
  mode : PacerMode
  n : Nat
  released : Nat
  anchorAt : Nat
  anchorBeat : Nat
  /-- The epoch boundary up to which the anchor holds (R39, R251). -/
  anchorEnd : Nat
  /-- The first permit after a hold has not been released yet (R251, R290). -/
  resuming : Bool
  base : Option (Nat × Nat)
  /-- The armed change: new N and its epoch (R44). -/
  pend : Option (Nat × Nat)
  vready : Bool
  /-- The last epoch whose start was acted on. -/
  epochSeen : Option Nat
  lagPeak : Nat × Nat
  /-- No region begins a beat above this one: CHLT, a STOP entry or a strike (R63, R146, R260). -/
  stopAt : Option Nat
  /-- That beat is a STOP boundary, at whose end every window closes (R133). -/
  stopCloses : Bool
  /-- Permits released before CAL, to which the count goes back after it (R390). -/
  kept : Nat
  /-- Beats that the regions have begun in CAL, by region (R41). -/
  calBegun : Store Nat
  /-- CAL permits follow the local tick counter (R40), and the last of its epochs whose start was acted on. -/
  onLocal : Bool
  localSeen : Option Nat
  /-- The time at which the local tick counter was 0: the last reset. -/
  localFrom : Nat
  /-- The core voltage in mV, and the time it was last followed (R46, R325). -/
  volt : Nat
  voltAt : Nat
  deriving DecidableEq, Repr

/-- A detour (R67, Table 3.11). -/
structure Detour where
  home : Nat
  cluster : Nat
  lender : Nat
  phys : Nat
  deriving DecidableEq, Repr

/-- A BOUNDS window (Table 3.11). -/
structure Bound where
  kind : Nat
  r : Bool
  w : Bool
  hport : Nat
  base : Nat
  limit : Nat
  deriving DecidableEq, Repr

/-- The values of an applied Pitch that no register holds (Table 3.11). Lists by region have 32 entries. -/
structure Pitch where
  strict : Bool
  debug : Bool
  detourOk : Bool
  relaxed : Bool
  gearPin : Nat
  gearMax : Nat
  paceN : Nat
  origin : List Nat
  extent : List Nat
  wrap : Nat
  horizon : Nat
  coord : List Nat
  self : Nat
  roles : List Nat
  clmap : List Nat
  detours : List Detour
  alloc : List (BitVec 512)
  hostw : List (BitVec 512)
  enable : List (BitVec 24)
  period : List Nat
  phase : List Nat
  farq : List (Nat × Nat × Nat)
  bounds : List (List Bound)
  bunkBase : Nat
  bunkCount : Nat
  topoBase : Nat
  topoCount : Nat
  slotBase : Nat
  slotSize : Nat
  slotCount : Nat
  trailDigest : List Byte
  entrySeg : Nat
  entryGear : Nat
  digest : List Byte
  ldigest : List Byte
  cdigest : List Byte
  deriving DecidableEq, Repr

/-- TR_STAT.STATE (Table 3.14). -/
inductive TrailMode where
  | empty
  | loading
  | loaded
  | running
  | stopped
  | fault
  deriving DecidableEq, Repr

/-- A loaded segment (Table 3.5): successors, lengths by gear, REST, and row words keyed 32 × gear + region. -/
structure Segment where
  rest : Bool
  lens : List Nat
  succ : List W64
  rows : Store (List W64)
  deriving DecidableEq, Repr

/-- An empty segment. -/
def Segment.none : Segment := { rest := false, lens := [], succ := [], rows := [] }

/-- What a boundary chose (R62): the successor segment and gear, the boundary's beat B, TR_BND before it, the successor index
and KIND, and whether the job stops there. -/
structure NextSeg where
  seg : Nat
  gear : Nat
  beat : Nat
  bnd : Nat
  index : Nat
  kind : Nat
  stop : Bool
  deriving DecidableEq, Repr

/-- A boundary that waits for votes (R327): the region that read the Peg, beat B, segment and gear ended, the Peg's count, the
successor index, and the time in ticks at which the region ended B. -/
structure Crossroad where
  region : Nat
  beat : Nat
  seg : Nat
  gear : Nat
  count : W32
  index : Nat
  ended : Option Nat
  deriving DecidableEq, Repr

/-- The Trail and what runs of it (chapter 03). `nexts` are the successors that the last boundaries chose, newest first. -/
structure Trail where
  mode : TrailMode
  cause : Nat
  segs : Store Segment
  nseg : Nat
  launchArm : Option W64
  nexts : List NextSeg
  crossroad : Option Crossroad
  /-- Word 1 of the gear log entry that waits for a region to end beat B: region, B, word (R306). -/
  logDue : Option (Nat × Nat × W64)
  /-- T_A of a launch by Peg write (R348); 0 where another launch has overtaken it. -/
  pegArm : Option Nat
  /-- The result that LOADING will leave (R73). -/
  loadResult : Option (Nat × Store Segment × Nat)
  deriving DecidableEq, Repr

/-- Why this module holds the camp (R42, R139, R241, R328). -/
inductive HoldCause where
  /-- A region waits at a declared wait of its Peg unit or region control, or at a THRU (R139, R147, R241). -/
  | wait (r : Fin 32)
  /-- The lag ceiling (R42). -/
  | lag
  deriving DecidableEq, Repr

/-- An outstanding hold (R248): origin, beat a, and for this module's own the causes not yet met. -/
structure Hold where
  origin : Nat
  a : Nat
  own : Bool
  causes : List HoldCause
  deriving DecidableEq, Repr

/-- The Tarp (chapter 10): outstanding holds oldest first, the beat x at which it stopped,
the accepted releases, the resume that is due, STOP_AT. -/
structure Tarp where
  holds : List Hold
  /-- Origin and beat a of the newest hold, kept when it has ended. -/
  newest : Nat × Nat
  x : Nat
  /-- The release with the largest T_r accepted since HELD was entered: a and T_r in ticks (R251). -/
  best : Option (Nat × Nat)
  /-- The anchor of the resume that is due: a, T_r, and the time at which the last hold was released. -/
  resume : Option (Nat × Nat × Nat)
  /-- Releases accepted lately, to know a repeat by: origin, a modulo 2^8, T_r (R250, R252). -/
  accepted : List (Nat × Nat × Nat)
  /-- This module's RELEASEs that it still repeats: a, T_r and the time of the next repeat, in ticks. -/
  released : List (Nat × Nat × Nat)
  /-- The time at which this module's HOLD is next repeated (R248). -/
  repeatAt : Nat
  struck : Bool
  /-- STRIKEs that came after the first (R260). -/
  strikes : Nat
  /-- The STOP_AT count in force, and the last one accepted since launch, to know its further copies by (R261). -/
  stopAt : Option Nat
  stopSeen : Option Nat
  /-- The boundary count of the last rest point taken since launch (R261). -/
  lastRest : Option Nat
  /-- This module's last boundary digests, newest first: count, digest, and the ports whose digest has been compared
  (R254). -/
  own : List (Nat × W32 × BitVec 10)
  /-- Received boundary digests by port, waiting for this module's own: port, count modulo 256, digest (R254). -/
  received : List (Nat × Nat × W32)
  deriving DecidableEq, Repr

/-- A latent error in a memory that carries check bits: the state the error logic finds at the next read. -/
inductive Flaw where
  /-- A 64-bit word of a Sack line (R125): region, Sack, line, word; `ue` uncorrectable. -/
  | sack (r s line word : Nat) (ue : Bool)
  /-- A 32-byte sector of an HBM line (R169), by byte address. -/
  | hbm (sector : Nat) (ue : Bool)
  /-- A Barrel sector (R176), by byte address. -/
  | barrel (sector : Nat) (ue : Bool)
  /-- A vector register (R121): region, Kettle, register. -/
  | kreg (r u reg : Nat)
  /-- A Bunk in the store, or a cached Topo entry (Table 8.12, 0x280A). -/
  | bunk (i : Nat)
  | topo (i : Nat)
  /-- The copy of a function table in one Kettle (R121): region, Kettle, function. -/
  | ktab (r u f : Nat)
  deriving DecidableEq, Repr

/-- An event record (Table 15.6). -/
structure Event where
  count : W64
  code : BitVec 16
  data : BitVec 48
  deriving DecidableEq, Repr

/-- What the block sends out, newest last: the model's own record (log entry 7). -/
inductive Output where
  /-- A control symbol on a Guyline port. -/
  | symbol (port : Nat) (lane : Nat) (v : W64)
  /-- A pack on a Guyline port: its 32 B units with their lanes. -/
  | pack (port : Nat) (units : List (Nat × List Byte))
  /-- Data returned to a register or window read. -/
  | read (v : List Byte)
  /-- A write to host memory through a host port (R177). -/
  | hostWrite (port : Nat) (addr : Nat) (bytes : List Byte)
  /-- An MSI-X message on a host port. -/
  | msix (port : Nat) (vector : Nat)
  /-- An echo frame on the Compass echo fibre, after its K28.5, with the count at which that is due (R282). -/
  | echo (count : Nat) (bytes : List Byte)
  /-- A host read answered with Unsupported Request or Completer Abort. -/
  | refuse (port : Nat)
  /-- A host read answered with poisoned data (R169, R176). -/
  | poisoned (port : Nat)
  /-- A telemetry datagram's payload on an Ethernet port, with the destination that TLM_CFG gave (R354). -/
  | datagram (port : Nat) (dest : List Byte) (bytes : List Byte)
  /-- A Delay_Req message on an Ethernet port, with its sequenceId (R285). -/
  | delayReq (port : Nat) (seq : Nat)
  /-- A range that NET_PUT has sent to a URL (R351). -/
  | upload (url : List Byte) (bytes : List Byte)
  /-- A low-power probe on a fibre pair (R410), by its bit of LAMP_OPEN. -/
  | probe (pair : Nat)
  deriving DecidableEq, Repr

/-- What the factory gave the part (R1, R397, R398; log entry 2). -/
structure Identity where
  serial : W64
  gradeS : Bool
  steppingB0 : Bool
  generation : Nat
  mac0 : BitVec 48
  mac1 : BitVec 48
  deriving DecidableEq, Repr

/-- The whole block. -/
structure State where
  /-- Time since reset in 1/256 Compass tick (R37, R40). -/
  time : Nat
  /-- Free values drawn (log entry 1): the MODEL's own counter. -/
  free : Nat
  regs : Store W64
  /-- Lower halves written and not yet taken, by requester and register (R10). -/
  halves : List (Requester × Nat × W32)
  /-- Upper halves latched by a read of the lower half, by requester and register (R10). -/
  latches : List (Requester × Nat × W32)
  pacer : Pacer
  pitch : Option Pitch
  trail : Trail
  tarp : Tarp
  compass : Compass
  identity : Identity
  regions : Vector Region 32
  /-- The beat of each Peg's last change of COUNT since launch, by logical id (R258). -/
  pegTouched : Store Nat
  /-- Entries on their way to the two Hub attachments, of W9 and of E6 (R30, R184). -/
  hubIn : List (List Entry)
  ports : Vector Port 10
  /-- Messages in the Hub sinks, by class (R256). -/
  sinks : List (Nat × List (List Byte))
  hbm : Memory
  barrel : Memory
  far : Far
  /-- The loaded Kettle table set, 7,824 bytes, or empty (R116). -/
  tset : List Byte
  flaws : List Flaw
  zipper : Zipper
  /-- The gear log, oldest first (R306), and the gear script: BND and gear (R307). -/
  gearLog : List (W64 × W64)
  gearScript : List (Nat × Nat)
  firewatch : Firewatch
  hosts : Vector HostPort 2
  firmware : Firmware
  whistle : Whistle
  lantern : Lantern
  flash : Flash
  startup : Startup
  log : List Event
  /-- Events ever logged: the sequence number of the next record (Table 15.6). -/
  logSeq : Nat
  /-- Of each event logged at most once per millisecond, by 16 × code + port: when it was last logged, and how often it has occurred
  (R357). -/
  logged : Store (Nat × Nat)
  out : List Output
  pending : List Instr
  deriving DecidableEq, Repr

/-- Why a step ends in a fault of the model: never, as the manual gives every command of the table a result. -/
inductive Fault where
  deriving DecidableEq, Repr

/-- Why a command is refused. -/
inductive Refusal where
  /-- The model has no meaning for the row. Raised by no meaning. Safe. -/
  | notModelled (mnemonic : String)
  /-- An action word that the Trail validation refuses, with the cause it records: such a word never issues (R21, R56, R73).
  Raised by the action commands. Safe: the module never runs one. -/
  | invalidAction (cause : Nat)
  deriving DecidableEq, Repr

/-- The part that State.reset is: serial 1, grade F, stepping A1, contract generation 1 (log entry 2). -/
def Identity.factory : Identity :=
  { serial := 1, gradeS := false, steppingB0 := false, generation := 1, mac0 := 0x020000000000, mac1 := 0x020000000001 }

/-- The machine right after power-on reset: every register at its reset value, the pacer OFF, nothing loaded, the converters
off until POWER_ON. -/
def State.reset : State :=
  { time := 0, free := 0, regs := [], halves := [], latches := [],
    pacer := { mode := .off, n := 0, released := 0, anchorAt := 0, anchorBeat := 0, anchorEnd := 262144, resuming := false, base := none, pend := none, vready := false,
               epochSeen := none, lagPeak := (0, 0), stopAt := none, stopCloses := false, kept := 0,
               calBegun := [], onLocal := false, localSeen := none, localFrom := 0, volt := 850, voltAt := 0 },
    pitch := none,
    trail := { mode := .empty, cause := 0, segs := [], nseg := 0, launchArm := none, nexts := [], crossroad := none,
               logDue := none, pegArm := none, loadResult := none },
    tarp := { holds := [], newest := (0, 0), x := 0, best := none, resume := none, accepted := [], released := [], repeatAt := 0, struck := false,
              strikes := 0, stopAt := none, stopSeen := none, lastRest := none, own := [], received := [] },
    compass := Compass.reset, identity := Identity.factory, regions := Vector.replicate 32 Region.reset, pegTouched := [],
    hubIn := [[], []], ports := Vector.replicate 10 Port.reset, sinks := [], hbm := [], barrel := [], far := Far.reset,
    tset := [], flaws := [], zipper := Zipper.reset, gearLog := [], gearScript := [], firewatch := Firewatch.reset,
    hosts := Vector.replicate 2 HostPort.reset, firmware := Firmware.reset, whistle := Whistle.reset, lantern := Lantern.reset,
    flash := { bankA := [], bankB := [], fused := 0 }, startup := Startup.reset, log := [], logSeq := 0, logged := [],
    out := [], pending := [] }

end Sys2Proof.Machine
end

