-- ==== Sys2Proof/Machine/Ops.lean ====
section
/-!
DEFINITION. Machine/Ops.lean: the named operations every meaning is built from: registers, free values, the event log, faults
by level, the Tarp hold, the strike, the module reset.
-/

namespace Sys2Proof.Machine

/-! ## Registers -/

/-- The stored value of the register at an offset, or its reset value. -/
def getReg (s : State) (off : Nat) : W64 := storeGet (regReset off) s.regs off

/-- A register stored; a reset value is not listed. -/
def setReg (s : State) (off : Nat) (v : W64) : State :=
  { s with regs := if v = regReset off then storeDel s.regs off else storePut s.regs off v }

/-- Field [lo + len - 1 : lo] of a register. -/
def getField (s : State) (off lo len : Nat) : Nat := fieldN (getReg s off).toNat lo len

/-- A register value with one field replaced. -/
def withField (v : W64) (lo len x : Nat) : W64 :=
  let m := BitVec.ofNat 64 ((2 ^ len - 1) * 2 ^ lo)
  (v &&& ~~~m) ||| (BitVec.ofNat 64 (x * 2 ^ lo) &&& m)

/-- One field of a register set. -/
def setField (s : State) (off lo len x : Nat) : State := setReg s off (withField (getReg s off) lo len x)

/-- Bits of a register set (an event of a W1C or status field). -/
def setBits (s : State) (off bits : Nat) : State := setReg s off (getReg s off ||| BitVec.ofNat 64 bits)

/-- A saturating count in a field raised by `n`. -/
def countField (s : State) (off lo len n : Nat) : State :=
  setField s off lo len (min (2 ^ len - 1) (getField s off lo len + n))

/-- A field that keeps the largest value seen. -/
def peakField (s : State) (off lo len x : Nat) : State :=
  if getField s off lo len < x then setField s off lo len (min x (2 ^ len - 1)) else s

/-- The pending lower half of a requester's register (R10). -/
def pendingHalf (s : State) (q : Requester) (off : Nat) : Option W32 :=
  (s.halves.find? (fun h => decide (h.1 = q) && decide (h.2.1 = off))).map (·.2.2)

/-- The state with no pending lower half of that register for that requester. -/
def dropHalf (s : State) (q : Requester) (off : Nat) : State :=
  { s with halves := s.halves.filter (fun h => !(decide (h.1 = q) && decide (h.2.1 = off))) }

/-- Bytes moved in the bandwidth window in progress (R374). -/
def lnMoved (s : State) (i out inn : Nat) : State :=
  let w := storeGet (0, 0) s.lantern.bw i
  { s with lantern := { s.lantern with bw := storeSet (0, 0) s.lantern.bw i (w.1 + out, w.2 + inn) } }

/-- Payload bytes of a requester's access, sent and received by its host port (R374). -/
def hostBytes (s : State) (q : Requester) (out inn : Nat) : State :=
  match q with
  | .host p => lnMoved s (54 + p.val) out inn
  | .ranger => s

/-- The region whose LN_WRAP is the register at `off` (Table 16.8); its bits stand in Lantern's own state. -/
def wrapRegion? (off : Nat) : Option Nat :=
  if 0x580000 ≤ off ∧ off < 0x590000 ∧ off % 0x800 = 0x10 then some ((off - 0x580000) / 0x800) else none

/-- The current value of a 64-bit register that takes writes. -/
def heldValue (s : State) (off : Nat) : W64 :=
  match wrapRegion? off with
  | some r => storeGet 0 s.lantern.wraps r
  | none => getReg s off

/-- The 64-bit value that a write of the upper half forms (R10): with the pending lower half, or else the register's current
one; a whole write forms its own, and a pending lower half stays pending. -/
def formHalf (s : State) (q : Requester) (off : Nat) (w : HalfWrite) : W64 × State :=
  match w with
  | .whole v => (v, s)
  | .upper hi => (hi ++ (pendingHalf s q off).getD ((heldValue s off).setWidth 32), dropHalf s q off)

/-- Bytes of a register of eight 32-bit words (CR_WDIGEST, PT_LDIGEST and their kind). -/
def regBytes (s : State) (f : Nat → Nat) : List Byte := (List.range 8).flatMap (fun i => leBytes 4 (getReg s (f i)).toNat)

/-- Such a register set from 32 bytes. -/
def setRegBytes (s : State) (f : Nat → Nat) (bs : List Byte) : State :=
  (List.range 8).foldl (fun s i => setReg s (f i) (BitVec.ofNat 64 (leField bs (4 * i) 4))) s

/-! ## Free values (log entry 1) -/

/-- A free line and the state that has drawn it. -/
def freshLine (s : State) : Line × State := (Config.freeLine s.free, { s with free := s.free + 1 })

/-- A free 64-bit word. -/
def freshWord (s : State) : W64 × State := (Config.freeWord s.free, { s with free := s.free + 1 })

/-- A free vector register. -/
def freshVec (s : State) : Vec × State := (Config.freeVec s.free, { s with free := s.free + 1 })

/-- A free accumulator value. -/
def freshAcc (s : State) : BitVec 640 × State := (Config.freeAcc s.free, { s with free := s.free + 1 })

/-- A free choice. -/
def freshBit (s : State) : Bool × State := (Config.freeBit s.free, { s with free := s.free + 1 })

/-- A free byte. -/
def freshByte (s : State) : Byte × State := (Config.freeByte s.free, { s with free := s.free + 1 })

/-- Free bytes. -/
def freshBytes (s : State) : Nat → List Byte × State
  | 0 => ([], s)
  | n + 1 =>
    let (b, s) := freshByte s
    let (bs, s) := freshBytes s n
    (b :: bs, s)

/-- What firmware reads of HBM from an address on (R71, R73). Past the last track nothing is addressed (R151), and what it reads there
is free (log entry 94). -/
def firmwareRead (s : State) (a n : Nat) : List Byte × State :=
  let there := min n (768 * 2 ^ 31 - a)
  let (bs, s) := freshBytes s (n - there)
  (s.hbm.readBytes a there ++ bs, s)

/-! ## Time -/

/-- The Compass count in 1/256 tick. -/
def nowUnits (s : State) : Nat := s.compass.count.toNat * 256 + s.compass.frac

/-- The Compass count in ticks. -/
def nowTicks (s : State) : Nat := s.compass.count.toNat

/-- The current epoch number (Table 2.6). -/
def nowEpoch (s : State) : Nat := nowTicks s / 1024

/-! ## Regions -/

/-- One region replaced by a function of it. -/
def modRegion (s : State) (r : Fin 32) (f : Region → Region) : State :=
  { s with regions := s.regions.set r (f s.regions[r]) }

/-- The same function on every region. -/
def modRegions (s : State) (f : Region → Region) : State := { s with regions := s.regions.map f }

/-- Every region in ascending order, folded. -/
def forRegions (s : State) (f : Fin 32 → State → State) : State := (List.finRange 32).foldl (fun t r => f r t) s

/-- The beat in progress in a region: the last begun, if it has not completed. -/
def beatOf (g : Region) : Option Nat := if g.completed < g.begun then some (g.begun - 1) else none

/-- The beat that a fault raised by no action latches: the beat in progress or the last begun. -/
def lastBeat (g : Region) : Nat := g.begun - 1

/-- Whether a debug-mode hazard is detected (MODE.DEBUG, R74). -/
def debugOn (s : State) : Bool :=
  match s.pitch with
  | some p => p.debug
  | none => false

/-- Whether the applied Pitch sets STRICT. -/
def strictOn (s : State) : Bool :=
  match s.pitch with
  | some p => p.strict
  | none => false

/-! ## Outputs and events -/

/-- CMP_STAT.STATE: 0 UNLOCKED, 1 ACQUIRING, 2 LOCKED, 3 HOLDOVER. -/
def compassState (s : State) : Nat := getField s Reg.CMP_STAT 30 2

/-- A host port takes memory requests: its link is up and its Bus Master Enable is set (R352). -/
def hostUp (s : State) (p : Nat) : Bool :=
  decide (getField s (Reg.HST_LINK p) 28 4 = 2) && decide (getField s (Reg.HST_LINK p) 18 1 = 1)

/-- Shared sources that are never pending (Table 16.1, R359). -/
def reservedSource (n : Nat) : Bool :=
  (decide (177 ≤ n) && decide (n < 192)) || (decide (224 ≤ n) && decide (n < 256)) ||
  (decide (192 ≤ n) && decide (n < 224) && decide (8 ≤ n % 16))

/-- A source becomes pending: its count is 0 and its timer stops (R362). -/
def makePending (s : State) (n : Nat) : State :=
  if reservedSource n then s
  else { s with whistle := { s.whistle with
    pend := s.whistle.pend ||| (1#1024 <<< n), counts := storeDel s.whistle.counts n, timers := storeDel s.whistle.timers n } }

/-- A pulse or edge event of a source (R362): counted, or latched while Whistle is in retention (R366). -/
def pulse (s : State) (n : Nat) : State :=
  if reservedSource n then s
  else if s.whistle.retained then { s with whistle := { s.whistle with latched := s.whistle.latched ||| (1#1024 <<< n) } }
  else
    let c := storeGet 0 s.whistle.counts n + 1
    if getField s (Reg.WH_SRC_CFG n) 8 8 ≤ c then makePending s n
    else { s with whistle := { s.whistle with
      counts := storePut s.whistle.counts n c
      timers := if c = 1 then storePut s.whistle.timers n s.time else s.whistle.timers } }

/-- Something leaves the block (log entry 7). -/
def emit (s : State) (o : Output) : State := { s with out := s.out ++ [o] }

/-- An event record logged: the last 65,536 are kept, and the block's Whistle source pulses (Table 15.6, Table 16.1). The spec
gives the record a data field and states the data of no event: a free value (log entry 1). -/
def logEvent (s : State) (code : Nat) : State :=
  let (w, s) := freshWord s
  let e : Event := { count := s.compass.count, code := BitVec.ofNat 16 code, data := w.setWidth 48 }
  let log := s.log ++ [e]
  pulse { s with log := if 65536 < log.length then log.drop 1 else log, logSeq := s.logSeq + 1 } (128 + code / 256 % 16)

/-- An event logged at most once per millisecond per port (R296, R357); every occurrence is counted. -/
def logLimited (s : State) (code port : Nat) : State :=
  let k := 16 * code + port
  let last := (s.logged.find? (fun e => e.1 == k)).map (·.2)
  let n := (last.map (·.2)).getD 0 + 1
  let quiet := match last with
    | some (t, _) => decide (s.time < t + 40000000)
    | none => false
  if quiet then { s with logged := storePut s.logged k ((last.getD (0, 0)).1, n) }
  else logEvent { s with logged := storePut s.logged k (s.time, n) } code

/-- A capture record of an event at a time in 1/256 tick (R290): kept in order of time, then KIND; dropped when the FIFO is
full. -/
def captureAt (s : State) (units kind data : Nat) : State :=
  if !(getReg s Reg.CMP_CAP_EN).getLsbD kind then s
  else if 1024 ≤ s.compass.capture.length then logEvent (countField s Reg.CMP_CAP_STAT 16 16 1) 0x0A07
  else
    let c := BitVec.ofNat 64 (units / 256)
    let w1 := BitVec.ofNat 64 (kind * 2 ^ 56 + units % 256 * 2 ^ 48 + data % 2 ^ 48)
    let same (e : Nat × W64 × W64) : Bool := e.2.1 == c && fieldN e.2.2.toNat 48 8 == units % 256
    let l := s.compass.capture
    let before := l.filter (fun e => !same e || decide (e.1 ≤ kind))
    let after := l.filter (fun e => same e && decide (kind < e.1))
    { s with compass := { s.compass with capture := before ++ [(kind, c, w1)] ++ after } }

/-- A capture record of an event now. -/
def capture (s : State) (kind data : Nat) : State := captureAt s (nowUnits s) kind data

/-! ## Lantern counters (R368 to R371) -/

/-- A Lantern counter of a region raised, unless its counters stand still: 48 bits wide, LN_BEAT and LN_TIME 64; a wrap sets
its bit and pulses source 176. -/
def lnAdd (s : State) (r k n : Nat) : State :=
  if n = 0 || s.lantern.frozen.getLsbD r then s
  else
    let width := if k < 56 then 48 else 64
    let v := storeGet 0 s.lantern.counts (64 * r + k) + n
    let s := { s with lantern := { s.lantern with counts := storeSet 0 s.lantern.counts (64 * r + k) (v % 2 ^ width) } }
    if v < 2 ^ width then s
    else pulse { s with lantern := { s.lantern with
      wraps := storePut s.lantern.wraps r (storeGet 0 s.lantern.wraps r ||| BitVec.ofNat 64 (2 ^ k)) } } 176

/-- An access that a region's programmable counters see (R370): class, address, bytes, the bit of LN_PSEL's PRIV (3 firmware, 2
steward, 1 observer, 0 Trail) and of MASTER (5 Trail, 4 far engine, 3 and 2 Vestibules, 1 Rangers, 0 weight load). -/
def lnAccess (s : State) (r cls addr bytes priv master : Nat) : State :=
  (List.range 8).foldl (fun s i =>
    let sel := (getReg s (Reg.LN_PSEL r i)).toNat
    let base := (getReg s (Reg.LN_PRANGE r (2 * i))).toNat
    let limit := (getReg s (Reg.LN_PRANGE r (2 * i + 1))).toNat
    let inRange := fieldN sel 15 1 == 0 || (decide (base ≤ addr) && decide (addr < limit))
    if fieldN sel 13 1 == 1 && fieldN sel 28 4 == cls && fieldN sel (24 + priv) 1 == 1 && fieldN sel (18 + master) 1 == 1 &&
        inRange then lnAdd s r (48 + i) (if fieldN sel 14 1 = 1 then bytes else 1)
    else s) s

/-- An access to HBM bytes (R370, R374): class 0 for a read, 1 for a write, line by line. -/
def lnHbm (s : State) (cls a n priv master : Nat) : State :=
  let s := (List.range ((a + n + 127) / 128 - a / 128)).foldl (fun s i =>
    let l := (a / 128 + i) * 128
    lnAccess s (l / (24 * 2 ^ 31)) cls l 128 priv master) s
  let k := 10 + a / (24 * 2 ^ 31)
  if cls = 1 then lnMoved s k n 0 else lnMoved s k 0 n

/-! ## The disabled-unit map (R386, R387) -/

/-- The 288 bytes of the map (Table 17.2). -/
def mapBytes (s : State) : List Byte :=
  leBytes 4 0x4E56444D ++ leBytes 4 1 ++ leBytes 8 s.identity.serial.toNat ++ leBytes 8 (s.startup.mapSeq % 2 ^ 32) ++
  leBytes 8 s.startup.mapCount.toNat ++ (List.range 32).flatMap (fun r => leBytes 8 (getReg s (Reg.HUB_MAP r)).toNat)

/-- Whether failures wait to be merged. -/
def mapPending (s : State) : Bool := (List.range 32).any (fun r => getReg s (Reg.HUB_MAP_PEND r) != 0)

/-- HUB_MAP_STAT and HUB_MAP_DIGEST follow the map. -/
def refreshMap (s : State) : State :=
  let spares := ((List.range 32).filter (fun r => getField s (Reg.HUB_MAP r) 0 9 = 0)).length
  setRegBytes (setReg s Reg.HUB_MAP_STAT (BitVec.ofNat 64
    (bit1 (mapPending s) * 2 ^ 31 + spares * 2 ^ 16 + s.startup.mapSeq % 2 ^ 16))) Reg.HUB_MAP_DIGEST (sha256 (mapBytes s))

/-- Pending failures are merged (R387): SEQ advances, event 0x000B. -/
def mergeMap (s : State) : State :=
  if mapPending s then
    let s := (List.range 32).foldl (fun s r =>
      setReg (setReg s (Reg.HUB_MAP r) (getReg s (Reg.HUB_MAP r) ||| getReg s (Reg.HUB_MAP_PEND r))) (Reg.HUB_MAP_PEND r) 0) s
    logEvent (refreshMap { s with startup := { s.startup with
      mapSeq := s.startup.mapSeq + 1, mapCount := if s.compass.valid then s.compass.count else 0 } }) 0x000B
  else s

/-- Failures of a region's units, in the layout of HUB_MAP: in the map at once with no Pitch applied, else pending. -/
def addFailures (s : State) (fs : List (Nat × Nat)) : State :=
  let s := fs.foldl (fun s f =>
    let new := BitVec.ofNat 64 f.2 &&& ~~~getReg s (Reg.HUB_MAP f.1)
    setReg s (Reg.HUB_MAP_PEND f.1) (getReg s (Reg.HUB_MAP_PEND f.1) ||| new)) s
  if s.pitch.isSome then refreshMap s else mergeMap s

/-! ## Who may write (R340, R381) -/

/-- The module is ready for a Pitch: bring-up has reached step 10 (R379). -/
def ready (s : State) : Bool := decide (getField s Reg.HUB_BOOT 22 2 = 1)

/-- The steward is the host that holds the lease (R341). -/
def isSteward (s : State) (p : Fin 2) : Bool := decide (getField s Reg.HST_LEASE 30 2 = p.val + 1)

/-- An observer's write that is dropped (R340). -/
def dropWrite (s : State) (p : Fin 2) : State :=
  logLimited (pulse (setBits s (Reg.HST_ERR p.val) 0x10) (197 + 16 * p.val)) 0x0C03 p.val

/-- A register write that only the steward or firmware may make: before step 10 a host's is ignored (R381), an observer's is
dropped and logged (R340). -/
def byWriter (s : State) (q : Requester) (f : State → State) : State :=
  let s := hostBytes s q 0 4
  match q with
  | .ranger => f s
  | .host p => if !ready s then s else if isSteward s p then f s else dropWrite s p

/-- Whether `byWriter` lets a requester's write act. -/
def mayWrite (s : State) (q : Requester) : Bool :=
  match q with
  | .ranger => true
  | .host p => ready s && isSteward s p

end Sys2Proof.Machine
end

