-- ==== Sys2Proof/Machine/Topology.lean ====
section
/-!
DEFINITION. Machine/Topology.lean: what is wired to what (R15 to R24, R30, R33): neighbours, faces, slots, ports.
-/

namespace Sys2Proof.Machine

/-- Row of a region in its die. -/
def rowOf (r : Nat) : Nat := r % 16 / 4
/-- Column of a region in its die. -/
def colOf (r : Nat) : Nat := r % 4

/-- The region that the Pole on side `d` (0 N, 1 E, 2 S, 3 W) of a region faces, if it has a partner (R15). -/
def poleNeighbour (r d : Nat) : Option Nat :=
  match d with
  | 0 => if 0 < rowOf r then some (r - 4) else none
  | 1 => if colOf r < 3 then some (r + 1) else none
  | 2 => if rowOf r < 3 then some (r + 4) else none
  | _ => if 0 < colOf r then some (r - 1) else none

/-- The Ridge partner (Table 1.4). -/
def ridgeNeighbour (r : Nat) : Option Nat :=
  if r < 16 && colOf r == 3 then some (r + 13)
  else if 16 ≤ r && colOf r == 0 then some (r - 13)
  else none

/-- Whether a region has a Hub face: W9 and E6. -/
def hasHub (r : Nat) : Bool := r == 9 || r == 22

/-- The Guyline port whose home is a region (Table 1.4). -/
def homePort (r : Nat) : Option Nat :=
  match r with
  | 0 => some 0
  | 3 => some 1
  | 12 => some 2
  | 15 => some 3
  | 16 => some 4
  | 19 => some 5
  | 5 => some 6
  | 26 => some 7
  | 28 => some 8
  | 31 => some 9
  | _ => none

/-- The home region of a port (Table 1.4). -/
def portHome (p : Nat) : Nat := [0, 3, 12, 15, 16, 19, 5, 26, 28, 31].getD p 0

/-- Whether a region has a port unit (R19). -/
def hasPortUnit (r : Nat) : Bool := (homePort r).isSome || (ridgeNeighbour r).isSome || hasHub r

/-- Whether face `f` of a region exists: 0 to 3 Poles with a partner, 4 Ridge, 5 Hub, 6 Guyline (R21, R148). -/
def faceExists (r f : Nat) : Bool :=
  if f < 4 then (poleNeighbour r f).isSome
  else if f = 4 then (ridgeNeighbour r).isSome
  else if f = 5 then hasHub r
  else (homePort r).isSome

/-- The slot that drives or receives at a face (R129, R149). -/
def faceSlot (f : Nat) : Nat := if f < 4 then 56 + f else 62

/-- Contract latency of a crossing by its arriving slot (R33). -/
def crossLatency (i : Nat) : Nat := if i < 4 then 6 else if i = 4 then 12 else 10

/-- The region and the crossing slot that face `f` of region r sends into; none for the Hub and Guyline faces. -/
def faceTarget (r f : Nat) : Option (Nat × Nat) :=
  if f < 4 then (poleNeighbour r f).map (fun n => (n, (f + 2) % 4))
  else if f = 4 then (ridgeNeighbour r).map (fun n => (n, 4))
  else none

/-- The region that sends into crossing slot i of region r, with its face. -/
def crossSource (r i : Nat) : Option (Nat × Nat) :=
  if i < 4 then (poleNeighbour r i).map (fun n => (n, (i + 2) % 4))
  else if i = 4 then (ridgeNeighbour r).map (fun n => (n, 4))
  else none

/-- The neighbours of a region (R30). -/
def neighbours (r : Nat) : List Nat :=
  [poleNeighbour r 0, poleNeighbour r 1, poleNeighbour r 2, poleNeighbour r 3, ridgeNeighbour r].filterMap id

/-- A number as a region. -/
def regionFin (n : Nat) : Fin 32 := Fin.ofNat 32 n

end Sys2Proof.Machine
end

