-- ==== Sys2Proof/Machine/Symbols.lean ====
section
/-!
DEFINITION. Machine/Symbols.lean: control symbols of the Guyline ports (R216 to R218), the ports a camp uses (R233 to R235), and
the discarding of scheduled records (R229).
-/

namespace Sys2Proof.Machine

/-- One port replaced by a function of it. -/
def modPort (s : State) (p : Fin 10) (f : Port → Port) : State := { s with ports := s.ports.set p (f s.ports[p]) }

/-- Every port in ascending order, folded. -/
def forPorts (s : State) (f : Fin 10 → State → State) : State := (List.finRange 10).foldl (fun t p => f p t) s

/-- A time in ns as 1/256 tick: 6.4 ns a tick (R152). -/
def nsTime (ns : Nat) : Nat := 40 * ns

/-- A link that carries traffic: UP or DEGRADED. -/
def Port.live (g : Port) : Bool := g.mode == .up || g.mode == .degraded

/-- An event logged at most once per millisecond per port (R232, Table 10.8). -/
def limitedEvent (s : State) (p : Fin 10) (code : Nat) : State :=
  let last := (s.ports[p].logged.find? (fun e => e.1 == code)).map (·.2)
  let quiet := match last with
    | some t => decide (s.time < t + nsTime 1000000)
    | none => false
  if quiet then s
  else logEvent (modPort s p fun g => { g with logged := storePut g.logged code s.time }) code

/-- A control symbol is lost (R217, R218). -/
def symbolLost (s : State) (p : Fin 10) : State := limitedEvent (setBits s (Reg.GL_LINK_ERR p.val) 1) p 0x0903

/-- Bits [63:12] of a symbol (Table 9.7). -/
def symbolBody (type copy ser : Nat) (payload : BitVec 40) : Nat :=
  type * 2 ^ 46 + copy * 2 ^ 44 + ser * 2 ^ 40 + payload.toNat

/-- CHECK of a symbol (R216). -/
def symbolCheck (epoch : W32) (body : Nat) : Nat := crcMsb 12 0x80F 84 (epoch.toNat * 2 ^ 52 + body) 0xFFF

/-- The epoch that a symbol type is checked under: all ones for TRAIN and IDENT. -/
def symbolEpoch (g : Port) (type : Nat) : W32 := if type = 3 ∨ type = 4 then 0xFFFFFFFF else g.epoch

/-- A whole symbol. -/
def symbolWord (g : Port) (type copy ser : Nat) (payload : BitVec 40) : W64 :=
  let b := symbolBody type copy ser payload
  BitVec.ofNat 64 (b * 2 ^ 12 + symbolCheck (symbolEpoch g type) b)

/-- The lane of a copy: each copy has its own, an active one where there are active lanes (R217). -/
def copyLane (g : Port) (c : Nat) : Nat := g.lanes.getD c c

/-- A symbol sent now, in its three copies (R217). -/
def putSymbol (s : State) (p : Fin 10) (type : Nat) (payload : BitVec 40) : State :=
  let g := s.ports[p]
  let s := (List.range 3).foldl (fun s c => emit s (.symbol p.val (copyLane g c) (symbolWord g type c g.txSer payload))) s
  modPort s p fun g => { g with txSer := (g.txSer + 1) % 16 }

/-- A symbol offered to a port, by the state of its link (Table 9.9, R218). -/
def sendSymbol (s : State) (p : Fin 10) (type : Nat) (payload : BitVec 40) : State :=
  let g := s.ports[p]
  let training := type = 3 ∨ type = 4
  match g.mode with
  | .off => s
  | .training => if training then putSymbol s p type payload else s
  | .ident => if training then putSymbol s p type payload else s
  | .up => putSymbol s p type payload
  | .degraded => putSymbol s p type payload
  | mode =>
    if training then (if mode = .retrain then putSymbol s p type payload else s)
    else if type ≤ 2 then s
    else if g.queue.length < 1024 then modPort s p fun g => { g with queue := g.queue ++ [(type, payload)] }
    else symbolLost (setBits s (Reg.GL_LINK_ERR p.val) 0x100) p

/-- Defined symbol types (Table 9.8). -/
def symbolTypes : List Nat := [1, 2, 3, 4, 8, 9, 10, 11, 12, 16]

/-- A received symbol word of the given type (R216, R217): a failed check discards it, later copies of a serial are discarded,
a gap in the serials is a loss, a reserved type counts as lost. -/
def takeSymbol (s : State) (p : Fin 10) (type : Nat) (v : W64) (f : BitVec 40 → State → State) : State :=
  let g := s.ports[p]
  let t := fieldN v.toNat 58 6
  let ser := fieldN v.toNat 52 4
  let open_ := if t = 3 ∨ t = 4 then g.mode ≠ .off ∧ g.mode ≠ .down else g.live = true
  if ¬open_ ∨ symbolCheck (symbolEpoch g t) (v.toNat / 2 ^ 12) ≠ v.toNat % 2 ^ 12 ∨ g.rxSer = some ser then s
  else
    let gap := match g.rxSer with
      | some last => (ser + 15 - last) % 16
      | none => 0
    let s := modPort s p fun g => { g with rxSer := some ser }
    let s := if gap = 0 then s else symbolLost s p
    if !symbolTypes.contains t then symbolLost s p
    else if t = type then f (BitVec.ofNat 40 (v.toNat / 2 ^ 12)) s
    else s

/-! ## Camps -/

/-- Ring sizes of X, Y, Z, U, V (R25). -/
def ringSizes : List Nat := [4, 4, 4, 16, 24]

/-- The five parts of a packed coordinate (R227). -/
def coordOf (c : Nat) : List Nat := [fieldN c 13 2, fieldN c 11 2, fieldN c 9 2, fieldN c 5 4, fieldN c 0 5]

/-- A coordinate packed. -/
def packCoord (l : List Nat) : Nat :=
  l.getD 0 0 * 2 ^ 13 + l.getD 1 0 * 2 ^ 11 + l.getD 2 0 * 2 ^ 9 + l.getD 3 0 * 2 ^ 5 + l.getD 4 0

/-- The offset of a coordinate from the box origin in dimension k (R233). -/
def boxOffset (origin : List Nat) (c : List Nat) (k : Nat) : Nat :=
  let n := ringSizes.getD k 1
  (c.getD k 0 + n - origin.getD k 0 % n) % n

/-- Whether a coordinate lies in the box (R233). -/
def inBox (origin extent : List Nat) (c : List Nat) : Bool :=
  (List.range 5).all (fun k => decide (boxOffset origin c k < extent.getD k 0))

/-- Whether camp symbols may use a port (R235). -/
def campPort (s : State) (p : Fin 10) : Bool :=
  match s.pitch with
  | none => false
  | some q =>
    let role := q.roles.getD p.val 0
    (role == 1 || role == 2) && s.ports[p].idstat == 1 &&
      inBox q.origin q.extent (coordOf (getField s (Reg.GL_NBR_INFO p.val) 44 15))

/-- A camp symbol sent on every allowed port but one (R235, R248). -/
def sendCamp (s : State) (not_ : Option (Fin 10)) (type : Nat) (payload : BitVec 40) : State :=
  forPorts s fun p s => if campPort s p && decide (some p ≠ not_) then sendSymbol s p type payload else s

/-- A camp symbol that this port may not carry: discarded, counted, with event 0x0918 (R235). -/
def dropCamp (s : State) (p : Fin 10) : State :=
  logEvent (modPort s p fun g => { g with campDrops := g.campDrops + 1 }) 0x0918

/-- A camp symbol received (R235). -/
def takeCamp (s : State) (p : Fin 10) (type : Nat) (v : W64) (f : BitVec 40 → State → State) : State :=
  takeSymbol s p type v fun pl s => if campPort s p then f pl s else dropCamp s p

/-- This module's logical index. -/
def selfIndex (s : State) : Nat := getField s Reg.TARP_SELF 0 15

/-- HOLD's payload (Table 9.8). -/
def holdPayload (origin a : Nat) : BitVec 40 := BitVec.ofNat 40 (origin * 2 ^ 25 + a % 2 ^ 25)
/-- RELEASE's. -/
def releasePayload (origin a tr : Nat) : BitVec 40 := BitVec.ofNat 40 (origin * 2 ^ 25 + a % 2 ^ 8 * 2 ^ 17 + tr % 2 ^ 17)
/-- An FM symbol's. -/
def fmPayload (kind data : Nat) : BitVec 40 := BitVec.ofNat 40 (kind * 2 ^ 32 + data % 2 ^ 32)
/-- STRIKE's DATA (Table 10.4). -/
def strikePayload (code origin : Nat) : BitVec 40 := fmPayload 2 (code * 2 ^ 16 + origin % 2 ^ 15)

/-- The value nearest `near` that agrees with a field of `bits` bits: within half the field's range (R248, R250, R261). -/
def recover (field bits near : Nat) : Nat :=
  let m := 2 ^ bits
  let d := (field + m - near % m) % m
  if d < m / 2 then near + d else near + d - m

/-! ## Records discarded (R229, R243, R260) -/

/-- A SCHED pack's 248 bytes with its payload all padding. -/
def paddedSched : List Byte := leBytes 8 (2 ^ 60) ++ List.replicate 240 0

/-- The scheduled records that a port holds are discarded. `ingress`: the ingress store empties too (R243, R260); `count`: those
are counted. -/
def discardPort (ingress count : Bool) (p : Fin 10) (s : State) : State :=
  let g := s.ports[p]
  let n := g.egress.length + g.blocked.length + (if ingress && count then g.landing.length + g.through.length else 0)
  let s := countField s (Reg.GL_INQ_FULL p.val) 0 32 n
  modPort s p fun g =>
    { g with egress := [], cut := 0, blocked := [], part := none
             buffer := g.buffer.map (fun k => if k.chan = 1 then { k with bytes := paddedSched } else k)
             replay := (g.buffer.filter (fun k => k.chan == 1 || g.replay.contains k.seq)).map (·.seq)
             landing := if ingress then [] else g.landing
             through := if ingress then [] else g.through }

/-- Every port's. -/
def discardRecords (s : State) (ingress count : Bool) : State := forPorts s (discardPort ingress count)

end Sys2Proof.Machine
end

