-- ==== Sys2Proof/Machine/RegionOps.lean ====
section
/-!
DEFINITION. Machine/RegionOps.lean: storage of a region with its undefined values, faults by level, the strike, the Tarp hold.
-/

namespace Sys2Proof.Machine

/-! ## Destinations and undefined values (R36, R75, R123, R260) -/

/-- A place that an effect writes. -/
inductive Place where
  | sack (r s line : Nat)
  | kreg (r u reg : Nat)
  | bank (r c bank : Nat)
  | accRow (r c bank row : Nat)
  | planeRow (r c : Nat) (p : Bool) (row : Nat)
  | elemFlag (r c : Nat) (p : Bool)
  /-- The scales that scale line `m` of a plane holds. -/
  | scaleLine (r c : Nat) (p : Bool) (m : Nat)
  | scales (r c : Nat) (p : Bool)
  | scaleFlag (r c : Nat) (p : Bool)
  | wfmt (r c : Nat) (p : Bool)
  | afmt (r c : Nat)
  | asb (r c : Nat)
  | stoveKey (r c : Nat)
  | kettleKey (r u : Nat)
  /-- COUNT of a Peg. -/
  | peg (r p : Nat)
  | pegMark (r p : Nat)
  | pegErr (r p : Nat)
  | pegThr (r p : Nat)
  | pegArmed (r p : Nat)
  | xreg (r x : Nat)
  | hbm (addr : Nat)
  /-- A line of a Hub window, by attachment (R184). -/
  | hubLine (a wid seq : Nat)
  deriving DecidableEq, Repr

/-- Key of a Sack line within its region. -/
def sackKey (s line : Nat) : Nat := s * 8192 + line

/-- A Sack line of a region. -/
def sackLine (g : Region) (s line : Nat) : Line := storeGet 0 g.sacks (sackKey s line)

/-- A Sack line stored. -/
def putSackLine (s : State) (r : Fin 32) (k line : Nat) (v : Line) : State :=
  { modRegion s r (fun g => { g with sacks := storeSet 0 g.sacks (sackKey k line) v }) with
    flaws := s.flaws.filter (fun f => match f with
      | .sack r' s' l' _ _ => !(decide (r' = r.val) && decide (s' = k) && decide (l' = line))
      | _ => true) }

/-- The Peg of a region by index. -/
def pegOf (g : Region) (p : Nat) : Peg := storeGet Peg.zero g.pegs p

/-- A Peg replaced. -/
def setPeg (s : State) (r : Fin 32) (p : Nat) (f : Peg → Peg) : State :=
  modRegion s r fun g => { g with pegs := storeSet Peg.zero g.pegs p (f (pegOf g p)) }

/-- A Stove replaced. -/
def modStove (s : State) (r : Fin 32) (c : Fin 8) (f : Stove → Stove) : State :=
  modRegion s r fun g => { g with stoves := g.stoves.set c (f g.stoves[c]) }

/-- A Kettle replaced. -/
def modKettle (s : State) (r : Fin 32) (u : Fin 16) (f : Kettle → Kettle) : State :=
  modRegion s r fun g => { g with kettles := g.kettles.set u (f g.kettles[u]) }

/-- The plane `p` (false: plane 0) of a Stove. -/
def Stove.plane (t : Stove) (p : Bool) : Plane := if p then t.plane1 else t.plane0

/-- A plane of a Stove replaced. -/
def Stove.setPlane (t : Stove) (p : Bool) (f : Plane → Plane) : Stove :=
  if p then { t with plane1 := f t.plane1 } else { t with plane0 := f t.plane0 }

/-- Weight scales of one scale line into a plane (R84): class B rows take 8 bytes, class A rows 4. -/
def putScales (q : Plane) (m : Nat) (v : Line) : Plane :=
  let per := if fmtClass q.wfmt = some .b then 8 else 4
  { q with scales := (List.range 128).foldl (fun sc i =>
      storeSet 127 sc (8 * (128 / per * m + i / per) + i % per) (lineByte v i)) q.scales }

/-- A line and its arrival counted, or not, in the open Hub window it names (R184, R75): both are free. -/
def undefineHub (s : State) (a wid seq : Nat) : State :=
  let (v, s) := freshLine s
  let (counted, s) := freshBit s
  { s with far := { s.far with reqs := s.far.reqs.map (fun q => { q with win := q.win.map (fun w =>
      if w.isOpen && w.hub == a && w.wid == wid && decide (seq < w.len) then
        let n := if counted then w.count + 1 else w.count
        { w with lines := storePut w.lines seq v, undef := true, count := n, isOpen := decide (n < w.len) }
      else w) }) } }

/-- Bytes written to HBM, with no more said: latent errors of the sectors written whole are gone. -/
def putHbmRaw (s : State) (a : Nat) (bs : List Byte) : State :=
  { s with hbm := s.hbm.writeBytes a bs
           flaws := s.flaws.filter (fun f => match f with
             | .hbm sec _ => !(decide (a ≤ sec) && decide (sec + 32 ≤ a + bs.length))
             | _ => true) }

/-- A write into marked weight pages after the close (R312): VALID clears, TOUCHED sets, event 0x080B. -/
def touchWeights (s : State) (a n : Nat) : State :=
  if getField s Reg.CR_WSTAT 30 1 = 0 &&
      s.far.weights.pages.any (fun p => decide (p * 2 ^ 20 < a + n) && decide (a < (p + 1) * 2 ^ 20)) then
    logEvent (setField (setField s Reg.CR_WSTAT 31 1 0) Reg.CR_WSTAT 28 1 1) 0x080B
  else s

/-- Bytes written to HBM by a track, a far request or the Vestibule. -/
def putHbm (s : State) (a : Nat) (bs : List Byte) : State := touchWeights (putHbmRaw s a bs) a bs.length

/-- The enabled tracks in ascending global order. -/
def enabledTracks (p : Pitch) : List Nat :=
  (List.range 768).filter (fun t => (p.enable.getD (t / 24) 0).getLsbD (t % 24))

/-- Rows of one slot: R. -/
def slotRows (p : Pitch) : Nat := ceilDiv p.slotSize ((enabledTracks p).length * 32768)

/-- HBM address of byte o of slot k. -/
def slotAddr (p : Pitch) (k o : Nat) : Nat :=
  let ts := enabledTracks p
  let row := fieldN p.slotBase 15 16 + k * slotRows p + o / (32768 * ts.length)
  ts.getD (o / 32768 % ts.length) 0 * 2 ^ 31 + row * 2 ^ 15 + o % 32768

/-- The slot that an HBM byte lies in, one of at most 256 (R196, R200). -/
def slotAt (p : Pitch) (a : Nat) : Option Nat :=
  let ts := enabledTracks p
  match ts.findIdx? (· == a / 2 ^ 31) with
  | none => none
  | some i =>
    let row := fieldN a 15 16
    let b := fieldN p.slotBase 15 16
    let r := slotRows p
    let k := (row - b) / r
    if b ≤ row ∧ k < min 256 p.slotCount ∧ ((row - b) % r * ts.length + i) * 32768 + a % 32768 < p.slotSize then some k else none

/-- The slots that an HBM range touches. -/
def slotsIn (s : State) (a n : Nat) : List Nat :=
  match s.pitch with
  | none => []
  | some p =>
    let first := a / 32768
    ((List.range ((a + n - 1) / 32768 - first + 1)).filterMap (fun i => slotAt p (max a ((first + i) * 32768)))).eraseDups

/-- STATE of a slot. -/
def slotState (s : State) (k : Nat) : Nat := getField s (Reg.AD_SLOT (8 * k)) 62 2

/-- A slot loses its contents' standing (R198): EMPTY, DIGEST cleared. -/
def emptySlot (s : State) (k : Nat) : State :=
  (List.range 4).foldl (fun s i => setReg s (Reg.AD_SLOT (8 * k + 2 + i)) 0) (setField s (Reg.AD_SLOT (8 * k)) 62 2 0)

/-- Bytes written to HBM other than by a SLOT load of their own: every slot they touch loses its standing (R198). -/
def storeHbm (s : State) (a : Nat) (bs : List Byte) : State := (slotsIn s a bs.length).foldl emptySlot (putHbm s a bs)

/-- A place takes a free value: what it holds is undefined. -/
def undefine (s : State) (p : Place) : State :=
  match p with
  | .sack r k line => let (v, s) := freshLine s; putSackLine s (regionFin r) k line v
  | .kreg r u reg =>
    let (v, s) := freshVec s
    modKettle s (regionFin r) (Fin.ofNat 16 u) fun k => { k with regs := storeSet 0 k.regs reg v }
  | .bank r c bank =>
    (List.range 128).foldl (fun s i =>
      let (v, s) := freshAcc s
      let (n, s) := freshBit s
      let (pi, s) := freshBit s
      let (ni, s) := freshBit s
      modStove s (regionFin r) (Fin.ofNat 8 c) fun t =>
        { t with acc := storeSet Acc.zero t.acc (128 * bank + i) { v := v, nan := n, pinf := pi, ninf := ni } }) s
  | .accRow r c bank row =>
    let (v, s) := freshAcc s
    let (n, s) := freshBit s
    let (pi, s) := freshBit s
    let (ni, s) := freshBit s
    modStove s (regionFin r) (Fin.ofNat 8 c) fun t =>
      { t with acc := storeSet Acc.zero t.acc (128 * bank + row) { v := v, nan := n, pinf := pi, ninf := ni } }
  | .planeRow r c pl row =>
    let (v, s) := freshLine s
    modStove s (regionFin r) (Fin.ofNat 8 c) fun t => t.setPlane pl fun q => { q with rows := storeSet 0 q.rows row v }
  | .elemFlag r c pl =>
    let (b, s) := freshBit s
    modStove s (regionFin r) (Fin.ofNat 8 c) fun t => t.setPlane pl fun q => { q with elemOk := b }
  | .scaleFlag r c pl =>
    let (b, s) := freshBit s
    modStove s (regionFin r) (Fin.ofNat 8 c) fun t => t.setPlane pl fun q => { q with scaleOk := b }
  | .wfmt r c pl =>
    let (v, s) := freshWord s
    modStove s (regionFin r) (Fin.ofNat 8 c) fun t => t.setPlane pl fun q =>
      { q with wfmt := v.toNat % 16, elemOk := v.getLsbD 4, scaleOk := v.getLsbD 5 }
  | .afmt r c =>
    let (v, s) := freshWord s
    modStove s (regionFin r) (Fin.ofNat 8 c) fun t => { t with afmt := v.toNat % 16 }
  | .scaleLine r c pl m =>
    let (v, s) := freshLine s
    modStove s (regionFin r) (Fin.ofNat 8 c) fun t => t.setPlane pl fun q => putScales q m v
  | .scales r c pl =>
    (List.range 1024).foldl (fun s i =>
      let (v, s) := freshByte s
      modStove s (regionFin r) (Fin.ofNat 8 c) fun t =>
        t.setPlane pl fun q => { q with scales := storeSet 127 q.scales i v }) s
  | .asb r c =>
    (List.range 128).foldl (fun s i =>
      let (v, s) := freshByte s
      modStove s (regionFin r) (Fin.ofNat 8 c) fun t => { t with asb := storeSet 127 t.asb i v }) s
  | .stoveKey r c =>
    let (a, s) := freshWord s
    let (b, s) := freshWord s
    let (e, s) := freshWord s
    modStove s (regionFin r) (Fin.ofNat 8 c) fun t =>
      { t with k0 := a.setWidth 32, k1 := (a >>> 32).setWidth 32, tid := b.setWidth 32, eidx := e }
  | .kettleKey r u =>
    let (a, s) := freshWord s
    let (b, s) := freshWord s
    let (e, s) := freshWord s
    modKettle s (regionFin r) (Fin.ofNat 16 u) fun k =>
      { k with k0 := a.setWidth 32, k1 := (a >>> 32).setWidth 32, stream := b.setWidth 32,
               step := (b >>> 32).setWidth 32, eidx := e }
  | .peg r p =>
    let (v, s) := freshWord s
    setPeg s (regionFin r) p fun q => { q with count := v.setWidth 32 }
  | .pegMark r p =>
    let (v, s) := freshWord s
    setPeg s (regionFin r) p fun q => { q with mark := v.setWidth 32 }
  | .pegErr r p =>
    let (b, s) := freshBit s
    setPeg s (regionFin r) p fun q => { q with err := b }
  | .pegThr r p =>
    let (v, s) := freshWord s
    setPeg s (regionFin r) p fun q =>
      { q with thr := v.setWidth 32, nsrc := (v >>> 32).toNat % 4, armed := v.getLsbD 40 }
  | .pegArmed r p =>
    let (b, s) := freshBit s
    setPeg s (regionFin r) p fun q => { q with armed := b }
  | .xreg r x =>
    let (v, s) := freshWord s
    modRegion s (regionFin r) fun g =>
      { g with xregs := g.xregs.set (Fin.ofNat 8 x) (v.setWidth 16, (g.xregs[Fin.ofNat 8 x]).2) }
  | .hbm a => let (v, s) := freshLine s; storeHbm s a (lineBytes v)
  | .hubLine a wid seq => undefineHub s a wid seq

/-- Several places take free values. -/
def undefineAll (s : State) (ps : List Place) : State := ps.foldl undefine s

/-! ## Sidebands (Table 6.6) -/

/-- KIND 1, LINE. -/
def sideLine (dsack dline : Nat) : W64 := BitVec.ofNat 64 (2 ^ 56 + dsack * 2 ^ 51 + dline * 2 ^ 38)
/-- KIND 2, WIN. -/
def sideWin (wid seq : Nat) : W64 := BitVec.ofNat 64 (2 * 2 ^ 56 + wid * 2 ^ 35 + seq * 2 ^ 19)
/-- The KIND field. -/
def sideKind (v : W64) : Nat := fieldN v.toNat 56 3
/-- The TAG recomputed at producer beat n (R32). -/
def sideTag (v : W64) (n : Nat) : W64 := withField v 59 5 (n % 32)

/-- Widths n, n/2, …, 1 leave in bit k of the result the parity of bits k to k + 2n - 1 of v (R129). -/
def foldParity (v : Nat) (widths : List Nat) : Nat := widths.foldl (fun v k => v ^^^ (v >>> k)) v
/-- HPAR: even parity over bits [63:9] of a sideband. -/
def headParity (v : W64) : Nat := foldParity (v.toNat / 2 ^ 9) [32, 16, 8, 4, 2, 1] % 2
/-- DPAR: bit j is the even parity of data bytes 16j to 16j + 15. -/
def dataParity (d : Line) : Nat :=
  let v := foldParity d.toNat [64, 32, 16, 8, 4, 2, 1]
  (List.range 8).foldl (fun n j => n + v / 2 ^ (128 * j) % 2 * 2 ^ j) 0
/-- A sideband with the parity bits of its own fields and of the data. -/
def sealSide (v : W64) (d : Line) : W64 := withField v 0 9 (headParity v * 2 ^ 8 + dataParity d)
/-- The parity that a consumer checks (R129). -/
def parityHolds (v : W64) (d : Line) : Bool := decide (fieldN v.toNat 0 9 = headParity v * 2 ^ 8 + dataParity d)

/-- An entry met with one bit inverted on its way: bits 0 to 1,023 are its data, 1,024 to 1,087 its sideband. -/
def flipEntry (e : Entry) (bit : Option (BitVec 11)) : Entry :=
  match bit with
  | none => e
  | some k =>
    if k.toNat < 1024 then { e with data := e.data ^^^ (1#1024 <<< k.toNat) }
    else { e with side := e.side ^^^ (1#64 <<< (k.toNat - 1024)) }

/-- The window of a face. -/
def windowOf (g : Region) (f w : Nat) : Window := storeGet Window.closed g.windows (8 * f + w)

/-- The places that an entry with this sideband writes when delivered at face `f` of a region (R130, R133). -/
def sidePlaces (s : State) (r f : Nat) (v : W64) : List Place :=
  match sideKind v with
  | 1 => [.sack r (fieldN v.toNat 51 5) (fieldN v.toNat 38 13)]
  | 2 =>
    let w := windowOf (s.regions[regionFin r]) f (fieldN v.toNat 35 3)
    let seq := fieldN v.toNat 19 16
    if w.isOpen && decide (seq < w.len) then [.sack r w.dsack (w.base + seq), .peg r w.peg] else []
  | _ => []

/-- The THRU of a region that names arrival `i` in beat b: the last issued (R134; log entry 31). -/
def thruFor (g : Region) (i b : Nat) : Option Thru :=
  g.thrus.reverse.find? (fun t => t.inn == i && decide (t.first ≤ b) && decide (b ≤ t.last))

/-- The places that an entry sent to the Hub attachment of a region writes (R184). -/
def hubPlaces (r : Nat) (v : W64) : List Place :=
  if sideKind v = 2 then [.hubLine (if r = 9 then 0 else 1) (fieldN v.toNat 35 3) (fieldN v.toNat 19 16)] else []

/-- The places that an entry due at arrival `i` of region n in beat b writes, following the THRU actions in force (`fuel`
hops). -/
def entryPlaces (s : State) : Nat → Nat → Nat → Nat → W64 → List Place
  | 0, _, _, _, _ => []
  | fuel + 1, n, i, b, v =>
    match thruFor s.regions[regionFin n] i b with
    | none => sidePlaces s n i v
    | some t =>
      if t.out = 5 then hubPlaces n v
      else match faceTarget n t.out with
        | none => []
        | some (m, j) => entryPlaces s fuel m j (b + crossLatency t.out) v

/-- Where an entry written by face `f` of region r in beat b would be delivered. -/
def remotePlaces (s : State) (r f b : Nat) (v : W64) : List Place :=
  if f = 5 then hubPlaces r v
  else match faceTarget r f with
    | none => []
    | some (n, i) => entryPlaces s 10 n i (b + crossLatency f) v

/-- The places that a queued effect of a region, due at beat b, writes. -/
def microPlaces (s : State) (r b : Nat) (m : Micro) : List Place :=
  match m with
  | .sackPut k line _ _ => [.sack r k line]
  | .landPut k line _ => [.sack r k line]
  | .trackPut k line _ _ _ => [.sack r k line]
  | .planePut c p row _ => [.planeRow r c.val p row]
  | .elemOk c p => [.elemFlag r c.val p]
  | .scalePut c p n _ => [.scaleLine r c.val p n]
  | .scaleOk c p => [.scaleFlag r c.val p]
  | .asbPut c _ => [.asb r c.val]
  | .accAdd c bank row vals => tab vals.length (fun i => .accRow r c.val bank (row + i))
  | .stoveFmt c w a both =>
    let planes := if w = 0 then [] else if both then [false, true] else [!((s.regions[regionFin r]).stoves[c]).act]
    planes.flatMap (fun p => .wfmt r c.val p :: (if fmtMx w then [] else [.scales r c.val p])) ++
      (if a = 0 then [] else [.afmt r c.val])
  | .stoveKey c _ _ _ _ => [.stoveKey r c.val]
  | .kregPut u reg _ => [.kreg r u.val reg]
  | .khalfPut u reg _ _ => [.kreg r u.val reg]
  | .kkeyPut u _ _ _ _ _ => [.kettleKey r u.val]
  | .pegCount p _ => [.peg r p]
  | .pegMark p _ => [.pegMark r p]
  | .pegErr p _ => [.pegErr r p]
  | .pegInc p _ => [.peg r p]
  | .landInc p => [.peg r p]
  | .pegArm p _ _ => [.pegThr r p]
  | .pegDisarm p => [.pegArmed r p]
  | .xregPut x _ => [.xreg r x]
  | .portPut _ _ _ _ => []
  | .facePut f side _ _ => remotePlaces s r f b side
  | .thruTake _ _ => []
  | .tidxColumn _ _ _ nl dsack dline => tab nl (fun i => .sack r dsack (dline + i))
  | .kcopy u dst _ _ => [.kreg r u.val dst]
  | .move _ _ dest =>
    match dest with
    | .sack k line _ => [.sack r k line]
    | .face f side extra => remotePlaces s r f (b + extra) side
    | .guyline _ _ _ => []
  | .planeRead c p row _ _ => [.planeRow r c.val p row]
  | .rawRead c bank row _ _ => [.accRow r c.val bank row]
  | .scaleRead c p n _ _ => [.scaleLine r c.val p n]
  | .macRead c _ _ _ bank _ _ _ => [.bank r c.val bank]
  | .macArrive c _ _ _ bank _ _ _ => [.bank r c.val bank]
  | .kexec u op o _ _ =>
    let pair := 4 * (u.val / 2) + 2 * bit1 o.dp
    if o.dm then
      -- a packing KCVT writes the one Sack of the pair that it names (Table 5.5)
      if op = .kcvt && 0x8 ≤ o.func.toNat % 16 && o.func.toNat % 16 ≤ 0xB then
        [.sack r (pair + o.func.toNat / 16 % 2) o.d.toNat]
      else [.sack r pair o.d.toNat, .sack r (pair + 1) o.d.toNat]
    else if op = .kmerge then tab (o.func.toNat % 2 + 3) (fun i => .kreg r u.val (o.d.toNat + i))
    else [.kreg r u.val o.d.toNat]
  | .ksrStore _ _ _ k line => [.sack r k line]
  | .twrRead _ _ addr => [.hbm addr]
  | .hbmPut addr _ => [.hbm addr]

/-! ## Holds and faults -/

/-- Whether the pacer is RUN or HELD. -/
def pacing (s : State) : Bool := s.pacer.mode == .run || s.pacer.mode == .held

/-- Whether a job runs: no longer once it is struck, although begun beats go on to their ends (R260). -/
def running (s : State) : Bool := pacing s && !s.tarp.struck

/-- The pacer enters HELD: x is the last permit released (R248). -/
def enterHeld (s : State) : State :=
  if s.pacer.mode = .run ∧ s.tarp.struck = false then
    countField { s with pacer := { s.pacer with mode := .held }
                        lantern := { s.lantern with tagged := s.lantern.tagged.map (fun t => { t with held := t.held || t.ended.isNone }) }
                        tarp := { s.tarp with x := s.pacer.released - 1, best := none, resume := none } }
      Reg.TARP_COUNT 16 16 1
  else s

/-- Whether a Peg is in HOSTW, and in ALLOC (Table 3.11). -/
def pegHostw (s : State) (r p : Nat) : Bool :=
  match s.pitch with
  | some q => (q.hostw.getD r 0).getLsbD p
  | none => false

/-- The beat of a Peg's last change of COUNT is kept for the slack of a PWAIT (R258). -/
def touchPeg (s : State) (r : Fin 32) (p : Nat) : State :=
  { s with pegTouched := storeSet 0 s.pegTouched (r.val * 512 + p) ((s.regions[r]).begun - 1) }

/-- Armed Pegs of a region whose COUNT has reached THR pulse their notify source and disarm (R142): source 4r + NSRC. -/
def notifyPegs (s : State) (r : Fin 32) : State :=
  (s.regions[r]).pegs.foldl (fun s e =>
    if e.2.armed && decide (e.2.thr.toNat ≤ e.2.count.toNat) then
      pulse (setPeg s r e.1 (fun q => { q with armed := false })) (4 * r.val + e.2.nsrc)
    else s) s

/-- What waits for the region's next beat is applied where it stops for good (R136): COUNT wraps in HOSTW, and is undefined past
2^32 - 1 outside it. -/
def flushLater (s : State) (r : Fin 32) : State :=
  let s := (s.regions[r]).pegLater.foldl (fun s e =>
    let c := (pegOf s.regions[r] e.1).count.toNat + e.2.1
    let s := if e.2.2 then setPeg s r e.1 (fun q => { q with err := true }) else s
    if e.2.1 = 0 ∧ e.2.2 then s
    else if 2 ^ 32 ≤ c && !pegHostw s r.val e.1 then undefine s (.peg r.val e.1)
    else setPeg s r e.1 fun q => { q with count := BitVec.ofNat 32 c }) s
  notifyPegs (modRegion s r fun g => { g with pegLater := [] }) r

/-- The entries on their way to the Hub attachment of a region: W9 has attachment 0, E6 attachment 1 (R30). -/
def hubEntries (s : State) (r : Fin 32) : List Entry := if hasHub r.val then s.hubIn.getD (if r = 9 then 0 else 1) [] else []

/-- Those entries replaced. -/
def setHubEntries (s : State) (r : Fin 32) (l : List Entry) : State :=
  if hasHub r.val then { s with hubIn := listSet s.hubIn (if r = 9 then 0 else 1) l } else s

/-- Every queued effect due at a beat the region never begins is dropped and its destination undefined, and so is every
crossing entry due then (R260). -/
def settleRegion (s : State) (r : Fin 32) : State :=
  let g := s.regions[r]
  let late := g.due.filter (fun d => decide (g.begun ≤ d.beat))
  let ents := (List.finRange 6).flatMap (fun i => (g.xings[i].filter (fun e => decide (g.begun ≤ e.due))).map (fun e => (i.val, e)))
  let ps := late.flatMap (fun d => microPlaces s r.val d.beat d.op) ++
    ents.flatMap (fun x => entryPlaces s 10 r.val x.1 x.2.due x.2.side) ++
    ((hubEntries s r).filter (fun e => decide (g.begun ≤ e.due))).flatMap (fun e => hubPlaces r.val e.side)
  let s := setHubEntries (undefineAll s ps) r ((hubEntries s r).filter (fun e => decide (e.due < g.begun)))
  modRegion s r fun g =>
    { g with due := g.due.filter (fun d => decide (d.beat < g.begun)),
             xings := g.xings.map (fun l => l.filter (fun e => decide (e.due < g.begun))) }

/-- Every window of a region closes; DROP bits stay. -/
def closeWindows (g : Region) : Region :=
  { g with windows := (g.windows.map (fun x => (x.1, { Window.closed with drop := x.2.drop }))).filter (fun x => x.2 ≠ Window.closed) }

/-- A Lantern arm not reached when the pacer enters ARMED is cancelled (R373). -/
def cancelArm (s : State) : State :=
  if s.lantern.arm.isSome then
    logEvent (setField { s with lantern := { s.lantern with arm := none } } Reg.LN_STAT 30 2 0) 0x0042
  else s

/-! ## CAL and ARMED -/

/-- The local tick counter in 1/256 tick, 0 at reset (R40). -/
def localNow (s : State) : Nat := s.time - s.pacer.localFrom

/-- CAL permits run on from now by the local tick counter, as while the Compass has no count (R40). -/
def goLocal (s : State) : State :=
  { s with pacer := { s.pacer with
    onLocal := true, anchorAt := localNow s, anchorBeat := s.pacer.released, base := none
    anchorEnd := (localNow s / 262144 + 1) * 262144 } }

/-- The pacer enters CAL (Table 2.3): permits at 1,311 a local or Compass epoch from now on (R40), no beat begun yet. -/
def enterCal (s : State) : State :=
  let now := if s.compass.valid then nowUnits s else localNow s
  { s with pacer := { s.pacer with
    mode := .cal, kept := s.pacer.released, calBegun := [], onLocal := !s.compass.valid
    anchorAt := now, anchorBeat := s.pacer.released, anchorEnd := (now / 262144 + 1) * 262144, base := none } }

/-- The pacer leaves CAL: ARMED with a Pitch applied, else OFF; the permit count is as it was (R390). -/
def quitCal (s : State) : State :=
  if s.pacer.mode = .cal then
    { s with pacer := { s.pacer with mode := if s.pitch.isSome then .armed else .off, released := s.pacer.kept, base := none, calBegun := [], onLocal := false } }
  else s

/-- HUB_ST_STAT follows the self-test (Table 17.6). -/
def refreshTest (s : State) : State :=
  setReg s Reg.HUB_ST_STAT (match s.startup.test with
    | some t => BitVec.ofNat 64 ((if t.running then 2 else 1) * 2 ^ 30 + t.kind * 2 ^ 28 + t.ticket * 2 ^ 16)
    | none => 0)

/-- A result of a self-test is kept: 0 pass, 1 fail, 2 aborted, 3 cancelled. -/
def noteTest (s : State) (ticket result : Nat) : State :=
  setReg { s with startup := { s.startup with results := (s.startup.results.filter (fun e => e.1 != ticket)) ++
      [(ticket, result, s.compass.count)] } } Reg.HUB_ST_LAST (BitVec.ofNat 64 (ticket * 2 ^ 24 + result * 2 ^ 16))

/-- The idle time that a rest-point test needs: its duration and 500 µs, in ticks (R390, Table 17.4). -/
def restTicks (kind : Nat) : Nat := if kind = 1 then 546875 else 140625

/-- A launch, or too short an idle time, stops a running test; it becomes pending again (R392). -/
def abortTest (s : State) : State :=
  match s.startup.test with
  | some t =>
    if t.running then
      let s := quitCal { s with startup := { s.startup with test := some { t with running := false } } }
      logEvent (refreshTest (noteTest s t.ticket 2)) 0x000A
    else s
  | none => s

/-- TR_LAUNCH_SEG names a segment of the loaded Trail. -/
def segmentLoaded (s : State) : Bool := decide (getField s Reg.TR_LAUNCH_SEG 0 12 < s.trail.nseg)

/-- TR_STAT.STATE is LOADED or STOPPED, and no begun beat of a struck job is still to complete (R78, R260). -/
def launchable (s : State) : Bool := (s.trail.mode == .loaded || s.trail.mode == .stopped) && !pacing s

/-- LAUNCH_PEG_TRIGGER (R348): evaluated at each change of the launch Peg's COUNT and whenever the pacer enters ARMED. A launch already
accepted is a launch started: no other is accepted until it has begun; one that another launch has overtaken (pegArm 0) is anchored
anew when the pacer is next ARMED (log entry 106). -/
def evalLaunchPeg (s : State) : State :=
  let v := (getReg s Reg.HST_LPEG).toNat
  let p := fieldN v 0 14
  let c := (pegOf s.regions[regionFin (p / 512)] (p % 512)).count
  let single := match s.pitch with
    | some q => q.extent.all (· == 1)
    | none => false
  let overtaken := decide (s.trail.pegArm = some 0)
  if fieldN v 31 1 = 0 ∨ (!overtaken ∧ 2 ^ 31 ≤ (c - (getReg s Reg.HST_LNEXT).setWidth 32).toNat) then s
  else if launchable s && (s.trail.pegArm.isNone || overtaken) && segmentLoaded s && decide (getField s Reg.BK_STAT 31 1 = 1) &&
      single && compassState s != 0 then
    let s := if overtaken then s
      else pulse (pulse (setReg s Reg.HST_LNEXT ((getReg s Reg.HST_LNEXT + 1) &&& 0xFFFFFFFF)) 199) 215
    abortTest { s with trail := { s.trail with pegArm := some (ceilDiv (nowTicks s + getField s Reg.HST_LMARGIN 0 16) 64 * 64) } }
  else pulse (pulse (logEvent s 0x0C0A) 198) 214

/-- CAL ends, and a launch by Peg write is evaluated where the pacer enters ARMED. -/
def leaveCal (s : State) : State :=
  if s.pacer.mode = .cal ∧ s.pitch.isSome then evalLaunchPeg (quitCal s) else quitCal s

/-- An entry appended to the gear log; one that finds it full is dropped (R306). -/
def gearAppend (s : State) (w0 w1 : Nat) : State :=
  if 1024 ≤ s.gearLog.length then logEvent (countField s Reg.CR_GLOG_STAT 16 16 1) 0x0227
  else { s with gearLog := s.gearLog ++ [(BitVec.ofNat 64 w0, BitVec.ofNat 64 w1)] }

/-- The pacer enters ARMED at the end of a STOP boundary or CHLT (R63, R146). -/
def enterArmed (s : State) : State :=
  let s := forRegions s (fun r s => flushLater (settleRegion s r) r)
  let s := if s.pacer.stopCloses then modRegions s closeWindows else s
  let s := cancelArm { s with pacer := { s.pacer with mode := .armed }, trail := { s.trail with mode := .stopped } }
  evalLaunchPeg (pulse s 146)

/-- The pacer stops once every region has completed the stop beat in RUN; a hold is released first. -/
def settleStop (s : State) : State :=
  match s.pacer.stopAt with
  | some b => if s.pacer.mode = .run ∧ s.tarp.struck = false ∧ s.regions.toList.all (fun g => decide (b < g.completed)) then enterArmed s else s
  | none => s

/-- What waits for a beat that the region never begins does not take place, and leaves its COUNT or ERR undefined (R260). -/
def dropLater (s : State) (r : Fin 32) : State :=
  let places (e : Nat × Nat × Bool) : List Place :=
    (if e.2.1 = 0 ∧ e.2.2 then [] else [.peg r.val e.1]) ++ (if e.2.2 then [.pegErr r.val e.1] else [])
  let l := (s.regions[r]).pegLater
  undefineAll (modRegion s r fun g => { g with pegLater := [] }) (l.flatMap places)

/-- A struck job's pacer enters ARMED once every region has completed every beat it has begun (R260). -/
def settleStrike (s : State) : State :=
  if s.tarp.struck && pacing s && s.regions.toList.all (fun g => g.completed == g.begun) then
    evalLaunchPeg (cancelArm { s with pacer := { s.pacer with mode := .armed } })
  else s

/-- The steps every striking module takes (R260): a region in a beat completes it first, and its windows close then. `code` and
`origin` go into TARP_STRIKE. A boundary that is resolved has its entry in the gear log when its beat completes (R306). -/
def strikeSteps (s : State) (code origin : Nat) (mode : TrailMode) : State :=
  let s := setReg s Reg.TARP_STRIKE (BitVec.ofNat 64 (code * 2 ^ 16 + 2 ^ 15 + origin % 2 ^ 15))
  let s := { s with
    tarp := { s.tarp with struck := true, holds := [], best := none, resume := none, released := [] }
    trail := { s.trail with mode := mode, crossroad := none }
    firewatch := { s.firewatch with voteWait := none }
    }
  let s := modRegions s fun g => { (if g.completed = g.begun then closeWindows g else g) with waits := [], held := 0, asleep := 0 }
  settleStrike (pulse (discardRecords (forRegions s (fun r s => dropLater (settleRegion s r) r)) true true) 147)

/-- A strike raised by this module: STRIKE is sent with its own code and index (R260). A module already struck changes
nothing. -/
def strike (s : State) (code : Nat) : State :=
  if s.tarp.struck then s
  else strikeSteps (sendCamp s none 16 (strikePayload code (selfIndex s))) code (selfIndex s) .fault

/-- The module as it restarts (R395, R396): only the map, the calibration history, HUB_RESET, PE_LAST, the event log and the
flash are kept, with what the power entry and the Lamps physically are. -/
def restart (s : State) (power : PowerState) (step : Nat) : State :=
  let s := mergeMap s
  let kept : List Nat := [Reg.HUB_CAL_T, Reg.HUB_RESET, Reg.PE_LAST, Reg.HUB_MAP_STAT, Reg.PE_STAT, Reg.LAMP_OPEN] ++
    tab 32 Reg.HUB_MAP ++ tab 8 Reg.HUB_MAP_DIGEST ++ tab 4 Reg.PE_PAIR ++ tab 8 Reg.LAMP_STAT ++ tab 8 Reg.LAMP_SER
  let t := { State.reset with
    pacer := { State.reset.pacer with localFrom := s.time, voltAt := s.time }
    time := s.time, free := s.free, identity := s.identity, flash := s.flash, flaws := s.flaws, log := s.log
    logSeq := s.logSeq, out := s.out, pending := s.pending
    startup := { Startup.reset with
      power := power, stepFrom := s.time, mapSeq := s.startup.mapSeq, mapCount := s.startup.mapCount
      ramps := s.startup.ramps, pairsFrom := s.startup.pairsFrom, probes := s.startup.probes } }
  let t := kept.foldl (fun t k => setReg t k (getReg s k)) t
  setField (setField t Reg.SEC_STAT 28 1 (getField s Reg.SEC_STAT 28 1)) Reg.HUB_BOOT 28 4 step

/-- The code of a level-3 fault goes to HUB_RESET, and the resets since power-on are counted. -/
def noteReset (s : State) (code : Nat) : State :=
  setReg s Reg.HUB_RESET (BitVec.ofNat 64 (code * 2 ^ 48 + min 65535 (getField s Reg.HUB_RESET 32 16 + 1) * 2 ^ 32))

/-- What turns the converters on again after a block-15 fault (Table 18.1, R403, R404). -/
def restartAfter (code : Nat) : PowerState :=
  if code = 0x3F02 then .pairs else if code = 0x3F04 ∨ code = 0x3F05 then .input else .dead

/-- A level-3 fault (R379, R380, R395, R404, R405): one of block 15 turns the converters off; during bring-up steps 2 to 9 the
module is left FAILED, or in RECOVERY by 0x3E01; a FAILED module stays so but for RESET; else the module resets. -/
def moduleReset (s : State) (code : Nat) : State :=
  if code / 256 % 16 = 15 then
    let s := setReg s Reg.PE_LAST (BitVec.ofNat 64 (code * 2 ^ 48 + (if s.compass.valid then s.compass.count.toNat % 2 ^ 32 else 0)))
    restart (noteReset s code) (restartAfter code) 0
  else
    let step := getField s Reg.HUB_BOOT 28 4
    let mode := getField s Reg.HUB_BOOT 22 2
    if mode = 0 ∧ 2 ≤ step ∧ step ≤ 9 then
      if code = 0x3E01 then setField (setField s Reg.HUB_BOOT 22 2 3) Reg.SEC_STAT 31 1 1
      else setField (setField s Reg.HUB_BOOT 24 4 step) Reg.HUB_BOOT 22 2 2
    else if mode = 2 ∧ code ≠ 0x3007 then s
    else
      let t := restart (noteReset s code) s.startup.power 2
      { t with startup := { t.startup with thermal := decide (code = 0x3B06) } }

/-- What a fault latches (Table 3.14). -/
structure FaultAt where
  region : Nat
  slot : Nat
  kind : Nat := 0
  beat : Nat
  deriving DecidableEq, Repr

/-- TR_FAULT and TR_FAULT_BEAT latched, if nothing is latched since launch. -/
def latchFault (s : State) (code : Nat) (a : FaultAt) : State :=
  if getReg s Reg.TR_FAULT = 0 then
    setReg (setReg s Reg.TR_FAULT (BitVec.ofNat 64 (code * 2 ^ 48 + a.region * 2 ^ 43 + a.slot * 2 ^ 37 + a.kind * 2 ^ 33)))
      Reg.TR_FAULT_BEAT (BitVec.ofNat 64 a.beat)
  else s

/-- A fault or event of any level (R12, Table 0.4, Table 17.7). -/
def raise (s : State) (code : Nat) (a : FaultAt) : State :=
  let s := logEvent s code
  match code / 4096 with
  | 2 =>
    let s := latchFault s code a
    if s.tarp.struck then pulse s 147 else strike s code
  | 3 => moduleReset s code
  | _ => s

/-- A fault that no region raises: region 0, slot 63 (R264). -/
def raiseModule (s : State) (code : Nat) : State :=
  raise s code { region := 0, slot := 63, beat := s.pacer.released - 1 }

/-- A fault of an action or arrival of region r in its beat in progress. -/
def raiseAt (s : State) (code : Nat) (r : Fin 32) (slot : Nat) : State :=
  raise s code { region := r.val, slot := slot, beat := lastBeat s.regions[r] }

/-- A debug-mode hazard (R74): only the first since launch is latched and raised. -/
def raiseHazard (s : State) (kind : Nat) (r slot beat : Nat) : State :=
  if getField s Reg.TR_FAULT 48 16 = 0x2223 then s else raise s 0x2223 { region := r, slot := slot, kind := kind, beat := beat }

/-- A Tarp hold raised by this module at beat a (R248): at once HELD, HOLD sent, event 0x0120. A hold of the same beat takes a
further cause; a seventeenth hold is fault 0x2123 (R251). -/
def raiseHold (s : State) (a : Nat) (cause : HoldCause) : State :=
  if s.tarp.struck then s
  else
    let s := enterHeld s
    if s.tarp.holds.any (fun h => h.own && decide (h.a = a)) then
      { s with tarp := { s.tarp with holds := s.tarp.holds.map (fun h =>
          if h.own && decide (h.a = a) then { h with causes := h.causes ++ [cause] } else h) } }
    else if s.tarp.holds.length = 16 then raiseModule s 0x2123
    else
      let s := { s with tarp := { s.tarp with
        holds := s.tarp.holds ++ [{ origin := selfIndex s, a := a, own := true, causes := [cause] }]
        newest := (selfIndex s, a)
        resume := none
        repeatAt := nowTicks s + getField s Reg.TARP_REPEAT 0 16 } }
      let s := countField s Reg.TARP_COUNT 0 16 1
      capture (logEvent (sendCamp s none 8 (holdPayload (selfIndex s) a)) 0x0120) 2 a

end Sys2Proof.Machine
end

