-- ==== Sys2Proof/Machine/Observe.lean ====
section
/-!
DEFINITION. Machine/Observe.lean: what watches the beats and never moves them: Zipper's digests (R291 to R294) and Lantern's
counters and snapshots at the end of a beat (R368 to R373).
-/

namespace Sys2Proof.Machine

/-! ## Zipper -/

/-- Zipper compares windows of 64 beats (SCOPE 0). -/
def zipWindows (s : State) : Bool := getField s Reg.ZP_CTL 30 2 == 2
/-- Zipper compares boundaries (SCOPE 1). -/
def zipBoundaries (s : State) : Bool := getField s Reg.ZP_CTL 30 2 == 3
/-- ZP_CTL.PORT. -/
def zipPort (s : State) : Fin 10 := Fin.ofNat 10 (getField s Reg.ZP_CTL 24 4)
/-- Windows that are kept per region (R293). -/
def zipDepth (s : State) : Nat := if zipBoundaries s then 1024 else 16

/-- A record of the beat in progress (R291). -/
def zipNote (s : State) (r slot beat a b kind : Nat) (bytes : List Byte) : State :=
  if zipWindows s then
    { s with zipper := { s.zipper with recs := s.zipper.recs ++
      [{ region := r, slot := slot, sack := a,
         bytes := leBytes 4 (beat % 64 * 2 ^ 26 + a * 2 ^ 21 + b * 2 ^ 8 + kind) ++ bytes }] } }
  else s

/-- The digest that a CRC-64 register gives: bits [23:0] after the final XOR of R206 (R291). -/
def zipDigest (crc : Nat) : Nat := (crc ^^^ (2 ^ 64 - 1)) % 2 ^ 24

/-- Whether ZIP symbols pass on a port (R235). -/
def zipAllowed (s : State) (p : Fin 10) : Bool :=
  if zipBoundaries s then
    p == zipPort s && s.ports[p].idstat == 1 && (match s.pitch with
      | some q => q.roles.getD p.val 0 == 2
      | none => false)
  else campPort s p

/-- One window's two digests compared (R293). -/
def zipCompare (s : State) (r w own peer : Nat) : State :=
  let s := countField s Reg.ZP_COUNT 16 16 1
  if own = peer then s
  else
    let s := countField s Reg.ZP_COUNT 0 16 1
    if getField s Reg.ZP_STAT 30 2 = 2 then s
    else
      let s := setReg (setField s Reg.ZP_STAT 30 2 2) Reg.ZP_FIRST (BitVec.ofNat 64 w)
      let s := setReg s Reg.ZP_FIRST_DIG (BitVec.ofNat 64 (r * 2 ^ 59 + own * 2 ^ 24 + peer))
      let s := logEvent s 0x0A10
      if getField s Reg.ZP_CTL 29 1 = 1 then raiseModule s 0x2A11 else s

/-- This module's digest of a window: sent as ZIP, compared or kept; windows without a peer digest after the depth are missed
(R293). -/
def zipOwn (s : State) (r w d : Nat) : State :=
  let s := if zipAllowed s (zipPort s) then
      sendSymbol s (zipPort s) 12 (BitVec.ofNat 40 (r * 2 ^ 35 + w % 2 ^ 11 * 2 ^ 24 + d)) else s
  let late (e : WinDigest) : Bool := e.region == r && decide (e.window + zipDepth s ≤ w)
  let missed := (s.zipper.own.filter late).length
  let s := { s with zipper := { s.zipper with own := s.zipper.own.filter (fun e => !late e) } }
  let s := if missed = 0 then s else logLimited (countField s Reg.ZP_MISS 0 32 missed) 0x0A12 0
  match s.zipper.peer.find? (fun e => e.region == r && e.window == w) with
  | some e =>
    zipCompare { s with zipper := { s.zipper with peer := s.zipper.peer.filter (fun e => !(e.region == r && e.window == w)) } }
      r w d e.digest
  | none => { s with zipper := { s.zipper with own := s.zipper.own ++ [{ region := r, window := w, digest := d }] } }

/-- What the boundary that ends the segment in force in a region chose, once that is known. -/
def boundaryTaken (s : State) (g : Region) : Option NextSeg :=
  match g.bndBeat with
  | some b => s.trail.nexts.find? (fun n => n.beat == b)
  | none => none

/-- A region has passed a boundary whose outcome is not known yet. -/
def boundaryOpen (s : State) (g : Region) : Bool := g.bndBeat.isSome && (boundaryTaken s g).isNone

/-- The window in progress of a region ends when its 64 beats are complete (R291) and the outcome of a boundary in it is
known. -/
def zipFinish (s : State) (r : Nat) : State :=
  let w := storeGet 0 s.zipper.done r
  if zipWindows s && !boundaryOpen s s.regions[regionFin r] && decide (64 * (w + 1) ≤ (s.regions[regionFin r]).completed) then
    let d := zipDigest (s.zipper.crcs.getD r 0).toNat
    let s := { s with zipper := { s.zipper with
      crcs := listSet s.zipper.crcs r (BitVec.allOnes 64), done := storePut s.zipper.done r (w + 1) } }
    zipOwn s r w d
  else s

/-- A record put in its place: ascending slot, then Sack number (R291). -/
def zipInsert (e : ZipRec) : List ZipRec → List ZipRec
  | [] => [e]
  | x :: rest => if e.slot < x.slot ∨ (e.slot = x.slot ∧ e.sack < x.sack) then e :: x :: rest else x :: zipInsert e rest

/-- The records of a beat that a region completes go into its window's digest, and into ZP_BEAT for the target window
(R291, R294); those of a boundary's beat once its outcome is known. -/
def zipFold (s : State) (r beat : Nat) : State :=
  if !zipWindows s || boundaryOpen s s.regions[regionFin r] then s
  else
    let s := if beat % 64 = 0 ∧ storeGet 0 s.zipper.done r * 64 < beat then zipFinish (zipFinish s r) r else s
    let mine := (s.zipper.recs.filter (fun e => e.region == r)).foldl (fun l e => zipInsert e l) []
    let bytes := mine.flatMap (·.bytes)
    let s := { s with zipper := { s.zipper with
      recs := s.zipper.recs.filter (fun e => e.region != r)
      crcs := listSet s.zipper.crcs r (BitVec.ofNat 64 (crc64 (s.zipper.crcs.getD r 0).toNat bytes)) } }
    if getField s Reg.ZP_CTL 28 1 = 1 ∧ (getReg s Reg.ZP_TARGET).toNat = beat / 64 then
      setReg s (Reg.ZP_BEAT r (beat % 64)) (BitVec.ofNat 64 (zipDigest (crc64 (2 ^ 64 - 1) bytes)))
    else s

/-! ## Lantern at the end of a beat -/

/-- A region's counters copied to the snapshot bank (R372). -/
def snapRegion (s : State) (r : Nat) : State :=
  let mine (k : Nat) : Bool := k / 64 == r
  let l := s.lantern
  { s with lantern := { l with
    snap := (List.range 58).foldl (fun t k => storeSet 0 t (64 * r + k) (storeGet 0 l.counts (64 * r + k)))
      (l.snap.filter (fun e => !mine e.1))
    snapWraps := storeSet 0 l.snapWraps r (storeGet 0 l.wraps r)
    snapped := l.snapped ||| (1#32 <<< r), endedAt := s.compass.count } }

/-- Units of a region in a given idle depth (Table 14.5). -/
def idleUnits (g : Region) (depth : Nat) : Nat := (g.idleOf.filter (fun e => e.2 == depth)).length

/-- The time in 1/16 tick for which a region has been in its beat, since the last CLEAR (R368, R371). -/
def busyTime (s : State) (g : Region) : Nat := s.time / 16 - max g.begunAt s.lantern.cleared / 16

/-- What a region's Lantern counters take from a beat it completes (Table 16.5). -/
def lnBeatCounts (s : State) (r : Fin 32) (beat : Nat) : State :=
  let g := s.regions[r]
  let s := lnAdd s r.val 57 (busyTime s g)
  let s := (List.finRange 8).foldl (fun s c => if beat < (g.stoves[c]).mFree then lnAdd s r.val (4 + c.val) 1 else s) s
  let s := lnAdd (lnAdd s r.val 20 g.readers.length) r.val 21 g.writers.length
  let s := g.faces.foldl (fun s f => lnAdd s r.val (if f.1 < 4 then 23 + f.1 else 27) 1) s
  let s := if g.tracks.any (fun t => decide (beat < t.2.farEnd)) then lnAdd s r.val 36 1 else s
  let s := lnAdd s r.val 43 (idleUnits g 1)
  let s := lnAdd s r.val 44 (idleUnits g 2 / 3)
  if 0 < idleUnits g 3 then lnAdd s r.val 45 1 else s

/-- Tagged rows whose completion beat a region has ended (R375). -/
def endRows (s : State) (r beat : Nat) : State :=
  { s with lantern := { s.lantern with tagged := s.lantern.tagged.map (fun t =>
      if t.region = r ∧ t.ended = none ∧ t.last ≤ beat then { t with ended := some (nowUnits s) } else t) } }

/-- The end of a beat in a region: Zipper's records, Lantern's counters, and the snapshot if the beat is the armed one. -/
def endBeat (s : State) (r : Fin 32) (beat : Nat) : State :=
  let s := endRows (lnBeatCounts (zipFold s r.val beat) r beat) r.val beat
  match s.lantern.arm with
  | some (b, freeze) =>
    if b = beat then
      let s := snapRegion s r.val
      if freeze then { s with lantern := { s.lantern with frozen := s.lantern.frozen ||| (1#32 <<< r.val) } } else s
    else s
  | none => s

end Sys2Proof.Machine
end

