-- ==== Sys2Proof/Machine/Operands.lean ====
section
/-!
DEFINITION. Machine/Operands.lean: how an action reaches its operands and destinations in a beat: Sack ports, Pegs, queued
effects and crossings, with the hazards of Table 3.13.
-/

namespace Sys2Proof.Machine

/-- What an action or a queued effect works with: its region, the beat in progress, the beat it issued at, its slot. -/
structure Ctx where
  r : Fin 32
  beat : Nat
  issue : Nat
  slot : Nat
  deriving DecidableEq, Repr

/-- The region of a context. -/
def Ctx.g (x : Ctx) (s : State) : Region := s.regions[x.r]

/-- A fault of the context's action (R102, R149, R172). -/
def faultOf (x : Ctx) (s : State) (code : Nat) : State :=
  raise s code { region := x.r.val, slot := x.slot, beat := x.beat }

/-- Whether logical cluster c of region r is detoured (R67). -/
def detoured (s : State) (r c : Nat) : Bool :=
  match s.pitch with
  | some p => p.detours.any (fun d => d.home == r && d.cluster == c)
  | none => false

/-- The 12 beats a path takes more when exactly one of its ends is in the detoured cluster: `a` and `b` are the clusters of the
ends, none for a unit outside every cluster (R67). -/
def detourBeats (s : State) (r : Fin 32) (a b : Option Nat) : Nat :=
  let far (c : Option Nat) : Bool := match c with
    | some c => detoured s r.val c
    | none => false
  if a ≠ b && (far a || far b) then 12 else 0

/-- The cluster of a Sack of the region. -/
def sackCluster (k : Nat) : Option Nat := some (k / 4)

/-! ## Queued effects -/

/-- An effect queued for a later beat. Where the job is struck and the region never begins that beat, it does not take place
and its destination is undefined (R260). An effect due after the CBND beat of its segment is a hazard of kind 6 with the same
result (R55, R75); records for the home port and landings may run past it. -/
def later (x : Ctx) (s : State) (beat : Nat) (m : Micro) : State :=
  let g := x.g s
  let past := match g.bndBeat with
    | some b => decide (x.issue ≤ b) && decide (b < beat)
    | none => false
  let free := match m with
    | .portPut _ _ _ _ => true
    | .move _ _ (.guyline _ _ _) => true
    | .landPut _ _ _ => true
    | .landInc _ => true
    | _ => false
  if s.tarp.struck && decide (g.begun ≤ beat) then undefineAll s (microPlaces s x.r.val beat m)
  else if past && !free then
    let s := if debugOn s then raiseHazard s 6 x.r.val x.slot (g.bndBeat.getD 0) else s
    undefineAll s (microPlaces s x.r.val beat m)
  else modRegion s x.r fun g => { g with due := g.due ++ [{ beat := beat, issue := x.issue, slot := x.slot, op := m }] }

/-! ## Sack ports -/

/-- A line with the bytes of `mask` taken from `v`. -/
def mergeLine (old v : Line) (mask : BitVec 128) : Line :=
  if mask = BitVec.allOnes 128 then v
  else lineOf (tab 128 (fun j => if mask.getLsbD j then lineByte v j else lineByte old j))

/-- Every byte of a line. -/
def fullMask : BitVec 128 := BitVec.allOnes 128

/-- Whether an open window of the Guyline face owns the write port of a Sack (R239). -/
def guylineOwned (g : Region) (k : Nat) : Bool :=
  g.windows.any (fun e => decide (48 ≤ e.1) && e.2.isOpen && e.2.dsack == k)

/-- A write of a Sack line in the beat in progress. A write into a Sack that a Guyline window owns is a hazard of kind 3 (R239). A
second use of the write port is a hazard of kind 2 where the line is the
same, else kind 3; every byte of both lines is then undefined (R74, R123). -/
def writeSack (x : Ctx) (s : State) (k line : Nat) (v : Line) (mask : BitVec 128) : State :=
  let g := x.g s
  let others := g.writers.filter (fun w => w.1 == k)
  let s := modRegion s x.r fun g => { g with writers := g.writers ++ [(k, line, x.slot)] }
  if guylineOwned g k then
    let s := if debugOn s then raiseHazard s 3 x.r.val x.slot x.beat else s
    undefine s (.sack x.r.val k line)
  else if others.isEmpty then
    let v := mergeLine (sackLine g k line) v mask
    putSackLine (zipNote s x.r.val x.slot x.beat k line 0 (lineBytes v)) x.r k line v
  else
    let slot := others.foldl (fun m w => max m w.2.2) x.slot
    let kind := if others.any (fun w => w.2.1 == line) then 2 else 3
    let s := if debugOn s then raiseHazard s kind x.r.val slot x.beat else s
    undefineAll s (.sack x.r.val k line :: others.map (fun w => .sack x.r.val k w.2.1))

/-- The errors latent in a Sack line: found at a read (R125). Corrected ones are counted and logged; an uncorrectable one is
fault 0x2506. -/
def checkSackEcc (x : Ctx) (s : State) (k line : Nat) : State :=
  s.flaws.foldl (fun s f =>
    match f with
    | .sack r' k' l' w ue =>
      if r' = x.r.val ∧ k' = k ∧ l' = line then
        let s := countField s (Reg.RG_SACK_ECC x.r.val) (if ue then 0 else 16) 16 1
        let s := setReg s (Reg.RG_SACK_ECC_LOC x.r.val)
          (BitVec.ofNat 64 (k * 2 ^ 27 + line * 2 ^ 14 + w * 2 ^ 10 + bit1 ue * 2 ^ 9))
        if ue then faultOf x s 0x2506 else lnAdd (logEvent s 0x0505) x.r.val 22 1
      else s
    | _ => s) s

/-- Whether a line has an uncorrectable error. -/
def sackUe (s : State) (r : Fin 32) (k line : Nat) : Bool :=
  s.flaws.any (fun f => match f with
    | .sack r' k' l' _ ue => ue && decide (r' = r.val ∧ k' = k ∧ l' = line)
    | _ => false)

/-- Whether a sideband may lead to a place: it names the Sack line of the place, or a window. -/
def sideReaches (v : W64) (p : Place) : Bool :=
  match p with
  | .sack _ k line => (sideKind v == 1 && fieldN v.toNat 51 5 == k && fieldN v.toNat 38 13 == line) || sideKind v == 2
  | .peg _ _ => sideKind v == 2
  | _ => false

/-- Whether an entry on its way over a crossing, or still to be sent into one, writes a place at a later beat (R32, R134), its
action having issued at an earlier beat than the reader's (R74, kind 1). -/
def crossingPending (x : Ctx) (s : State) (p : Place) : Bool :=
  (List.finRange 32).any fun n =>
    let g := s.regions[n]
    (List.finRange 6).any (fun i => (g.xings[i]).any fun e =>
      decide (e.issue < x.issue) && decide (x.beat < e.due) && sideReaches e.side p &&
        (entryPlaces s 10 n.val i.val e.due e.side).contains p) ||
    (decide (n ≠ x.r) && g.due.any fun d => decide (d.issue < x.issue) && (match d.op with
      | .facePut _ side _ _ => sideReaches side p
      | .move _ _ (.face _ side _) => sideReaches side p
      | _ => false) && (microPlaces s n.val d.beat d.op).contains p)

/-- Whether a write to a line is due later that an action of an earlier beat than the reader's issued (Table 3.13, kind 1). -/
def pendingWrite (x : Ctx) (s : State) (p : Place) : Bool :=
  (x.g s).due.any (fun d => decide (d.issue < x.issue) && decide (x.beat < d.beat) &&
    (microPlaces s x.r.val d.beat d.op).contains p) || crossingPending x s p

/-- Whether a Sack's read port has two uses in the beat in progress (R123): a hazard of kind 3. -/
def portClash (x : Ctx) (s : State) (k : Nat) : Bool × State :=
  let users := (x.g s).readers.filter (fun u => u.1 == k)
  if 1 < users.length then
    (true, if debugOn s then raiseHazard s 3 x.r.val (users.foldl (fun m u => max m u.2) 0) x.beat else s)
  else (false, s)

/-- A read of a Sack line in the beat in progress, with the state after it. Two uses of the read port (kind 3), or a write
still due that an earlier action issued (kind 1), make the line as read undefined (R74, R75, R123). -/
def readSack (x : Ctx) (s : State) (k line : Nat) : Line × State :=
  let v := sackLine (x.g s) k line
  let (clash, s) := portClash x s k
  if clash then freshLine s
  else if pendingWrite x s (.sack x.r.val k line) then
    let s := if debugOn s then raiseHazard s 1 x.r.val x.slot x.beat else s
    freshLine s
  else if sackUe s x.r k line then freshLine (checkSackEcc x s k line)
  else (v, checkSackEcc x s k line)

/-! ## Pegs -/

/-- Whether a Peg is in ALLOC (Table 3.11). -/
def pegAlloc (s : State) (r p : Nat) : Bool :=
  match s.pitch with
  | some q => (q.alloc.getD r 0).getLsbD p
  | none => false

/-- A Peg access that the programmable counters see (Table 16.6): class 4 for a read, 5 for a write or increment. -/
def lnPeg (s : State) (r p cls priv master : Nat) : State := lnAccess s r cls (512 * r + p) 4 priv master

/-- An increment of a Peg (R136): COUNT wraps modulo 2^32; past 2^32 - 1 outside HOSTW it is a hazard of kind 5, and the COUNT
is undefined. -/
def incPeg (x : Ctx) (s : State) (p n : Nat) : State :=
  let c := (pegOf (x.g s) p).count.toNat + n
  let s := touchPeg s x.r p
  if 2 ^ 32 ≤ c && !pegHostw s x.r.val p then
    let s := if debugOn s then raiseHazard s 5 x.r.val x.slot x.beat else s
    undefine s (.peg x.r.val p)
  else setPeg s x.r p fun q => { q with count := BitVec.ofNat 32 c }

/-- A Peg action of the Trail on a HOSTW Peg is a hazard of kind 5 (R137), latched with the beat at which it is due (log entry
86): the field it names is undefined, and no other (R75). -/
def trailPeg (x : Ctx) (s : State) (p : Nat) (field : Place) (f : Peg → Peg) : State :=
  if pegHostw s x.r.val p then
    let s := if debugOn s then raiseHazard s 5 x.r.val x.slot x.beat else s
    undefine s field
  else setPeg s x.r p f

/-- An increment whose beat is not fixed (R136): at the start of the next beat, or at once while the region is stopped at an
unsatisfied wait. `err` also sets ERR; with n = 0 it does nothing else. -/
def incPegLater (s : State) (r : Fin 32) (p n : Nat) (err : Bool) : State :=
  let g := s.regions[r]
  let x : Ctx := { r := r, beat := lastBeat g, issue := lastBeat g, slot := 61 }
  if !g.waits.isEmpty || (s.pacer.mode ≠ .run && s.pacer.mode ≠ .held) || s.tarp.struck then
    let s := if err then setPeg s r p (fun q => { q with err := true }) else s
    notifyPegs (if n = 0 ∧ err then s else incPeg x s p n) r
  else modRegion s r fun g => { g with pegLater := g.pegLater ++ [(p, n, err)] }

/-! ## Faces and crossings -/

/-- An output face is used in the beat in progress by the context's action. -/
def useFace (x : Ctx) (s : State) (f : Nat) : State :=
  modRegion s x.r fun g => { g with faces := g.faces ++ [(f, x.slot)] }

/-- What an action of the beat in progress sent through a face that a second action now uses (R74, R75): a line still on its way
to the face, or to the home port, becomes undefined. -/
def spoilFace (x : Ctx) (s : State) (f : Nat) : State :=
  let (v, s) := freshLine s
  modRegion s x.r fun g => { g with due := g.due.map (fun d => match d.op with
    | .facePut f' side (some b) _ => if f' = f ∧ b = x.beat then { d with op := .facePut f' side (some b) v } else d
    | .portPut wid seq b _ => if f = 6 ∧ b = x.beat then { d with op := .portPut wid seq b v } else d
    | _ => d) }

/-- The slot later in slot order of those that use a face in the beat in progress (R74). -/
def lastUser (x : Ctx) (s : State) (f : Nat) : Nat :=
  ((x.g s).faces.filter (fun u => u.1 == f)).foldl (fun m u => max m u.2) x.slot

/-- A face used in the beat in progress, and whether another action had used it: a hazard of kind 3, or of kind 4 where a THRU
forwards (R36, R74). -/
def takeFace (x : Ctx) (s : State) (f : Nat) (thru : Bool) : Bool × State :=
  let taken := (x.g s).faces.any (fun u => u.1 == f)
  let slot := lastUser x s f
  let s := useFace x s f
  if taken then
    (true, spoilFace x (if debugOn s then raiseHazard s (if thru then 4 else 3) x.r.val slot x.beat else s) f)
  else (false, s)

/-- An entry joins those written into a crossing. A second of one producer beat collides (R36): one sideband of the two stays,
which one is free, and the data are undefined. -/
def joinCrossing (l : List Entry) (entry : Entry) (s : State) : List Entry × State :=
  match l.find? (fun e => decide (e.made = entry.made)) with
  | none => (l ++ [entry], s)
  | some old =>
    let (keepOld, s) := freshBit s
    let (v, s) := freshLine s
    let e := if keepOld then { old with data := v, alt := some entry.side } else { entry with data := v, alt := some old.side }
    (l.map (fun y => if y.made = entry.made then e else y), s)

/-- Whether an entry written in beat b and due at beat `due` is late at a region's CBND beat (R55), with that beat. -/
def lateBeat (g : Region) (b due : Nat) : Option Nat :=
  match g.bndBeat with
  | some e => if b ≤ e ∧ e < due then some e else none
  | none => none

/-- An entry written into the crossing of face `f` in the producer's beat (R32): it is due at the consumer L beats on. One that the
consumer never begins the beat of is dropped (R260); one due after the CBND beat is a hazard of kind 4 at that beat (R55, R74),
and so is a second entry of one beat (R36). The destinations of all of these are undefined. -/
def writeEntry (x : Ctx) (s : State) (f : Nat) (side : W64) (data : Line) : State :=
  let entry : Entry := { data := data, side := sealSide (sideTag side x.beat) data, made := x.beat, slot := x.slot,
                         issue := x.issue, due := x.beat + crossLatency f, alt := none }
  let join (s : State) (l : List Entry) : List Entry × State :=
    let second := l.any (fun e => decide (e.made = x.beat))
    joinCrossing l entry (if second && debugOn s then raiseHazard s 4 x.r.val (lastUser x s f) x.beat else s)
  let n := if f = 5 then some (x.r.val, 5) else faceTarget x.r.val f
  match n with
  | none => s
  | some (n, i) =>
    let gn := s.regions[regionFin n]
    if s.tarp.struck && decide (gn.begun ≤ entry.due) then undefineAll s (remotePlaces s x.r.val f x.beat side)
    else match lateBeat gn x.beat entry.due with
      | some b =>
        let s := if debugOn s then raiseHazard s 4 x.r.val x.slot b else s
        undefineAll s (remotePlaces s x.r.val f x.beat side)
      | none =>
        if f = 5 then
          let (l, s) := join s (hubEntries s x.r)
          setHubEntries s x.r l
        else
          let (l, s) := join s (gn.xings[Fin.ofNat 6 i])
          modRegion s (regionFin n) fun g => { g with xings := g.xings.set (Fin.ofNat 6 i) l }

/-- An entry sent by face `f` in the beat in progress. -/
def crossWrite (x : Ctx) (s : State) (f : Nat) (side : W64) (data : Line) (thru : Bool) : State :=
  let (shared, s) := takeFace x s f thru
  let (v, s) := if shared then freshLine s else (data, s)
  writeEntry x s f side v

/-- A record sent through the Guyline face in the beat in progress: it enters the home port `delay` beats on (R132, R241). Where
another action used the face in the same beat, one record of one of the two enters, its data undefined, as R36 has it for a
crossing (R75, log entry 87). -/
def sendPort (x : Ctx) (s : State) (wid seq delay : Nat) (data : Line) : State :=
  let (shared, s) := takeFace x s 6 false
  let other (d : Due) : Bool := match d.op with
    | .portPut _ _ b _ => decide (b = x.beat)
    | _ => false
  if !shared then later x s (x.beat + delay) (.portPut wid seq x.beat data)
  else
    let (mine, s) := freshBit s
    let (v, s) := freshLine s
    if (x.g s).due.any other && !mine then s
    else later x (modRegion s x.r fun g => { g with due := g.due.filter (fun d => !other d) }) (x.beat + delay)
      (.portPut wid seq x.beat v)

/-- A line sent out by a face: over a crossing, or to the home port (R131, R132). A detoured cluster's line holds the face in the
beat it is read, and is at the crossing `extra` beats later (R67). -/
def sendFace (x : Ctx) (s : State) (dest : Dest) (v : Line) : State :=
  match dest with
  | .sack k line delay => later x s (x.beat + delay) (.sackPut k line v fullMask)
  | .face f side extra =>
    if extra = 0 then crossWrite x s f side v false
    else
      let (shared, s) := takeFace x s f false
      let (w, s) := if shared then freshLine s else (v, s)
      later x s (x.beat + extra) (.facePut f side (some x.beat) w)
  | .guyline wid seq delay => sendPort x s wid seq delay v

/-- A record delivered through a window of a face (R133): dropped at a closed window (0x2503), which leaves it no destination, or
at SEQ ≥ LEN (0x2502), where the line it names is undefined (R149); written and counted otherwise. -/
def windowPut (x : Ctx) (s : State) (f wid seq : Nat) (v : Line) : State :=
  let w := windowOf (x.g s) f wid
  let drop (s : State) : State := modRegion s x.r fun g =>
    { g with windows := storeSet Window.closed g.windows (8 * f + wid) { w with drop := true } }
  if !w.isOpen then faultOf x (drop s) 0x2503
  else if w.len ≤ seq then
    let s := if w.base + seq < 8192 then undefine s (.sack x.r.val w.dsack (w.base + seq)) else s
    faultOf x (drop s) 0x2502
  else
    let extra := detourBeats s x.r (sackCluster w.dsack) none
    if extra = 0 then
      incPeg x (writeSack x (lnPeg s x.r.val w.peg 5 0 5) w.dsack (w.base + seq) v fullMask) w.peg 1
    else
      later x (later x s (x.beat + extra) (.sackPut w.dsack (w.base + seq) v fullMask)) (x.beat + extra) (.pegInc w.peg 1)

/-- An entry delivered at face `i` in the beat in progress (R130). -/
def deliver (x : Ctx) (s : State) (i : Nat) (e : Entry) : State :=
  let s := match e.alt with
    | some v => undefineAll s (sidePlaces s x.r.val i v)
    | none => s
  match sideKind e.side with
  | 1 =>
    let k := fieldN e.side.toNat 51 5
    let line := fieldN e.side.toNat 38 13
    let extra := detourBeats s x.r (sackCluster k) none
    if extra = 0 then writeSack x s k line e.data fullMask
    else later x s (x.beat + extra) (.sackPut k line e.data fullMask)
  | 2 => windowPut x s i (fieldN e.side.toNat 35 3) (fieldN e.side.toNat 19 16) e.data
  | _ => s

end Sys2Proof.Machine
end

