-- ==== Sys2Proof/Machine/UnitWork.lean ====
section
/-!
DEFINITION. Machine/UnitWork.lean: what a queued effect does at the beat it is due (chapters 04 to 07): reads, lines under
way in a Stove, Kettle execution, column commands. `runMicro` is the one place that carries a queued effect out.
-/

namespace Sys2Proof.Machine

/-! ## Stove (chapter 04) -/

/-- A weight scale. -/
def Plane.scale (q : Plane) (row j : Nat) : Nat := (storeGet 127 q.scales (8 * row + j)).toNat

/-- The sums one activation vector gives, row by row (R85, R97). -/
def macSums (t : Stove) (q : Plane) (wf af asb0 : Nat) (x : Line) : List Acc :=
  let blocks := (match fmtClass af with
    | some cls => cls.kt
    | none => 0) / 32
  tab 128 fun n =>
    (List.range blocks).foldl (fun a j =>
      let ea := if fmtMx af then (storeGet 127 t.asb ((asb0 + j) % 128)).toNat else 127
      a.add (blockAcc (blockDot wf af (storeGet 0 q.rows n) x j) ea (q.scale n j))) Acc.zero

/-- Accumulators of a bank from row `row` on, with values added (R91). -/
def addAccs (t : Stove) (bank row : Nat) (vals : List Acc) : Stove :=
  { t with acc := (vals.foldl (fun (st : Store Acc × Nat) a =>
      (storeSet Acc.zero st.1 (128 * bank + st.2) ((storeGet Acc.zero st.1 (128 * bank + st.2)).add a), st.2 + 1))
      (t.acc, row)).1 }

/-- SFMT's format effect (R96): WFMT to the shadow plane or both, AFMT. -/
def setFormats (t : Stove) (wfmt afmt : Nat) (both : Bool) : Stove :=
  let w (q : Plane) : Plane :=
    { q with wfmt := wfmt, elemOk := false, scaleOk := !fmtMx wfmt, scales := if fmtMx wfmt then q.scales else [] }
  let t := if wfmt = 0 then t
    else if both then (t.setPlane false w).setPlane true w
    else t.setPlane (!t.act) w
  if afmt = 0 then t else { t with afmt := afmt }

/-! ## Kettle (chapter 05) -/

/-- A vector register. -/
def kreg (k : Kettle) (reg : Nat) : Vec := storeGet 0 k.regs reg

/-- A latent parity error of a Kettle's tables or registers (R121): the level-2 code a use of it raises. -/
def kettleParity (s : State) (r : Nat) (u : Nat) (regs : List Nat) (fn : Option Nat) : Option Nat :=
  if s.flaws.any (fun f => match f, fn with
      | .ktab r' u' f', some fn => decide (r' = r ∧ u' = u ∧ f' = fn)
      | _, _ => false) then some 0x2401
  else if s.flaws.any (fun f => match f with
      | .kreg r' u' reg => decide (r' = r ∧ u' = u) && regs.contains reg
      | _ => false) then some 0x2402
  else none

/-- A register read in the beat in progress: undefined where a write of an earlier action is still due (R106, kind 1). -/
def readKreg (x : Ctx) (s : State) (u : Fin 16) (reg : Nat) : Vec × State :=
  if pendingWrite x s (.kreg x.r.val u.val reg) then
    let s := if debugOn s then raiseHazard s 1 x.r.val x.slot x.beat else s
    freshVec s
  else (kreg ((x.g s).kettles[u]) reg, s)

/-- Registers read in order. -/
def readKregs (x : Ctx) (u : Fin 16) : List Nat → State → List Vec × State
  | [], s => ([], s)
  | reg :: rest, s =>
    let (v, s) := readKreg x s u reg
    let (vs, s) := readKregs x u rest s
    (v :: vs, s)

/-- Registers that an instruction reads besides a Sack operand: A if it is a register, then B, then C (Table 5.4). A unit's
KIDX ARGMAX does not read B (log entry 30). -/
def kReads (op : KOp) (o : KOps) : List Nat :=
  let a : List Nat := if o.am then [] else [o.a.toNat]
  match op with
  | .kadd | .kmul | .kmax | .kmin | .kcmp => a ++ [o.b.toNat]
  | .kfma | .ksel => a ++ [o.b.toNat, o.c.toNat]
  | .kcvt | .kexp2 | .klog2 | .krcp | .krsq | .ktanh | .ksum => a
  | .kmerge => tab (o.func.toNat % 2 + 3) (fun i => o.a.toNat + i) ++ tab (o.func.toNat % 2 + 3) (fun i => o.b.toNat + i)
  | .kidx => if o.func.toNat % 4 = 0 then a ++ [o.c.toNat] else a ++ [o.b.toNat, o.c.toNat]
  | .krng => []

/-- The execute depth E (Table 5.2). -/
def kDepth (op : KOp) : Nat :=
  match op with
  | .kadd | .kmul | .kfma | .kmax | .kmin | .ksel | .kcmp => 4
  | .kcvt => 2
  | .kexp2 | .klog2 | .krcp | .krsq | .ktanh => 8
  | .ksum => 10
  | .kmerge => 14
  | .kidx => 12
  | .krng => 10

/-- The function table an instruction evaluates (Table 5.7). -/
def kTable (op : KOp) : Option Nat :=
  match op with
  | .kexp2 | .kmerge => some 0
  | .klog2 => some 1
  | .krcp => some 2
  | .krsq => some 3
  | .ktanh => some 4
  | _ => none

/-- What a Kettle instruction computes from its operands (R110 to R118): result vectors in register order, and flags. `key` is
the KRNG counter index with STREAM, STEP and the key, as read at issue. -/
def kCompute (tset : List Byte) (op : KOp) (o : KOps) (args : List Vec) (key : Option (Quad × W32 × W32)) :
    List Vec × KFlags :=
  let arg (n i : Nat) : Nat := lane (args.getD n 0) i
  let a (i : Nat) : Nat := negLane o.nega (arg 0 i)
  let b (i : Nat) : Nat := negLane o.negx (arg 1 i)
  let one (r : Vec × KFlags) : List Vec × KFlags := ([r.1], r.2)
  let fn := o.func.toNat
  match op with
  | .kadd => one (mapLanes fun i => f32Add (a i) (b i))
  | .kmul => one (mapLanes fun i => f32Mul (a i) (b i))
  | .kfma => one (mapLanes fun i => f32Fma (a i) (arg 1 i) (negLane o.negx (arg 2 i)))
  | .kmax => one (mapLanes fun i => (f32Pick true (fn % 2 = 1) (a i) (b i), {}))
  | .kmin => one (mapLanes fun i => (f32Pick false (fn % 2 = 1) (a i) (b i), {}))
  | .ksel => one (mapLanes fun i => (if arg 2 i = 0 then arg 1 i else arg 0 i, {}))
  | .kcmp => one (mapLanes fun i => kCmp (fn % 8) (fn / 8 % 2 = 1) (a i) (arg 1 i))
  | .kcvt =>
    if 0xC ≤ fn % 16 then
      one (kUnpack (fn % 16) (fn / 32 % 2 = 1) (vecHalf (args.getD 0 0) false), {})
    else if 0x8 ≤ fn % 16 then
      let r := kPack (fn % 16) a
      one (vecOfLines r.1 0, r.2)
    else one (mapLanes fun i => kCvtLane (fn % 16) (a i))
  | .kexp2 => one (mapLanes fun i => kExp2 tset (a i))
  | .klog2 => one (mapLanes fun i => kLog2 tset (a i))
  | .krcp => one (mapLanes fun i => kRcp tset (a i))
  | .krsq => one (mapLanes fun i => kRsq tset (a i))
  | .ktanh => one (mapLanes fun i => kTanh tset (a i))
  | .ksum => one (kSum (fn % 8) (fn / 8 % 2 = 1) a)
  | .kmerge =>
    let n := fn % 2 + 3
    let lanes := tab 64 fun i => kMergeLane tset (tab n fun k => arg k i) (tab n fun k => arg (n + k) i)
    (tab n fun k => vecOf fun i => (lanes.getD i ([], {})).1.getD k 0, lanes.foldl (fun f l => f.or l.2) {})
  | .kidx =>
    let (idx, val, f) :=
      if fn % 4 = 0 then (let r := kArgmax (arg 0) (arg 1 0); (r.1, r.2, ({} : KFlags)))
      else kCumsel (arg 0) (arg 1 0) (arg 2 0)
    one (vecOf fun i => if i = 0 then idx else if i = 1 then val else 0, f)
  | .krng =>
    match key with
    | none => one (0, {})
    | some (q, k0, k1) =>
      one (vecOf fun i =>
        let e : W64 := (q.c1 ++ q.c0) + BitVec.ofNat 64 i
        kRngLane (fn / 4 % 2 = 1) ((kindling (indexCtr e q.c2 q.c3) k0 k1).word (fn % 4)), {})

/-- The two Sacks of pair `p` of the cluster of Kettle u, as Sack numbers of the region (R104). -/
def pairSack (u : Fin 16) (p hi : Bool) : Nat := 4 * (u.val / 2) + 2 * bit1 p + bit1 hi

/-- A Kettle instruction at the beat it reads its registers: the result is queued for its register at +E, or for its Sack
pair at +2+E (R105). A parity error is found where the registers are read, two beats after the issue (log entry 88): it raises its
fault and leaves the destination undefined (R121). -/
def runKexec (x : Ctx) (s : State) (u : Fin 16) (op : KOp) (o : KOps) (opa : Option Vec) (key : Option (Quad × W32 × W32)) :
    State :=
  let reads := kReads op o
  match kettleParity s x.r.val u.val reads (kTable op) with
  | some code => undefineAll (faultOf x s code) (microPlaces s x.r.val x.beat (.kexec u op o opa key))
  | none =>
    let (vs, s) := readKregs x u reads s
    let args := match opa with
      | some v => v :: vs
      | none => vs
    let (res, f) := kCompute s.tset op o args key
    let s := modKettle s x.r u fun k => { k with flags := k.flags.or f }
    let e := kDepth op
    let r0 := res.getD 0 0
    let d := o.d.toNat
    if o.dm then
      let packed := op = .kcvt && 0x8 ≤ o.func.toNat % 16 && o.func.toNat % 16 ≤ 0xB
      if packed then
        later x s (x.beat + 2 + e) (.sackPut (pairSack u o.dp (o.func.toNat / 16 % 2 = 1)) d (vecHalf r0 false) fullMask)
      else
        let s := later x s (x.beat + 2 + e) (.sackPut (pairSack u o.dp false) d (vecHalf r0 false) fullMask)
        later x s (x.beat + 2 + e) (.sackPut (pairSack u o.dp true) d (vecHalf r0 true) fullMask)
    else
      (res.foldl (fun (st : State × Nat) v => (later x st.1 (x.beat + e) (.kregPut u (d + st.2) v), st.2 + 1)) (s, 0)).1

/-- The register of Kettle u that an effect writes. -/
def Micro.kdest (m : Micro) (u : Fin 16) : Option Nat :=
  match m with
  | .kregPut u' reg _ => if u' = u then some reg else none
  | .khalfPut u' reg _ _ => if u' = u then some reg else none
  | .kcopy u' dst _ _ => if u' = u then some dst else none
  | _ => none

/-- A register write at its beat. A second write of the register due at the same beat is a hazard of kind 2 (R106). -/
def writeKreg (x : Ctx) (s : State) (u : Fin 16) (reg : Nat) (f : Vec → Vec) : State :=
  let twin (d : Due) : Bool := decide (d.beat = x.beat) && d.op.kdest u == some reg
  let twins := (x.g s).due.filter twin
  let s := { s with flaws := s.flaws.filter (fun f => f ≠ .kreg x.r.val u.val reg) }
  if !twins.isEmpty then
    let s := if debugOn s then raiseHazard s 2 x.r.val (twins.foldl (fun m d => max m d.slot) x.slot) x.beat else s
    undefine (modRegion s x.r fun g => { g with due := g.due.filter (fun d => !twin d) }) (.kreg x.r.val u.val reg)
  else modKettle s x.r u fun k => { k with regs := storeSet 0 k.regs reg (f (kreg k reg)) }

/-! ## Tracks (chapter 07) -/

/-- One contract value of RG_TK_T0 to RG_TK_T2 (Table 7.8). -/
def tkRcd (s : State) (r : Nat) : Nat := getField s (Reg.RG_TK_T0 r) 24 8
def tkRas (s : State) (r : Nat) : Nat := getField s (Reg.RG_TK_T0 r) 16 8
def tkRp (s : State) (r : Nat) : Nat := getField s (Reg.RG_TK_T0 r) 8 8
def tkRrd (s : State) (r : Nat) : Nat := getField s (Reg.RG_TK_T0 r) 0 8
def tkFaw (s : State) (r : Nat) : Nat := getField s (Reg.RG_TK_T1 r) 24 8
def tkWr (s : State) (r : Nat) : Nat := getField s (Reg.RG_TK_T1 r) 16 8
def tkWtr (s : State) (r : Nat) : Nat := getField s (Reg.RG_TK_T1 r) 8 8
def tkRtw (s : State) (r : Nat) : Nat := getField s (Reg.RG_TK_T1 r) 0 8
def tkRfc (s : State) (r : Nat) : Nat := getField s (Reg.RG_TK_T2 r) 16 16
def tkRdl (s : State) (r : Nat) : Nat := getField s (Reg.RG_TK_T2 r) 8 8
def tkS (s : State) (r : Nat) : Nat := getField s (Reg.RG_TK_T2 r) 0 4

/-- D(n): the bus time of n lines in beats (R152). -/
def busBeats (s : State) (n : Nat) : Nat := max n (ceilDiv (n * getField s Reg.PACE_DESIGN 0 14) 3200)

/-- A track of a region. -/
def trackOf (g : Region) (t : Nat) : Track := storeGet Track.idle g.tracks t
/-- A track replaced. -/
def setTrack (s : State) (r : Fin 32) (t : Nat) (f : Track → Track) : State :=
  modRegion s r fun g => { g with tracks := storeSet Track.idle g.tracks t (f (trackOf g t)) }
/-- A bank of a track. -/
def bankOf (g : Region) (t b : Nat) : Bank := storeGet Bank.idle g.banks (16 * t + b)
/-- A bank replaced. -/
def setBank (s : State) (r : Fin 32) (t b : Nat) (f : Bank → Bank) : State :=
  modRegion s r fun g => { g with banks := storeSet Bank.idle g.banks (16 * t + b) (f (bankOf g t b)) }

/-- The states of a bank at a beat (R153). -/
inductive BankMode where
  | closed
  | opened (row : Nat)
  | pending
  | precharging
  deriving DecidableEq, Repr

/-- The state of a bank at beat b; `rp` is RP. -/
def Bank.mode (k : Bank) (b rp : Nat) : BankMode :=
  match k.row, k.pre with
  | none, none => .closed
  | none, some p => if b < p + rp then .precharging else .closed
  | some row, none => .opened row
  | some _, some p => if b < p then .pending else if b < p + rp then .precharging else .closed

/-- HBM line address of a track's row, bank and column (Table 7.2). -/
def hbmAddr (r t row bank col : Nat) : Nat := (24 * r + t) * 2 ^ 31 + row * 2 ^ 15 + bank * 2 ^ 11 + col * 2 ^ 7

/-- Whether every byte of [a, a + n) lies in windows of the region of a kind that permit the access (R76). -/
def inBounds (s : State) (r kind : Nat) (write : Bool) (hport a n : Nat) : Bool :=
  match s.pitch with
  | none => false
  | some p =>
    let ws := (p.bounds.getD r []).filter (fun w =>
      decide (w.kind = kind) && (if write then w.w else w.r) && (decide (kind ≠ 3) || decide (w.hport = hport)))
    -- windows are 4 KiB aligned: it is enough to look at each 4 KiB page touched
    (List.range ((a + n - 1) / 4096 - a / 4096 + 1)).all (fun i =>
      ws.any (fun w => decide (w.base ≤ (a / 4096 + i) * 4096) && decide ((a / 4096 + i) * 4096 < w.limit)))

/-- The latent errors of an HBM line: uncorrectable or not, with the sector (R169). -/
def hbmFlaws (s : State) (a : Nat) : List (Nat × Bool) :=
  s.flaws.filterMap (fun f => match f with
    | .hbm sec ue => if sec / 128 = a / 128 then some (sec, ue) else none
    | _ => none)

/-- RG_TK_ECC and RG_TK_ECC_LOC after the errors of a line are met (R169). `far`: the access was far or host. -/
def noteTrackEcc (s : State) (r : Nat) (a : Nat) (far : Bool) : State :=
  (hbmFlaws s a).foldl (fun s f =>
    let s := countField s (Reg.RG_TK_ECC r) (if f.2 then 0 else 16) 16 1
    let s := setReg s (Reg.RG_TK_ECC_LOC r) (BitVec.ofNat 64
      ((f.1 / 2 ^ 31 % 24) * 2 ^ 59 + (f.1 / 2 ^ 15 % 2 ^ 16) * 2 ^ 43 + (f.1 / 2 ^ 11 % 16) * 2 ^ 39 +
       (f.1 / 2 ^ 7 % 16) * 2 ^ 35 + (f.1 / 32 % 4) * 2 ^ 33 + bit1 f.2 * 2 ^ 32 + bit1 far * 2 ^ 31))
    let s := lnAccess s r (if f.2 then 7 else 6) f.1 32 0 (if far then 4 else 5)
    if f.2 then (if far then logEvent s 0x0707 else s) else logEvent s 0x0701) s

/-- Real-time values in 1/256 tick of 6.4 ns: 40 units a nanosecond (R152, R154). -/
def nsUnits (ns : Nat) : Nat := 40 * ns

/-- A track is not free for a command at beat b: S after a refresh slot, or a far slot in force (R159, R163). -/
def trackTaken (k : Track) (b : Nat) : Bool := decide (b < k.slotFree) || decide (b < k.farEnd)

/-- The row open in a bank that a column command at beat b meets, and whether the state is illegal or a contract beat is broken
(R153). -/
def columnCheck (x : Ctx) (s : State) (t bank b : Nat) (write : Bool) : Option Nat × Bool :=
  let g := x.g s
  let k := trackOf g t
  let bk := bankOf g t bank
  let late := decide (b < bk.actAt + tkRcd s x.r.val) || decide (b < k.busFree) || trackTaken k b ||
    (if write then decide (b < k.writeFree) else decide (b < k.readFree))
  match bk.mode b (tkRp s x.r.val) with
  | .opened row => (some row, late)
  | _ => (none, late)

/-- Whether every line of a column command is in bounds (R76). -/
def columnInBounds (x : Ctx) (s : State) (t row bank col nl : Nat) (write : Bool) : Bool :=
  (List.range nl).all (fun i => inBounds s x.r.val 1 write 0 (hbmAddr x.r.val t row bank (col + i)) 128)

/-- A column command with a line out of bounds raises 0x2222 (R76), and has no effect (R260). -/
def unlessBounds (x : Ctx) (s : State) (t row bank col nl : Nat) (write : Bool) (f : State → State) : State :=
  if columnInBounds x s t row bank col nl write then f s else faultOf x s 0x2222

/-- The bus time of n lines in 1/256 tick: 2.048 ns a line (Table 7.3). -/
def lineUnits (n : Nat) : Nat := ceilDiv (n * 8192) 100

/-- Lines read by a column command at beat b from `col` on, queued for the Sack at b + RDL + D(i) (R156, R167). An
uncorrectable one is undefined (R169). `zero`: the index was out of range. `sent` is the real time of the command (R154). -/
def readLines (x : Ctx) (s : State) (t bank row col nl sack line : Nat) (zero : Bool) (sent : Nat) : State :=
  let rdl := tkRdl s x.r.val
  let extra := detourBeats s x.r none (sackCluster sack)
  (List.range nl).foldl (fun s i =>
    let a := hbmAddr x.r.val t row bank (col + i)
    let ue := (hbmFlaws s a).any (·.2)
    let v : Line := if zero then 0 else lineOf (s.hbm.readBytes a 128)
    let s := if zero then s else noteTrackEcc (lnHbm s 0 a 128 0 5) x.r.val a false
    later x s (x.beat + rdl + busBeats s i + extra)
      (.trackPut sack (line + i) v (ue && !zero) (sent + nsUnits 40 + lineUnits i))) s

/-- Slot 60 withholds its acknowledgement of the beat in progress until a real time has come (R154). -/
def guardUntil (s : State) (r : Fin 32) (t : Nat) : State :=
  if s.time < t then
    modRegion s r fun g =>
      { g with held := g.held ||| (1#64 <<< 60), acked := g.acked &&& ~~~(1#64 <<< 60), guard := max g.guard t }
  else s

/-- The real time at which a column command of a track can be sent (R154): now, or once BUS, RCD, WTR or RTW and S are met. -/
def columnTime (s : State) (k : Track) (q : Bank) (write : Bool) : Nat :=
  max (max s.time k.cmdReady) (max (max k.busReady q.colReady) (if write then k.writeReady else k.readReady))

/-- A column command takes the bus of its track (R152, R154): D(nl) beats from the beat in progress, and its burst in real time
from `sent` on. -/
def takeBus (x : Ctx) (s : State) (t bank nl : Nat) (write : Bool) (sent : Nat) : State :=
  let b := x.beat
  let d := busBeats s nl
  let stop := sent + lineUnits nl
  let s := guardUntil s x.r sent
  let s := setTrack s x.r t fun k =>
    { k with busFree := b + d, busReady := stop
             readFree := if write then max k.readFree (b + d + tkWtr s x.r.val) else k.readFree
             writeFree := if write then k.writeFree else max k.writeFree (b + d + tkRtw s x.r.val)
             readReady := if write then max k.readReady (stop + nsUnits 8) else k.readReady
             writeReady := if write then k.writeReady else max k.writeReady (stop + nsUnits 6) }
  setBank s x.r t bank fun q =>
    if write then { q with wrEnd := max q.wrEnd (b + d + tkWr s x.r.val), preReady := max q.preReady (stop + nsUnits 16) }
    else { q with preReady := max q.preReady stop }

/-- A precharge that starts in the beat in progress: sent once RAS and WR are met in real time, and RP from then (R153, R154). -/
def Bank.precharge (q : Bank) (now : Nat) : Bank := { q with actReady := max q.actReady (max now q.preReady + nsUnits 14) }

/-- The auto-precharges that start at beat n of a region (R153, R156), each delayed by the timing guard as it needs. -/
def startPrecharges (s : State) (r : Fin 32) (n : Nat) : State :=
  let starts (q : Bank) : Bool := q.row.isSome && q.pre == some n
  let late := (s.regions[r]).banks.foldl (fun m e => if starts e.2 then max m e.2.preReady else m) 0
  guardUntil (modRegion s r fun g =>
    { g with banks := g.banks.map (fun e => if starts e.2 then (e.1, e.2.precharge s.time) else e) }) r late

/-- TIDX MODE 0's column command (R167). The bank and bus are checked at issue for this beat (R153). -/
def runTidxColumn (x : Ctx) (s : State) (t bank : Nat) (idx : Option Nat) (nl dsack dline : Nat) : State :=
  match (bankOf (x.g s) t bank).row with
  | none => s
  | some row =>
    let sent := columnTime s (trackOf (x.g s) t) (bankOf (x.g s) t bank) false
    match idx with
    | some i => unlessBounds x s t row bank (i * nl) nl false fun s =>
        takeBus x (readLines x s t bank row (i * nl) nl dsack dline false sent) t bank nl false sent
    | none => takeBus x (readLines x s t bank row 0 nl dsack dline true sent) t bank nl false sent

/-! ## One queued effect at its beat -/

/-- Writes take place first in a beat, then KSR copies, then reads (R105, R119, R122, R136). -/
def Micro.phase (m : Micro) : Nat :=
  match m with
  | .pegCount _ _ | .pegMark _ _ | .pegErr _ _ => 0
  | .kcopy _ _ _ _ => 2
  | .move _ _ _ | .planeRead _ _ _ _ _ | .rawRead _ _ _ _ _ | .scaleRead _ _ _ _ _ | .macRead _ _ _ _ _ _ _ _
  | .macArrive _ _ _ _ _ _ _ _ | .kexec _ _ _ _ _ | .ksrStore _ _ _ _ _ | .twrRead _ _ _
  | .tidxColumn _ _ _ _ _ _ | .thruTake _ _ => 3
  | _ => 1

/-- The Sack whose read port an effect uses at its beat. -/
def Micro.reads (m : Micro) : List Nat :=
  match m with
  | .move src _ _ => [src]
  | .planeRead _ _ _ src _ => [src]
  | .rawRead _ _ _ src _ => [src]
  | .scaleRead _ _ _ src _ => [src]
  | .macRead _ _ _ _ _ _ src _ => [src]
  | .twrRead src _ _ => [src]
  | _ => []

/-! ## The port unit (chapters 09 and 10) -/

/-- Whether a port takes no further record now: egress queue or replay buffer full (R214, R215). -/
def portFull (g : Port) : Bool := decide (4096 ≤ g.egress.length) || decide (2048 ≤ g.buffer.length)

/-- A line enters the port (R132, R208): into the egress record queue, or the port unit withholds its acknowledgement (R215). -/
def enterPort (x : Ctx) (s : State) (wid seq : Nat) (v : Line) : State :=
  match homePort x.r.val with
  | none => s
  | some n =>
    let p : Fin 10 := Fin.ofNat 10 n
    let rec_ : OutRec := { wid := wid, seq := seq, sbeat := x.beat % 2048, data := v }
    if portFull s.ports[p] then
      modRegion (modPort s p fun g => { g with blocked := g.blocked ++ [rec_] }) x.r fun g =>
        { g with held := g.held ||| (1#64 <<< 62) }
    else modPort s p fun g => { g with egress := g.egress ++ [rec_] }

/-- A record taken from the through queue goes to the face of its THRU (R241, R242). -/
def passThrough (x : Ctx) (s : State) (out dly : Nat) (q : InRec) : State :=
  if out = 6 then sendPort x s q.wid q.seq (8 + dly) q.data
  else if dly = 0 then crossWrite x s out (sideWin q.wid q.seq) q.data true
  else later x s (x.beat + dly) (.facePut out (sideWin q.wid q.seq) none q.data)

/-- THRU with IN = 6 in one of its beats (R241): the head record, if it entered 8 beats before, else a declared wait and a
hold. The row's end looks at the wait again (`takeWaiting`). -/
def thruTake (x : Ctx) (s : State) (out dly : Nat) : State :=
  match homePort x.r.val with
  | none => s
  | some n =>
    let p : Fin 10 := Fin.ofNat 10 n
    match s.ports[p].through with
    | q :: rest =>
      if q.since + 8 ≤ x.beat then passThrough x (modPort s p fun g => { g with through := rest }) out dly q
      else
        let s := modRegion s x.r fun g => { g with waits := g.waits ++ [(x.slot, .thru out dly s.time)] }
        raiseHold s x.beat (.wait x.r)
    | [] =>
      let s := modRegion s x.r fun g => { g with waits := g.waits ++ [(x.slot, .thru out dly s.time)] }
      raiseHold s x.beat (.wait x.r)

/-- A line written by a track (R156). -/
def writeHbmLine (s : State) (addr : Nat) (v : Line) : State := storeHbm (lnHbm s 1 addr 128 0 5) addr (lineBytes v)

/-- One queued effect carried out in the beat in progress. -/
def runMicro (x : Ctx) (s : State) (m : Micro) : State :=
  match m with
  | .sackPut k line v mask => writeSack x s k line v mask
  | .landPut k line v => putSackLine (lnAdd s x.r.val 28 1) x.r k line v
  | .trackPut k line v ue arrive =>
    let s := guardUntil (lnAdd s x.r.val 29 1) x.r arrive
    if ue then
      let s := faultOf x s 0x2702
      let (w, s) := freshLine s
      writeSack x s k line w fullMask
    else writeSack x s k line v fullMask
  | .planePut c p row v => modStove s x.r c fun t => t.setPlane p fun q => { q with rows := storeSet 0 q.rows row v }
  | .elemOk c p => modStove s x.r c fun t => t.setPlane p fun q => { q with elemOk := true }
  | .scalePut c p n v => modStove s x.r c fun t => t.setPlane p fun q => putScales q n v
  | .scaleOk c p => modStove s x.r c fun t => t.setPlane p fun q => { q with scaleOk := true }
  | .asbPut c v => modStove s x.r c fun t =>
      { t with asb := (List.range 128).foldl (fun a i => storeSet 127 a i (lineByte v i)) [] }
  | .accAdd c bank row vals => modStove s x.r c fun t => addAccs t bank row vals
  | .stoveFmt c w a both => modStove s x.r c fun t => setFormats t w a both
  | .stoveKey c k0 k1 tid e => modStove s x.r c fun t => { t with k0 := k0, k1 := k1, tid := tid, eidx := e }
  | .kregPut u reg v => writeKreg x s u reg fun _ => v
  | .khalfPut u reg hi v => writeKreg x s u reg fun old => vecSetHalf old hi v
  | .kkeyPut u k0 k1 st sp e => modKettle s x.r u fun k => { k with k0 := k0, k1 := k1, stream := st, step := sp, eidx := e }
  | .pegCount p v => trailPeg x (touchPeg (lnPeg s x.r.val p 5 0 5) x.r p) p (.peg x.r.val p) fun q => { q with count := v }
  | .pegMark p v => trailPeg x (lnPeg s x.r.val p 5 0 5) p (.pegMark x.r.val p) fun q => { q with mark := v }
  | .pegErr p on => trailPeg x (lnPeg s x.r.val p 5 0 5) p (.pegErr x.r.val p) fun q => { q with err := on }
  | .pegInc p n => incPeg x (lnPeg s x.r.val p 5 0 5) p n
  | .landInc p => incPeg x (lnPeg s x.r.val p 5 0 5) p 1
  | .pegArm p nsrc thr => setPeg s x.r p fun q => { q with thr := BitVec.ofNat 32 thr, nsrc := nsrc, armed := true }
  | .pegDisarm p => setPeg s x.r p fun q => { q with armed := false }
  | .xregPut n v => modRegion s x.r fun g =>
      { g with xregs := g.xregs.set (Fin.ofNat 8 n) (match v with
          | some v => (BitVec.ofNat 16 v, (g.xregs[Fin.ofNat 8 n]).2)
          | none => (0, true)) }
  | .portPut wid seq _ v => enterPort x s wid seq v
  | .thruTake out dly => thruTake x s out dly
  | .facePut f side used v => if used.isSome then writeEntry x s f side v else crossWrite x s f side v true
  | .tidxColumn t bank idx nl dsack dline => runTidxColumn x s t bank idx nl dsack dline
  | .kcopy u dst src bcast =>
    match kettleParity s x.r.val u.val [src] none with
    | some code => undefine (faultOf x s code) (.kreg x.r.val u.val dst)
    | none =>
      let (v, s) := readKreg x s u src
      writeKreg x s u dst fun _ => match bcast with
        | some n => vecOf fun _ => lane v n
        | none => v
  | .move src line dest =>
    match line with
    | some l => let (v, s) := readSack x s src l; sendFace x s dest v
    | none =>
      let (clash, s) := portClash x s src
      let (v, s) := if clash then freshLine s else (0, s)
      sendFace x s dest v
  | .planeRead c p row src line => let (v, s) := readSack x s src line; later x s (x.beat + 2) (.planePut c p row v)
  | .rawRead c bank row src line =>
    let (v, s) := readSack x s src line
    later x s (x.beat + 4) (.accAdd c bank row [accOfRaw v])
  | .scaleRead c p n src line => let (v, s) := readSack x s src line; later x s (x.beat + 2) (.scalePut c p n v)
  | .macRead c p wf af bank asb0 src line =>
    let (v, s) := readSack x s src line
    let wait := 3 + (match fmtClass af with
      | some cls => cls.bpv
      | none => 1)
    later x s (x.beat + 2) (.macArrive c p wf af bank asb0 wait v)
  | .macArrive c p wf af bank asb0 wait v =>
    let t := (x.g s).stoves[c]
    later x s (x.beat + wait) (.accAdd c bank 0 (macSums t (t.plane p) wf af asb0 v))
  | .kexec u op o opa key => runKexec x s u op o opa key
  | .ksrStore u reg hi k line =>
    match kettleParity s x.r.val u.val [reg] none with
    | some code => undefine (faultOf x s code) (.sack x.r.val k line)
    | none =>
      let (v, s) := readKreg x s u reg
      later x s (x.beat + 2) (.sackPut k line (vecHalf v hi) fullMask)
  | .twrRead src line addr =>
    let (v, s) := readSack x s src line
    let s := lnAdd s x.r.val 30 1
    let extra := detourBeats s x.r (sackCluster src) none
    if extra = 0 then writeHbmLine s addr v else later x s (x.beat + extra) (.hbmPut addr v)
  | .hbmPut addr v => writeHbmLine s addr v

/-- An effect at a beat: at once where the beat is the one in progress, else queued. -/
def atBeat (x : Ctx) (s : State) (beat : Nat) (m : Micro) : State :=
  if beat = x.beat then runMicro x s m else later x s beat m

end Sys2Proof.Machine
end

