-- ==== Sys2Proof/Decode.lean ====
section
/-!
DEFINITION. Decode.lean: the table gives no row any bits, so a table word spells no command; and the coding of the 64-bit
action words that Trail rows carry (R56, Tables 3.1, 4.6 to 4.11, 5.3, 5.8, 6.3 to 6.12, 7.4 to 7.6), both ways.
-/

namespace Sys2Proof

/-- The command a table word spells: none, since no row of the table has bits. -/
def decodeTableWord (_nbits _w : Nat) : Option Instr := none

/-! ## Action words -/

/-- The FACE field: 0 on a Pole; 1 Guyline, 2 Ridge, 3 Hub on a port unit (chapter 06). -/
def faceCode (f : Nat) : Nat :=
  if f < 4 then 0 else if f = 4 then 2 else if f = 5 then 3 else 1

/-- A number placed in bits [lo + len - 1 : lo]. -/
def placeBits (lo len v : Nat) : Nat := v % 2 ^ len * 2 ^ lo

/-- A Bool as a bit. -/
def boolBit (b : Bool) : Nat := if b then 1 else 0

/-- An action word from its unit index, opcode and operand bits (Table 3.1). -/
def actionWord (unit op operands : Nat) : BitVec 64 := BitVec.ofNat 64 (placeBits 58 6 unit + placeBits 50 8 op + operands)

/-- The operand bits of the common Kettle layout (Table 5.3). -/
def kopsBits (o : KOps) : Nat :=
  placeBits 49 1 (boolBit o.dm) + placeBits 48 1 (boolBit o.dp) + placeBits 35 13 (o.d.toNat) + placeBits 34 1 (boolBit o.am) + placeBits 33 1 (boolBit o.ap) + placeBits 20 13 (o.a.toNat) + placeBits 15 5 (o.b.toNat) + placeBits 10 5 (o.c.toNat) + placeBits 9 1 (boolBit o.nega) + placeBits 8 1 (boolBit o.negx) + placeBits 0 8 (o.func.toNat)

/-- The action word of an action command; 0, which no unit defines, for every other command. -/
def encodeAction (i : Instr) : BitVec 64 :=
  match i with
  | .sloadWeights _ c sack line nrows => actionWord (c.val) 1 (placeBits 48 2 sack.toNat + placeBits 35 13 line.toNat + placeBits 28 7 nrows.toNat + placeBits 27 1 0)
  | .sloadRawAdd _ c sack line nrows acc => actionWord (c.val) 1 (placeBits 48 2 sack.toNat + placeBits 35 13 line.toNat + placeBits 28 7 nrows.toNat + placeBits 27 1 1 + placeBits 23 4 acc.toNat)
  | .smxsWeightScales _ c sack line => actionWord (c.val) 6 (placeBits 48 2 sack.toNat + placeBits 35 13 line.toNat + placeBits 34 1 0)
  | .smxsAsb _ c sack line => actionWord (c.val) 6 (placeBits 48 2 sack.toNat + placeBits 35 13 line.toNat + placeBits 34 1 1)
  | .sfmt _ c wfmt afmt both keyld sack line => actionWord (c.val) 5 (placeBits 46 4 wfmt.toNat + placeBits 42 4 afmt.toNat + placeBits 41 1 (boolBit both) + placeBits 40 1 (boolBit keyld) + placeBits 38 2 sack.toNat + placeBits 25 13 line.toNat)
  | .smac _ c sack line acc nvec asb flip => actionWord (c.val) 2 (placeBits 48 2 sack.toNat + placeBits 35 13 line.toNat + placeBits 31 4 acc.toNat + placeBits 27 4 nvec.toNat + placeBits 20 7 asb.toNat + placeBits 19 1 (boolBit flip))
  | .sout _ c acc sack line ofmt rmode sat clr oscale sline => actionWord (c.val) 3 (placeBits 46 4 acc.toNat + placeBits 44 2 sack.toNat + placeBits 31 13 line.toNat + placeBits 27 4 ofmt.toNat + placeBits 26 1 (boolBit rmode) + placeBits 25 1 (boolBit sat) + placeBits 24 1 (boolBit clr) + placeBits 15 9 oscale.toNat + placeBits 2 13 sline.toNat)
  | .sclr _ c banks asb planes key => actionWord (c.val) 4 (placeBits 34 16 banks.toNat + placeBits 33 1 (boolBit asb) + placeBits 32 1 (boolBit planes) + placeBits 31 1 (boolBit key))
  | .kadd _ u o => actionWord (8 + u.val) 1 (kopsBits o)
  | .kmul _ u o => actionWord (8 + u.val) 2 (kopsBits o)
  | .kfma _ u o => actionWord (8 + u.val) 3 (kopsBits o)
  | .kmax _ u o => actionWord (8 + u.val) 4 (kopsBits o)
  | .kmin _ u o => actionWord (8 + u.val) 5 (kopsBits o)
  | .ksel _ u o => actionWord (8 + u.val) 6 (kopsBits o)
  | .kcmp _ u o => actionWord (8 + u.val) 7 (kopsBits o)
  | .kcvt _ u o => actionWord (8 + u.val) 8 (kopsBits o)
  | .kexp2 _ u o => actionWord (8 + u.val) 9 (kopsBits o)
  | .klog2 _ u o => actionWord (8 + u.val) 10 (kopsBits o)
  | .krcp _ u o => actionWord (8 + u.val) 11 (kopsBits o)
  | .krsq _ u o => actionWord (8 + u.val) 12 (kopsBits o)
  | .ktanh _ u o => actionWord (8 + u.val) 13 (kopsBits o)
  | .ksum _ u o => actionWord (8 + u.val) 14 (kopsBits o)
  | .kmerge _ u o => actionWord (8 + u.val) 15 (kopsBits o)
  | .kidxArgmax _ u o => actionWord (8 + u.val) 16 (kopsBits o)
  | .kidxCumsel _ u o => actionWord (8 + u.val) 16 (kopsBits o)
  | .krng _ u o => actionWord (8 + u.val) 17 (kopsBits o)
  | .ksrSackToRegister _ u sack line reg half => actionWord (8 + u.val) 18 (placeBits 48 2 0 + placeBits 46 2 sack.toNat + placeBits 33 13 line.toNat + placeBits 28 5 reg.toNat + placeBits 27 1 (boolBit half))
  | .ksrRegisterToSack _ u sack line reg half => actionWord (8 + u.val) 18 (placeBits 48 2 1 + placeBits 46 2 sack.toNat + placeBits 33 13 line.toNat + placeBits 28 5 reg.toNat + placeBits 27 1 (boolBit half))
  | .ksrRegisterCopy _ u dst src bcast lane => actionWord (8 + u.val) 18 (placeBits 48 2 2 + placeBits 28 5 dst.toNat + placeBits 22 5 src.toNat + placeBits 21 1 (boolBit bcast) + placeBits 15 6 lane.toNat)
  | .ksrKeyLoad _ u sack line => actionWord (8 + u.val) 18 (placeBits 48 2 3 + placeBits 46 2 sack.toNat + placeBits 33 13 line.toNat)
  | .srd _ s dsack line dline nlines => actionWord (24 + s.val) 1 (placeBits 45 5 dsack.toNat + placeBits 32 13 line.toNat + placeBits 19 13 dline.toNat + placeBits 6 13 nlines.toNat)
  | .swrFill _ s line nlines imm => actionWord (24 + s.val) 2 (placeBits 37 13 line.toNat + placeBits 24 13 nlines.toNat + placeBits 22 2 0 + placeBits 6 16 imm.toNat)
  | .swrPegSnapshot _ s line peg => actionWord (24 + s.val) 2 (placeBits 37 13 line.toNat + placeBits 22 2 1 + placeBits 6 9 peg.toNat)
  | .sgath _ s iline dsack dline base wbits nidx => actionWord (24 + s.val) 3 (placeBits 37 13 iline.toNat + placeBits 32 5 dsack.toNat + placeBits 19 13 dline.toNat + placeBits 11 8 base.toNat + placeBits 7 4 wbits.toNat + placeBits 2 5 nidx.toNat)
  | .pass _ f ssack sline dsack dline nlines => actionWord (Machine.faceSlot f.val) 1 (placeBits 48 2 (faceCode f.val) + placeBits 43 5 ssack.toNat + placeBits 30 13 sline.toNat + placeBits 25 5 dsack.toNat + placeBits 12 13 dline.toNat + placeBits 4 8 nlines.toNat)
  | .send _ f ssack sline wid seq0 nlines => actionWord (Machine.faceSlot f.val) 2 (placeBits 48 2 (faceCode f.val) + placeBits 43 5 ssack.toNat + placeBits 30 13 sline.toNat + placeBits 27 3 wid.toNat + placeBits 11 16 seq0.toNat + placeBits 3 8 nlines.toNat)
  | .rwinOpen _ f wid dsack base len peg => actionWord (Machine.faceSlot f.val) 3 (placeBits 48 2 (faceCode f.val) + placeBits 45 3 wid.toNat + placeBits 44 1 1 + placeBits 39 5 dsack.toNat + placeBits 26 13 base.toNat + placeBits 13 13 len.toNat + placeBits 4 9 peg.toNat)
  | .rwinClose _ f wid => actionWord (Machine.faceSlot f.val) 3 (placeBits 48 2 (faceCode f.val) + placeBits 45 3 wid.toNat + placeBits 44 1 0)
  | .thru _ f inn nbeats dly => actionWord (Machine.faceSlot f.val) 4 (placeBits 48 2 (faceCode f.val) + placeBits 45 3 inn.toNat + placeBits 37 8 nbeats.toNat + placeBits 33 4 dly.toNat)
  | .thruGuyline _ f inn nbeats dly => actionWord (Machine.faceSlot f.val) 4 (placeBits 48 2 (faceCode f.val) + placeBits 45 3 inn.toNat + placeBits 37 8 nbeats.toNat + placeBits 33 4 dly.toNat)
  | .pinc _ peg amount => actionWord (61) 1 (placeBits 41 9 peg.toNat + placeBits 25 16 amount.toNat)
  | .psetCount _ peg value => actionWord (61) 2 (placeBits 41 9 peg.toNat + placeBits 40 1 0 + placeBits 8 32 value.toNat)
  | .psetMark _ peg value => actionWord (61) 2 (placeBits 41 9 peg.toNat + placeBits 40 1 1 + placeBits 8 32 value.toNat)
  | .perrSet _ peg => actionWord (61) 5 (placeBits 41 9 peg.toNat + placeBits 40 1 1)
  | .perrClear _ peg => actionWord (61) 5 (placeBits 41 9 peg.toNat + placeBits 40 1 0)
  | .pwait _ peg rel adv t => actionWord (61) 3 (placeBits 41 9 peg.toNat + placeBits 40 1 (boolBit rel) + placeBits 39 1 (boolBit adv) + placeBits 15 24 t.toNat)
  | .parmArm _ peg rel nsrc t => actionWord (61) 4 (placeBits 41 9 peg.toNat + placeBits 40 1 (boolBit rel) + placeBits 38 2 nsrc.toNat + placeBits 14 24 t.toNat + placeBits 13 1 0)
  | .parmDisarm _ peg => actionWord (61) 4 (placeBits 41 9 peg.toNat + placeBits 13 1 1)
  | .cidle _ count => actionWord (63) 1 (placeBits 18 32 count.toNat)
  | .crep _ body total => actionWord (63) 2 (placeBits 38 12 body.toNat + placeBits 6 32 total.toNat)
  | .cbnd _ peg shift => actionWord (63) 3 (placeBits 36 14 peg.toNat + placeBits 31 5 shift.toNat)
  | .chlt _ setseg gear seg => actionWord (63) 4 (placeBits 49 1 (boolBit setseg) + placeBits 47 2 gear.toNat + placeBits 35 12 seg.toNat)
  | .fqpost _ queue dsack line => actionWord (63) 5 (placeBits 44 6 queue.toNat + placeBits 39 5 dsack.toNat + placeBits 26 13 line.toNat)
  | .tact _ track bank row xen x => actionWord (60) 1 (placeBits 45 5 track.toNat + placeBits 41 4 bank.toNat + placeBits 25 16 row.toNat + placeBits 24 1 (boolBit xen) + placeBits 21 3 x.toNat)
  | .trd _ track bank col nl sack line ap => actionWord (60) 2 (placeBits 45 5 track.toNat + placeBits 41 4 bank.toNat + placeBits 37 4 col.toNat + placeBits 33 4 nl.toNat + placeBits 28 5 sack.toNat + placeBits 15 13 line.toNat + placeBits 14 1 (boolBit ap))
  | .twr _ track bank col nl sack line ap => actionWord (60) 3 (placeBits 45 5 track.toNat + placeBits 41 4 bank.toNat + placeBits 37 4 col.toNat + placeBits 33 4 nl.toNat + placeBits 28 5 sack.toNat + placeBits 15 13 line.toNat + placeBits 14 1 (boolBit ap))
  | .tpre _ track bank all => actionWord (60) 4 (placeBits 45 5 track.toNat + placeBits 41 4 bank.toNat + placeBits 40 1 (boolBit all))
  | .tslotRefresh _ mask pair => actionWord (60) 5 (placeBits 49 1 0 + placeBits 25 24 mask.toNat + placeBits 22 3 pair.toNat)
  | .tslotFar _ mask nbeats => actionWord (60) 5 (placeBits 49 1 1 + placeBits 25 24 mask.toNat + placeBits 9 16 nbeats.toNat)
  | .tidxColumn _ track bank isack iline nlog dsack dline => actionWord (60) 6 (placeBits 49 1 0 + placeBits 44 5 track.toNat + placeBits 40 4 bank.toNat + placeBits 35 5 isack.toNat + placeBits 22 13 iline.toNat + placeBits 20 2 nlog.toNat + placeBits 15 5 dsack.toNat + placeBits 2 13 dline.toNat)
  | .tidxLoadIndex _ x isack iline word stride count => actionWord (60) 6 (placeBits 49 1 1 + placeBits 46 3 x.toNat + placeBits 41 5 isack.toNat + placeBits 28 13 iline.toNat + placeBits 23 5 word.toNat + placeBits 8 15 stride.toNat + placeBits 0 8 count.toNat)
  | _ => 0

/-- Bits [lo + len - 1 : lo] of a word. -/
def wordField (w : BitVec 64) (lo len : Nat) : BitVec len := w.extractLsb' lo len

/-- One bit of a word as a Bool. -/
def wordBit (w : BitVec 64) (i : Nat) : Bool := w.getLsbD i

/-- The common Kettle operands of a word (Table 5.3). -/
def decodeKops (w : BitVec 64) : KOps :=
  { dm := wordBit w 49, dp := wordBit w 48, d := wordField w 35 13, am := wordBit w 34, ap := wordBit w 33, a := wordField w 20 13, b := wordField w 15 5, c := wordField w 10 5, nega := wordBit w 9, negx := wordBit w 8, func := wordField w 0 8 }

/-- The face that a slot and a FACE field name (chapter 06): none for a FACE that slot does not have. -/
def faceOf (slot face : Nat) : Option (Fin 7) :=
  if slot < 62 then (if face = 0 then some (Fin.ofNat 7 (slot - 56)) else none)
  else match face with
    | 1 => some 6
    | 2 => some 4
    | 3 => some 5
    | _ => none

/-- The action a word names in the slot of a Stove (chapter 04); none for an opcode the unit does not define. -/
def decodeStove (r : Fin 32) (c : Fin 8) (w : BitVec 64) : Option Instr :=
  match (wordField w 50 8).toNat with
  | 1 => if wordBit w 27 then some (.sloadRawAdd r c (wordField w 48 2) (wordField w 35 13) (wordField w 28 7) (wordField w 23 4)) else some (.sloadWeights r c (wordField w 48 2) (wordField w 35 13) (wordField w 28 7))
  | 2 => some (.smac r c (wordField w 48 2) (wordField w 35 13) (wordField w 31 4) (wordField w 27 4) (wordField w 20 7) (wordBit w 19))
  | 3 => some (.sout r c (wordField w 46 4) (wordField w 44 2) (wordField w 31 13) (wordField w 27 4) (wordBit w 26) (wordBit w 25) (wordBit w 24) (wordField w 15 9) (wordField w 2 13))
  | 4 => some (.sclr r c (wordField w 34 16) (wordBit w 33) (wordBit w 32) (wordBit w 31))
  | 5 => some (.sfmt r c (wordField w 46 4) (wordField w 42 4) (wordBit w 41) (wordBit w 40) (wordField w 38 2) (wordField w 25 13))
  | 6 => if wordBit w 34 then some (.smxsAsb r c (wordField w 48 2) (wordField w 35 13)) else some (.smxsWeightScales r c (wordField w 48 2) (wordField w 35 13))
  | _ => none

/-- The action a word names in the slot of a Kettle (chapter 05); none for an opcode the unit does not define. -/
def decodeKettle (r : Fin 32) (u : Fin 16) (w : BitVec 64) : Option Instr :=
  match (wordField w 50 8).toNat with
  | 1 => some (.kadd r u (decodeKops w))
  | 2 => some (.kmul r u (decodeKops w))
  | 3 => some (.kfma r u (decodeKops w))
  | 4 => some (.kmax r u (decodeKops w))
  | 5 => some (.kmin r u (decodeKops w))
  | 6 => some (.ksel r u (decodeKops w))
  | 7 => some (.kcmp r u (decodeKops w))
  | 8 => some (.kcvt r u (decodeKops w))
  | 9 => some (.kexp2 r u (decodeKops w))
  | 10 => some (.klog2 r u (decodeKops w))
  | 11 => some (.krcp r u (decodeKops w))
  | 12 => some (.krsq r u (decodeKops w))
  | 13 => some (.ktanh r u (decodeKops w))
  | 14 => some (.ksum r u (decodeKops w))
  | 15 => some (.kmerge r u (decodeKops w))
  | 16 =>
    let o := decodeKops w
    if o.func.toNat % 4 = 0 then some (.kidxArgmax r u o) else if o.func.toNat % 4 = 1 then some (.kidxCumsel r u o) else none
  | 17 => some (.krng r u (decodeKops w))
  | 18 =>
    match (wordField w 48 2).toNat with
    | 0 => some (.ksrSackToRegister r u (wordField w 46 2) (wordField w 33 13) (wordField w 28 5) (wordBit w 27))
    | 1 => some (.ksrRegisterToSack r u (wordField w 46 2) (wordField w 33 13) (wordField w 28 5) (wordBit w 27))
    | 2 => some (.ksrRegisterCopy r u (wordField w 28 5) (wordField w 22 5) (wordBit w 21) (wordField w 15 6))
    | 3 => some (.ksrKeyLoad r u (wordField w 46 2) (wordField w 33 13))
    | _ => none
  | _ => none

/-- The action a word names in the slot of a Sack; none for an opcode the unit does not define. -/
def decodeSack (r : Fin 32) (s : Fin 32) (w : BitVec 64) : Option Instr :=
  match (wordField w 50 8).toNat with
  | 1 => some (.srd r s (wordField w 45 5) (wordField w 32 13) (wordField w 19 13) (wordField w 6 13))
  | 2 =>
    match (wordField w 22 2).toNat with
    | 0 => some (.swrFill r s (wordField w 37 13) (wordField w 24 13) (wordField w 6 16))
    | 1 => some (.swrPegSnapshot r s (wordField w 37 13) (wordField w 6 9))
    | _ => none
  | 3 => some (.sgath r s (wordField w 37 13) (wordField w 32 5) (wordField w 19 13) (wordField w 11 8) (wordField w 7 4) (wordField w 2 5))
  | _ => none

/-- The action a word names in the slot of a Pole or port-unit face; none for an opcode the unit does not define. -/
def decodeFace (r : Fin 32) (f : Fin 7) (w : BitVec 64) : Option Instr :=
  match (wordField w 50 8).toNat with
  | 1 => some (.pass r f (wordField w 43 5) (wordField w 30 13) (wordField w 25 5) (wordField w 12 13) (wordField w 4 8))
  | 2 => some (.send r f (wordField w 43 5) (wordField w 30 13) (wordField w 27 3) (wordField w 11 16) (wordField w 3 8))
  | 3 => if wordBit w 44 then some (.rwinOpen r f (wordField w 45 3) (wordField w 39 5) (wordField w 26 13) (wordField w 13 13) (wordField w 4 9)) else some (.rwinClose r f (wordField w 45 3))
  | 4 =>
    if f = 6 || (wordField w 45 3).toNat = 6 then some (.thruGuyline r f (wordField w 45 3) (wordField w 37 8) (wordField w 33 4)) else some (.thru r f (wordField w 45 3) (wordField w 37 8) (wordField w 33 4))
  | _ => none

/-- The action a word names in the slot of the track group (chapter 07); none for an opcode the unit does not define. -/
def decodeTrack (r : Fin 32) (w : BitVec 64) : Option Instr :=
  match (wordField w 50 8).toNat with
  | 1 => some (.tact r (wordField w 45 5) (wordField w 41 4) (wordField w 25 16) (wordBit w 24) (wordField w 21 3))
  | 2 => some (.trd r (wordField w 45 5) (wordField w 41 4) (wordField w 37 4) (wordField w 33 4) (wordField w 28 5) (wordField w 15 13) (wordBit w 14))
  | 3 => some (.twr r (wordField w 45 5) (wordField w 41 4) (wordField w 37 4) (wordField w 33 4) (wordField w 28 5) (wordField w 15 13) (wordBit w 14))
  | 4 => some (.tpre r (wordField w 45 5) (wordField w 41 4) (wordBit w 40))
  | 5 => if wordBit w 49 then some (.tslotFar r (wordField w 25 24) (wordField w 9 16)) else some (.tslotRefresh r (wordField w 25 24) (wordField w 22 3))
  | 6 => if wordBit w 49 then some (.tidxLoadIndex r (wordField w 46 3) (wordField w 41 5) (wordField w 28 13) (wordField w 23 5) (wordField w 8 15) (wordField w 0 8)) else some (.tidxColumn r (wordField w 44 5) (wordField w 40 4) (wordField w 35 5) (wordField w 22 13) (wordField w 20 2) (wordField w 15 5) (wordField w 2 13))
  | _ => none

/-- The action a word names in the slot of the Peg unit; none for an opcode the unit does not define. -/
def decodePeg (r : Fin 32) (w : BitVec 64) : Option Instr :=
  match (wordField w 50 8).toNat with
  | 1 => some (.pinc r (wordField w 41 9) (wordField w 25 16))
  | 2 => if wordBit w 40 then some (.psetMark r (wordField w 41 9) (wordField w 8 32)) else some (.psetCount r (wordField w 41 9) (wordField w 8 32))
  | 3 => some (.pwait r (wordField w 41 9) (wordBit w 40) (wordBit w 39) (wordField w 15 24))
  | 4 => if wordBit w 13 then some (.parmDisarm r (wordField w 41 9)) else some (.parmArm r (wordField w 41 9) (wordBit w 40) (wordField w 38 2) (wordField w 14 24))
  | 5 => if wordBit w 40 then some (.perrSet r (wordField w 41 9)) else some (.perrClear r (wordField w 41 9))
  | _ => none

/-- The action a word names in the slot of region control; none for an opcode the unit does not define. -/
def decodeControl (r : Fin 32) (w : BitVec 64) : Option Instr :=
  match (wordField w 50 8).toNat with
  | 1 => some (.cidle r (wordField w 18 32))
  | 2 => some (.crep r (wordField w 38 12) (wordField w 6 32))
  | 3 => some (.cbnd r (wordField w 36 14) (wordField w 31 5))
  | 4 => some (.chlt r (wordBit w 49) (wordField w 47 2) (wordField w 35 12))
  | 5 => some (.fqpost r (wordField w 44 6) (wordField w 39 5) (wordField w 26 13))
  | _ => none

/-- The action that a word names in region r, before its reserved bits and operands are checked; none where its opcode, mode
or face code is not defined for its unit (R56). -/
def decodeUnit (r : Fin 32) (w : BitVec 64) : Option Instr :=
  let unit := (wordField w 58 6).toNat
  if unit < 8 then decodeStove r (Fin.ofNat 8 unit) w
  else if unit < 24 then decodeKettle r (Fin.ofNat 16 (unit - 8)) w
  else if unit < 56 then decodeSack r (Fin.ofNat 32 (unit - 24)) w
  else if unit = 60 then decodeTrack r w
  else if unit = 61 then decodePeg r w
  else if unit = 63 then decodeControl r w
  else
    match faceOf unit (wordField w 48 2).toNat with
    | some f => decodeFace r f w
    | none => none

/-- The action that a word names, reserved operand bits checked to be zero (R56): the word must be the coding of what it
decodes to. -/
def decodeAction (r : Fin 32) (w : BitVec 64) : Option Instr :=
  match decodeUnit r w with
  | some i => if encodeAction i = w then some i else none
  | none => none

end Sys2Proof
end

