-- ==== Sys2Proof/WellFormed.lean ====
section
/-!
DEFINITION. WellFormed.lean: what the Trail validation checks of one action word (R21, R56, R109 and the operand constraints
of each instruction), and when a command is well formed.
-/

namespace Sys2Proof

open Machine

/-- NEGA is allowed where operand A is read as f32 (R109). `fn` is FUNC. -/
def negaAllowed (op : KOp) (fn : Nat) : Bool :=
  match op with
  | .kadd | .kmul | .kfma | .kmax | .kmin | .ksum | .kexp2 | .klog2 | .krcp | .krsq | .ktanh => true
  | .kcmp => decide (fn / 8 % 2 = 0)
  | .kcvt => [0x0, 0x1, 0x4, 0x5, 0x6, 0x8, 0x9, 0xA, 0xB].contains (fn % 16)
  | .ksel | .kmerge | .kidx | .krng => false

/-- NEGX is allowed on KADD, KMUL, KMAX, KMIN and KFMA (Table 5.3). -/
def negxAllowed (op : KOp) : Bool :=
  match op with
  | .kadd | .kmul | .kmax | .kmin | .kfma => true
  | _ => false

/-- Whether an instruction uses operand A, B or C (Table 5.4). -/
def usesA (op : KOp) : Bool := op != .krng
/-- Operand B. Table 5.4 gives it to KIDX, so that ARGMAX, which does not read it, may name one (log entry 30). -/
def usesB (op : KOp) : Bool :=
  match op with
  | .kadd | .kmul | .kfma | .kmax | .kmin | .ksel | .kcmp | .kmerge | .kidx => true
  | _ => false
/-- Operand C. -/
def usesC (op : KOp) : Bool :=
  match op with
  | .kfma | .ksel | .kidx => true
  | _ => false

/-- The FUNC constraints of Tables 5.4 and 5.5. -/
def funcOk (op : KOp) (o : KOps) : Bool :=
  let fn := o.func.toNat
  match op with
  | .kadd | .kmul | .kfma | .ksel | .kexp2 | .klog2 | .krcp | .krsq | .ktanh => decide (fn = 0)
  | .kmax | .kmin => decide (fn < 2)
  | .kcmp => decide (fn < 16) && decide (fn % 8 < 5) && !(decide (fn / 8 = 1) && decide (fn % 8 = 4))
  | .kcvt =>
    let mode := fn % 16
    let half := decide (fn / 16 % 2 = 1)
    let upper := decide (fn / 32 % 2 = 1)
    decide (fn < 64) && decide (mode ≠ 7) &&
    (if mode < 8 then !half && !upper
     else if mode < 0xC then o.dm && !upper
     else o.am && (decide (mode < 0xE) || !upper))
  | .ksum => decide (fn < 16) && decide (1 ≤ fn % 8) && decide (fn % 8 ≤ 6)
  | .kmerge => decide (fn < 2) && !o.dm && !o.am && decide (o.d.toNat ≤ 29 - fn) && decide (o.a.toNat ≤ 29 - fn) &&
      decide (o.b.toNat ≤ 29 - fn)
  | .kidx => decide (fn < 2)
  | .krng => decide (fn < 16)

/-- Every constraint of the common Kettle layout (R109). -/
def kopsOk (op : KOp) (o : KOps) : Bool :=
  (o.dm || (!o.dp && decide (o.d.toNat < 32))) && (o.am || (!o.ap && decide (o.a.toNat < 32))) &&
  (usesA op || (!o.am && decide (o.a = 0))) && (usesB op || decide (o.b = 0)) && (usesC op || decide (o.c = 0)) &&
  (!o.nega || negaAllowed op o.func.toNat) && (!o.negx || negxAllowed op) && funcOk op o

/-- A cause for a failed check. -/
def causeIf (bad : Bool) (cause : Nat) : Option Nat := if bad then some cause else none

/-- The cause with which validation refuses an action: 0x13 for an absent unit or face, asked first, 0x17 for its operands
(R21, R73); none where it is accepted or is no action. -/
def actionCause (i : Instr) : Option Nat :=
  let face (r : Fin 32) (f : Fin 7) (bad : Bool) : Option Nat :=
    if faceExists r.val f.val then causeIf bad 0x17 else some 0x13
  match i with
  | .sfmt _ _ wfmt afmt _ _ _ _ => causeIf (decide (0xD ≤ wfmt.toNat) || decide (0xD ≤ afmt.toNat)) 0x17
  | .sout _ _ _ _ _ ofmt _ _ _ _ sline =>
    causeIf (match ofmtOf ofmt.toNat with
      | none => true
      | some o => !o.mx && decide (sline ≠ 0)) 0x17
  | .kadd _ _ o => causeIf (!kopsOk .kadd o) 0x17
  | .kmul _ _ o => causeIf (!kopsOk .kmul o) 0x17
  | .kfma _ _ o => causeIf (!kopsOk .kfma o) 0x17
  | .kmax _ _ o => causeIf (!kopsOk .kmax o) 0x17
  | .kmin _ _ o => causeIf (!kopsOk .kmin o) 0x17
  | .ksel _ _ o => causeIf (!kopsOk .ksel o) 0x17
  | .kcmp _ _ o => causeIf (!kopsOk .kcmp o) 0x17
  | .kcvt _ _ o => causeIf (!kopsOk .kcvt o) 0x17
  | .kexp2 _ _ o => causeIf (!kopsOk .kexp2 o) 0x17
  | .klog2 _ _ o => causeIf (!kopsOk .klog2 o) 0x17
  | .krcp _ _ o => causeIf (!kopsOk .krcp o) 0x17
  | .krsq _ _ o => causeIf (!kopsOk .krsq o) 0x17
  | .ktanh _ _ o => causeIf (!kopsOk .ktanh o) 0x17
  | .ksum _ _ o => causeIf (!kopsOk .ksum o) 0x17
  | .kmerge _ _ o => causeIf (!kopsOk .kmerge o) 0x17
  | .kidxArgmax _ _ o => causeIf (!kopsOk .kidx o || decide (o.func ≠ 0)) 0x17
  | .kidxCumsel _ _ o => causeIf (!kopsOk .kidx o || decide (o.func ≠ 1)) 0x17
  | .krng _ _ o => causeIf (!kopsOk .krng o) 0x17
  | .sgath _ _ _ _ _ base wbits _ =>
    causeIf (decide (13 < wbits.toNat) || decide (8192 < 32 * base.toNat + 2 ^ wbits.toNat)) 0x17
  | .pass r f _ _ _ _ _ => face r f (decide (f = 6))
  | .send r f _ _ _ _ _ => face r f false
  | .rwinOpen r f _ _ _ _ _ => face r f false
  | .rwinClose r f _ => face r f false
  | .thru r f inn _ dly =>
    if faceExists r.val f.val && (decide (inn = 7) || faceExists r.val inn.toNat) then
      causeIf (decide (inn = 7) || decide (inn.toNat = f.val) || decide (f = 6) || decide (inn = 6) || decide (dly ≠ 0)) 0x17
    else some 0x13
  | .thruGuyline r f inn _ _ =>
    if faceExists r.val f.val && (decide (inn = 7) || faceExists r.val inn.toNat) then
      causeIf (decide (inn = 7) || decide (inn.toNat = f.val) || !(decide (f = 6) || decide (inn = 6))) 0x17
    else some 0x13
  | .pinc _ _ amount => causeIf (decide (amount = 0)) 0x17
  | .pwait _ _ rel adv _ => causeIf (adv && !rel) 0x17
  | .cidle _ count => causeIf (decide (count = 0)) 0x17
  | .crep _ body total => causeIf (decide (body = 0) || decide (total = 0)) 0x17
  | .tact _ track _ _ _ _ => causeIf (decide (24 ≤ track.toNat)) 0x17
  | .trd _ track _ col nl _ _ _ => causeIf (decide (24 ≤ track.toNat) || decide (16 < col.toNat + nl.toNat + 1)) 0x17
  | .twr _ track _ col nl _ _ _ => causeIf (decide (24 ≤ track.toNat) || decide (16 < col.toNat + nl.toNat + 1)) 0x17
  | .tpre _ track bank all => causeIf (decide (24 ≤ track.toNat) || (all && decide (bank ≠ 0))) 0x17
  | .tslotRefresh _ mask _ => causeIf (decide (mask = 0)) 0x17
  | .tslotFar _ mask _ => causeIf (decide (mask = 0)) 0x17
  | .tidxColumn _ track _ _ _ _ _ _ => causeIf (decide (24 ≤ track.toNat)) 0x17
  | .tidxLoadIndex _ _ _ _ _ stride count => causeIf (decide (65536 ≤ count.toNat * stride.toNat)) 0x17
  | _ => none

/-- Whether a word in the slot of a Pole or a port unit names an absent unit or face, or is a THRU whose IN is absent (R21), asked
before its opcode and operands (R73). IN 7 is no face and is left to the operands. -/
def namesAbsent (r : Fin 32) (w : BitVec 64) : Bool :=
  let unit := (wordField w 58 6).toNat
  let inn := (wordField w 45 3).toNat
  (decide (unit = 62) && !hasPortUnit r.val) ||
  (decide (56 ≤ unit) && decide (unit ≤ 59) && !faceExists r.val (unit - 56)) ||
  (decide (56 ≤ unit) && decide (unit ≠ 60) && decide (unit ≠ 61) && decide (unit ≠ 63) &&
    ((match faceOf unit (wordField w 48 2).toNat with
      | some f => !faceExists r.val f.val
      | none => false) ||
     (decide ((wordField w 50 8).toNat = 4) && decide (inn ≠ 7) && !faceExists r.val inn)))

/-- The cause with which validation refuses an action word of region r; none where it accepts it (R56, R73). An undefined
opcode or a reserved bit is 0x17, unless the word names an absent unit or face. FACE 0 on a port unit and another FACE than 0 on a
Pole name no face at all: chapter 06 says only that FACE 0 is refused, and the model gives them 0x17 (DESIGN CHOICE, log entry 79). -/
def wordCause (r : Fin 32) (w : BitVec 64) : Option Nat :=
  match decodeUnit r w with
  | some i =>
    match actionCause i with
    | some 0x13 => some 0x13
    | c => if encodeAction i = w then c else some 0x17
  | none => if namesAbsent r w then some 0x13 else some 0x17

/-! ## Commands -/

/-- A calibration measure has every crossing and region (R34). -/
def Measure.wf (m : Measure) : Bool := decide (m.delays.length = 192) && decide (m.caps.length = 32)

/-- What a bring-up step finds covers every part it looks at. -/
def BringUp.wf (x : BringUp) : Bool :=
  match x with
  | .power _ _ _ pairs _ _ _ lamps => decide (pairs.length = 4) && decide (lamps.length = 8)
  | .memory failed dimms => decide (failed.length = 32) && decide (dimms.length = 12)
  | .calibrate m failed => m.wf && decide (failed.length = 32)
  | .lanes bad eth => decide (bad.length = 10) && decide (eth.length = 2)
  | .pcie ports => decide (ports.length = 2)
  | .firmware _ | .ethernet _ | .compass | .guyline => true

/-- A BAR2 access of n bytes at an offset: within the BAR. -/
def bar2Ok (off : BitVec 36) (n most : Nat) : Bool :=
  decide (1 ≤ n) && decide (n ≤ most) && decide (off.toNat + n ≤ 2 ^ 36)

/-- Whether a command is well formed: an action that validation accepts, and operands whose lists have the lengths the manual
gives. -/
def Instr.wf (i : Instr) : Bool :=
  (actionCause i).isNone &&
  match i with
  | .bar0OddAccess _ off size _ _ =>
    (match size with
     | .b4 => decide (off.toNat % 4 ≠ 0)
     | .b8 => decide (off.toNat % 8 ≠ 0)
     | _ => true)
  | .packReceive _ units _ _ => decide (units.length = 8) && units.all (fun u => decide (u.2.length = 32))
  | .referenceFrame frame _ => decide (frame.length = 19)
  | .vestibuleWrite _ off data _ => bar2Ok off data.length 512
  | .vestibuleRead _ off len => bar2Ok off len.toNat 4096
  | .weightLoadWrite _ off data => bar2Ok off data.length 512
  | .firewatchEpoch x => decide (x.junction.length = 32) && decide (x.hbm.length = 24) && decide (x.die.length = 7) &&
      decide (x.rail.length = 8) && (decide (x.input.length = 65) || decide (x.input.length = 66))
  | .thermalTrip j h => decide (j.length = 32) && decide (h.length = 24)
  | .thermalRecovery j h => decide (j.length = 32) && decide (h.length = 24)
  | .entryLimitUpdate _ pairs => decide (pairs.length = 4)
  | .selftestComplete clusters tracks => decide (clusters.length = 32) && decide (tracks.length = 32)
  | .recalibration m => m.wf
  | .bringUpStep x => x.wf
  | _ => true

end Sys2Proof
end

