-- ==== Sys2Proof/Machine/Issue.lean ====
section
/-!
DEFINITION. Machine/Issue.lean: how an action command issues: in the beat in progress of its region, in its slot.
-/

namespace Sys2Proof.Machine

/-- The slot an action issues in (R17): the UNIT field of its word. -/
def actionSlot (i : Instr) : Nat := (wordField (encodeAction i) 58 6).toNat

/-- The Sacks whose read ports an action uses in its issue beat (Table 6.2, Table 4.5, R105, R119, R167). -/
def actionReads (i : Instr) : List Nat :=
  let own (c : Nat) (k : BitVec 2) : Nat := 4 * c + k.toNat
  let pair (u : Fin 16) (o : KOps) (op : KOp) : List Nat :=
    if !o.am then []
    else if op = .kcvt && 0xC ≤ o.func.toNat % 16 then [pairSack u o.ap (o.func.toNat / 16 % 2 = 1)]
    else [pairSack u o.ap false, pairSack u o.ap true]
  match i with
  | .sloadWeights _ c k _ _ => [own c.val k]
  | .sloadRawAdd _ c k _ _ _ => [own c.val k]
  | .smxsWeightScales _ c k _ => [own c.val k]
  | .smxsAsb _ c k _ => [own c.val k]
  | .sfmt _ c _ _ _ keyld k _ => if keyld then [own c.val k] else []
  | .smac _ c k _ _ _ _ _ => [own c.val k]
  | .kadd _ u o => pair u o .kadd
  | .kmul _ u o => pair u o .kmul
  | .kfma _ u o => pair u o .kfma
  | .kmax _ u o => pair u o .kmax
  | .kmin _ u o => pair u o .kmin
  | .ksel _ u o => pair u o .ksel
  | .kcmp _ u o => pair u o .kcmp
  | .kcvt _ u o => pair u o .kcvt
  | .kexp2 _ u o => pair u o .kexp2
  | .klog2 _ u o => pair u o .klog2
  | .krcp _ u o => pair u o .krcp
  | .krsq _ u o => pair u o .krsq
  | .ktanh _ u o => pair u o .ktanh
  | .ksum _ u o => pair u o .ksum
  | .kidxArgmax _ u o => pair u o .kidx
  | .kidxCumsel _ u o => pair u o .kidx
  | .ksrSackToRegister _ u k _ _ _ => [own (u.val / 2) k]
  | .ksrKeyLoad _ u k _ => [own (u.val / 2) k]
  | .srd _ s _ _ _ _ => [s.val]
  | .sgath _ s _ _ _ _ _ _ => [s.val]
  | .pass _ _ k _ _ _ _ => [k.toNat]
  | .send _ _ k _ _ _ _ => [k.toNat]
  | .fqpost _ _ k _ => [k.toNat]
  | .twr _ _ _ _ _ k _ _ => [k.toNat]
  | .tidxColumn _ _ _ k _ _ _ _ => [k.toNat]
  | .tidxLoadIndex _ _ k _ _ _ _ => [k.toNat]
  | _ => []

/-! ## Actions that are refused at issue (R102, R124, R153) -/

/-- The Sack, by number in the region, that a Stove's or Kettle's SACK field names. -/
def clusterSack (c : Nat) (k : BitVec 2) : Nat := 4 * c + k.toNat

/-- The first of some rules that an action breaks. -/
def firstFault (checks : List (Bool × Nat)) : Option Nat := (checks.find? (·.1)).map (·.2)

/-- Whether plane `p` is in use by an SMAC at beat b (R92). -/
def Stove.inUse (t : Stove) (p : Bool) (b : Nat) : Bool := decide (b < if p then t.useEnd1 else t.useEnd0)

/-- The block-3 rules that a Stove action issued at beat b may break, in the order of R102. -/
def stoveFaults (t : Stove) (b : Nat) (i : Instr) : List (Bool × Nat) :=
  let busy := (decide (b < t.lFree), 0x2303)
  let past (line : BitVec 13) (n : Nat) := (decide (8192 < line.toNat + n), 0x2306)
  let shadow := t.plane !t.act
  let inUse := (t.inUse (!t.act) b, 0x2304)
  match i with
  | .sloadWeights _ _ _ line nrows => [busy, inUse, past line (nrows.toNat + 1)]
  | .sloadRawAdd _ _ _ line nrows _ => [busy, past line (nrows.toNat + 1)]
  | .smxsWeightScales _ _ _ line => [busy, inUse, (!fmtMx shadow.wfmt, 0x2305), past line (scaleLines shadow.wfmt)]
  | .smxsAsb .. => [busy]
  | .sfmt _ _ wfmt _ _ _ _ _ => [(decide (wfmt ≠ 0) && (decide (b < t.lFree) || decide (b < t.landing)), 0x2303)]
  | .smac _ _ _ line _ nvec _ flip =>
    let q := t.plane (if flip then !t.act else t.act)
    [(decide (b < t.mFree), 0x2303), (!(q.elemOk && q.scaleOk), 0x2301),
     (decide (fmtClass t.afmt = none) || decide (fmtClass t.afmt ≠ fmtClass q.wfmt), 0x2302), past line (nvec.toNat + 1)]
  | .sout _ _ _ _ line ofmt _ _ _ _ _ =>
    match ofmtOf ofmt.toNat with
    | none => []
    | some o => [(decide (b < t.oFree), 0x2303), past line o.lines]
  | .sclr _ _ _ _ planes _ =>
    [(planes && (decide (b < t.lFree) || decide (b < t.landing)), 0x2303), (planes && (t.inUse false b || t.inUse true b), 0x2304)]
  | _ => []

/-- The Stove rules that an action breaks at its issue. -/
def stoveFault (x : Ctx) (s : State) (i : Instr) : Option Nat :=
  match i with
  | .sloadWeights _ c _ _ _ | .sloadRawAdd _ c _ _ _ _ | .smxsWeightScales _ c _ _ | .smxsAsb _ c _ _ | .sfmt _ c _ _ _ _ _ _
  | .smac _ c _ _ _ _ _ _ | .sout _ c _ _ _ _ _ _ _ _ _ | .sclr _ c _ _ _ _ => firstFault (stoveFaults ((x.g s).stoves[c]) x.beat i)
  | _ => none

/-- Whether a movement or track action reaches past line 8,191 (R124). -/
def pastEnd (i : Instr) : Bool :=
  let past (line : BitVec 13) (n : Nat) : Bool := decide (8192 < line.toNat + n)
  match i with
  | .srd _ _ _ line dline nlines => past line (nlines.toNat + 1) || past dline (nlines.toNat + 1)
  | .swrFill _ _ line nlines _ => past line (nlines.toNat + 1)
  | .sgath _ _ _ _ dline _ _ nidx => past dline (nidx.toNat + 1)
  | .pass _ _ _ sline _ dline nlines => past sline (nlines.toNat + 1) || past dline (nlines.toNat + 1)
  | .send _ _ _ sline _ _ nlines => past sline (nlines.toNat + 1)
  | .rwinOpen _ _ _ _ base len _ => past base (len.toNat + 1)
  | .trd _ _ _ _ nl _ line _ | .twr _ _ _ _ nl _ line _ => past line (nl.toNat + 1)
  | .tidxColumn _ _ _ _ _ nlog _ dline => past dline (2 ^ nlog.toNat)
  | _ => false

/-- The rules that a column command may break, in the order 0x2703, 0x2704, 0x2501, 0x2222 (R76, R153). A TIDX of MODE 0 is checked for the beat its column command is due, and
for its bounds there. -/
def trackFaults (x : Ctx) (s : State) (i : Instr) : List (Bool × Nat) :=
  let rules (t bank b : Nat) (write : Bool) : List (Bool × Nat) :=
    let (row, late) := columnCheck x s t bank b write
    [(decide (row = none), 0x2703), (late, 0x2704), (pastEnd i, 0x2501)]
  let bounds (t bank col n : Nat) (write : Bool) : Bool × Nat :=
    let row := ((columnCheck x s t bank x.beat write).1).getD 0
    (!columnInBounds x s t row bank col n write, 0x2222)
  match i with
  | .trd _ t bank col nl _ _ _ =>
    rules t.toNat bank.toNat x.beat false ++ [bounds t.toNat bank.toNat col.toNat (nl.toNat + 1) false]
  | .twr _ t bank col nl _ _ _ =>
    rules t.toNat bank.toNat x.beat true ++ [bounds t.toNat bank.toNat col.toNat (nl.toNat + 1) true]
  | .tidxColumn _ t bank isack _ _ _ _ =>
    rules t.toNat bank.toNat (x.beat + 2 + detourBeats s x.r none (sackCluster isack.toNat)) false
  | _ => []

/-- Whether an action is refused at issue, without effect: it then uses no port (R102, R124, R153). -/
def actionRefused (x : Ctx) (s : State) (i : Instr) : Bool :=
  (stoveFault x s i).isSome || pastEnd i || (firstFault (trackFaults x s i)).isSome

/-- The Sack read ports that an action uses in its issue beat, if it is not refused. -/
def portReads (x : Ctx) (s : State) (i : Instr) : List Nat := if actionRefused x s i then [] else actionReads i

/-- Sack read ports noted as used in the beat in progress (R123). -/
def noteReads (s : State) (r : Fin 32) (slot : Nat) (ks : List Nat) : State :=
  modRegion s r fun g => { g with readers := g.readers ++ ks.map (fun k => (k, slot)) }

/-- The context of an action that issues in the beat in progress of a region; none if no beat is in progress or its arrivals
are not all in. -/
def issueCtx (s : State) (r : Fin 32) (i : Instr) : Option Ctx :=
  let g := s.regions[r]
  match beatOf g with
  | some b => if g.rowWait then none else some { r := r, beat := b, issue := b, slot := actionSlot i }
  | none => none

/-- The issues that Lantern counts (Table 16.5): a Kettle's for its cluster, TACT, FQPOST. -/
def lnAction (s : State) (r : Fin 32) (i : Instr) : State :=
  let slot := actionSlot i
  match i with
  | .tact .. => lnAdd s r.val 31 1
  | .fqpost .. => lnAdd s r.val 41 1
  | _ => if 8 ≤ slot ∧ slot < 24 then lnAdd s r.val (12 + (slot - 8) / 2) 1 else s

/-- An action command: a word that validation refuses is refused with its cause; otherwise the action issues in the beat in
progress of its region, and where there is none it has no effect (log entry 11). -/
def direct (s : State) (r : Fin 32) (i : Instr) (f : Ctx → State → State) : Host.Outcome State Fault Refusal :=
  match actionCause i with
  | some c => .refused (.invalidAction c)
  | none =>
    match issueCtx s r i with
    | none => .next s
    | some x => .next (f x (lnAction (noteReads s r x.slot (portReads x s i)) r i))

/-- A THRU command: it may issue before the beat's arrivals are in, and forwards them (R134). -/
def directThru (s : State) (r : Fin 32) (i : Instr) (f : Ctx → State → State) : Host.Outcome State Fault Refusal :=
  match actionCause i with
  | some c => .refused (.invalidAction c)
  | none =>
    match beatOf s.regions[r] with
    | none => .next s
    | some b => .next (f { r := r, beat := b, issue := b, slot := actionSlot i } s)

end Sys2Proof.Machine
end

