-- ==== Sys2Proof/Machine/Stoves.lean ====
section
/-!
DEFINITION. Machine/Stoves.lean: the Stove instructions (chapter 04).
-/

namespace Sys2Proof.Machine

/-- The Stove of the context's region. -/
def stoveOf (x : Ctx) (s : State) (c : Fin 8) : Stove := (x.g s).stoves[c]

/-- A Stove action that breaks a rule raises its fault and has no other effect (R102). -/
def unlessFault (x : Ctx) (s : State) (i : Instr) (f : State → State) : State :=
  match stoveFault x s i with
  | some code => faultOf x s code
  | none => f s

/-- SLOAD with MODE 0 (R94). -/
def issueSloadWeights (c : Fin 8) (sack : BitVec 2) (line : BitVec 13) (nrows : BitVec 7) (x : Ctx) (s : State) : State :=
  let t := stoveOf x s c
  let b := x.beat
  let n := nrows.toNat + 1
  let p := !t.act
  let k := clusterSack c.val sack
  unlessFault x s (.sloadWeights x.r c sack line nrows) fun s =>
    let s := modStove s x.r c fun t =>
      { (t.setPlane p fun q => { q with elemOk := false, rows := q.rows.filter (fun e => decide (e.1 < n)) }) with
        lFree := b + n, landing := max t.landing (b + n + 2) }
    let s := (List.range n).foldl (fun s i => atBeat x s (b + i) (.planeRead c p i k (line.toNat + i))) s
    later x s (b + n + 2) (.elemOk c p)

/-- SLOAD with MODE 1 (R94). -/
def issueSloadRawAdd (c : Fin 8) (sack : BitVec 2) (line : BitVec 13) (nrows : BitVec 7) (acc : BitVec 4) (x : Ctx)
    (s : State) : State :=
  let b := x.beat
  let n := nrows.toNat + 1
  let k := clusterSack c.val sack
  unlessFault x s (.sloadRawAdd x.r c sack line nrows acc) fun s =>
    let s := modStove s x.r c fun t => { t with lFree := b + n }
    (List.range n).foldl (fun s i => atBeat x s (b + i) (.rawRead c acc.toNat i k (line.toNat + i))) s

/-- SMXS with TARGET 0 (R95). -/
def issueSmxsWeightScales (c : Fin 8) (sack : BitVec 2) (line : BitVec 13) (x : Ctx) (s : State) : State :=
  let t := stoveOf x s c
  let b := x.beat
  let p := !t.act
  let w := (t.plane p).wfmt
  let m := scaleLines w
  let k := clusterSack c.val sack
  unlessFault x s (.smxsWeightScales x.r c sack line) fun s =>
    let s := modStove s x.r c fun t =>
      { (t.setPlane p fun q => { q with scaleOk := false }) with lFree := b + m, landing := max t.landing (b + m + 2) }
    let s := (List.range m).foldl (fun s i => atBeat x s (b + i) (.scaleRead c p i k (line.toNat + i))) s
    later x s (b + m + 2) (.scaleOk c p)

/-- SMXS with TARGET 1 (R95). A vector read at b+3 or later, whose scales are taken two beats after it, sees the line. -/
def issueSmxsAsb (c : Fin 8) (sack : BitVec 2) (line : BitVec 13) (x : Ctx) (s : State) : State :=
  let b := x.beat
  unlessFault x s (.smxsAsb x.r c sack line) fun s =>
    let s := modStove s x.r c fun t => { t with lFree := b + 1 }
    let (v, s) := readSack x s (clusterSack c.val sack) line.toNat
    later x s (b + 5) (.asbPut c v)

/-- SFMT (R96). -/
def issueSfmt (c : Fin 8) (wfmt afmt : BitVec 4) (both keyld : Bool) (sack : BitVec 2) (line : BitVec 13) (x : Ctx)
    (s : State) : State :=
  let b := x.beat
  unlessFault x s (.sfmt x.r c wfmt afmt both keyld sack line) fun s =>
    if keyld then
      let (v, s) := readSack x s (clusterSack c.val sack) line.toNat
      let s := later x s (b + 1) (.stoveFmt c wfmt.toNat afmt.toNat both)
      later x s (b + 3) (.stoveKey c (v.extractLsb' 0 32) (v.extractLsb' 32 32) (v.extractLsb' 64 32) (v.extractLsb' 128 64))
    else later x s (b + 1) (.stoveFmt c wfmt.toNat afmt.toNat both)

/-- SMAC (R97). -/
def issueSmac (c : Fin 8) (sack : BitVec 2) (line : BitVec 13) (acc nvec : BitVec 4) (asb : BitVec 7) (flip : Bool) (x : Ctx)
    (s : State) : State :=
  let t := stoveOf x s c
  let b := x.beat
  let p := if flip then !t.act else t.act
  let q := t.plane p
  let n := nvec.toNat + 1
  let k := clusterSack c.val sack
  unlessFault x s (.smac x.r c sack line acc nvec asb flip) fun s =>
    match fmtClass t.afmt with
    | none => s
    | some cls =>
      let bpv := cls.bpv
      let stop := b + 2 + n * bpv
      let s := modStove s x.r c fun t =>
        { t with act := p, mFree := b + n * bpv,
                 useEnd0 := if p then t.useEnd0 else max t.useEnd0 stop,
                 useEnd1 := if p then max t.useEnd1 stop else t.useEnd1 }
      (List.range n).foldl (fun s v =>
        atBeat x s (b + v * bpv)
          (.macRead c p q.wfmt t.afmt ((acc.toNat + v) % 16) (asb.toNat + v * (cls.kt / 32)) k (line.toNat + v))) s

/-- SOUT (R98): the bank read after the adds of its beat, cleared after the read (R91), the lines queued. A stochastic SOUT moves
EIDX on at its issue; an SFMT KEYLD that takes effect at the next beat replaces the value (log entry 89). -/
def issueSout (c : Fin 8) (acc : BitVec 4) (sack : BitVec 2) (line : BitVec 13) (ofmt : BitVec 4) (rmode sat clr : Bool)
    (oscale : BitVec 9) (sline : BitVec 13) (x : Ctx) (s : State) : State :=
  let t := stoveOf x s c
  let b := x.beat
  match ofmtOf ofmt.toNat with
  | none => s
  | some o =>
    let k := clusterSack c.val sack
    unlessFault x s (.sout x.r c acc sack line ofmt rmode sat clr oscale sline) fun s =>
      let draw (i : Nat) : RMode :=
        if rmode then .draw (kindling (indexCtr (t.eidx + BitVec.ofNat 64 i) t.tid 0xFFFFFFFF) t.k0 t.k1).c0 else .rne
      let rows := tab 128 fun i => (storeGet Acc.zero t.acc (128 * acc.toNat + i), draw i)
      let (lines, scales) := soutLines o sat oscale.toInt rows
      let s := modStove s x.r c fun t =>
        { t with oFree := b + o.width,
                 acc := if clr then t.acc.filter (fun e => decide (e.1 / 128 ≠ acc.toNat)) else t.acc,
                 eidx := if rmode && o != .raw then t.eidx + 128 else t.eidx }
      let s := (lines.foldl (fun (st : State × Nat) v =>
        (later x st.1 (b + 5 + st.2) (.sackPut k (line.toNat + st.2) v fullMask), st.2 + 1)) (s, 0)).1
      if o.mx then later x s (b + 4 + o.width) (.sackPut k sline.toNat (BitVec.ofNat 1024 scales) 15) else s

/-- SCLR (R99), at the end of its beat. -/
def issueSclr (c : Fin 8) (banks : BitVec 16) (asb planes key : Bool) (x : Ctx) (s : State) : State :=
  unlessFault x s (.sclr x.r c banks asb planes key) fun s =>
    let clear (q : Plane) : Plane := { q with rows := [], scales := [], elemOk := false, scaleOk := false }
    modStove s x.r c fun t =>
      let t := { t with acc := t.acc.filter (fun e => !banks.getLsbD (e.1 / 128)) }
      let t := if asb then { t with asb := [] } else t
      let t := if planes then (t.setPlane false clear).setPlane true clear else t
      if key then { t with k0 := 0, k1 := 0, tid := 0, eidx := 0 } else t

/-- SLOAD, MODE 0. -/
def execSloadWeights (r : Fin 32) (c : Fin 8) (sack : BitVec 2) (line : BitVec 13) (nrows : BitVec 7) (s : State) :
    Host.Outcome State Fault Refusal :=
  direct s r (.sloadWeights r c sack line nrows) (issueSloadWeights c sack line nrows)

/-- SLOAD, MODE 1. -/
def execSloadRawAdd (r : Fin 32) (c : Fin 8) (sack : BitVec 2) (line : BitVec 13) (nrows : BitVec 7) (acc : BitVec 4)
    (s : State) : Host.Outcome State Fault Refusal :=
  direct s r (.sloadRawAdd r c sack line nrows acc) (issueSloadRawAdd c sack line nrows acc)

/-- SMXS, TARGET 0. -/
def execSmxsWeightScales (r : Fin 32) (c : Fin 8) (sack : BitVec 2) (line : BitVec 13) (s : State) :
    Host.Outcome State Fault Refusal :=
  direct s r (.smxsWeightScales r c sack line) (issueSmxsWeightScales c sack line)

/-- SMXS, TARGET 1. -/
def execSmxsAsb (r : Fin 32) (c : Fin 8) (sack : BitVec 2) (line : BitVec 13) (s : State) : Host.Outcome State Fault Refusal :=
  direct s r (.smxsAsb r c sack line) (issueSmxsAsb c sack line)

/-- SFMT. -/
def execSfmt (r : Fin 32) (c : Fin 8) (wfmt afmt : BitVec 4) (both keyld : Bool) (sack : BitVec 2) (line : BitVec 13)
    (s : State) : Host.Outcome State Fault Refusal :=
  direct s r (.sfmt r c wfmt afmt both keyld sack line) (issueSfmt c wfmt afmt both keyld sack line)

/-- SMAC. -/
def execSmac (r : Fin 32) (c : Fin 8) (sack : BitVec 2) (line : BitVec 13) (acc nvec : BitVec 4) (asb : BitVec 7)
    (flip : Bool) (s : State) : Host.Outcome State Fault Refusal :=
  direct s r (.smac r c sack line acc nvec asb flip) (issueSmac c sack line acc nvec asb flip)

/-- SOUT. -/
def execSout (r : Fin 32) (c : Fin 8) (acc : BitVec 4) (sack : BitVec 2) (line : BitVec 13) (ofmt : BitVec 4)
    (rmode sat clr : Bool) (oscale : BitVec 9) (sline : BitVec 13) (s : State) : Host.Outcome State Fault Refusal :=
  direct s r (.sout r c acc sack line ofmt rmode sat clr oscale sline) (issueSout c acc sack line ofmt rmode sat clr oscale sline)

/-- SCLR. -/
def execSclr (r : Fin 32) (c : Fin 8) (banks : BitVec 16) (asb planes key : Bool) (s : State) :
    Host.Outcome State Fault Refusal :=
  direct s r (.sclr r c banks asb planes key) (issueSclr c banks asb planes key)

end Sys2Proof.Machine
end

