-- ==== Sys2Proof/Machine/Kettles.lean ====
section
/-!
DEFINITION. Machine/Kettles.lean: the Kettle instructions (chapter 05).
-/

namespace Sys2Proof.Machine

/-- Operand A where it is a Sack pair, read at the issue beat (R104, R105); an unpacking KCVT reads the one Sack it names
(Table 5.5). -/
def readOperandA (u : Fin 16) (op : KOp) (o : KOps) (x : Ctx) (s : State) : Option Vec × State :=
  if !o.am then (none, s)
  else if op = .kcvt && 0xC ≤ o.func.toNat % 16 then
    let (v, s) := readSack x s (pairSack u o.ap (o.func.toNat / 16 % 2 = 1)) o.a.toNat
    (some (vecOfLines v 0), s)
  else
    let (lo, s) := readSack x s (pairSack u o.ap false) o.a.toNat
    let (hi, s) := readSack x s (pairSack u o.ap true) o.a.toNat
    (some (vecOfLines lo hi), s)

/-- An instruction of the common layout issued (R105): its Sack operand is read now, its registers two beats on. KRNG takes its
counter and key now, and with ADV moves EIDX on by 64 (R118). -/
def issueKettle (op : KOp) (u : Fin 16) (o : KOps) (x : Ctx) (s : State) : State :=
  let (a, s) := readOperandA u op o x s
  let k := (x.g s).kettles[u]
  let key := if op = .krng then some (indexCtr k.eidx k.stream k.step, k.k0, k.k1) else none
  let s := if op = .krng && o.func.toNat / 8 % 2 = 1 then modKettle s x.r u (fun k => { k with eidx := k.eidx + 64 }) else s
  later x s (x.beat + 2) (.kexec u op o a key)

/-- KSR mode 0 (R119). -/
def issueKsrSackToRegister (u : Fin 16) (sack : BitVec 2) (line : BitVec 13) (reg : BitVec 5) (half : Bool) (x : Ctx)
    (s : State) : State :=
  let (v, s) := readSack x s (clusterSack (u.val / 2) sack) line.toNat
  later x s (x.beat + 2) (.khalfPut u reg.toNat half v)

/-- KSR mode 1 (R119). -/
def issueKsrRegisterToSack (u : Fin 16) (sack : BitVec 2) (line : BitVec 13) (reg : BitVec 5) (half : Bool) (x : Ctx)
    (s : State) : State :=
  later x s (x.beat + 2) (.ksrStore u reg.toNat half (clusterSack (u.val / 2) sack) line.toNat)

/-- KSR mode 2 (R119). -/
def issueKsrRegisterCopy (u : Fin 16) (dst src : BitVec 5) (bcast : Bool) (lane : BitVec 6) (x : Ctx) (s : State) : State :=
  later x s (x.beat + 2) (.kcopy u dst.toNat src.toNat (if bcast then some lane.toNat else none))

/-- KSR mode 3 (R119). -/
def issueKsrKeyLoad (u : Fin 16) (sack : BitVec 2) (line : BitVec 13) (x : Ctx) (s : State) : State :=
  let (v, s) := readSack x s (clusterSack (u.val / 2) sack) line.toNat
  later x s (x.beat + 3) (.kkeyPut u (v.extractLsb' 0 32) (v.extractLsb' 32 32) (v.extractLsb' 64 32)
    (v.extractLsb' 96 32) (v.extractLsb' 128 64))

/-- KADD (R110). -/
def execKadd (r : Fin 32) (u : Fin 16) (o : KOps) (s : State) : Host.Outcome State Fault Refusal :=
  direct s r (.kadd r u o) (issueKettle .kadd u o)

/-- KMUL (R110). -/
def execKmul (r : Fin 32) (u : Fin 16) (o : KOps) (s : State) : Host.Outcome State Fault Refusal :=
  direct s r (.kmul r u o) (issueKettle .kmul u o)

/-- KFMA (R110). -/
def execKfma (r : Fin 32) (u : Fin 16) (o : KOps) (s : State) : Host.Outcome State Fault Refusal :=
  direct s r (.kfma r u o) (issueKettle .kfma u o)

/-- KMAX (R110). -/
def execKmax (r : Fin 32) (u : Fin 16) (o : KOps) (s : State) : Host.Outcome State Fault Refusal :=
  direct s r (.kmax r u o) (issueKettle .kmax u o)

/-- KMIN (R110). -/
def execKmin (r : Fin 32) (u : Fin 16) (o : KOps) (s : State) : Host.Outcome State Fault Refusal :=
  direct s r (.kmin r u o) (issueKettle .kmin u o)

/-- KSEL (R110). -/
def execKsel (r : Fin 32) (u : Fin 16) (o : KOps) (s : State) : Host.Outcome State Fault Refusal :=
  direct s r (.ksel r u o) (issueKettle .ksel u o)

/-- KCMP (R110). -/
def execKcmp (r : Fin 32) (u : Fin 16) (o : KOps) (s : State) : Host.Outcome State Fault Refusal :=
  direct s r (.kcmp r u o) (issueKettle .kcmp u o)

/-- KCVT (R110). -/
def execKcvt (r : Fin 32) (u : Fin 16) (o : KOps) (s : State) : Host.Outcome State Fault Refusal :=
  direct s r (.kcvt r u o) (issueKettle .kcvt u o)

/-- KEXP2 (R110). -/
def execKexp2 (r : Fin 32) (u : Fin 16) (o : KOps) (s : State) : Host.Outcome State Fault Refusal :=
  direct s r (.kexp2 r u o) (issueKettle .kexp2 u o)

/-- KLOG2 (R110). -/
def execKlog2 (r : Fin 32) (u : Fin 16) (o : KOps) (s : State) : Host.Outcome State Fault Refusal :=
  direct s r (.klog2 r u o) (issueKettle .klog2 u o)

/-- KRCP (R110). -/
def execKrcp (r : Fin 32) (u : Fin 16) (o : KOps) (s : State) : Host.Outcome State Fault Refusal :=
  direct s r (.krcp r u o) (issueKettle .krcp u o)

/-- KRSQ (R110). -/
def execKrsq (r : Fin 32) (u : Fin 16) (o : KOps) (s : State) : Host.Outcome State Fault Refusal :=
  direct s r (.krsq r u o) (issueKettle .krsq u o)

/-- KTANH (R110). -/
def execKtanh (r : Fin 32) (u : Fin 16) (o : KOps) (s : State) : Host.Outcome State Fault Refusal :=
  direct s r (.ktanh r u o) (issueKettle .ktanh u o)

/-- KSUM (R110). -/
def execKsum (r : Fin 32) (u : Fin 16) (o : KOps) (s : State) : Host.Outcome State Fault Refusal :=
  direct s r (.ksum r u o) (issueKettle .ksum u o)

/-- KMERGE (R110). -/
def execKmerge (r : Fin 32) (u : Fin 16) (o : KOps) (s : State) : Host.Outcome State Fault Refusal :=
  direct s r (.kmerge r u o) (issueKettle .kmerge u o)

/-- KIDX, ARGMAX (R110). -/
def execKidxArgmax (r : Fin 32) (u : Fin 16) (o : KOps) (s : State) : Host.Outcome State Fault Refusal :=
  direct s r (.kidxArgmax r u o) (issueKettle .kidx u o)

/-- KIDX, CUMSEL (R110). -/
def execKidxCumsel (r : Fin 32) (u : Fin 16) (o : KOps) (s : State) : Host.Outcome State Fault Refusal :=
  direct s r (.kidxCumsel r u o) (issueKettle .kidx u o)

/-- KRNG (R110). -/
def execKrng (r : Fin 32) (u : Fin 16) (o : KOps) (s : State) : Host.Outcome State Fault Refusal :=
  direct s r (.krng r u o) (issueKettle .krng u o)

/-- KSR, mode 0. -/
def execKsrSackToRegister (r : Fin 32) (u : Fin 16) (sack : BitVec 2) (line : BitVec 13) (reg : BitVec 5) (half : Bool)
    (s : State) : Host.Outcome State Fault Refusal :=
  direct s r (.ksrSackToRegister r u sack line reg half) (issueKsrSackToRegister u sack line reg half)

/-- KSR, mode 1. -/
def execKsrRegisterToSack (r : Fin 32) (u : Fin 16) (sack : BitVec 2) (line : BitVec 13) (reg : BitVec 5) (half : Bool)
    (s : State) : Host.Outcome State Fault Refusal :=
  direct s r (.ksrRegisterToSack r u sack line reg half) (issueKsrRegisterToSack u sack line reg half)

/-- KSR, mode 2. -/
def execKsrRegisterCopy (r : Fin 32) (u : Fin 16) (dst src : BitVec 5) (bcast : Bool) (lane : BitVec 6) (s : State) :
    Host.Outcome State Fault Refusal :=
  direct s r (.ksrRegisterCopy r u dst src bcast lane) (issueKsrRegisterCopy u dst src bcast lane)

/-- KSR, mode 3. -/
def execKsrKeyLoad (r : Fin 32) (u : Fin 16) (sack : BitVec 2) (line : BitVec 13) (s : State) :
    Host.Outcome State Fault Refusal :=
  direct s r (.ksrKeyLoad r u sack line) (issueKsrKeyLoad u sack line)

end Sys2Proof.Machine
end

