-- ==== Sys2Proof/Machine/Movement.lean ====
section
/-!
DEFINITION. Machine/Movement.lean: the Sack, Pole and port-unit instructions, and the arrival of a crossing entry (chapter 06).
-/

namespace Sys2Proof.Machine

/-- Lines of a Sack of the region from one on, as far as the Sack has them. -/
def sackLines (x : Ctx) (k line n : Nat) : List Place :=
  ((List.range n).filter (fun i => decide (line + i < 8192))).map (fun i => .sack x.r.val k (line + i))

/-- A movement action that reaches past line 8,191 is refused with 0x2501 and has no effect (R124) but that what it would write is
undefined (R149). -/
def unlessPast (x : Ctx) (s : State) (i : Instr) (dest : List Place) (f : State → State) : State :=
  if pastEnd i then undefineAll (faultOf x s 0x2501) dest else f s

/-- SRD (R126). -/
def issueSrd (k : Fin 32) (dsack : BitVec 5) (line dline nlines : BitVec 13) (x : Ctx) (s : State) : State :=
  let n := nlines.toNat + 1
  unlessPast x s (.srd x.r k dsack line dline nlines) (sackLines x dsack.toNat dline.toNat n) fun s =>
    let delay := 4 + detourBeats s x.r (sackCluster k.val) (sackCluster dsack.toNat)
    (List.range n).foldl (fun s i =>
      atBeat x s (x.beat + i) (.move k.val (some (line.toNat + i)) (.sack dsack.toNat (dline.toNat + i) delay))) s

/-- SWR, MODE 0 (R127): every 16-bit unit of each line takes IMM. -/
def issueSwrFill (k : Fin 32) (line nlines : BitVec 13) (imm : BitVec 16) (x : Ctx) (s : State) : State :=
  let n := nlines.toNat + 1
  unlessPast x s (.swrFill x.r k line nlines imm) (sackLines x k.val line.toNat n) fun s =>
    let v : Line := BitVec.ofNat 1024 (packBits 16 (List.replicate 64 imm.toNat))
    (List.range n).foldl (fun s i => later x s (x.beat + 1 + i) (.sackPut k.val (line.toNat + i) v fullMask)) s

/-- The line of a Peg snapshot (R127). -/
def pegLine (q : Peg) : Line :=
  BitVec.ofNat 1024 (q.count.toNat + q.mark.toNat * 2 ^ 32 + bit1 q.err * 2 ^ 64)

/-- SWR, MODE 1 (R127): the Peg as read at b, after the increments due at b. -/
def issueSwrPegSnapshot (k : Fin 32) (line : BitVec 13) (peg : BitVec 9) (x : Ctx) (s : State) : State :=
  let extra := detourBeats s x.r none (sackCluster k.val)
  later x s (x.beat + 1 + extra) (.sackPut k.val line.toNat (pegLine (pegOf (x.g s) peg.toNat)) fullMask)

/-- SGATH (R128). -/
def issueSgath (k : Fin 32) (iline : BitVec 13) (dsack : BitVec 5) (dline : BitVec 13) (base : BitVec 8) (wbits : BitVec 4)
    (nidx : BitVec 5) (x : Ctx) (s : State) : State :=
  let n := nidx.toNat + 1
  unlessPast x s (.sgath x.r k iline dsack dline base wbits nidx) (sackLines x dsack.toNat dline.toNat n) fun s =>
    let (v, s) := readSack x s k.val iline.toNat
    let delay := 4 + detourBeats s x.r (sackCluster k.val) (sackCluster dsack.toNat)
    (List.range n).foldl (fun s i =>
      let idx := lineField v (4 * i) 4
      let src := if idx < 2 ^ wbits.toNat then some (32 * base.toNat + idx) else none
      later x s (x.beat + 2 + i) (.move k.val src (.sack dsack.toNat (dline.toNat + i) delay))) s

/-- The detour beats of a move from a Sack to a face (R67). -/
def faceDetour (s : State) (x : Ctx) (k : Nat) : Nat := detourBeats s x.r (sackCluster k) none

/-- PASS (R131). -/
def issuePass (f : Fin 7) (ssack : BitVec 5) (sline : BitVec 13) (dsack : BitVec 5) (dline : BitVec 13) (nlines : BitVec 8)
    (x : Ctx) (s : State) : State :=
  let n := nlines.toNat + 1
  let extra := faceDetour s x ssack.toNat
  let dest := ((List.range n).filter (fun i => decide (dline.toNat + i < 8192))).flatMap fun i =>
    remotePlaces s x.r.val f.val (x.beat + i + extra) (sideLine dsack.toNat (dline.toNat + i))
  unlessPast x s (.pass x.r f ssack sline dsack dline nlines) dest fun s =>
    (List.range n).foldl (fun s i =>
      atBeat x s (x.beat + i) (.move ssack.toNat (some (sline.toNat + i))
        (.face f.val (sideLine dsack.toNat (dline.toNat + i)) extra))) s

/-- SEND (R132). On a Guyline face the line enters the port 8 beats after its read. -/
def issueSend (f : Fin 7) (ssack : BitVec 5) (sline : BitVec 13) (wid : BitVec 3) (seq0 : BitVec 16) (nlines : BitVec 8)
    (x : Ctx) (s : State) : State :=
  let n := nlines.toNat + 1
  let extra := faceDetour s x ssack.toNat
  let dest := (List.range n).flatMap fun i =>
    remotePlaces s x.r.val f.val (x.beat + i + extra) (sideWin wid.toNat ((seq0.toNat + i) % 2 ^ 16))
  unlessPast x s (.send x.r f ssack sline wid seq0 nlines) dest fun s =>
    (List.range n).foldl (fun s i =>
      let seq := (seq0.toNat + i) % 2 ^ 16
      let dest : Dest := if f = 6 then .guyline wid.toNat seq (8 + extra) else .face f.val (sideWin wid.toNat seq) extra
      atBeat x s (x.beat + i) (.move ssack.toNat (some (sline.toNat + i)) dest)) s

/-- A window replaced; DROP is kept. -/
def setWindow (x : Ctx) (s : State) (f wid : Nat) (w : Window) : State :=
  modRegion s x.r fun g =>
    let w' := { w with isOpen := w.isOpen && !s.tarp.struck, drop := (windowOf g f wid).drop }
    { g with windows := storeSet Window.closed g.windows (8 * f + wid) w' }

/-- RWIN with OPEN = 1 (R133): at the end of the beat, after its arrivals. A strike closes every window once its beats are
complete (R260). -/
def issueRwinOpen (f : Fin 7) (wid : BitVec 3) (dsack : BitVec 5) (base len : BitVec 13) (peg : BitVec 9) (x : Ctx)
    (s : State) : State :=
  -- a window left undefined is closed by the strike of its fault (R260)
  unlessPast x s (.rwinOpen x.r f wid dsack base len peg) [] fun s =>
    setWindow x s f.val wid.toNat
      { isOpen := true, dsack := dsack.toNat, base := base.toNat, len := len.toNat + 1, peg := peg.toNat, drop := false }

/-- RWIN with OPEN = 0 (R133). -/
def issueRwinClose (f : Fin 7) (wid : BitVec 3) (x : Ctx) (s : State) : State := setWindow x s f.val wid.toNat Window.closed

/-- THRU (R134): in force for n beats from b. -/
def issueThru (f : Fin 7) (inn : BitVec 3) (nbeats : BitVec 8) (dly : BitVec 4) (x : Ctx) (s : State) : State :=
  let t : Thru := { out := f.val, inn := inn.toNat, first := x.beat, last := x.beat + nbeats.toNat, dly := dly.toNat }
  modRegion s x.r fun g => { g with thrus := (g.thrus.filter (fun u => decide (x.beat ≤ u.last) && decide (u ≠ t))) ++ [t] }

/-- An entry taken from its crossing at the beat it is due (R130): forwarded where a THRU names the crossing, else delivered. One
whose parity fails, a bit of it inverted on the way, is dropped with 0x2504 (R129), and its destination is undefined (R149). -/
def arrive (x : Ctx) (s : State) (i : Nat) (e : Entry) (flip : Option (BitVec 11)) : State :=
  let s := if 4 ≤ i then lnAdd s x.r.val 28 1 else s
  let met := flipEntry e flip
  if !parityHolds met.side met.data then
    undefineAll (faultOf x s 0x2504)
      ((e.side :: e.alt.toList).flatMap (fun v => entryPlaces s 10 x.r.val i x.beat v))
  else
    match thruFor (x.g s) i x.beat with
    | some t =>
      let y : Ctx := { x with slot := faceSlot t.out }
      if t.out = 6 then sendPort y s (fieldN e.side.toNat 35 3) (fieldN e.side.toNat 19 16) (8 + t.dly) e.data
      else crossWrite y s t.out e.side e.data true
    | none => deliver x s i e

/-- SRD. -/
def execSrd (r k : Fin 32) (dsack : BitVec 5) (line dline nlines : BitVec 13) (s : State) : Host.Outcome State Fault Refusal :=
  direct s r (.srd r k dsack line dline nlines) (issueSrd k dsack line dline nlines)

/-- SWR, MODE 0. -/
def execSwrFill (r k : Fin 32) (line nlines : BitVec 13) (imm : BitVec 16) (s : State) : Host.Outcome State Fault Refusal :=
  direct s r (.swrFill r k line nlines imm) (issueSwrFill k line nlines imm)

/-- SWR, MODE 1. -/
def execSwrPegSnapshot (r k : Fin 32) (line : BitVec 13) (peg : BitVec 9) (s : State) : Host.Outcome State Fault Refusal :=
  direct s r (.swrPegSnapshot r k line peg) (issueSwrPegSnapshot k line peg)

/-- SGATH. -/
def execSgath (r k : Fin 32) (iline : BitVec 13) (dsack : BitVec 5) (dline : BitVec 13) (base : BitVec 8) (wbits : BitVec 4)
    (nidx : BitVec 5) (s : State) : Host.Outcome State Fault Refusal :=
  direct s r (.sgath r k iline dsack dline base wbits nidx) (issueSgath k iline dsack dline base wbits nidx)

/-- PASS. -/
def execPass (r : Fin 32) (f : Fin 7) (ssack : BitVec 5) (sline : BitVec 13) (dsack : BitVec 5) (dline : BitVec 13)
    (nlines : BitVec 8) (s : State) : Host.Outcome State Fault Refusal :=
  direct s r (.pass r f ssack sline dsack dline nlines) (issuePass f ssack sline dsack dline nlines)

/-- SEND. -/
def execSend (r : Fin 32) (f : Fin 7) (ssack : BitVec 5) (sline : BitVec 13) (wid : BitVec 3) (seq0 : BitVec 16)
    (nlines : BitVec 8) (s : State) : Host.Outcome State Fault Refusal :=
  direct s r (.send r f ssack sline wid seq0 nlines) (issueSend f ssack sline wid seq0 nlines)

/-- RWIN, OPEN = 1. -/
def execRwinOpen (r : Fin 32) (f : Fin 7) (wid : BitVec 3) (dsack : BitVec 5) (base len : BitVec 13) (peg : BitVec 9)
    (s : State) : Host.Outcome State Fault Refusal :=
  direct s r (.rwinOpen r f wid dsack base len peg) (issueRwinOpen f wid dsack base len peg)

/-- RWIN, OPEN = 0. -/
def execRwinClose (r : Fin 32) (f : Fin 7) (wid : BitVec 3) (s : State) : Host.Outcome State Fault Refusal :=
  direct s r (.rwinClose r f wid) (issueRwinClose f wid)

/-- THRU between crossings. -/
def execThru (r : Fin 32) (f : Fin 7) (inn : BitVec 3) (nbeats : BitVec 8) (dly : BitVec 4) (s : State) :
    Host.Outcome State Fault Refusal :=
  directThru s r (.thru r f inn nbeats dly) (issueThru f inn nbeats dly)

end Sys2Proof.Machine
end

