-- ==== Sys2Proof/Machine/Sources.lean ====
section
/-!
DEFINITION. Machine/Sources.lean: MSI-X messages, Whistle's sources and their delivery, and the module states of Firewatch, which
put Whistle in retention (R331, R332, R352, R358 to R366).
-/

namespace Sys2Proof.Machine

/-! ## MSI-X (R352) -/

/-- A host port replaced by a function of it. -/
def modHost (s : State) (p : Fin 2) (f : HostPort → HostPort) : State := { s with hosts := s.hosts.set p (f s.hosts[p]) }

/-- Whether a message of a vector is blocked: MSI-X off or function-masked, the vector masked, Bus Master Enable clear, the link
down. -/
def msixBlocked (s : State) (p : Fin 2) (v : Nat) : Bool :=
  !(s.hosts[p]).msix || (storeGet 1 (s.hosts[p]).table (4 * v + 3)).getLsbD 0 ||
  decide (getField s (Reg.HST_LINK p.val) 18 1 = 0) || !hostUp s p.val

/-- A message due: sent, or pending while it is blocked. -/
def msixSend (s : State) (p : Fin 2) (v : Nat) : State :=
  if msixBlocked s p v then modHost s p fun h => { h with pba := h.pba ||| (1#2048 <<< v) } else emit (lnMoved s (54 + p.val) 4 0) (.msix p.val v)

/-! ## Whistle (R358 to R366) -/

/-- The state sources with their present condition (Table 16.1). -/
def stateSources (s : State) : List (Nat × Bool) :=
  [(144, s.pacer.mode == .run), (148, s.pacer.mode == .held), (156, compassState s != 2),
   (157, decide (512 ≤ s.compass.capture.length)), (158, decide (512 ≤ s.gearLog.length)), (159, getField s Reg.ZP_STAT 30 2 == 2)] ++
  (List.finRange 10).map (fun p => (160 + p.val, !(s.ports[p].live && s.ports[p].idstat == 1))) ++
  [(170, getField s (Reg.ETH_LINK 0) 28 4 == 0), (171, getField s (Reg.ETH_LINK 1) 28 4 == 0),
   (172, decide (2 ≤ getField s Reg.FW_STAT 30 2)), (174, getField s Reg.LN_TRACE_STAT 31 1 == 1)]

/-- The condition of a state source; none for any other source. -/
def stateSource? (s : State) (n : Nat) : Option Bool := ((stateSources s).find? (fun e => e.1 == n)).map (·.2)

/-- WH_SRC_CFG(n). -/
def srcCfg (s : State) (n : Nat) : Nat := (getReg s (Reg.WH_SRC_CFG n)).toNat
/-- A LEVEL source that reports a condition. -/
def isLevel (s : State) (n : Nat) : Bool := (stateSource? s n).isSome && fieldN (srcCfg s n) 30 2 == 0
/-- WH_SRC_CTIME(n), in ticks. -/
def srcTime (s : State) (n : Nat) : Nat := getField s (Reg.WH_SRC_CTIME n) 0 32

/-- The condition of a LEVEL source becomes true (R362): it is pending at once, or its timer starts. -/
def levelOnset (s : State) (n : Nat) : State :=
  if srcTime s n = 0 then makePending s n
  else { s with whistle := { s.whistle with timers := storePut s.whistle.timers n s.time } }

/-- An event of a source kept by the always-on latch (R366). -/
def latchEvent (s : State) (n : Nat) : State := { s with whistle := { s.whistle with latched := s.whistle.latched ||| (1#1024 <<< n) } }

/-- One state source sensed (R361, R362); while Whistle is in retention its event is latched (R366). -/
def senseOne (s : State) (n : Nat) (now : Bool) : State :=
  let was := s.whistle.raw.getLsbD n
  let s := { s with whistle := { s.whistle with
    raw := if now then s.whistle.raw ||| (1#1024 <<< n) else s.whistle.raw &&& ~~~(1#1024 <<< n) } }
  match fieldN (srcCfg s n) 30 2 with
  | 0 =>
    if s.whistle.retained then (if now && !was then latchEvent s n else s)
    else if !now then { s with whistle := { s.whistle with timers := storeDel s.whistle.timers n } }
    else if was then s else levelOnset s n
  | 1 => if now && !was then pulse s n else s
  | 2 => if was && !now then pulse s n else s
  | _ => if was != now then pulse s n else s

/-- Every state source sensed. -/
def sense (s : State) : State := (stateSources s).foldl (fun s e => senseOne s e.1 e.2) s

/-- A source's timer checked (R362): a coalescing timer with events counted, or a LEVEL condition held. -/
def checkTimer (s : State) (n : Nat) : State :=
  match s.whistle.timers.find? (fun e => e.1 == n) with
  | some (_, t) =>
    let lim := srcTime s n
    if lim = 0 ∨ s.time < t + lim * 256 then s
    else makePending s n
  | none => s

/-- A source's in-service bit set and its pending bit cleared. -/
def intoService (s : State) (n : Nat) : State :=
  { s with whistle := { s.whistle with insv := s.whistle.insv ||| (1#1024 <<< n), pend := s.whistle.pend &&& ~~~(1#1024 <<< n) } }

/-- A pending source delivered (R363): a Ranger's line rises; on a host vector every source pending for it goes into one
message. -/
def deliverSource (s : State) (n : Nat) : State :=
  let w := s.whistle
  if !w.pend.getLsbD n || w.insv.getLsbD n || w.retained then s
  else
    let cfg := srcCfg s n
    match fieldN cfg 28 2 with
    | 0 => s
    | 1 => intoService s n
    | tgt =>
      let same := (List.range 1024).filter (fun m => w.pend.getLsbD m && !w.insv.getLsbD m &&
        decide (fieldN (srcCfg s m) 16 14 % 2 ^ 11 = fieldN cfg 16 11) && decide (fieldN (srcCfg s m) 28 2 = tgt))
      msixSend (same.foldl intoService s) (Fin.ofNat 2 (tgt - 2)) (fieldN cfg 16 11)

/-- A latched event applied (R366): a LEVEL source's condition became true, any other source's event is counted. -/
def applyLatched (s : State) (n : Nat) : State :=
  if isLevel s n then (if srcTime s n = 0 || (stateSource? s n).getD false then levelOnset s n else s) else pulse s n

/-- Whistle wakes (R366): its state is restored, the latched events are applied in ascending source number, the timers of LEVEL
conditions that no longer hold stop, every other timer is checked, and what is pending is delivered. -/
def wakeWhistle (s : State) : State :=
  let s := sense s
  let ev := s.whistle.latched
  let s := { s with whistle := { s.whistle with retained := false, latched := 0 } }
  let s := (List.range 1024).foldl (fun s n => if ev.getLsbD n then applyLatched s n else s) s
  let timers := s.whistle.timers.filter (fun e => !isLevel s e.1 || (stateSource? s e.1).getD false)
  let s := { s with whistle := { s.whistle with timers := timers } }
  let s := (timers.map (·.1)).foldl checkTimer s
  (List.range 1024).foldl deliverSource s

end Sys2Proof.Machine
end

