-- ==== Sys2Proof/Machine/Waits.lean ====
section
/-!
DEFINITION. Machine/Waits.lean: acknowledging and completing beats (R28, R29), and the release of this module's holds (R250,
R251).
-/

namespace Sys2Proof.Machine

/-! ## Release of a hold -/

/-- A RELEASE accepted for an outstanding hold (R251): when the last hold is released the resume is due, under the anchor with
the largest T_r. -/
def acceptRelease (s : State) (origin a tr : Nat) : State :=
  let holds := s.tarp.holds.filter (fun h => !(decide (h.origin = origin) && decide (h.a = a)))
  let best := match s.tarp.best with
    | some (a0, t0) => if t0 < tr then some (a, tr) else some (a0, t0)
    | none => some (a, tr)
  let s := { s with tarp := { s.tarp with
    holds := holds, best := best
    accepted := (s.tarp.accepted.filter (fun e => decide (nowTicks s < e.2.2 + 2 ^ 16))) ++ [(origin, a % 2 ^ 8, tr)] } }
  let s := capture s 4 (origin % 2 ^ 15 * 2 ^ 33 + tr % 2 ^ 17)
  if holds.isEmpty && decide (s.pacer.mode = .held) then
    let s := { s with tarp := { s.tarp with resume := best.map (fun b => (b.1, b.2, nowUnits s)) } }
    let s := setReg s Reg.TARP_TR (BitVec.ofNat 64 ((best.getD (0, 0)).2))
    logEvent s 0x0128
  else s

/-- T_r of a release now (R250). -/
def releaseTime (s : State) : Nat :=
  nowTicks s + ceilDiv (getField s Reg.TARP_H 0 15 * 1024) (max 1 s.pacer.n) + getField s Reg.TARP_RMARGIN 0 16

/-- This module releases its hold at beat a (R250): RELEASE is sent and accepted here. -/
def releaseHold (s : State) (a : Nat) : State :=
  let tr := releaseTime s
  let s := sendCamp s none 9 (releasePayload (selfIndex s) a tr)
  let s := { s with tarp := { s.tarp with released := s.tarp.released ++ [(a, tr, nowTicks s + getField s Reg.TARP_REPEAT 0 16)] } }
  acceptRelease s (selfIndex s) a tr

/-- A cause of this module's holds is met (R42, R139): a hold with no cause left is released. -/
def causeMet (s : State) (cause : HoldCause) : State :=
  let own := s.tarp.holds.filter (fun h => h.own && h.causes.contains cause)
  own.foldl (fun s h =>
    let left := h.causes.filter (fun c => decide (c ≠ cause))
    let s := { s with tarp := { s.tarp with holds := s.tarp.holds.map (fun k =>
      if k.own && decide (k.a = h.a) then { k with causes := left } else k) } }
    if left.isEmpty then releaseHold s h.a else s) s

/-! ## Completing a beat -/

/-- The entries present in the FIFO of a crossing: those that have left the transit stages (R33). `done` beats of the producer
are completed, `d` is the number of transit stages. -/
def fifoCount (l : List Entry) (done d : Nat) : Nat := (l.filter (fun e => decide (e.made + d < done))).length

/-- Transit stages of a crossing: RG_XING_STAT.D (R50). -/
def transit (s : State) (r i : Nat) : Nat := getField s (Reg.RG_XING_STAT r i) 16 4

/-- The entries in the FIFO of crossing slot i of region r now (R50). Slot 5 is the Hub attachment, whose FIFO toward the Hub is the
only one that entries cross; it steps on the beats of the region (R30, log entry 83). -/
def occupancy (s : State) (r i : Nat) : Nat :=
  let done (n : Nat) : Nat := (s.regions[regionFin n]).completed
  if i = 5 then
    if hasHub r then fifoCount (s.hubIn.getD (if r = 9 then 0 else 1) []) (done r) (transit s r 5) else 0
  else match (if i < 4 then poleNeighbour r i else ridgeNeighbour r) with
    | some n => fifoCount ((s.regions[regionFin r]).xings[Fin.ofNat 6 i]) (done n) (transit s r i)
    | none => 0

/-- OCC_PEAK of the crossings that region r sends into, as its beat completes. -/
def noteOccupancy (s : State) (r : Fin 32) : State :=
  (List.range 6).foldl (fun s f =>
    match (if f = 5 then (if hasHub r.val then some (r.val, 5) else none) else faceTarget r.val f) with
    | none => s
    | some (n, i) =>
      modRegion s (regionFin n) fun g =>
        { g with occPeak := g.occPeak.set (Fin.ofNat 6 i) (max (min 15 (occupancy s n i)) (g.occPeak[Fin.ofNat 6 i])) }) s

/-- Every region has completed beat a. -/
def allCompleted (s : State) (a : Nat) : Bool := (List.finRange 32).all (fun r => decide (a < (s.regions[r]).completed))

/-- Firewatch's own state replaced by a function of it. -/
def modFire (s : State) (f : Firewatch → Firewatch) : State := { s with firewatch := f s.firewatch }

/-- Every Stove and Kettle put in an idle state (R328, Table 14.6), or woken, with 0. -/
def gateUnits (s : State) (depth : Nat) : State :=
  modRegions s fun g =>
    let idle := if depth = 0 then g.idleOf.filter (fun e => decide (24 ≤ e.1))
      else (List.range 24).foldl (fun m k => storePut m k depth) g.idleOf
    { g with idleOf := idle, waking := g.waking.filter (fun e => decide (24 ≤ e.1)) }

/-- The regions have run to beat a of an emergency's hold (R328): the units are gated, the core voltage falls, event 0x0B02. -/
def settleEmergency (s : State) : State :=
  match s.firewatch.ehold, s.tarp.holds.find? (fun h => h.own && h.causes.contains .lag) with
  | some e, some h =>
    if !e.gated && allCompleted s h.a then
      let s := modFire (gateUnits s 2) fun f => { f with ehold := some { e with gated := true }, low := true }
      pulse (logEvent (countField s Reg.FW_ACTS 0 16 1) 0x0B02) 173
    else s
  | _, _ => s

/-! ## Module states (R331, R332) -/

/-- The wake time of a module state (Table 14.6), in 1/256 tick. -/
def wakeUnits (m : Nat) : Nat :=
  match m with
  | 0 => 0
  | 1 => 400000
  | 2 => 8000000
  | _ => 36000000

/-- The module state entered (Table 14.6). -/
def setModuleState (s : State) (m : Nat) : State :=
  let old := getField s Reg.FW_STAT 28 2
  if m = old then s
  else
    let s := setField s Reg.FW_STAT 28 2 m
    let s := if old = 0 then gateUnits s 3 else if m = 0 then gateUnits s 0 else s
    let wake := if m < old then max s.firewatch.awakeAt (s.time + wakeUnits old) else s.firewatch.awakeAt
    let s := modFire s fun f => { f with low := decide (1 ≤ m), awakeAt := wake }
    if 2 ≤ m ∧ old < 2 then { s with whistle := { s.whistle with retained := true } }
    else if m < 2 ∧ 2 ≤ old ∧ s.whistle.retained then wakeWhistle s
    else s

/-- The module woken to the state an access needs (R332). -/
def wakeTo (s : State) (m : Nat) : State := if m < getField s Reg.FW_STAT 28 2 then setModuleState s m else s

/-- The last wake is over (R332). -/
def awake (s : State) : Bool := decide (s.firewatch.awakeAt ≤ s.time)

/-! ## Completing a beat -/

/-- A region has ended a beat: the gear log takes the entry that waits for it, a boundary that waits for votes its time
(R306). -/
def endedBeat (s : State) (r beat : Nat) : State :=
  let s := match s.trail.logDue with
    | some (r', b, w) => if r' = r ∧ b = beat then
        gearAppend { s with trail := { s.trail with logDue := none } } (nowTicks s) w.toNat else s
    | none => s
  match s.trail.crossroad with
  | some c => if c.region = r ∧ c.beat = beat then
      { s with trail := { s.trail with crossroad := some { c with ended := some (nowTicks s) } } } else s
  | none => s

/-- The beat in progress completes once all 64 slots have acknowledged it (R28). A lag hold is released when every region has
completed its beat (R42), unless an emergency withholds that (R328). -/
def tryComplete (s : State) (r : Fin 32) : State :=
  let g := s.regions[r]
  if g.completed < g.begun && !g.rowWait && decide (g.acked = BitVec.allOnes 64) then
    let s := modRegion s r fun g => { (if s.tarp.struck then closeWindows g else g) with completed := g.begun }
    let s := endedBeat (endBeat (noteOccupancy s r) r (g.begun - 1)) r.val (g.begun - 1)
    let s := settleEmergency (settleStrike (settleStop s))
    match s.tarp.holds.find? (fun h => h.own && h.causes.contains .lag) with
    | some h =>
      if !allCompleted s h.a || s.firewatch.ehold.isSome then s else causeMet s .lag
    | none => s
  else s

/-- The slots that withhold their acknowledgement in a declared wait (R43). -/
def withheld (g : Region) : BitVec 64 :=
  g.waits.foldl (fun m w => m ||| (1#64 <<< w.1)) (g.held ||| g.asleep)

/-- Slot `slot` of a region acknowledges the beat in progress, unless a declared wait withholds it (R29, R43). -/
def ackSlot (s : State) (r : Fin 32) (slot : Nat) : State :=
  let g := s.regions[r]
  if g.rowWait || (withheld g).getLsbD slot then s
  else tryComplete (modRegion s r fun g => { g with acked := g.acked ||| (1#64 <<< slot) }) r

/-- The last declared wait of a region has ended: the hang timer restarts from zero (R43). -/
def restartHang (s : State) (r : Fin 32) : State :=
  let g := s.regions[r]
  if g.waits.isEmpty && decide (g.held = 0) && decide (g.asleep = 0) then modRegion s r fun g => { g with hangFrom := s.time } else s

/-- The wait of a slot ends: it acknowledges, and the hold it raised is released (R139). -/
def endWait (s : State) (r : Fin 32) (slot : Nat) : State :=
  let s := modRegion s r fun g => { g with waits := g.waits.filter (fun w => decide (w.1 ≠ slot)) }
  let s := ackSlot (restartHang s r) r slot
  if (s.regions[r]).waits.isEmpty then causeMet s (.wait r) else s

/-! ## Waiting for a record (R241) -/

/-- The waits of a region's THRUs end, oldest first, as far as its port holds records. A record that has come while its THRU waits is
taken at once, the beat standing still (DESIGN CHOICE, log entry 100). -/
def takeWaiting (s : State) (r : Fin 32) : State :=
  match homePort r.val with
  | none => s
  | some n =>
    let p : Fin 10 := Fin.ofNat 10 n
    ((s.regions[r]).waits.map (·.1)).foldl (fun s slot =>
      match (s.regions[r]).waits.find? (fun w => decide (w.1 = slot)), s.ports[p].through with
      | some (_, .thru out dly _), q :: rest =>
        let b := lastBeat s.regions[r]
        let x : Ctx := { r := r, beat := b, issue := b, slot := slot }
        endWait (passThrough x (modPort s p fun k => { k with through := rest }) out dly q) r slot
      | _, _ => s) s

/-! ## The gear votes held (R326) -/

/-- The modules of the camp. -/
def campSize (p : Pitch) : Nat := (p.extent.map (max 1)).foldl (· * ·) 1

/-- The segment in force, its gear, and its CBND beat, from region W0's row store (R54). -/
def segmentNow (s : State) : Nat × Nat × Nat :=
  let f := (s.regions[(0 : Fin 32)]).fetch
  let seg := storeGet Segment.none s.trail.segs f.seg
  (f.seg, f.gear, f.start + seg.lens.getD f.gear 0 - 1)

/-- Whether a segment in a gear holds a vote (R326). -/
def holdsVote (s : State) (seg gear : Nat) : Bool :=
  decide (8192 < (storeGet Segment.none s.trail.segs seg).lens.getD gear 0)

/-- TR_BND. -/
def bndCount (s : State) : Nat := (getReg s Reg.TR_BND).toNat

/-- The segment that the boundary to come ends. -/
def votingSeg (s : State) : Nat := match s.trail.nexts with
  | n :: _ => n.seg
  | [] => (segmentNow s).1

/-- The votes held for the boundary to come (R326). -/
def votesNow (s : State) : List Vote :=
  s.firewatch.votes.filter (fun v => v.bnd == bndCount s && v.seg == votingSeg s)

/-- Every module of the camp has voted. -/
def votesIn (s : State) : Bool :=
  match s.pitch with
  | some p => decide (campSize p ≤ (votesNow s).length)
  | none => true

/-! ## What keeps a region from its next beat -/

/-- What keeps a region from beat n whatever its permits: a stop, a strike, a wake of the module that is not over (R332), an emergency until its lag hold is raised
(R328), a launch whose staging still loads (R193), banks not yet restored (R165), a boundary whose votes are missing
(R327). -/
def beatBarred (s : State) (g : Region) (n : Nat) : Bool :=
  let stopped := match s.pacer.stopAt with
    | some b => decide (b < n)
    | none => false
  let voting := (boundaryOpen s g && holdsVote s g.fetch.seg g.fetch.gear && !strictOn s && !votesIn s) || (match s.trail.crossroad with
    | some c => decide (c.beat < n)
    | none => false)
  !running s || !awake s || stopped || s.far.bunkWait || voting || g.tracks.any (fun t => !t.2.saved.isEmpty) ||
    (s.firewatch.ehold.isSome && !s.tarp.holds.any (fun h => h.own && h.causes.contains .lag))

/-- Every neighbour has completed beat n - 4 (R28). -/
def slackOk (s : State) (r : Fin 32) (n : Nat) : Bool :=
  (neighbours r.val).all (fun k => decide (n ≤ (s.regions[regionFin k]).completed + 3))

/-- Whether a region is stopped (R136, R238): at a declared wait or a withheld acknowledgement, or ready for a beat that it may not
begin. A region that has only to wait for the time of its next permit runs. -/
def regionStopped (s : State) (r : Fin 32) : Bool :=
  let g := s.regions[r]
  !g.waits.isEmpty || g.held != 0 || g.asleep != 0 ||
    (decide (g.begun ≤ g.completed) && (beatBarred s g g.begun || (s.pacer.mode == .held && decide (s.pacer.released ≤ g.begun)) ||
      (decide (g.begun < s.pacer.released) && !slackOk s r g.begun)))

end Sys2Proof.Machine
end

