-- ==== Sys2Proof/Machine/Pegs.lean ====
section
/-!
DEFINITION. Machine/Pegs.lean: the Peg unit's instructions, its waits and the Peg window (chapter 06, Pegs).
-/

namespace Sys2Proof.Machine

/-- PINC (R137). -/
def issuePinc (peg : BitVec 9) (amount : BitVec 16) (x : Ctx) (s : State) : State :=
  if pegHostw s x.r.val peg.toNat then later x s (x.beat + 1) (.pegCount peg.toNat 0)
  else later x s (x.beat + 1) (.pegInc peg.toNat amount.toNat)

/-- PSET, TGT 0 (R137). -/
def issuePsetCount (peg : BitVec 9) (value : BitVec 32) (x : Ctx) (s : State) : State :=
  later x s (x.beat + 1) (.pegCount peg.toNat value)

/-- PSET, TGT 1 (R137). -/
def issuePsetMark (peg : BitVec 9) (value : BitVec 32) (x : Ctx) (s : State) : State :=
  later x s (x.beat + 1) (.pegMark peg.toNat value)

/-- PERR (R137). -/
def issuePerr (peg : BitVec 9) (on : Bool) (x : Ctx) (s : State) : State :=
  later x s (x.beat + 1) (.pegErr peg.toNat on)

/-- PARM, DISARM = 0 (R142): MARK is read at the beat itself (R136). -/
def issueParmArm (peg : BitVec 9) (rel : Bool) (nsrc : BitVec 2) (t : BitVec 24) (x : Ctx) (s : State) : State :=
  let thr := if rel then (pegOf (x.g s) peg.toNat).mark.toNat + t.toNat else t.toNat
  later x s (x.beat + 1) (.pegArm peg.toNat nsrc.toNat thr)

/-- PARM, DISARM = 1 (R142). -/
def issueParmDisarm (peg : BitVec 9) (x : Ctx) (s : State) : State := later x s (x.beat + 1) (.pegDisarm peg.toNat)

/-- PWAIT's check (R138): COUNT ≥ T, or (COUNT - MARK) mod 2^32 ≥ T. -/
def waitOk (q : Peg) (rel : Bool) (t : Nat) : Bool :=
  if rel then decide (t ≤ (q.count - q.mark).toNat) else decide (t ≤ q.count.toNat)

/-- TARP_SLACK of a region takes a PWAIT's slack, and a stall (R258); Lantern counts it satisfied or stalled (Table 16.5). The field holds the slack plus 1, 0 meaning none. -/
def noteSlack (s : State) (r : Fin 32) (slack : Nat) (stall : Bool) : State :=
  let off := Reg.TARP_SLACK r.val
  let old := getField s off 16 16
  let v := min 65535 (slack + 1)
  let s := if old = 0 ∨ v < old then setField s off 16 16 v else s
  if stall then lnAdd (countField s off 0 16 1) r.val 39 1 else lnAdd s r.val 38 1

/-- A satisfied PWAIT with ADV moves MARK on by T (R138). -/
def advanceMark (s : State) (r : Fin 32) (peg : Nat) (adv : Bool) (t : Nat) : State :=
  if adv then setPeg s r peg fun q => { q with mark := q.mark + BitVec.ofNat 32 t } else s

/-- Zipper's record of a satisfied PWAIT (R291). -/
def zipWait (s : State) (r : Fin 32) (beat p : Nat) (rel adv : Bool) (t : Nat) : State :=
  zipNote s r.val 61 beat 0 p 1 (leBytes 4 t ++ [BitVec.ofNat 8 (bit1 rel + 2 * bit1 adv), 0, 0, 0])

/-- PWAIT at its beat (R138 to R141). -/
def issuePwait (peg : BitVec 9) (rel adv : Bool) (t : BitVec 24) (x : Ctx) (s : State) : State :=
  let p := peg.toNat
  let s := if pegAlloc s x.r.val p then s
    else
      let s := if debugOn s then raiseHazard s 5 x.r.val x.slot x.beat else s
      undefine s (.peg x.r.val p)
  let s := lnPeg s x.r.val p 4 0 5
  let q := pegOf (x.g s) p
  if q.err then faultOf x s 0x2601
  else if waitOk q rel t.toNat then
    let s := noteSlack s x.r (x.beat - storeGet 0 s.pegTouched (x.r.val * 512 + p)) false
    advanceMark (zipWait s x.r x.beat p rel adv t.toNat) x.r p adv t.toNat
  else
    let s := noteSlack s x.r 0 true
    let s := modRegion s x.r fun g => { g with waits := g.waits ++ [(x.slot, .pwait p rel adv t.toNat s.time)] }
    raiseHold s x.beat (.wait x.r)

/-- The check of a stalled PWAIT repeated (R139, R141). -/
def recheckWait (s : State) (r : Fin 32) : State :=
  match (s.regions[r]).waits.find? (fun w => decide (w.1 = 61)) with
  | some (_, .pwait p rel adv t _) =>
    let q := pegOf s.regions[r] p
    if s.tarp.struck then s
    else if q.err then raiseAt s 0x2601 r 61
    else if waitOk q rel t then
      endWait (advanceMark (zipWait (lnAdd s r.val 38 1) r (lastBeat s.regions[r]) p rel adv t) r p adv t) r 61
    else s
  | _ => s

/-- The time, in 1/256 tick, at which a wait's check first failed. -/
def Wait.since (w : Wait) : Nat :=
  match w with
  | .pwait _ _ _ _ t => t
  | .fqpost _ _ t => t
  | .thru _ _ t => t

/-- A wait that has lasted RG_PEG_WLIM ticks raises 0x2603 (R140); a limit of 0 disables the check. -/
def checkWaitLimit (s : State) (r : Fin 32) : State :=
  let lim := getField s (Reg.RG_PEG_WLIM r.val) 0 32
  match (s.regions[r]).waits.find? (fun w => decide (lim * 256 ≤ s.time - w.2.since)) with
  | some (slot, _) => if lim = 0 ∨ s.tarp.struck then s else raiseAt s 0x2603 r slot
  | none => s

/-- PINC. -/
def execPinc (r : Fin 32) (peg : BitVec 9) (amount : BitVec 16) (s : State) : Host.Outcome State Fault Refusal :=
  direct s r (.pinc r peg amount) (issuePinc peg amount)

/-- PSET of COUNT. -/
def execPsetCount (r : Fin 32) (peg : BitVec 9) (value : BitVec 32) (s : State) : Host.Outcome State Fault Refusal :=
  direct s r (.psetCount r peg value) (issuePsetCount peg value)

/-- PSET of MARK. -/
def execPsetMark (r : Fin 32) (peg : BitVec 9) (value : BitVec 32) (s : State) : Host.Outcome State Fault Refusal :=
  direct s r (.psetMark r peg value) (issuePsetMark peg value)

/-- PERR, OP 1. -/
def execPerrSet (r : Fin 32) (peg : BitVec 9) (s : State) : Host.Outcome State Fault Refusal :=
  direct s r (.perrSet r peg) (issuePerr peg true)

/-- PERR, OP 0. -/
def execPerrClear (r : Fin 32) (peg : BitVec 9) (s : State) : Host.Outcome State Fault Refusal :=
  direct s r (.perrClear r peg) (issuePerr peg false)

/-- PWAIT. -/
def execPwait (r : Fin 32) (peg : BitVec 9) (rel adv : Bool) (t : BitVec 24) (s : State) : Host.Outcome State Fault Refusal :=
  direct s r (.pwait r peg rel adv t) (issuePwait peg rel adv t)

/-- PWAIT_RECHECK. -/
def execPwaitRecheck (r : Fin 32) (s : State) : Host.Outcome State Fault Refusal := .next (recheckWait s r)

/-- PEG_WAIT_LIMIT. -/
def execPegWaitLimit (r : Fin 32) (s : State) : Host.Outcome State Fault Refusal := .next (checkWaitLimit s r)

/-- PARM, arming. -/
def execParmArm (r : Fin 32) (peg : BitVec 9) (rel : Bool) (nsrc : BitVec 2) (t : BitVec 24) (s : State) :
    Host.Outcome State Fault Refusal :=
  direct s r (.parmArm r peg rel nsrc t) (issueParmArm peg rel nsrc t)

/-- PARM, disarming. -/
def execParmDisarm (r : Fin 32) (peg : BitVec 9) (s : State) : Host.Outcome State Fault Refusal :=
  direct s r (.parmDisarm r peg) (issueParmDisarm peg)

end Sys2Proof.Machine
end

