-- ==== Sys2Proof/Machine/Tracks.lean ====
section
/-!
DEFINITION. Machine/Tracks.lean: the track-group instructions, refresh, and the stack errors (chapter 07).
-/

namespace Sys2Proof.Machine

/-- The first rule a track action breaks, in the order 0x2703, 0x2704, 0x2501, 0x2222 (R76, R153), raises its fault, which for 0x2501
leaves its destination undefined (R149); else the action acts. -/
def unlessTrack (x : Ctx) (s : State) (faults : List (Bool × Nat)) (dest : List Place) (f : State → State) : State :=
  match firstFault faults with
  | some code => undefineAll (faultOf x s code) (if code = 0x2501 then dest else [])
  | none => f s

/-- The rules of a bank command: the bank's state and the contract beats (R153). -/
def bankFaults (state timing : Bool) : List (Bool × Nat) := [(state, 0x2703), (timing, 0x2704)]

/-- The real time at which an activate can be sent (R154): now, or once S, RP, RFC, RRD and FAW are met. -/
def activateTime (s : State) (k : Track) (q : Bank) (bank : Nat) : Nat :=
  let rrd := match k.sent with
    | (a, bn) :: _ => if bn ≠ bank then a + nsUnits 2 else 0
    | [] => 0
  let faw := match k.sent with
    | _ :: _ :: _ :: (a, _) :: _ => a + nsUnits 12
    | _ => 0
  max (max s.time k.cmdReady) (max q.actReady (max rrd faw))

/-- A bank whose activate is sent at a real time: RCD and RAS run from then. -/
def Bank.activate (q : Bank) (sent : Nat) : Bank := { q with colReady := sent + nsUnits 14, preReady := sent + nsUnits 30 }

/-- TACT (R155). -/
def issueTact (track : BitVec 5) (bank : BitVec 4) (row : BitVec 16) (xen : Bool) (xr : BitVec 3) (x : Ctx) (s : State) :
    State :=
  let g := x.g s
  let t := track.toNat
  let k := trackOf g t
  let bk := bankOf g t bank.toNat
  let b := x.beat
  let mode := bk.mode b (tkRp s x.r.val)
  let isOpen := match mode with
    | .opened _ | .pending => true
    | _ => false
  let rrd := match k.acts with
    | (a, bn) :: _ => decide (bn ≠ bank.toNat) && decide (b < a + tkRrd s x.r.val)
    | [] => false
  let faw := match k.acts with
    | _ :: _ :: _ :: (a, _) :: _ => decide (b < a + tkFaw s x.r.val)
    | _ => false
  let late := decide (mode = .precharging) || trackTaken k b || decide (b < bk.refAt) || rrd || faw
  unlessTrack x s (bankFaults isOpen late) [] fun s =>
    let rw := if xen then (row + (g.xregs[Fin.ofNat 8 xr.toNat]).1).toNat else row.toNat
    let sent := activateTime s k bk bank.toNat
    let s := guardUntil s x.r sent
    let s := setBank s x.r t bank.toNat fun q => { q.activate sent with row := some rw, actAt := b, pre := none, wrEnd := 0 }
    setTrack s x.r t fun q =>
      { q with acts := ((b, bank.toNat) :: q.acts).take 4, sent := ((sent, bank.toNat) :: q.sent).take 4 }

/-- TRD (R156). -/
def issueTrd (track : BitVec 5) (bank col nl : BitVec 4) (sack : BitVec 5) (line : BitVec 13) (ap : Bool) (x : Ctx)
    (s : State) : State :=
  let t := track.toNat
  let n := nl.toNat + 1
  let b := x.beat
  let row := (columnCheck x s t bank.toNat b false).1
  unlessTrack x s (trackFaults x s (.trd x.r track bank col nl sack line ap)) (sackLines x sack.toNat line.toNat n) fun s =>
    let sent := columnTime s (trackOf (x.g s) t) (bankOf (x.g s) t bank.toNat) false
    let s := readLines x s t bank.toNat (row.getD 0) col.toNat n sack.toNat line.toNat false sent
    let s := takeBus x s t bank.toNat n false sent
    if ap then setBank s x.r t bank.toNat fun q => { q with pre := some (max (q.actAt + tkRas s x.r.val) (b + busBeats s n)) }
    else s

/-- TWR (R156). -/
def issueTwr (track : BitVec 5) (bank col nl : BitVec 4) (sack : BitVec 5) (line : BitVec 13) (ap : Bool) (x : Ctx)
    (s : State) : State :=
  let t := track.toNat
  let n := nl.toNat + 1
  let b := x.beat
  let row := (columnCheck x s t bank.toNat b true).1
  let addr (i : Nat) : Nat := hbmAddr x.r.val t (row.getD 0) bank.toNat (col.toNat + i)
  unlessTrack x s (trackFaults x s (.twr x.r track bank col nl sack line ap)) (tab n (fun i => .hbm (addr i))) fun s =>
    let s := takeBus x s t bank.toNat n true (columnTime s (trackOf (x.g s) t) (bankOf (x.g s) t bank.toNat) true)
    let s := (List.range n).foldl (fun s i =>
      atBeat x s (b + busBeats s i) (.twrRead sack.toNat (line.toNat + i) (addr i))) s
    if ap then setBank s x.r t bank.toNat fun q =>
      { q with pre := some (max (q.actAt + tkRas s x.r.val) (b + busBeats s n + tkWr s x.r.val)) }
    else s

/-- TPRE (R157). -/
def issueTpre (track : BitVec 5) (bank : BitVec 4) (all : Bool) (x : Ctx) (s : State) : State :=
  let g := x.g s
  let t := track.toNat
  let b := x.beat
  let banks := (if all then List.range 16 else [bank.toNat]).filter (fun i =>
    match (bankOf g t i).mode b (tkRp s x.r.val) with
    | .opened _ => true
    | _ => false)
  let late := trackTaken (trackOf g t) b || banks.any (fun i =>
    decide (b < (bankOf g t i).actAt + tkRas s x.r.val) || decide (b < (bankOf g t i).wrEnd))
  unlessTrack x s (bankFaults false late) [] fun s =>
    let sent := banks.foldl (fun m i => max m (bankOf g t i).preReady) (max s.time (trackOf g t).cmdReady)
    let s := guardUntil s x.r sent
    banks.foldl (fun s i => setBank s x.r t i fun q => { q.precharge sent with pre := some b }) s

/-- The tracks of a mask. -/
def maskTracks (mask : BitVec 24) : List Nat := (List.range 24).filter (fun t => mask.getLsbD t)

/-- The interval at which a bank must be refreshed, in 1/256 tick: 3,900 ns, or 1,950 ns at the doubled rate. -/
def refreshInterval (k : Track) : Nat := if k.hot then nsUnits 1950 else nsUnits 3900

/-- S_r of R159 in 1/256 tick. -/
def slotReserve (s : State) (r : Nat) : Nat :=
  let n := match s.pacer.pend with
    | some (m, _) => min s.pacer.n m
    | none => s.pacer.n
  (8 * getField s (Reg.RG_TK_SLOT r) 0 16 + getField s Reg.PACE_LAG_MAX 0 11) * 262144 / max 1 n

/-- A bank refreshed from a real time on, 160 ns (R161). One that is open is precharged before it and re-activated on the same row
after it; one with a precharge pending is precharged before it; else RP is waited for. -/
def Bank.refresh (q : Bank) (mode : BankMode) (now : Nat) : Bank :=
  let closed := max now q.preReady + nsUnits 14
  match mode with
  | .opened _ => { q.activate (closed + nsUnits 160) with refreshed := now }
  | .pending => { q with refreshed := now, actReady := closed + nsUnits 160 }
  | _ => { q with refreshed := now, actReady := max now q.actReady + nsUnits 160 }

/-- The state of a bank in the last beat its region began. -/
def bankMode (s : State) (r : Fin 32) (t bank : Nat) : BankMode :=
  (bankOf s.regions[r] t bank).mode (lastBeat s.regions[r]) (tkRp s r.val)

/-- One bank refreshed (R159, R161, R165), at a real time not before now: the interval is kept for RG_TK_REFAGE. -/
def refreshBank (s : State) (r : Fin 32) (t bank sent : Nat) : State :=
  let age := (s.time - (bankOf s.regions[r] t bank).refreshed) / 256
  let mode := bankMode s r t bank
  let s := setTrack s r t fun k => { k with refAge := max k.refAge (min 65535 age) }
  setBank s r t bank fun q => q.refresh mode sent

/-- Whether a TSLOT mask of a region names only tracks that the Pitch enables (Table 7.5). -/
def maskEnabled (p : Pitch) (r : Nat) (mask : BitVec 24) : Bool := mask &&& ~~~(p.enable.getD r 0) == 0

/-- A direct TSLOT with a disabled track in its mask is refused as validation would (Table 7.5). -/
def directSlot (s : State) (r : Fin 32) (mask : BitVec 24) (i : Instr) (f : Ctx → State → State) : Host.Outcome State Fault Refusal :=
  match s.pitch with
  | some p => if maskEnabled p r.val mask then direct s r i f else .refused (.invalidAction 0x17)
  | none => direct s r i f

/-- The real time at which a TSLOT that meets some banks can be sent (R154): now, or once S, BUS and RP are met. -/
def slotTime (s : State) (k : Track) (banks : List Bank) : Nat :=
  banks.foldl (fun m q => max m q.actReady) (max s.time (max k.cmdReady k.busReady))

/-- TSLOT, KIND 0 (R159). -/
def issueTslotRefresh (mask : BitVec 24) (pair : BitVec 3) (x : Ctx) (s : State) : State :=
  let g := x.g s
  let b := x.beat
  let rp := tkRp s x.r.val
  let banks := [pair.toNat, pair.toNat + 8]
  let isOpen := (maskTracks mask).any fun t => banks.any fun i =>
    match (bankOf g t i).mode b rp with
    | .opened _ | .pending => true
    | _ => false
  let late := (maskTracks mask).any fun t =>
    trackTaken (trackOf g t) b || decide (b < (trackOf g t).busFree) ||
    banks.any fun i => decide ((bankOf g t i).mode b rp = .precharging)
  unlessTrack x s (bankFaults isOpen late) [] fun s =>
    let slot := tkS s x.r.val
    let rfc := tkRfc s x.r.val
    (maskTracks mask).foldl (fun s t =>
      let k := trackOf (x.g s) t
      let sent := slotTime s k (banks.map (bankOf (x.g s) t))
      let s := guardUntil s x.r sent
      let s := setTrack s x.r t fun k =>
        { k with busFree := b + slot, slotFree := b + slot, cmdReady := sent + nsUnits 5 / 2 }
      banks.foldl (fun s i =>
        let due := decide (refreshInterval (trackOf (x.g s) t) ≤
          s.time - (bankOf (x.g s) t i).refreshed + slotReserve s x.r.val)
        let s := setBank s x.r t i fun q => { q with refAt := b + rfc }
        if due then lnAdd (refreshBank s x.r t i sent) x.r.val 32 1 else lnAdd s x.r.val 33 1) s) s

/-- TSLOT, KIND 1 (R163). -/
def issueTslotFar (mask : BitVec 24) (nbeats : BitVec 16) (x : Ctx) (s : State) : State :=
  let g := x.g s
  let b := x.beat
  let rp := tkRp s x.r.val
  let isOpen := (maskTracks mask).any fun t => (List.range 16).any fun i =>
    match (bankOf g t i).mode b rp with
    | .opened _ | .pending => true
    | _ => false
  let late := (maskTracks mask).any fun t =>
    trackTaken (trackOf g t) b || decide (b < (trackOf g t).busFree) ||
    (List.range 16).any fun i => decide ((bankOf g t i).mode b rp = .precharging)
  unlessTrack x s (bankFaults isOpen late) [] fun s =>
    (maskTracks mask).foldl (fun s t =>
      let s := guardUntil s x.r (slotTime s (trackOf (x.g s) t) (tab 16 (bankOf (x.g s) t)))
      setTrack s x.r t fun k => { k with farEnd := b + nbeats.toNat + 1 }) s

/-- TIDX, MODE 0 (R167): the index is read now, the column command issues two beats on, 12 more from a detoured cluster's Sack (R67),
and is checked for that beat. -/
def issueTidxColumn (track : BitVec 5) (bank : BitVec 4) (isack : BitVec 5) (iline : BitVec 13) (nlog : BitVec 2)
    (dsack : BitVec 5) (dline : BitVec 13) (x : Ctx) (s : State) : State :=
  let t := track.toNat
  let n := 2 ^ nlog.toNat
  let b := x.beat + 2 + detourBeats s x.r none (sackCluster isack.toNat)
  unlessTrack x s (trackFaults x s (.tidxColumn x.r track bank isack iline nlog dsack dline)) (sackLines x dsack.toNat dline.toNat n) fun s =>
    let (v, s) := readSack x s isack.toNat iline.toNat
    let idx := lineField v 0 4
    let s := setTrack s x.r t fun k => { k with busFree := b + busBeats s n }
    later x s b (.tidxColumn t bank.toNat (if idx < 16 / n then some idx else none) n dsack.toNat dline.toNat)

/-- TIDX, MODE 1 (R168). -/
def issueTidxLoadIndex (xr : BitVec 3) (isack : BitVec 5) (iline : BitVec 13) (word : BitVec 5) (stride : BitVec 15)
    (count : BitVec 8) (x : Ctx) (s : State) : State :=
  let (v, s) := readSack x s isack.toNat iline.toNat
  let idx := lineField v (4 * word.toNat) 4
  let extra := detourBeats s x.r none (sackCluster isack.toNat)
  later x s (x.beat + 3 + extra) (.xregPut xr.toNat (if idx ≤ count.toNat then some (idx * stride.toNat) else none))

/-! ## Refresh outside slots, errors -/

/-- The delayed command of the timing guard goes out once its real time has come, and the beat may be acknowledged (R154). -/
def guardSend (s : State) (r : Fin 32) : State :=
  let g := s.regions[r]
  if g.held.getLsbD 60 && decide (g.guard ≤ s.time) then
    let s := modRegion s r fun g => { g with held := g.held &&& ~~~(1#64 <<< 60), guard := 0 }
    let s := lnAdd (countField s (Reg.RG_TK_GUARD r.val) 0 16 1) r.val 35 1
    let s := { s with lantern := { s.lantern with tagged := s.lantern.tagged.map (fun t =>
      if t.region = r.val ∧ t.ended = none then { t with guard := true } else t) } }
    ackSlot (restartHang s r) r 60
  else s

/-- The time since a bank's last refresh has reached its required interval. -/
def refreshDue (g : Region) (now t bank : Nat) : Bool :=
  decide (refreshInterval (trackOf g t) ≤ now - (bankOf g t bank).refreshed)

/-- A guard refresh (R161): made when the interval has run out in RUN; logged, or the fault of STRICT. An open bank is
precharged, refreshed and re-activated. -/
def guardRefreshBank (s : State) (r : Fin 32) (t bank : Nat) : State :=
  let g := s.regions[r]
  if s.pacer.mode = .run ∧ refreshDue g s.time t bank then
    let s := refreshBank s r t bank s.time
    let s := lnAdd (countField s (Reg.RG_TK_GUARD r.val) 16 16 1) r.val 34 1
    if strictOn s then raiseAt s 0x2706 r 60 else logEvent s 0x0705
  else s

/-- A refresh during a hold (R165), of a bank that is due: not a guard refresh. -/
def heldRefreshBank (s : State) (r : Fin 32) (t bank : Nat) : State :=
  if s.pacer.mode = .held ∧ refreshDue s.regions[r] s.time t bank then refreshBank s r t bank s.time else s

/-- Every bank of a track closed. -/
def closeTrack (s : State) (r : Fin 32) (t : Nat) : State :=
  (List.range 16).foldl (fun s i => setBank s r t i fun q => { q with row := none, pre := none }) s

/-- A refresh while no program runs (R164). -/
def idleRefreshBank (s : State) (r : Fin 32) (t bank : Nat) : State :=
  if s.pacer.mode = .off ∨ s.pacer.mode = .cal ∨ s.pacer.mode = .armed then
    refreshBank (setBank s r t bank fun q => { q with row := none, pre := none }) r t bank s.time
  else s

/-- A track's banks restored to the state the Trail left them in (R165): those left open are activated again, and the stack takes no
command on them before, which the timing guard covers. -/
def restoreTrack (s : State) (r : Fin 32) (t : Nat) : State :=
  let saved := (trackOf s.regions[r] t).saved
  let s := saved.foldl (fun s e => setBank s r t e.1 fun q =>
    { e.2.activate (max s.time q.actReady) with refreshed := q.refreshed, actReady := q.actReady }) s
  setTrack s r t fun k => { k with saved := [] }

/-- The counts at which a launch is armed: TR_LAUNCH_AT and the next firing of every enabled LAUNCH timer (R288). -/
def launchCounts (s : State) : List Nat :=
  s.trail.launchArm.toList.map (·.toNat) ++ (List.range 4).flatMap (fun j =>
    if getField s (Reg.CMP_CYC_CFG j) 30 1 = 0 then (s.compass.cycles.getD j none).toList else [])

/-- The earliest count of a list. -/
def earliest (l : List Nat) : Option Nat := l.foldl (fun m t => match m with
  | some u => some (min u t)
  | none => some t) none

/-- The earliest armed launch count, a launch by Peg write included (R164, R288, R348). -/
def armedCount (s : State) : Option Nat := earliest (launchCounts s ++ s.trail.pegArm.toList.filter (· ≠ 0))

/-- A launch is armed within 512 ticks of the present count: the tracks start no new far access (R164). -/
def launchNear (s : State) : Bool :=
  match armedCount s with
  | some c => decide (c ≤ nowTicks s + 512)
  | none => false

/-- A track makes ready for a launch that is near, while the pacer is OFF, CAL or ARMED (R164): every bank is closed. -/
def quiesceTrack (s : State) (r : Fin 32) (t : Nat) : State :=
  if launchNear s && s.pacer.mode != .run && s.pacer.mode != .held then closeTrack s r t else s

/-- A stack error (R170): one retry, in real time only; a failed retry is 0x2709. -/
def stackError (s : State) (r : Fin 32) (kind : StackError) (ok : Bool) : State :=
  let s := countField s (Reg.RG_TK_RETRY r.val) (match kind with
    | .parity => 16
    | .writeCrc => 0) 16 1
  let s := logEvent s 0x0708
  if ok then s else raiseAt s 0x2709 r 60

/-- TACT. -/
def execTact (r : Fin 32) (track : BitVec 5) (bank : BitVec 4) (row : BitVec 16) (xen : Bool) (x : BitVec 3)
    (s : State) : Host.Outcome State Fault Refusal :=
  direct s r (.tact r track bank row xen x) (issueTact track bank row xen x)

/-- TRD. -/
def execTrd (r : Fin 32) (track : BitVec 5) (bank col nl : BitVec 4) (sack : BitVec 5) (line : BitVec 13)
    (ap : Bool) (s : State) : Host.Outcome State Fault Refusal :=
  direct s r (.trd r track bank col nl sack line ap) (issueTrd track bank col nl sack line ap)

/-- TWR. -/
def execTwr (r : Fin 32) (track : BitVec 5) (bank col nl : BitVec 4) (sack : BitVec 5) (line : BitVec 13)
    (ap : Bool) (s : State) : Host.Outcome State Fault Refusal :=
  direct s r (.twr r track bank col nl sack line ap) (issueTwr track bank col nl sack line ap)

/-- TPRE. -/
def execTpre (r : Fin 32) (track : BitVec 5) (bank : BitVec 4) (all : Bool)
    (s : State) : Host.Outcome State Fault Refusal :=
  direct s r (.tpre r track bank all) (issueTpre track bank all)

/-- TSLOT, KIND 0. -/
def execTslotRefresh (r : Fin 32) (mask : BitVec 24) (pair : BitVec 3) (s : State) : Host.Outcome State Fault Refusal :=
  directSlot s r mask (.tslotRefresh r mask pair) (issueTslotRefresh mask pair)

/-- TSLOT, KIND 1. -/
def execTslotFar (r : Fin 32) (mask : BitVec 24) (nbeats : BitVec 16) (s : State) : Host.Outcome State Fault Refusal :=
  directSlot s r mask (.tslotFar r mask nbeats) (issueTslotFar mask nbeats)

/-- TIDX, MODE 0. -/
def execTidxColumn (r : Fin 32) (track : BitVec 5) (bank : BitVec 4) (isack : BitVec 5) (iline : BitVec 13)
    (nlog : BitVec 2) (dsack : BitVec 5) (dline : BitVec 13) (s : State) : Host.Outcome State Fault Refusal :=
  direct s r (.tidxColumn r track bank isack iline nlog dsack dline) (issueTidxColumn track bank isack iline nlog dsack dline)

/-- TIDX, MODE 1. -/
def execTidxLoadIndex (r : Fin 32) (x : BitVec 3) (isack : BitVec 5) (iline : BitVec 13) (word : BitVec 5)
    (stride : BitVec 15) (count : BitVec 8) (s : State) : Host.Outcome State Fault Refusal :=
  direct s r (.tidxLoadIndex r x isack iline word stride count) (issueTidxLoadIndex x isack iline word stride count)

/-- TIMING_GUARD_SEND. -/
def execTimingGuardSend (r : Fin 32) (s : State) : Host.Outcome State Fault Refusal :=
  .next (guardSend s r)

/-- GUARD_REFRESH. -/
def execGuardRefresh (r : Fin 32) (t : Fin 24) (bank : Fin 16) (s : State) : Host.Outcome State Fault Refusal :=
  .next (guardRefreshBank s r t.val bank.val)

/-- HELD_REFRESH. -/
def execHeldRefresh (r : Fin 32) (t : Fin 24) (bank : Fin 16) (s : State) : Host.Outcome State Fault Refusal :=
  .next (heldRefreshBank s r t.val bank.val)

/-- BANK_RESTORE. -/
def execBankRestore (r : Fin 32) (t : Fin 24) (s : State) : Host.Outcome State Fault Refusal :=
  .next (restoreTrack s r t.val)

/-- IDLE_TRACK_REFRESH. -/
def execIdleTrackRefresh (r : Fin 32) (t : Fin 24) (bank : Fin 16) (s : State) : Host.Outcome State Fault Refusal :=
  .next (idleRefreshBank s r t.val bank.val)

/-- TRACK_LAUNCH_QUIESCE. -/
def execTrackLaunchQuiesce (r : Fin 32) (t : Fin 24) (s : State) : Host.Outcome State Fault Refusal :=
  .next (quiesceTrack s r t.val)

/-- STACK_ERROR_RETRY. -/
def execStackErrorRetry (r : Fin 32) (_t : Fin 24) (kind : StackError) (ok : Bool)
    (s : State) : Host.Outcome State Fault Refusal :=
  .next (stackError s r kind ok)

/-- STACK_TIMEOUT: fault 0x370A (R170). -/
def execStackTimeout (r : Fin 32) (_t : Fin 24) (s : State) : Host.Outcome State Fault Refusal :=
  .next (raiseAt s 0x370A r 60)

end Sys2Proof.Machine
end

