-- ==== Sys2Proof/Machine/Far.lean ====
section
/-!
DEFINITION. Machine/Far.lean: the far queues (chapter 08): acceptance, waiting for tracks, completion, poison, disabling, Hub
windows. What each operation moves stands in FarOps.lean.
-/

namespace Sys2Proof.Machine

/-! ## Descriptors (Table 8.2) -/

/-- A field of word w of a descriptor. -/
def descField (d : Line) (w lo len : Nat) : Nat := fieldN (lineField d (8 * w) 8) lo len

/-- Fields of Table 8.2. -/
def FarReq.op (q : FarReq) : Nat := descField q.desc 0 60 4
def FarReq.slotLoad (q : FarReq) : Bool := descField q.desc 0 59 1 = 1 && (q.op = 1 || q.op = 3)
def FarReq.retire (q : FarReq) : Bool := descField q.desc 0 59 1 = 1 && q.op = 7
def FarReq.hport (q : FarReq) : Nat := descField q.desc 0 58 1
def FarReq.srcw (q : FarReq) : Bool := descField q.desc 0 57 1 = 1
def FarReq.emit (q : FarReq) : Bool := descField q.desc 0 56 1 = 1
def FarReq.peg (q : FarReq) : Nat := descField q.desc 0 42 14
def FarReq.tag (q : FarReq) : Nat := descField q.desc 0 16 16
def FarReq.src (q : FarReq) : Nat := descField q.desc 1 0 64
def FarReq.dst (q : FarReq) : Nat := descField q.desc 2 0 64
def FarReq.len (q : FarReq) : Nat := descField q.desc 3 0 31
def FarReq.session (q : FarReq) : Nat := descField q.desc 4 48 16
def FarReq.page (q : FarReq) : Nat := descField q.desc 4 28 20
def FarReq.npages (q : FarReq) : Nat := descField q.desc 4 8 20 + 1
def FarReq.aslot (q : FarReq) : Nat := descField q.desc 5 56 8
def FarReq.adapter (q : FarReq) : Nat := descField q.desc 5 24 32
def FarReq.hub (q : FarReq) : Nat := descField q.desc 6 63 1
def FarReq.wid (q : FarReq) : Nat := descField q.desc 6 60 3
def FarReq.wlen (q : FarReq) : Nat := descField q.desc 6 47 13 + 1
def FarReq.iaddr (q : FarReq) : Nat := descField q.desc 7 0 64
def FarReq.ilen (q : FarReq) : Nat := descField q.desc 8 32 32
def FarReq.olen (q : FarReq) : Nat := descField q.desc 8 0 32
def FarReq.oaddr (q : FarReq) : Nat := descField q.desc 9 0 64
def FarReq.ntok (q : FarReq) : Nat := descField q.desc 10 32 32
/-- A FILL, SPILL or SCRUB. -/
def FarReq.paged (q : FarReq) : Bool := decide (5 ≤ q.op) && decide (q.op ≤ 7)

/-- The bits of each word that an operation uses (Table 8.3): word number and mask. OP, PEG and TAG are used by all. -/
def descMask (q : FarReq) : List (Nat × Nat) :=
  let w0 := 0xF03FFC00FFFF0000 ||| (0x00C0000000000000 : Nat)
  let all := 2 ^ 64 - 1
  let len := 2 ^ 31 - 1
  let aslot := 0xFFFFFFFFFF000000
  let win := 0xFFFF800000000000
  match q.op with
  | 1 => [(0, w0 ||| 0x0800000000000000), (1, all), (2, all), (3, len)] ++ (if q.slotLoad then [(5, aslot)] else [])
  | 2 => [(0, w0 ||| 0x0200000000000000), (1, all), (2, all), (3, len)] ++ (if q.srcw then [(6, win)] else [])
  | 3 => [(0, w0 ||| 0x0C00000000000000), (1, all), (2, all), (3, len)] ++ (if q.slotLoad then [(5, aslot)] else [])
  | 4 => [(0, w0 ||| 0x0600000000000000), (1, all), (2, all), (3, len)] ++ (if q.srcw then [(6, win)] else [])
  | 5 => [(0, w0), (2, all), (4, 0xFFFFFFFFFFFFFF00)]
  | 6 => [(0, w0), (2, all), (4, 0xFFFFFFFFFFFFFF00)]
  | 7 => [(0, w0 ||| 0x0800000000000000), (4, 0xFFFFFFFFFFFFFF00)]
  | 8 => [(0, w0 ||| 0x0100000000000000), (2, all), (4, 0xFFFF000000000000), (7, all), (8, all), (9, all),
          (10, 0xFFFFFFFF00000000)]
  | _ => []

/-- Check 1 of R178: OP is defined and unused fields are zero. -/
def descClean (q : FarReq) : Bool :=
  decide (1 ≤ q.op) && decide (q.op ≤ 8) &&
  (List.range 16).all (fun w =>
    let m := ((descMask q).find? (fun e => e.1 == w)).map (·.2) |>.getD 0
    decide (descField q.desc w 0 64 &&& (m ^^^ (2 ^ 64 - 1)) = 0))

/-! ## Sessions in the launch lists -/

/-- The sessions that the staged or running launch list names (R190). -/
def listedSessions (s : State) : List Nat :=
  s.far.staged ++ (s.far.loading.getD []) ++
    (if s.pacer.mode = .run ∨ s.pacer.mode = .held then s.far.running else [])

/-- The Bunk bytes of an index: the store's copy, or the table's in HBM (R190). -/
def bunkBytes (s : State) (i : Nat) : List Byte :=
  match s.far.bunks.find? (fun e => e.1 == i) with
  | some e => e.2.bytes
  | none =>
    match s.pitch with
    | some p => s.hbm.readBytes (p.bunkBase + 256 * i) 256
    | none => []

/-- The slots that sessions of the staged or running list name (R198). -/
def listedSlots (s : State) : List Nat :=
  ((listedSessions s).map (fun i => leField (bunkBytes s i) 24 4)).filter (fun k => decide (k < 256))

/-! ## Tracks (R163 to R165, R180) -/

/-- The tracks that a range of HBM lies on. -/
def rangeTracks (a n : Nat) : List Nat :=
  if n = 0 then [] else (List.range ((a + n - 1) / 2 ^ 31 - a / 2 ^ 31 + 1)).map (· + a / 2 ^ 31)

/-- A stored Topo entry as the table holds it, without a look-up. -/
def topoRaw (s : State) (i : Nat) : Nat :=
  match s.pitch with
  | some p => leNat (s.hbm.readBytes (p.topoBase + 16 * i) 16)
  | none => 0

/-- The tracks on which the pages of a request stand now, by its Topo entries. -/
def pageTracks (s : State) (q : FarReq) : List Nat :=
  let base := leField (bunkBytes s q.session) 72 4
  (List.range q.npages).filterMap (fun k =>
    let e := topoRaw s (base + q.page + k)
    if fieldN e 16 8 = 1 ∧ fieldN e 127 1 = 0 then some (fieldN e 64 64 / 2 ^ 31) else none)

/-- The tracks that a request accesses. -/
def reqTracks (s : State) (q : FarReq) : List Nat :=
  let slot := match s.pitch with
    | some p => enabledTracks p
    | none => []
  (match q.op with
  | 1 => if q.slotLoad then slot else rangeTracks q.dst q.len
  | 3 => if q.slotLoad then slot else rangeTracks q.dst q.len
  | 2 => if q.srcw then [] else rangeTracks q.src q.len
  | 4 => if q.srcw then [] else rangeTracks q.src q.len
  | 5 => pageTracks s q ++ rangeTracks q.dst (q.npages * 2 ^ 20)
  | 6 => pageTracks s q
  | 7 => pageTracks s q
  | _ => if q.emit then rangeTracks q.iaddr q.ilen ++ rangeTracks q.oaddr q.olen ++ rangeTracks q.dst 256 else []).eraseDups

/-- Accesses queued on their tracks, last. -/
def queueTracks (s : State) (id : Nat) (ts : List Nat) : State :=
  { s with far := { s.far with waits := s.far.waits ++ ts.map (fun t => { track := t, id := id }) } }

/-- One request replaced. -/
def setReq (s : State) (id : Nat) (f : FarReq → FarReq) : State :=
  { s with far := { s.far with reqs := s.far.reqs.map (fun r => if r.id = id then f r else r) } }

/-- Whether a track has taken no command since the launch. -/
def Track.untouched (k : Track) : Bool := k.acts.isEmpty && k.busFree == 0 && k.slotFree == 0

/-- Whether a track serves a request now (R163 to R165): while the pacer runs, in the far slot in which the access started, or, where
it started before the launch, until the track's first command (R164). -/
def inForce (s : State) (q : FarReq) (t : Nat) : Bool :=
  let g := s.regions[regionFin (t / 24)]
  q.served.any fun e => e.1 == t && (s.pacer.mode != .run || match e.2 with
    | some stop => decide (lastBeat g < stop)
    | none => (trackOf g (t % 24)).untouched)

/-- The tracks that a request needs and that no longer serve it, or do not yet, serve it before any later access. -/
def awaitTracks (s : State) (q : FarReq) (ts : List Nat) : State :=
  let missing := ts.filter (fun t => !inForce s q t)
  let new := missing.filter (fun t => !s.far.waits.any (fun w => w.track == t && w.id == q.id))
  let s := setReq s q.id fun r => { r with served := r.served.filter (fun e => !missing.contains e.1) }
  { s with far := { s.far with waits := new.map (fun t => { track := t, id := q.id }) ++ s.far.waits } }

/-- Whether a host's or firmware's access has been served by all its tracks. -/
def tracksDone (s : State) (id : Nat) : Bool := s.far.waits.all (fun w => decide (w.id ≠ id))

/-- The beats of one access at the design pace, from its activate to its bank closed again: a row's 16 lines, written (R163). -/
def accessBeats (s : State) (r : Nat) : Nat := max (tkRcd s r + busBeats s 16 + tkWr s r) (tkRas s r) + tkRp s r

/-- Whether the far engine may start an access on a track now (R163 to R165): in a far slot, where it would end before the slot's
last beat. -/
def trackServes (s : State) (r : Fin 32) (t : Nat) : Bool :=
  let k := trackOf s.regions[r] t
  match s.pacer.mode with
  | .run => decide (lastBeat s.regions[r] + accessBeats s r.val < k.farEnd)
  | .held => true
  | _ => !launchNear s

/-- A bank that the Trail left open is closed for a far access during a hold; its row is kept for the restoration (R165). -/
def saveBanks (s : State) (r : Fin 32) (t : Nat) : State :=
  let g := s.regions[r]
  let left := (List.range 16).filter (fun i => match bankMode s r t i with
    | .opened _ | .pending => true
    | _ => false)
  let s := setTrack s r t fun k => { k with saved := k.saved ++ left.map (fun i => (i, bankOf g t i)) }
  left.foldl (fun s i => setBank s r t i fun q => { q.precharge s.time with row := none, pre := none }) s

/-- FAR_ACCESS_SERVE (R163): the oldest access waiting on the track is served, once the module is awake for it (R332). -/
def serveTrack (s : State) (r : Fin 32) (t : Nat) : State :=
  let g := 24 * r.val + t
  match s.far.waits.find? (fun w => w.track == g) with
  | none => s
  | some w =>
    let s := wakeTo s 2
    if awake s && trackServes s r t then
      let slot := if s.pacer.mode = .run then some (trackOf s.regions[r] t).farEnd else none
      let s := setReq (if s.pacer.mode = .held then saveBanks s r t else s) w.id fun q => { q with served := q.served ++ [(g, slot)] }
      lnAdd (countField { s with far := { s.far with waits := s.far.waits.erase w } } (Reg.RG_TK_FAR r.val) 0 32 1) r.val 37 1
    else s

/-! ## Completion -/

/-- A queue's OUTSTANDING. -/
def outstanding (s : State) (q : Nat) : Nat := (s.far.reqs.filter (fun r => r.queue == q)).length

/-- FQ_STAT.OUTSTANDING follows the requests. -/
def noteQueue (s : State) (q : Nat) : State := setField s (Reg.FQ_STAT q) 0 6 (min 32 (outstanding s q))

/-- A poisoned completion is latched and logged (R182). -/
def notePoison (s : State) (q : FarReq) (cause : Nat) : State :=
  let s := setReg s Reg.FQ_POISON (BitVec.ofNat 64 (q.tag * 2 ^ 48 + q.queue * 2 ^ 42 + q.peg * 2 ^ 28 + cause * 2 ^ 20))
  logEvent (countField s Reg.FQ_POISONS 0 32 1) 0x0803

/-- A request completes (R180, R182): its Peg counts by 1, with ERR if it is poisoned, and its queue place is free. -/
def completeReq (s : State) (q : FarReq) : State :=
  let s := { s with far := { s.far with reqs := s.far.reqs.filter (fun r => decide (r.id ≠ q.id)),
                                        waits := s.far.waits.filter (fun w => decide (w.id ≠ q.id)) } }
  let s := noteQueue s q.queue
  let s := match q.poison with
    | some c => notePoison s q c
    | none => s
  let s := lnPeg s (q.peg / 512) (q.peg % 512) 5 0 4
  incPegLater s (regionFin (q.peg / 512)) (q.peg % 512) 1 q.poison.isSome

/-- A request ends with a poison cause; its completion is still to be counted. -/
def poisonReq (s : State) (id cause : Nat) : State :=
  setReq s id fun r => { r with done := true, poison := some (r.poison.getD cause),
                                win := r.win.map (fun w => { w with isOpen := false }) }

/-! ## Acceptance (R178) -/

/-- Check 2: the Peg is in ALLOC and not in HOSTW. -/
def descPegOk (s : State) (q : FarReq) : Bool :=
  pegAlloc s (q.peg / 512) (q.peg % 512) && !pegHostw s (q.peg / 512) (q.peg % 512)

/-- A value is a multiple. -/
def aligned (a n : Nat) : Bool := decide (a % n = 0)

/-- Check 3: lengths and alignments (Table 8.3, R179, R184, R197). -/
def descShapeOk (s : State) (q : FarReq) : Bool :=
  let data := decide (128 ≤ q.len) && decide (q.len ≤ 2 ^ 30) && aligned q.len 128 && aligned q.src 128 && aligned q.dst 128
  let load := !q.slotLoad || (decide (q.dst = 0) && (match s.pitch with
    | some p => decide (q.aslot < p.slotCount) && decide (q.len ≤ p.slotSize)
    | none => false))
  let win := !q.srcw || (decide (q.src = 0) && decide (q.len = 128 * q.wlen) && decide (q.owner = (if q.hub = 0 then 9 else 22)))
  match q.op with
  | 1 => data && load
  | 3 => data && load
  | 2 => data && win
  | 4 => data && win
  | 5 => aligned q.dst (2 ^ 20)
  | 6 => aligned q.dst (2 ^ 20)
  | 7 => true
  | 8 => aligned q.iaddr 128 && aligned q.oaddr 128 && decide (q.ilen ≤ 2 ^ 20) && decide (q.olen ≤ 2 ^ 20) &&
      (if q.emit then aligned q.dst 256 else decide (q.dst = 0))
  | _ => false

/-- Check 4: the Hub window named is closed. -/
def descWindowOk (s : State) (q : FarReq) : Bool :=
  !q.srcw || s.far.reqs.all (fun r => match r.win with
    | some w => !(w.isOpen && w.hub == q.hub && w.wid == q.wid)
    | none => true)

/-- Every address of a request is in bounds (R76, R178). -/
def descBoundsOk (s : State) (q : FarReq) : Bool :=
  let hbm (w : Bool) (a n : Nat) : Bool := n = 0 || inBounds s q.owner 1 w 0 a n
  let bar (w : Bool) (a n : Nat) : Bool := inBounds s q.owner 2 w 0 a n
  let host (w : Bool) (a n : Nat) : Bool := inBounds s q.owner 3 w q.hport a n
  match q.op with
  | 1 => bar false q.src q.len && (q.slotLoad || hbm true q.dst q.len)
  | 2 => (q.srcw || hbm false q.src q.len) && bar true q.dst q.len
  | 3 => host false q.src q.len && (q.slotLoad || hbm true q.dst q.len)
  | 4 => (q.srcw || hbm false q.src q.len) && host true q.dst q.len
  | 5 => hbm true q.dst (q.npages * 2 ^ 20)
  | 6 => bar true q.dst (q.npages * 2 ^ 20)
  | 8 => hbm false q.iaddr q.ilen && hbm false q.oaddr q.olen && (!q.emit || hbm true q.dst 256)
  | _ => true

/-- A descriptor posted to a queue at a region's beat, with room in the queue (R177 to R183). -/
def acceptReq (s : State) (r : Fin 32) (slot beat queue : Nat) (desc : Line) : State :=
  let q : FarReq := { id := s.far.seq, queue := queue, owner := r.val, beat := beat, desc := desc, win := none, done := false,
                      poison := none }
  let at_ : FaultAt := { region := r.val, slot := slot, beat := beat }
  if !(descClean q && descPegOk s q && descShapeOk s q && descWindowOk s q) then raise s 0x2804 at_
  else if !((getReg s (Reg.FQ_CFG queue)).getLsbD 31 && (getReg s (Reg.FQ_CFG queue)).getLsbD (26 - q.op)) then
    raise s 0x2805 at_
  else
    let s := { s with far := { s.far with seq := s.far.seq + 1 } }
    let add (s : State) (q : FarReq) : State := noteQueue { s with far := { s.far with reqs := s.far.reqs ++ [q] } } queue
    if getField s (Reg.FQ_STAT queue) 30 2 = 2 then completeReq s { q with done := true, poison := some 8 }
    else if !descBoundsOk s q then raise (add s { q with done := true, poison := some 9 }) 0x2222 at_
    else
      let win : Option HubWin := if q.srcw then
          some { hub := q.hub, wid := q.wid, len := q.wlen, opens := beat + 10, isOpen := true, count := 0, lines := [],
                 undef := false }
        else none
      queueTracks (add s { q with win := win }) q.id (reqTracks s q)

/-- FQPOST at its beat (R147): the descriptor is read now; a full queue is an unsatisfied wait. -/
def issueFqpost (queue : BitVec 6) (dsack : BitVec 5) (line : BitVec 13) (x : Ctx) (s : State) : State :=
  let (v, s) := readSack x s dsack.toNat line.toNat
  if 32 ≤ outstanding s queue.toNat then
    let s := modRegion s x.r fun g => { g with waits := g.waits ++ [(x.slot, .fqpost queue.toNat v s.time)] }
    raiseHold s x.beat (.wait x.r)
  else acceptReq s x.r x.slot x.beat queue.toNat v

/-- A region that waits to post to a queue posts once a place is free (R147). -/
def postWaiting (s : State) : State :=
  forRegions s fun r s =>
    match (s.regions[r]).waits.find? (fun w => decide (w.1 = 63)) with
    | some (slot, .fqpost q v _) =>
      if outstanding s q < 32 ∧ !s.tarp.struck then
        endWait (acceptReq s r slot (lastBeat s.regions[r]) q v) r slot
      else s
    | _ => s

/-- FAR_COMPLETION (R180): request k of a queue, if it is done. -/
def completeFar (s : State) (queue k : Nat) : State :=
  match (s.far.reqs.filter (fun r => r.queue == queue))[k]? with
  | some q => if q.done then postWaiting (completeReq s q) else s
  | none => s

/-! ## Disabling queues (R183) -/

/-- A requested disable takes effect once the queue is empty and the pacer is OFF, CAL or ARMED. -/
def disableEffect (s : State) (q : Nat) : State :=
  if getField s (Reg.FQ_STAT q) 30 2 = 1 ∧ outstanding s q = 0 ∧ s.pacer.mode ≠ .run ∧ s.pacer.mode ≠ .held then
    setField s (Reg.FQ_STAT q) 30 2 2
  else s

/-- FQ_CTL.DISABLE. -/
def disableQueue (s : State) (q : Nat) : State :=
  if getField s (Reg.FQ_STAT q) 30 2 = 2 then s else disableEffect (setField s (Reg.FQ_STAT q) 30 2 1) q

/-- FQ_CTL.ENABLE restores a queue that FARQ enables. -/
def enableQueue (s : State) (q : Nat) : State :=
  if (getReg s (Reg.FQ_CFG q)).getLsbD 31 then setField s (Reg.FQ_STAT q) 30 2 0 else s

/-! ## Hub windows (R184) -/

/-- The region of a Hub attachment: W9 or E6. -/
def hubRegion (a : Nat) : Fin 32 := if a = 0 then 9 else 22

/-- An entry at a Hub attachment, at its beat: into the open window it names, or a fault as R133 has it, slot 62. A LINE entry names
none. -/
def hubArrive (s : State) (a : Nat) (e : Entry) : State :=
  let r := hubRegion a
  let at_ : FaultAt := { region := r.val, slot := 62, beat := e.due }
  if sideKind e.side ≠ 2 then raise s 0x2503 at_
  else
    let wid := fieldN e.side.toNat 35 3
    let seq := fieldN e.side.toNat 19 16
    match s.far.reqs.find? (fun q => match q.win with
        | some w => w.isOpen && w.hub == a && w.wid == wid && decide (w.opens < e.due)
        | none => false) with
    | none => raise s 0x2503 at_
    | some q =>
      setReq (match q.win with
          | some w => if w.len ≤ seq then raise s 0x2502 at_ else s
          | none => s) q.id fun q =>
        { q with win := q.win.map (fun w =>
            if w.len ≤ seq then w
            else
              let n := w.count + 1
              { w with undef := w.undef || w.lines.any (fun l => l.1 == seq) || e.alt.isSome
                       lines := storePut w.lines seq e.data, count := n, isOpen := decide (n < w.len) }) }

/-- HUB_WINDOW_ARRIVAL: the entry due earliest at an attachment, once its beat has been begun there (R30, R184). One whose parity
fails is dropped with 0x2504 (R129), its destination undefined (R149). -/
def hubTake (s : State) (a : Nat) (flip : Option (BitVec 11)) : State :=
  match s.hubIn.getD a [] with
  | [] => s
  | e :: rest =>
    if e.due < (s.regions[hubRegion a]).begun then
      let s := { s with hubIn := listSet s.hubIn a rest }
      let met := flipEntry e flip
      if parityHolds met.side met.data then hubArrive s a e
      else undefineAll (raise s 0x2504 { region := (hubRegion a).val, slot := 62, beat := e.due })
        ((e.side :: e.alt.toList).flatMap (hubPlaces (hubRegion a).val))
    else s

end Sys2Proof.Machine
end

