-- ==== Sys2Proof/Machine/Signature.lean ====
section
/-!
DEFINITION. Machine/Signature.lean: the signature with the identity key, ECDSA on P-256 with SHA-256 and the nonce of RFC 6979
(R311, R384, R385).
-/

namespace Sys2Proof.Machine

/-! ## The curve P-256 -/

/-- A point: none is the neutral element. -/
abbrev CurvePoint := Option (Nat × Nat)

/-- The field's prime, 2^256 - 2^224 + 2^192 + 2^96 - 1. PRESUMED, as the curve's other numbers: FIPS 186-4 (log entry 102). -/
def curvePrime : Nat := 2 ^ 256 - 2 ^ 224 + 2 ^ 192 + 2 ^ 96 - 1

/-- The order of the base point. -/
def curveOrder : Nat := 0xffffffff00000000ffffffffffffffffbce6faada7179e84f3b9cac2fc632551

/-- The base point. -/
def curveBase : CurvePoint :=
  some (0x6b17d1f2e12c4247f8bce6e563a440f277037d812deb33a0f4a13945d898c296,
    0x4fe342e2fe1a7f9b8ee7eb4a7c0f9e162bce33576b315ececbb6406837bf51f5)

/-- b ^ e modulo m, over the low `k` bits of e. -/
def modPow (m : Nat) : Nat → Nat → Nat → Nat
  | 0, _, _ => 1
  | k + 1, b, e => (if e % 2 = 1 then b else 1) * modPow m k (b * b % m) (e / 2) % m

/-- The inverse modulo a prime of 256 bits. -/
def modInv (m a : Nat) : Nat := modPow m 256 (a % m) (m - 2)

/-- a - b in the field, of reduced a and b. -/
def fieldSub (a b : Nat) : Nat := (a + curvePrime - b) % curvePrime

/-- The third point of the line of a slope through two points, mirrored. -/
def chord (slope x1 y1 x2 : Nat) : CurvePoint :=
  let x := fieldSub (fieldSub (slope * slope % curvePrime) x1) x2
  some (x, fieldSub (slope * fieldSub x1 x % curvePrime) y1)

/-- The sum of two points of the curve y² = x³ - 3x + b. -/
def pointAdd : CurvePoint → CurvePoint → CurvePoint
  | none, q => q
  | p, none => p
  | some (x1, y1), some (x2, y2) =>
    if x1 ≠ x2 then chord (fieldSub y2 y1 * modInv curvePrime (fieldSub x2 x1) % curvePrime) x1 y1 x2
    else if y1 ≠ y2 ∨ y1 = 0 then none
    else chord (fieldSub (3 * x1 * x1 % curvePrime) 3 * modInv curvePrime (2 * y1) % curvePrime) x1 y1 x2

/-- n times a point, over the low `k` bits of n. -/
def pointMul : Nat → Nat → CurvePoint → CurvePoint
  | 0, _, _ => none
  | k + 1, n, p => pointAdd (if n % 2 = 1 then p else none) (pointMul k (n / 2) (pointAdd p p))

/-! ## The nonce and the signature -/

/-- A number as 32 big-endian bytes. -/
def beBytes (v : Nat) : List Byte := (leBytes 32 v).reverse

/-- The number of big-endian bytes. -/
def beNat (bs : List Byte) : Nat := leNat bs.reverse

/-- HMAC with SHA-256, of a 32-byte key. -/
def hmac (key msg : List Byte) : List Byte :=
  let k := key ++ List.replicate 32 0
  sha256 (k.map (· ^^^ 0x5c) ++ sha256 (k.map (· ^^^ 0x36) ++ msg))

/-- The signature under one nonce; none where the nonce gives none. -/
def signWith (key e nonce : Nat) : Option (Nat × Nat) :=
  if nonce = 0 ∨ curveOrder ≤ nonce then none
  else match pointMul 256 nonce curveBase with
    | none => none
    | some (x, _) =>
      let r := x % curveOrder
      let s := modInv curveOrder nonce * (e + r * key) % curveOrder
      if r = 0 ∨ s = 0 then none else some (r, s)

/-- The candidates of RFC 6979, step h, in turn: K, V and how many may still be drawn. -/
def signFrom (key e : Nat) : Nat → List Byte → List Byte → Nat × Nat
  | 0, _, _ => (0, 0)
  | n + 1, k, v =>
    let v := hmac k v
    match signWith key e (beNat v) with
    | some sg => sg
    | none =>
      let k := hmac k (v ++ [0])
      signFrom key e n k (hmac k v)

/-- ECDSA of a 32-byte digest, deterministic by RFC 6979 with SHA-256 (R311). 64 candidates: each fails with a chance below
2 ^ -31. -/
def ecdsaSign (key : Nat) (digest : List Byte) : Nat × Nat :=
  let seed := beBytes key ++ beBytes (beNat digest % curveOrder)
  let v0 := List.replicate 32 0x01
  let k1 := hmac (List.replicate 32 0) (v0 ++ [0] ++ seed)
  let v1 := hmac k1 v0
  let k2 := hmac k1 (v1 ++ [1] ++ seed)
  signFrom key (beNat digest) 64 k2 (hmac k2 v1)

/-! ## The identity key (R384) -/

/-- The part's private key, from 1 to the order minus 1. -/
def identityKey (s : State) : Nat := 1 + (Config.identityKey s.identity.serial).toNat % (curveOrder - 1)

/-- The digest of the public key as an uncompressed point, which SEC_KEY_ID holds. -/
def keyDigest (s : State) : List Byte :=
  match pointMul 256 (identityKey s) curveBase with
  | some (x, y) => sha256 ([4] ++ beBytes x ++ beBytes y)
  | none => sha256 [0]

/-- SIG_R and SIG_S over a digest, with the identity key, as big-endian bytes. -/
def identitySign (s : State) (digest : List Byte) : List Byte :=
  let sg := ecdsaSign (identityKey s) digest
  beBytes sg.1 ++ beBytes sg.2

end Sys2Proof.Machine
end

