-- ==== Sys2Proof/Machine/FarOps.lean ====
section
/-!
DEFINITION. Machine/FarOps.lean: what each far operation moves (Table 8.3), Topo (R185 to R188), the Bunk store and STAGE (R189
to R195), Cairn records (R308 to R311), with their commands.
-/

namespace Sys2Proof.Machine

/-! ## The Barrel -/

/-- BR_SIZE, the Barrel's capacity in bytes. -/
def barrelSize (s : State) : Nat := (getReg s Reg.BR_SIZE).toNat

/-- The enabled channels in ascending socket order. -/
def barrelChannels (s : State) : List Nat := (List.range 12).filter (fun k => (getReg s (Reg.BR_CHAN k)).getLsbD 30)

/-- The channel of a Barrel address (R175). -/
def barrelChannel (s : State) (a : Nat) : Nat :=
  let cs := barrelChannels s
  cs.getD (a / 4096 % cs.length) 0

/-- Bytes written to the Barrel; errors of sectors written whole are gone. -/
def putBarrel (s : State) (a : Nat) (bs : List Byte) : State :=
  let s := lnMoved s (42 + barrelChannel s a) bs.length 0
  { s with barrel := s.barrel.writeBytes a bs
           flaws := s.flaws.filter (fun f => match f with
             | .barrel sec _ => !(decide (a ≤ sec) && decide (sec + 64 ≤ a + bs.length))
             | _ => true) }

/-- The latent Barrel errors of a range are met (R176): counted by channel, corrected ones logged. -/
def noteBarrelEcc (s : State) (a n : Nat) : State :=
  s.flaws.foldl (fun s f => match f with
    | .barrel sec ue =>
      if sec < a + n ∧ a < sec + 64 then
        let k := barrelChannel s sec
        if ue then countField s (Reg.BR_ECC k) 0 16 1 else logEvent (countField s (Reg.BR_ECC k) 16 16 1) 0x0802
      else s
    | _ => s) s

/-- Whether a Barrel range holds an uncorrectable error. -/
def barrelUe (s : State) (a n : Nat) : Bool :=
  s.flaws.any (fun f => match f with
    | .barrel sec ue => ue && decide (sec < a + n) && decide (a < sec + 64)
    | _ => false)

/-- A far read of the Barrel: bytes, whether they are good, state. -/
def readBarrel (s : State) (a n : Nat) : List Byte × Bool × State :=
  (s.barrel.readBytes a n, !barrelUe s a n, noteBarrelEcc (lnMoved s (42 + barrelChannel s a) 0 n) a n)

/-- Whether an HBM range holds an uncorrectable error. -/
def hbmUe (s : State) (a n : Nat) : Bool :=
  s.flaws.any (fun f => match f with
    | .hbm sec ue => ue && decide (sec < a + n) && decide (a < sec + 32)
    | _ => false)

/-- The latent HBM errors of a range are met by a far or host access (R169). -/
def noteHbmEcc (s : State) (a n : Nat) : State :=
  let lines := (s.flaws.filterMap (fun f => match f with
    | .hbm sec _ => if sec < a + n ∧ a < sec + 32 then some (sec / 128 * 128) else none
    | _ => none)).eraseDups
  lines.foldl (fun s l => noteTrackEcc s (l / (24 * 2 ^ 31)) l true) s

/-- A far or host read of HBM: bytes, whether they are good, state. -/
def readHbm (s : State) (a n : Nat) : List Byte × Bool × State :=
  (s.hbm.readBytes a n, !hbmUe s a n, noteHbmEcc (lnHbm s 0 a n 0 4) a n)

/-- PATROL_SCRUB (R176): every Barrel error is met; corrected ones are mended. -/
def patrolScrub (s : State) : State :=
  let s := noteBarrelEcc s 0 (barrelSize s)
  { s with flaws := s.flaws.filter (fun f => match f with
      | .barrel sec ue => ue || decide (barrelSize s ≤ sec)
      | _ => true) }

/-! ## Undefined bytes (R182) -/

/-- n bytes from free lines. -/
def freeBytes (s : State) (n : Nat) : List Byte × State :=
  ((List.range n).map (fun i => lineByte (Config.freeLine (s.free + i / 128)) (i % 128)), { s with free := s.free + (n + 127) / 128 })

/-- A range of HBM becomes undefined. -/
def undefineHbm (s : State) (a n : Nat) : State := let (bs, s) := freeBytes s n; putHbm s a bs
/-- A range of the Barrel becomes undefined. -/
def undefineBarrel (s : State) (a n : Nat) : State := let (bs, s) := freeBytes s n; putBarrel s a bs

/-- Bytes written to HBM by a far request: slots written into lose their standing (R198). -/
def farPut (s : State) (a : Nat) (bs : List Byte) : State := storeHbm (lnHbm s 1 a bs.length 0 4) a bs

/-- Every byte of a slot becomes undefined. -/
def undefineSlot (s : State) (p : Pitch) (k : Nat) : State :=
  emptySlot ((List.range (p.slotSize / 32768)).foldl (fun s i =>
    let (bs, s) := freeBytes s 32768
    putHbm s (slotAddr p k (32768 * i)) bs) s) k

/-- The first bytes of a slot, as its tracks hold them. -/
def slotBytes (s : State) (p : Pitch) (k n : Nat) : List Byte :=
  ((List.range (ceilDiv n 32768)).flatMap (fun i => s.hbm.readBytes (slotAddr p k (32768 * i)) 32768)).take n

/-- The table's or store's bytes of an entry with some replaced, and STREAM written as the Hub writes it (Table 8.7). -/
def bunkPatched (i off : Nat) (old bs : List Byte) : List Byte :=
  let new := old.take off ++ bs ++ old.drop (off + bs.length)
  new.take 8 ++ leBytes 4 i ++ new.drop 12

/-- Bytes of a held entry replaced: the Hub writes its STREAM too (log entry 96). -/
def setBunkBytes (s : State) (i off : Nat) (bs : List Byte) : State :=
  { s with far := { s.far with bunks := s.far.bunks.map (fun e =>
      if e.1 = i then (i, { bytes := bunkPatched i off e.2.bytes bs, changed := true }) else e) } }

/-- The Barrel or HBM pages that a request has handled become undefined, where it leaves them. -/
def undefinePages (s : State) (q : FarReq) : State :=
  let base := leField (bunkBytes s q.session) 72 4
  (List.range q.pages).foldl (fun s k =>
    let a := fieldN (topoRaw s (base + q.page + k)) 64 64
    if 2 ^ 63 ≤ a then undefineBarrel s (a % 2 ^ 63) (2 ^ 20) else
      let (bs, s) := freeBytes s (2 ^ 20)
      farPut s a bs) s

/-- The bytes a request should have written become undefined (R182). -/
def undefineTarget (s : State) (q : FarReq) : State :=
  if q.slotLoad then
    match s.pitch with
    | some p => undefineSlot s p q.aslot
    | none => s
  else match q.op with
    | 1 => (slotsIn s q.dst q.len).foldl emptySlot (undefineHbm s q.dst q.len)
    | 3 => (slotsIn s q.dst q.len).foldl emptySlot (undefineHbm s q.dst q.len)
    | 2 => undefineBarrel s q.dst q.len
    | 5 => (slotsIn s q.dst (q.npages * 2 ^ 20)).foldl emptySlot (undefineHbm s q.dst (q.npages * 2 ^ 20))
    | 6 => undefineBarrel s q.dst (q.npages * 2 ^ 20)
    | 7 => undefinePages s q
    | 8 =>
      let (a, s) := freeBytes s 12
      let (h, s) := freeBytes s 32
      let s := setBunkBytes s q.session 12 a
      if q.emit then undefineHbm (setBunkBytes s q.session 128 h) q.dst 256 else s
    | _ => s

/-! ## Data operations -/

/-- The adapter slots that a request reads or writes. -/
def reqSlots (s : State) (q : FarReq) : List Nat :=
  let base := leField (bunkBytes s q.session) 72 4
  let pages := (List.range q.npages).flatMap (fun k =>
    let a := fieldN (topoRaw s (base + q.page + k)) 64 64
    if 2 ^ 63 ≤ a then [] else slotsIn s a (2 ^ 20))
  match q.op with
  | 1 | 3 => if q.slotLoad then [q.aslot] else slotsIn s q.dst q.len
  | 2 | 4 => if q.srcw then [] else slotsIn s q.src q.len
  | 5 => slotsIn s q.dst (q.npages * 2 ^ 20) ++ pages
  | 6 | 7 => pages
  | _ => if q.emit then slotsIn s q.dst 256 ++ slotsIn s q.iaddr q.ilen ++ slotsIn s q.oaddr q.olen else []

/-- Whether two requests touch the same Topo page, adapter slot or Bunk (R181). -/
def reqsMeet (s : State) (q o : FarReq) : Bool :=
  let entry (r : FarReq) : Nat := leField (bunkBytes s r.session) 72 4 + r.page
  ((q.paged || q.op == 8) && (o.paged || o.op == 8) && q.session == o.session) ||
  (q.paged && o.paged && decide (entry q < entry o + o.npages) && decide (entry o < entry q + q.npages)) ||
  (reqSlots s q).any (reqSlots s o).contains

/-- A request's place in the order in which requests that meet are applied (R181): that of its acceptance, but that the CAIRNs of a
session take their places by FQPOST beat, then queue. -/
def reqTurn (s : State) (q : FarReq) : Nat :=
  if q.op ≠ 8 then q.id
  else
    let cairns := s.far.reqs.filter (fun o => o.op == 8 && o.session == q.session)
    let before (o : FarReq) : Bool := decide (o.beat < q.beat) || (o.beat == q.beat && decide (o.queue < q.queue)) ||
      (o.beat == q.beat && o.queue == q.queue && decide (o.id < q.id))
    (cairns.map (·.id)).getD (cairns.filter before).length q.id

/-- Whether a request must wait for one that meets it to complete first (R181); a CAIRN waits until no region can post one at an
earlier beat. -/
def mustWait (s : State) (q : FarReq) : Bool :=
  s.far.reqs.any (fun o => o.id != q.id && decide (reqTurn s o < reqTurn s q) && reqsMeet s q o) ||
  (q.op == 8 && !(s.tarp.struck || s.pacer.mode == .armed || s.pacer.mode == .off || allCompleted s q.beat))

/-- A request carried out now as far as its tracks serve it: number k of its queue, of operation `op`, not done, its turn come, the
module awake for it (R332). -/
def withFar (s : State) (queue k op : Nat) (f : FarReq → State → State) : State :=
  match (s.far.reqs.filter (fun r => r.queue == queue))[k]? with
  | some q =>
    if q.op = op && !q.done && !mustWait s q then
      let s := wakeTo s (if q.op = 3 ∨ q.op = 4 ∨ 7 < q.op then 2 else 1)
      if awake s then f q s else s
    else s
  | none => s

/-- A request has been carried out. -/
def finishReq (s : State) (q : FarReq) : State := setReq s q.id fun r => { r with done := true }

/-- A part of a request's bytes: the track it lies on, where it begins, how many bytes. -/
structure Part where
  track : Nat
  at_ : Nat
  len : Nat
  deriving DecidableEq, Repr

/-- The parts of a range of HBM, by track. -/
def rangeParts (a n : Nat) : List Part :=
  (rangeTracks a n).map fun t =>
    let lo := max a (t * 2 ^ 31)
    { track := t, at_ := lo, len := min (a + n) ((t + 1) * 2 ^ 31) - lo }

/-- Parts of a request moved, each where its track serves the request and it has not moved before (R163 to R165, R180). `move` moves
one, and answers the poison cause that stops the request, its target then undefined (R182). -/
def moveParts (id : Nat) (move : Part → State → Option Nat × State) : List Part → State → State
  | [], s => s
  | p :: rest, s =>
    match s.far.reqs.find? (fun r => r.id == id) with
    | none => s
    | some q =>
      if q.done then s
      else if q.moved.contains p.track then moveParts id move rest s
      else if inForce s q p.track then
        match move p s with
        | (some c, s) => poisonReq (undefineTarget s q) id c
        | (none, s) => moveParts id move rest (setReq s id fun r => { r with moved := p.track :: r.moved })
      else moveParts id move rest (awaitTracks s q [p.track])

/-- What follows once every part of a request has moved. -/
def onceMoved (s : State) (id : Nat) (parts : List Part) (f : State → State) : State :=
  match s.far.reqs.find? (fun r => r.id == id) with
  | some q => if !q.done && parts.all (fun p => q.moved.contains p.track) then f s else s
  | none => s

/-- Bytes of a request's source by offset and length: the bytes, whether they are good, and the state after. -/
abbrev Source := Nat → Nat → State → List Byte × Bool × State

/-- The blocks of a slot on one track, each written from the source and zeros past its end (R197). -/
def loadBlocks (p : Pitch) (q : FarReq) (src : Source) (cause : Nat) : List Nat → State → Option Nat × State
  | [], s => (none, s)
  | i :: rest, s =>
    let (bs, ok, s) := src (32768 * i) (min 32768 (q.len - 32768 * i)) s
    if ok then
      loadBlocks p q src cause rest (putHbm s (slotAddr p q.aslot (32768 * i)) (bs ++ List.replicate (32768 - bs.length) 0))
    else (some cause, s)

/-- A slot load (R197): LOADING, every track's blocks, then READY with the digest of the bytes written. -/
def loadSlot (s : State) (q : FarReq) (src : Source) (cause : Nat) : State :=
  match s.pitch with
  | none => s
  | some p =>
    if (listedSlots s).contains q.aslot then poisonReq s q.id 6
    else
      let ts := enabledTracks p
      let parts : List Part := ts.map fun t => { track := t, at_ := 0, len := 0 }
      let blocks (t : Nat) : List Nat :=
        (List.range (ceilDiv p.slotSize 32768)).filter (fun i => ts.getD (i % ts.length) 0 == t)
      let s := if q.moved = [] then setField s (Reg.AD_SLOT (8 * q.aslot)) 62 2 1 else s
      let s := moveParts q.id (fun t s => loadBlocks p q src cause (blocks t.track) s) parts s
      onceMoved s q.id parts fun s =>
        let d := sha256 (slotBytes s p q.aslot q.len)
        let s := (List.range 4).foldl (fun s i => setReg s (Reg.AD_SLOT (8 * q.aslot + 2 + i)) (BitVec.ofNat 64 (leField d (8 * i) 8))) s
        let s := setReg s (Reg.AD_SLOT (8 * q.aslot)) (BitVec.ofNat 64 (2 * 2 ^ 62 + q.adapter))
        finishReq (setReg s (Reg.AD_SLOT (8 * q.aslot + 1)) (BitVec.ofNat 64 q.len)) q

/-- Bytes landing in HBM for a BREAD or HREAD; a bad source poisons the request with `cause`. -/
def landRead (s : State) (q : FarReq) (src : Source) (cause : Nat) : State :=
  if q.slotLoad then loadSlot s q src cause
  else if (slotsIn s q.dst q.len).any (fun k => (listedSlots s).contains k) then poisonReq s q.id 6
  else
    let parts := rangeParts q.dst q.len
    let s := moveParts q.id (fun p s =>
      let (bs, ok, s) := src (p.at_ - q.dst) p.len s
      if ok then (none, farPut s p.at_ bs) else (some cause, s)) parts s
    onceMoved s q.id parts fun s => finishReq s q

/-- BREAD. -/
def doBread (q : FarReq) (s : State) : State :=
  if barrelSize s = 0 then poisonReq s q.id 4 else landRead s q (fun o n s => readBarrel s (q.src + o) n) 1

/-- HREAD: `data` are the bytes host memory returns, `err` a completion error; too few bytes are a completion timeout (R182). -/
def doHread (data : List Byte) (err : Bool) (q : FarReq) (s : State) : State :=
  if !hostUp s q.hport then poisonReq s q.id 4
  else landRead s q (fun o n s =>
    ((data.drop o).take n, !err && decide (q.len ≤ data.length), lnMoved s (54 + q.hport) 0 (min n (data.length - o)))) 2

/-- The lines of a full Hub window, or free bytes where a line arrived twice (R184). -/
def windowBytes (s : State) (w : HubWin) (n : Nat) : List Byte × State :=
  if w.undef then freeBytes s n else ((List.range w.len).flatMap (fun i => lineBytes (storeGet 0 w.lines i)), s)

/-- A BWRITE or HWRITE: from a full Hub window at once, from HBM part by part; `put` stores bytes at an offset of the target, and
`last` ends the request. -/
def sendOut (q : FarReq) (put : Nat → List Byte → State → State) (last : State → State) (s : State) : State :=
  match q.win with
  | some w =>
    if w.isOpen then s else let (bs, s) := windowBytes s w q.len; last (put 0 bs s)
  | none =>
    let parts := rangeParts q.src q.len
    let s := moveParts q.id (fun p s =>
      let (bs, ok, s) := readHbm s p.at_ p.len
      if ok then (none, put (p.at_ - q.src) bs s) else (some 1, s)) parts s
    onceMoved s q.id parts last

/-- BWRITE. -/
def doBwrite (q : FarReq) (s : State) : State :=
  if barrelSize s = 0 then poisonReq s q.id 4
  else sendOut q (fun o bs s => putBarrel s (q.dst + o) bs) (fun s => finishReq s q) s

/-- HWRITE; `err`: the read that orders the writes fails. -/
def doHwrite (err : Bool) (q : FarReq) (s : State) : State :=
  if !hostUp s q.hport then poisonReq s q.id 4
  else sendOut q (fun o bs s => emit (lnMoved s (54 + q.hport) bs.length 0) (.hostWrite q.hport (q.dst + o) bs))
    (fun s => if err then poisonReq s q.id 2 else finishReq s q) s

/-! ## The Bunk store (R190) -/

/-- BK_STAT's count of entries. -/
def noteStore (s : State) : State := setField s Reg.BK_STAT 0 13 s.far.bunks.length

/-- HBM address of a Bunk. -/
def bunkAddr (s : State) (i : Nat) : Nat :=
  match s.pitch with
  | some p => p.bunkBase + 256 * i
  | none => 256 * i

/-- A use of an entry of the store with an uncorrectable error is fault 0x280A (Table 8.12). -/
def checkBunk (s : State) (i : Nat) : State := if s.flaws.contains (.bunk i) then raiseModule s 0x280A else s

/-- A changed entry written back. -/
def writeBack (s : State) (i : Nat) : State :=
  match s.far.bunks.find? (fun e => e.1 == i) with
  | some e =>
    if e.2.changed then
      let s := storeHbm (checkBunk s i) (bunkAddr s i) e.2.bytes
      { s with far := { s.far with bunks := storePut s.far.bunks i { e.2 with changed := false } } }
    else s
  | none => s

/-- An entry dropped from the store, its latent error with it. -/
def dropBunk (s : State) (i : Nat) : State :=
  noteStore { s with far := { s.far with bunks := storeDel s.far.bunks i }, flaws := s.flaws.filter (fun f => f ≠ .bunk i) }

/-- Entry i loaded into the store if it is not held. A full store first evicts an unlisted entry, written back if changed; the
manual does not say which, so it is a free choice. -/
def loadBunk (s : State) (i : Nat) : State :=
  if s.far.bunks.any (fun e => e.1 == i) then s
  else
    let cand := (s.far.bunks.map (·.1)).filter (fun k => !(listedSessions s).contains k)
    let s := if s.far.bunks.length < 4096 ∨ cand = [] then s
      else
        let (w, s) := freshWord s
        let k := cand.getD (w.toNat % cand.length) 0
        dropBunk (writeBack s k) k
    let bs := s.hbm.readBytes (bunkAddr s i) 256
    noteStore { s with far := { s.far with bunks := storePut s.far.bunks i { bytes := bs, changed := false } } }

/-! ## Topo (R185 to R188) -/

/-- The CRC-16 of R185. -/
def crc16 (bs : List Byte) : Nat := bs.foldl (fun c b => crcMsb 16 0x1021 8 b.toNat c) 0xFFFF

/-- A field of an entry taken from 128 bits. -/
def topoField (e : BitVec 128) (lo len : Nat) : Nat := fieldN e.toNat lo len

/-- The 14 bytes that CHECK covers. -/
def topoBody (e : BitVec 128) : List Byte := (leBytes 16 e.toNat).drop 2

/-- An entry with its CHECK. -/
def topoEntry (addr gen index page state : Nat) : BitVec 128 :=
  let v := addr * 2 ^ 64 + gen * 2 ^ 60 + index * 2 ^ 44 + page * 2 ^ 24 + state * 2 ^ 16
  BitVec.ofNat 128 (v + crc16 ((leBytes 16 v).drop 2))

/-- A cached entry; a full cache drops one, which the manual does not name: a free choice. -/
def cacheTopo (s : State) (i : Nat) (e : BitVec 128) : State :=
  let s := if s.far.topo.length < 8192 ∨ s.far.topo.any (fun c => c.1 == i) then s
    else
      let (w, s) := freshWord s
      { s with far := { s.far with topo := s.far.topo.eraseIdx (w.toNat % 8192) } }
  { s with far := { s.far with topo := storePut s.far.topo i e } }

/-- Look-up of entry i (R188): the cached copy, or HBM's. -/
def lookTopo (s : State) (i : Nat) : BitVec 128 × State :=
  match s.far.topo.find? (fun c => c.1 == i) with
  | some c =>
    let s := countField s Reg.TP_CACHE 16 16 1
    (c.2, if s.flaws.contains (.topo i) then raiseModule s 0x280A else s)
  | none =>
    let e := BitVec.ofNat 128 (topoRaw s i)
    (e, cacheTopo (countField s Reg.TP_CACHE 0 16 1) i e)

/-- Entry i as a look-up would find it. -/
def peekTopo (s : State) (i : Nat) : BitVec 128 :=
  match s.far.topo.find? (fun c => c.1 == i) with
  | some c => c.2
  | none => BitVec.ofNat 128 (topoRaw s i)

/-- An entry written through to HBM (R188). -/
def writeTopo (s : State) (i : Nat) (e : BitVec 128) : State :=
  match s.pitch with
  | some p => cacheTopo (storeHbm s (p.topoBase + 16 * i) (leBytes 16 e.toNat)) i e
  | none => s

/-- Whether an entry may be used for page p of session i (R186). -/
def topoUsable (e : BitVec 128) (sess gen page : Nat) : Bool :=
  decide (topoField e 44 16 = sess) && decide (topoField e 60 4 = gen) && decide (topoField e 24 20 = page) &&
  decide (topoField e 16 8 ≤ 1) && decide (topoField e 0 16 = crc16 (topoBody e))

/-- A page location: in the Barrel or HBM, with its address. -/
structure PageAt where
  barrel : Bool
  addr : Nat
  deriving DecidableEq, Repr

/-- The location an ADDR field gives, and back. -/
def pageAt (a : Nat) : PageAt := { barrel := decide (2 ^ 63 ≤ a), addr := a % 2 ^ 63 }
/-- ADDR of a location. -/
def PageAt.bits (l : PageAt) : Nat := bit1 l.barrel * 2 ^ 63 + l.addr

/-- A page read. -/
def readPage (s : State) (l : PageAt) : List Byte × Bool × State :=
  if l.barrel then readBarrel s l.addr (2 ^ 20) else readHbm s l.addr (2 ^ 20)

/-- A page written by the far path. -/
def writePage (s : State) (l : PageAt) (bs : List Byte) : State := if l.barrel then putBarrel s l.addr bs else farPut s l.addr bs

/-- Whether a page in HBM lies in a slot that a listed session names (R198). -/
def pageInUse (s : State) (l : PageAt) : Bool :=
  !l.barrel && (slotsIn s l.addr (2 ^ 20)).any (fun k => (listedSlots s).contains k)

/-- Whether a page that a request finds through Topo is in bounds (R76, R178). -/
def pageInBounds (s : State) (q : FarReq) (write : Bool) (l : PageAt) : Bool :=
  inBounds s q.owner (if l.barrel then 2 else 1) write 0 l.addr (2 ^ 20)

/-- The tracks that a page operation on an entry accesses. -/
def PageAt.tracks (l : PageAt) : List Nat := if l.barrel then [] else [l.addr / 2 ^ 31]

/-- The tracks that a request accesses for one page (Table 8.6). -/
def pageNeeds (q : FarReq) (dst : PageAt) (e : BitVec 128) : List Nat :=
  let here := pageAt (topoField e 64 64)
  if topoField e 16 8 = 1 then
    if q.op = 7 then here.tracks else if here = dst then [] else here.tracks ++ dst.tracks
  else if q.op = 5 then dst.tracks else []

/-- What one page of a request does with a usable entry (Table 8.6): the poison cause, if any, and the state. A page out of bounds is
not accessed (R76); where the source cannot be read, the entry keeps the value it had (R187). -/
def doPage (q : FarReq) (sess gen page i : Nat) (dst : PageAt) (e : BitVec 128) (s : State) : Option Nat × State :=
  let here := pageAt (topoField e 64 64)
  let present := topoField e 16 8 = 1
  let moving := topoEntry (topoField e 64 64) gen sess page 2
  let done (s : State) (st : Nat) (l : PageAt) : Option Nat × State := (none, writeTopo s i (topoEntry l.bits gen sess page st))
  let zeros : List Byte := List.replicate (2 ^ 20) 0
  if q.op = 7 then
    if !present then (none, s)
    else if !pageInBounds s q true here then (some 9, raise s 0x2222 { region := q.owner, slot := 63, beat := q.beat })
    else if pageInUse s here then (some 6, s)
    else if here.barrel && barrelSize s = 0 then (some 4, s)
    else done (writePage (writeTopo s i moving) here zeros) 0 here
  else if !present then
    if q.op = 5 then
      if pageInUse s dst then (some 6, s) else done (writePage (writeTopo s i moving) dst zeros) 1 dst
    else (none, s)
  else if here = dst then (none, s)
  else if !pageInBounds s q false here then (some 9, raise s 0x2222 { region := q.owner, slot := 63, beat := q.beat })
  else if pageInUse s dst then (some 6, s)
  else if (here.barrel || dst.barrel) && barrelSize s = 0 then (some 4, s)
  else
    let (bs, ok, s) := readPage (writeTopo s i moving) here
    if ok then done (writePage s dst bs) 1 dst
    else
      let (bs, s) := freeBytes s (2 ^ 20)
      (some 1, writePage (writeTopo s i e) dst bs)

/-- How far the pages of a request have come: all handled, stopped by a poison cause, or waiting for tracks. -/
inductive PageEnd where
  | all
  | poison (cause : Nat)
  | waits
  deriving DecidableEq, Repr

/-- Pages from number k on, n of them, until one fails or lies on a track that does not serve the request now (R163, R186, R187). -/
def doPages (q : FarReq) (tab : Nat × Nat × Nat × Nat) : Nat → Nat → State → PageEnd × State
  | 0, _, s => (.all, s)
  | n + 1, k, s =>
    let (base, count, gen, tsize) := tab
    let page := q.page + k
    let i := base + page
    let dst : PageAt := { barrel := decide (q.op = 6), addr := q.dst + k * 2 ^ 20 }
    let needs := pageNeeds q dst (peekTopo s i)
    if count ≤ page ∨ tsize ≤ i then (.poison 3, s)
    else if topoUsable (peekTopo s i) q.session gen page && !needs.all (inForce s q) then (.waits, awaitTracks s q needs)
    else
      let (e, s) := lookTopo s i
      if !topoUsable e q.session gen page then (.poison 3, s)
      else match doPage q q.session gen page i dst e s with
        | (some c, s) => (.poison c, s)
        | (none, s) => doPages q tab n (k + 1) (setReq s q.id fun r => { r with pages := k + 1 })

/-- FILL, SPILL or SCRUB (R186, R187). -/
def doPaged (q : FarReq) (s : State) : State :=
  match s.pitch with
  | none => s
  | some p =>
    if p.bunkCount ≤ q.session then poisonReq s q.id 3
    else
      let s := checkBunk (loadBunk s q.session) q.session
      let b := bunkBytes s q.session
      let base := leField b 72 4
      let count := leField b 76 4
      if q.retire && (listedSessions s).contains q.session then poisonReq s q.id 6
      else if q.retire && !(q.page = 0 && q.npages = count) then poisonReq s q.id 3
      else
        match doPages q (base, count, leField b 68 1 % 16, p.topoCount) (q.npages - q.pages) q.pages s with
        | (.poison c, s) => poisonReq s q.id c
        | (.waits, s) => s
        | (.all, s) =>
          let s := if q.retire then
              setBunkBytes s q.session 68
                [BitVec.ofNat 8 (leField b 68 1 / 16 * 16 + (leField b 68 1 % 16 + 1) % 16), BitVec.ofNat 8 (leField b 69 1 / 2 * 2)]
            else s
          finishReq s q

/-! ## Cairns (R194, R308 to R311) -/

/-- The identity key is available: SEC_STAT.KEY_OK (R311, R384). -/
def keyOk (s : State) : Bool := (getReg s Reg.SEC_STAT).getLsbD 30

/-- The record proper of a Cairn (Table 13.7). `b` is the Bunk after STEP and TOKENS advanced, `step` the STEP before. -/
def cairnProper (s : State) (q : FarReq) (b : List Byte) (step : Nat) (signed : Bool) (inp outp : List Byte) : List Byte :=
  let aslot := leField b 24 4
  let noAd := aslot = 0xFFFFFFFF
  let wOk := getField s Reg.CR_WSTAT 31 1 = 1
  let w := if wOk then regBytes s Reg.CR_WDIGEST else List.replicate 32 0
  let a := if noAd then List.replicate 32 0
    else (List.range 4).flatMap (fun i => leBytes 8 (getReg s (Reg.AD_SLOT (8 * aslot + 2 + i))).toNat)
  let (strict, relaxed) := match s.pitch with
    | some p => (p.strict, p.relaxed)
    | none => (false, false)
  leBytes 1 1 ++ leBytes 1 (bit1 signed + 2 * bit1 (!wOk) + 4 * bit1 strict + 8 * bit1 relaxed + 16 * bit1 (decide noAd)) ++
  leBytes 2 q.session ++ (b.drop 28).take 4 ++ (if noAd then List.replicate 4 0 else (b.drop 64).take 4) ++
  leBytes 4 step ++ (b.drop 16).take 8 ++ (s.tset.drop 6).take 4 ++ List.replicate (4 - (s.tset.drop 6).length) 0 ++ leBytes 4 q.ntok ++
  regBytes s Reg.PT_LDIGEST ++ sha256 (w ++ a) ++ sha256 inp ++ sha256 outp ++ (b.drop 128).take 32

/-- EMIT (R194, R308 to R311): the record at DST, CAIRN_HEAD, CR_COUNT and CR_LAST. -/
def emitCairn (q : FarReq) (step : Nat) (s : State) : State :=
  let (inp, ok1, s) := readHbm s q.iaddr q.ilen
  let (outp, ok2, s) := readHbm s q.oaddr q.olen
  if !(ok1 && ok2) then poisonReq (undefineTarget s q) q.id 1
  else
      let b := bunkBytes s q.session
      let wantSign := leField b 69 1 / 2 % 2 = 1
      let signed := decide wantSign && keyOk s
      let s := if wantSign && !keyOk s then logEvent s 0x080D else s
      let proper := cairnProper s q b step signed inp outp
      let d := sha256 proper
      let tail := if signed then identitySign s d else List.replicate 64 0
      let s := setBunkBytes (farPut s q.dst (proper ++ tail)) q.session 128 d
      let s := countField s Reg.CR_COUNT 16 16 1
      let s := if signed then countField s Reg.CR_COUNT 0 16 1 else s
      finishReq (setRegBytes s Reg.CR_LAST d) q

/-- CAIRN (R194). -/
def doCairn (q : FarReq) (s : State) : State :=
  if !s.far.running.contains q.session then poisonReq s q.id 7
  else if q.emit && (slotsIn s q.dst 256).any (fun k => (listedSlots s).contains k) then poisonReq s q.id 6
  else if !(reqTracks s q).all (inForce s q) then awaitTracks s q (reqTracks s q)
  else
    let s := checkBunk (loadBunk s q.session) q.session
    let b := bunkBytes s q.session
    let step := leField b 12 4
    let s := setBunkBytes s q.session 12 (leBytes 4 (step + 1) ++ leBytes 8 (leField b 16 8 + q.ntok))
    if q.emit then emitCairn q step s else finishReq s q

/-! ## Poisoning from outside -/

/-- Whether a request has begun to write, or has been carried out, with no poison cause of its own. -/
def FarReq.started (q : FarReq) : Bool := q.poison.isNone && (q.done || q.moved != [] || decide (0 < q.pages))

/-- An outstanding request stopped from outside (R182, R183, R72, R337): what it should have written is undefined, unless it had not
started, when it writes nothing. -/
def abortReq (s : State) (q : FarReq) (cause : Nat) : State :=
  completeReq (if q.started then undefineTarget s q else s) { q with done := true, poison := some (q.poison.getD cause) }

/-- Every outstanding request that meets a condition is stopped; the places freed are for the regions that wait for them (R147). -/
def abortReqs (s : State) (c : FarReq → Bool) (cause : Nat) : State :=
  postWaiting ((s.far.reqs.filter c).foldl (fun s q => abortReq s q cause) s)

/-- FQ_CTL.DISABLE with FORCE (R183): the queue is disabled before a region that waited for a place in it posts. -/
def forceDisable (s : State) (q : Nat) : State := abortReqs (setField s (Reg.FQ_STAT q) 30 2 2) (fun r => r.queue == q) 5

/-! ## Bunk commands (R190, R191) -/

/-- A Bunk command refused: event 0x0807, ERR_CAUSE 7. -/
def refuseBunk (s : State) : State := logEvent (setField s Reg.BK_STAT 16 8 7) 0x0807

/-- Whether a Bunk command on an index is refused whatever it is: no Pitch, busy, an index of the lists or beyond the table. -/
def bunkRefused (s : State) (i : Nat) : Bool :=
  match s.pitch with
  | none => true
  | some p => s.far.loading.isSome || decide (p.bunkCount ≤ i) || (listedSessions s).contains i

/-- The launch list (R191). -/
def launchList (s : State) : List Nat :=
  (List.range (getField s Reg.BK_COUNT 0 7)).map (fun j => getField s (Reg.BK_LIST (j / 2)) (16 * (j % 2)) 16)

/-- The first check of R191 that a position fails: ERR_CAUSE. -/
def listCause (s : State) (p : Pitch) (list : List Nat) (i : Nat) : Option Nat :=
  let b := bunkBytes s i
  let aslot := leField b 24 4
  if p.bunkCount ≤ i then some 8
  else if leField b 69 1 % 2 = 0 then some 1
  else if leField b 8 4 ≠ i then some 2
  else if 1 < (list.filter (· == i)).length then some 3
  else if p.topoCount < leField b 72 4 + leField b 76 4 then some 4
  else if aslot = 0xFFFFFFFF then none
  else if 256 ≤ aslot ∨ slotState s aslot ≠ 2 then some 5
  else if getField s (Reg.AD_SLOT (8 * aslot)) 0 32 ≠ leField b 64 4 ∨
      (List.range 4).any (fun k => (getReg s (Reg.AD_SLOT (8 * aslot + 2 + k))).toNat ≠ leField b (96 + 8 * k) 8) then some 6
  else none

/-- STAGE (R191). Positions are checked in order. -/
def stageList (s : State) : State :=
  match s.pitch with
  | none => refuseBunk s
  | some p =>
    let list := launchList s
    if s.far.loading.isSome ∨ s.pacer.mode = .run ∨ s.pacer.mode = .held then refuseBunk s
    else
      let s := (list.filter (fun i => s.far.bunks.any (fun e => e.1 == i))).foldl checkBunk s
      match (List.range list.length).findSome? (fun j => (listCause s p list (list.getD j 0)).map (fun c => (j, c))) with
      | some (j, c) =>
        let s := setField (setField { s with far := { s.far with staged := [] } } Reg.BK_STAT 31 1 0) Reg.BK_STAT 16 8 c
        pulse (logEvent (setReg s Reg.BK_ERR_POS (BitVec.ofNat 64 (j * 2 ^ 16 + list.getD j 0))) 0x0807) 151
      | none =>
        let s := { s with far := { s.far with loading := some list, staged := [] } }
        setField (setField (setField s Reg.BK_STAT 30 1 1) Reg.BK_STAT 16 8 0) Reg.BK_STAT 31 1 0

/-- The base-line writes of a launch (R192), due in every region: line l at beat 64 + l. -/
def queueBunkLoad (s : State) : State :=
  let s := s.far.running.foldl checkBunk s
  let entries := s.far.running.map (fun i => bunkBytes s i)
  let half (j : Nat) : List Byte := ((entries.getD j []) ++ List.replicate 64 0).take 64
  let lines : List Due := tab 32 fun l =>
    { beat := 64 + l, issue := 0, slot := 63, op := .sackPut 31 (8160 + l) (lineOf (half l ++ half (l + 32))) fullMask }
  modRegions s fun g => { g with due := g.due ++ lines }

/-- STAGE_COMPLETE (R191, R193): the entries are in the store; a launch that waits starts its Bunk load. -/
def stageComplete (s : State) : State :=
  match s.far.loading with
  | none => s
  | some list =>
    let s := list.foldl loadBunk s
    let s := pulse (setField (setField s Reg.BK_STAT 30 1 0) Reg.BK_STAT 31 1 1) 151
    let wait := s.far.bunkWait
    let s := { s with far := { s.far with loading := none, staged := list, bunkWait := false } }
    if wait then queueBunkLoad s else s

/-- LOAD. -/
def bunkLoadCmd (s : State) (i : Nat) : State := if bunkRefused s i then refuseBunk s else loadBunk s i

/-- EVICT. -/
def evictCmd (s : State) (i : Nat) : State := if bunkRefused s i then refuseBunk s else dropBunk (writeBack s i) i

/-- INVAL. -/
def invalCmd (s : State) (i : Nat) : State := if bunkRefused s i then refuseBunk s else dropBunk s i

/-- FLUSH. -/
def flushCmd (s : State) : State :=
  if s.pitch.isNone ∨ s.far.loading.isSome then refuseBunk s
  else s.far.bunks.foldl (fun t e => writeBack t e.1) s

/-- A write of BK_LIST(i), or of BK_COUNT for i = 32 (R191). -/
def writeList (s : State) (i : Nat) (v : W32) : State :=
  if s.pacer.mode = .run ∨ s.pacer.mode = .held then s
  else
    let s := if i < 32 then setReg s (Reg.BK_LIST i) (v.setWidth 64)
      else if 1 ≤ v.toNat % 128 ∧ v.toNat % 128 ≤ 64 then setReg s Reg.BK_COUNT ((v &&& 0x7F).setWidth 64)
      else s
    setField { s with far := { s.far with staged := [] } } Reg.BK_STAT 31 1 0

/-! ## The commands -/

/-- PATROL_SCRUB. -/
def execPatrolScrub (s : State) : Host.Outcome State Fault Refusal := .next (patrolScrub s)

/-- BREAD. -/
def execBread (q : Fin 64) (k : Fin 32) (s : State) : Host.Outcome State Fault Refusal := .next (withFar s q.val k.val 1 doBread)

/-- BWRITE. -/
def execBwrite (q : Fin 64) (k : Fin 32) (s : State) : Host.Outcome State Fault Refusal := .next (withFar s q.val k.val 2 doBwrite)

/-- HREAD. -/
def execHread (q : Fin 64) (k : Fin 32) (data : List Byte) (err : Bool) (s : State) : Host.Outcome State Fault Refusal :=
  .next (withFar s q.val k.val 3 (doHread data err))

/-- HWRITE. -/
def execHwrite (q : Fin 64) (k : Fin 32) (err : Bool) (s : State) : Host.Outcome State Fault Refusal :=
  .next (withFar s q.val k.val 4 (doHwrite err))

/-- FILL. -/
def execFill (q : Fin 64) (k : Fin 32) (s : State) : Host.Outcome State Fault Refusal := .next (withFar s q.val k.val 5 doPaged)

/-- SPILL. -/
def execSpill (q : Fin 64) (k : Fin 32) (s : State) : Host.Outcome State Fault Refusal := .next (withFar s q.val k.val 6 doPaged)

/-- SCRUB. -/
def execScrub (q : Fin 64) (k : Fin 32) (s : State) : Host.Outcome State Fault Refusal := .next (withFar s q.val k.val 7 doPaged)

/-- CAIRN. -/
def execCairn (q : Fin 64) (k : Fin 32) (s : State) : Host.Outcome State Fault Refusal := .next (withFar s q.val k.val 8 doCairn)

/-- FAR_COMPLETION. -/
def execFarCompletion (q : Fin 64) (k : Fin 32) (s : State) : Host.Outcome State Fault Refusal :=
  .next (completeFar s q.val k.val)

/-- HUB_WINDOW_ARRIVAL. -/
def execHubWindowArrival (a : Fin 2) (flip : Option (BitVec 11)) (s : State) : Host.Outcome State Fault Refusal :=
  .next (hubTake s a.val flip)

/-- FQ_ENABLE. -/
def execFqEnable (w : Requester) (q : Fin 64) (s : State) : Host.Outcome State Fault Refusal :=
  .next (byWriter s w fun s => enableQueue s q.val)

/-- FQ_DISABLE. -/
def execFqDisable (w : Requester) (q : Fin 64) (s : State) : Host.Outcome State Fault Refusal :=
  .next (byWriter s w fun s => disableQueue s q.val)

/-- FQ_FORCE_DISABLE. -/
def execFqForceDisable (w : Requester) (q : Fin 64) (s : State) : Host.Outcome State Fault Refusal :=
  .next (byWriter s w fun s => forceDisable s q.val)

/-- FQ_DISABLE_EFFECT. -/
def execFqDisableEffect (q : Fin 64) (s : State) : Host.Outcome State Fault Refusal := .next (disableEffect s q.val)

/-- STAGE. -/
def execStage (w : Requester) (s : State) : Host.Outcome State Fault Refusal := .next (byWriter s w stageList)

/-- STAGE_COMPLETE. -/
def execStageComplete (s : State) : Host.Outcome State Fault Refusal := .next (stageComplete s)

/-- BUNK_LOAD. -/
def execBunkLoad (w : Requester) (i : BitVec 16) (s : State) : Host.Outcome State Fault Refusal :=
  .next (byWriter s w fun s => bunkLoadCmd s i.toNat)

/-- EVICT. -/
def execEvict (w : Requester) (i : BitVec 16) (s : State) : Host.Outcome State Fault Refusal :=
  .next (byWriter s w fun s => evictCmd s i.toNat)

/-- INVAL. -/
def execInval (w : Requester) (i : BitVec 16) (s : State) : Host.Outcome State Fault Refusal :=
  .next (byWriter s w fun s => invalCmd s i.toNat)

/-- FLUSH. -/
def execFlush (w : Requester) (s : State) : Host.Outcome State Fault Refusal := .next (byWriter s w flushCmd)

/-- BK_LIST_WRITE. -/
def execBkListWrite (w : Requester) (i : Fin 33) (v : BitVec 32) (s : State) : Host.Outcome State Fault Refusal :=
  .next (byWriter s w fun s => writeList s i.val v)

end Sys2Proof.Machine
end

