-- ==== Sys2Proof/Machine/Pacer.lean ====
section
/-!
DEFINITION. Machine/Pacer.lean: permits, pace changes and lag (chapter 02).
-/

namespace Sys2Proof.Machine

/-- The eight stretches and shrinks of an epoch's dither (R38). -/
def ditherSigns (e : Nat) : List Int :=
  let w := kindling (indexCtr (BitVec.ofNat 64 e) 0x0D17 0) 0 0
  (List.range 4).flatMap fun i => if w.c0.getLsbD i then [-1, 1] else [1, -1]

/-- pos_k of R38, in 1/256 tick after the epoch's first tick. -/
def permitOffset (dither : Bool) (e n k : Nat) : Nat :=
  let a := k * 262144
  if !dither then a / n
  else
    let sg := ditherSigns e
    let j := a / (32768 * n)
    let sum := (sg.take j).foldl (· + ·) 0
    ((200 * (a : Int) + 32768 * n * sum + sg.getD j 0 * ((a : Int) - 32768 * n * j)) / (200 * (n : Int))).toNat

/-- CAL permits are timed by the local tick counter: until the first Compass epoch boundary after there is a count (R40). -/
def byLocal (s : State) : Bool := s.pacer.mode == .cal && (s.pacer.onLocal || !s.compass.valid)

/-- The time base of the pacer in 1/256 tick (R40): the Compass, or in CAL the local tick counter. -/
def pacerNow (s : State) : Nat := if byLocal s then localNow s else nowUnits s

/-- The pace in force (Table 2.6): 0 in OFF, 1,311 in CAL. -/
def paceView (s : State) : Nat :=
  match s.pacer.mode with
  | .off => 0
  | .cal => 1311
  | _ => s.pacer.n

/-- The pace that the voltage serves: while a raise is pending, the higher of the pace in force and the pending one (R46). -/
def paceServed (s : State) : Nat :=
  match s.pacer.pend with
  | some (n, _) => if s.pitch.isSome then max n (paceView s) else paceView s
  | none => paceView s

/-- The capability that R46 asks of every region, in beats per epoch. -/
def capNeeded (s : State) : Nat := ceilDiv (paceServed s * (100 + getField s Reg.PACE_VMARGIN 0 5)) 100

/-- PACE_VTGT: the core voltage that gives the needed capability, 0.85 V with no Pitch, 0.65 V in the low state (R46, R328). -/
def voltTarget (s : State) : Nat :=
  if s.firewatch.low then 650 else if s.pitch.isNone then 850 else Config.voltageFor (capNeeded s) % 1024

/-- The core voltage reaches `mv`, a rise by at most 10 mV/µs since it was last followed, within 0.65 V to 0.85 V (R46, R325). -/
def followVolt (s : State) (mv : Nat) : State :=
  let most := s.pacer.volt + (s.time - s.pacer.voltAt) / 4000
  { s with pacer := { s.pacer with volt := max 650 (min (min mv most) 850), voltAt := s.time } }

/-- The time at which the next permit falls due in RUN and CAL, if it falls before the next epoch boundary (R37 to R40). -/
def permitTime (s : State) : Option Nat :=
  let p := s.pacer
  let n := if p.mode = .cal then 1311 else p.n
  let dither := p.mode ≠ .cal ∧ getField s Reg.PACE_CTL 2 1 = 1
  if n = 0 then none
  else match p.base with
    | some (e, b0) =>
      let k := p.released - b0
      if k < n then some (e * 262144 + permitOffset dither e n k) else none
    | none =>
      let t := (p.anchorAt : Int) + (((p.released : Int) - p.anchorBeat) * 262144) / (n : Int)
      if t < (p.anchorEnd : Nat) then some t.toNat else none

/-- No permit past the beat at which the pacer stops is released any more (R63, R146). -/
def capPermits (s : State) (n : Nat) : Nat :=
  match s.pacer.stopAt with
  | some b => if s.pacer.mode = .run then max s.pacer.released (min n (b + 1)) else n
  | none => n

/-- Whether permits are released: in CAL, and in RUN until the job is struck (R260). -/
def permitsRun (s : State) : Bool := s.pacer.mode == .cal || (s.pacer.mode == .run && !s.tarp.struck)

/-- The first permit after a hold is captured with its own time (R290). -/
def noteResume (s : State) : State :=
  if s.pacer.resuming then
    let p := s.pacer
    let t := (p.anchorAt : Int) + (((p.released : Int) - p.anchorBeat) * 262144) / (max 1 p.n : Int)
    captureAt { s with pacer := { p with resuming := false } } t.toNat 5 p.released
  else s

/-- The next permit is released if it is due (R37, R39). -/
def releasePermit (s : State) : State :=
  if permitsRun s ∧ s.pacer.released < capPermits s (s.pacer.released + 1) then
    match permitTime s with
    | some t =>
      if t ≤ pacerNow s then
        let s := noteResume s
        { s with pacer := { s.pacer with released := s.pacer.released + 1 } }
      else s
    | none => s
  else s

/-- The number of the first permit that falls due at or after the end of an epoch: a full epoch gives exactly PACE_N, a partial
schedule every permit that falls before the boundary (R37, R39, R251). -/
def epochEnd (s : State) (bound : Nat) : Nat :=
  let p := s.pacer
  let n := if p.mode = .cal then 1311 else p.n
  match p.base with
  | some (e, b0) => b0 + if p.mode = .cal then min n (ceilDiv ((bound - e * 262144) * n) 262144) else n
  | none =>
    -- permits x_A + i with anchor + floor(i × 262,144 / n) before the boundary
    (p.anchorBeat - (((p.anchorAt : Int) - bound) * n) / 262144).toNat

/-- An epoch starts at `at_` of the pacer's time base: the permits still owed, and a schedule anew from epoch e (R37, R39). -/
def startEpoch (s : State) (at_ e : Nat) : State :=
  if permitsRun s then
    let b0 := epochEnd s at_
    let n := capPermits s (max s.pacer.released b0)
    let s := if s.pacer.released < n then noteResume s else s
    { s with pacer := { s.pacer with released := n, base := some (e, b0) } }
  else s

/-- What the end of an epoch finds in the capabilities (R47, R48): PACE_CAP has stayed below the pace in force where neither it nor
its highest value since was above; the voltage meets R46 where the capability now does. -/
def checkCap (s : State) (cap top mv : Nat) : State :=
  let full := decide (s.pacer.volt = 850)
  let low := decide (max (max (getReg s Reg.PACE_CAP).toNat top) cap < paceView s)
  let s := followVolt (setReg s Reg.PACE_CAP (BitVec.ofNat 64 cap)) mv
  let s := { s with pacer := { s.pacer with vready := decide (capNeeded s ≤ cap) } }
  if low then
    let s := setBits s Reg.PACE_ERR 0x10
    if full && decide (s.pacer.volt = 850) then raiseModule s 0x2103 else s
  else s

/-- The armed change whose epoch e is takes effect; a raise that the voltage does not meet is late (R45, R47). With no Pitch applied a
change alters no permit and is no raise of a pace, so it is never late (DESIGN CHOICE, log entry 80). -/
def takePace (s : State) (e : Nat) : State :=
  match s.pacer.pend with
  | some (n, at_) =>
    if at_ = e then
      let late := s.pitch.isSome && decide (s.pacer.n < n) && !s.pacer.vready
      let s := { s with pacer := { s.pacer with pend := none, n := if s.pitch.isSome then n else s.pacer.n } }
      if late then logEvent (setBits s Reg.PACE_ERR 0x8) 0x0104 else s
    else s
  | none => s

/-- PACE_EPOCH_BOUNDARY (R37, R40, R45 to R48), at an epoch's first tick: of the Compass, or else of the local tick counter that
times CAL. `cap`: the lowest capability of a region now, `top`: its highest value in the epoch that ends, `mv`: the core voltage
reached. A launch and the boundary of one tick act in the order in which their commands come (DESIGN CHOICE, log entry 81). -/
def epochBoundary (s : State) (cap top mv : Nat) : State :=
  let e := nowUnits s / 262144
  let l := localNow s / 262144
  if s.compass.valid ∧ nowUnits s % 262144 < 256 ∧ s.pacer.epochSeen ≠ some e then
    let s := startEpoch s (if byLocal s then localNow s else e * 262144) e
    takePace (checkCap { s with pacer := { s.pacer with epochSeen := some e, onLocal := false } } cap top mv) e
  else if byLocal s ∧ localNow s % 262144 < 256 ∧ s.pacer.localSeen ≠ some l then
    let s := startEpoch s (l * 262144) l
    checkCap { s with pacer := { s.pacer with localSeen := some l } } cap top mv
  else s

/-- The highest pace of the grade (Table 0.2): HUB_PART holds the grade. -/
def gradeMax (s : State) : Nat := if s.identity.gradeS then 9175 else 10485

/-- An arm of a pace change (R44). A valid arm replaces any pending change. The range is asked first: an arm that fails both checks
sets RANGE alone (DESIGN CHOICE, log entry 82). -/
def armPace (s : State) (n epoch : Nat) : State :=
  let inForce := if s.pitch.isSome then s.pacer.n else 0
  let top := if s.pitch.isSome then min (gradeMax s) (getField s Reg.PACE_DESIGN 0 14) else gradeMax s
  if n < 1311 ∨ top < n then logEvent (setBits s Reg.PACE_ERR 0x1) 0x0106
  else if (if inForce < n then epoch < nowEpoch s + 4 else epoch < nowEpoch s + 1) then
    logEvent (setBits s Reg.PACE_ERR 0x2) 0x0106
  else { s with pacer := { s.pacer with pend := some (n, epoch) } }

/-- Whether a write of PACE_NEXT or PACE_AT is ignored: a host's, while a Pitch is applied (R44). -/
def paceLocked (s : State) (q : Requester) : Bool :=
  s.pitch.isSome && (match q with
    | .host _ => true
    | .ranger => false)

/-- PACE_ARM (R44). -/
def writePaceAt (s : State) (q : Requester) (w : HalfWrite) : State :=
  let (v, s) := formHalf s q Reg.PACE_AT w
  if paceLocked s q then s
  else
    let s := setReg s Reg.PACE_AT (v &&& 0x003FFFFFFFFFFFFF)
    armPace s (getField s Reg.PACE_NEXT 0 14) (fieldN v.toNat 0 54)

/-- PACE_CANCEL (R44). -/
def cancelPace (s : State) (q : Requester) : State :=
  if paceLocked s q then s else { s with pacer := { s.pacer with pend := none } }

/-- Beats that a region has begun since launch, those of CAL among them (R41, R50). -/
def beatsBegun (s : State) (r : Fin 32) : Nat :=
  if s.pacer.mode = .cal then s.pacer.kept + storeGet 0 s.pacer.calBegun r.val else (s.regions[r]).begun

/-- The lag of a region (R41). -/
def regionLag (s : State) (r : Fin 32) : Nat := s.pacer.released - beatsBegun s r

/-- A beat of CAL (R28, R41): no row issues in it, so it is complete as it begins (log entry 61). -/
def calBeat (s : State) (r : Fin 32) : State :=
  let b (k : Nat) : Nat := storeGet 0 s.pacer.calBegun k
  if beatsBegun s r < s.pacer.released ∧ (neighbours r.val).all (fun k => decide (b r.val ≤ b k + 3)) then
    { s with pacer := { s.pacer with calBegun := storePut s.pacer.calBegun r.val (b r.val + 1) } }
  else s

/-- The module's lag and the region that has it, the lowest of several (R41, Table 2.6). -/
def moduleLag (s : State) : Nat × Nat :=
  (List.finRange 32).foldl (fun (m : Nat × Nat) r => if m.1 < regionLag s r then (regionLag s r, r.val) else m) (0, 0)

/-- PACE_LAG_PEAK follows the lag. -/
def noteLag (s : State) : State :=
  let l := moduleLag s
  if s.pacer.lagPeak.1 < l.1 then { s with pacer := { s.pacer with lagPeak := l } } else s

/-- The hold of an emergency in progress is being raised (R328). -/
def noteRaised (s : State) : State :=
  modFire s fun f => { f with ehold := f.ehold.map fun e => { e with raised := some (e.raised.getD (nowEpoch s)) } }

/-- LAG_CEILING_HOLD (R42). -/
def lagCeiling (s : State) : State :=
  if s.pacer.mode = .run ∧ s.tarp.struck = false ∧ getField s Reg.PACE_LAG_MAX 0 11 < (moduleLag s).1 then
    let s := logEvent (setBits s Reg.PACE_ERR 0x4) 0x0105
    raiseHold (noteRaised s) (s.pacer.released - 1) .lag
  else s

/-- BEAT_HANG (R43): a beat begun and not completed within PACE_HANG ticks, with no declared wait. -/
def hangCheck (s : State) (r : Fin 32) : State :=
  let g := s.regions[r]
  if g.completed < g.begun ∧ g.waits.isEmpty ∧ g.held = 0 ∧ g.asleep = 0 ∧
      getField s Reg.PACE_HANG 0 24 * 256 ≤ s.time - g.hangFrom then
    raiseAt s 0x3102 r 63
  else s

/-- PERMIT_RELEASE. -/
def execPermitRelease (s : State) : Host.Outcome State Fault Refusal := .next (noteLag (releasePermit s))

/-- PACE_EPOCH_BOUNDARY. -/
def execPaceEpochBoundary (cap top : BitVec 15) (mv : BitVec 10) (s : State) : Host.Outcome State Fault Refusal :=
  .next (noteLag (epochBoundary s cap.toNat top.toNat mv.toNat))

/-- PACE_ARM. -/
def execPaceArm (q : Requester) (w : HalfWrite) (s : State) : Host.Outcome State Fault Refusal :=
  .next (byWriter s q fun s => writePaceAt s q w)

/-- PACE_CANCEL. -/
def execPaceCancel (q : Requester) (s : State) : Host.Outcome State Fault Refusal :=
  .next (byWriter s q fun s => cancelPace s q)

/-- LAG_CEILING_HOLD. -/
def execLagCeilingHold (s : State) : Host.Outcome State Fault Refusal := .next (lagCeiling s)

/-- BEAT_HANG. -/
def execBeatHang (r : Fin 32) (s : State) : Host.Outcome State Fault Refusal := .next (hangCheck s r)

end Sys2Proof.Machine
end

