-- ==== Sys2Proof/Machine/Links.lean ====
section
/-!
DEFINITION. Machine/Links.lean: the Guyline links (chapter 09): packs, acknowledgement and replay, credits, states and
retraining, identity.
-/

namespace Sys2Proof.Machine

/-! ## Packs (R205 to R208) -/

/-- CHECK of a pack under an epoch and sequence number (R206). -/
def packCheck (epoch : W32) (seq : Nat) (bytes : List Byte) : Nat :=
  crc64 (2 ^ 64 - 1) (leBytes 8 (epoch.toNat * 2 ^ 32 + seq) ++ bytes)
    ^^^ (2 ^ 64 - 1)

/-- The 132 bytes of a record (Table 9.5). -/
def OutRec.bytes (q : OutRec) : List Byte :=
  leBytes 4 (2 ^ 30 + q.wid * 2 ^ 27 + q.seq * 2 ^ 11 + q.sbeat) ++ lineBytes q.data

/-- Bytes still to send of an egress queue (no more than one payload needs), and the payload with its FIRST field. -/
def schedPayload (g : Port) : List Byte × Nat :=
  let stream := ((g.egress.take 4).flatMap OutRec.bytes).drop g.cut
  let body := stream.take 240
  (body ++ List.replicate (240 - body.length) 0, if g.cut = 0 then 0 else (132 - g.cut) / 4)

/-- The egress queue after n bytes of it are in a pack. -/
def takeEgress (g : Port) (n : Nat) : Port :=
  let pos := g.cut + n
  { g with egress := g.egress.drop (pos / 132), cut := pos % 132 }

/-- The next of the lines that a port unit could not accept goes in, as room allows; with none left the port unit acknowledges
(R215). -/
def unblockPort (s : State) (p : Fin 10) : State :=
  let g := s.ports[p]
  let room := if 2048 ≤ g.buffer.length then 0 else 4096 - g.egress.length
  if g.blocked = [] ∨ room = 0 then s
  else
    let s := modPort s p fun g => { g with egress := g.egress ++ g.blocked.take room, blocked := g.blocked.drop room }
    if s.ports[p].blocked = [] then
      let r := regionFin (portHome p.val)
      let s := modRegion s r fun g => { g with held := g.held &&& ~~~(1#64 <<< 62) }
      ackSlot (restartHang s r) r 62
    else s

/-- A pack put on the link: a new one also goes into the replay buffer. -/
def putPack (s : State) (p : Fin 10) (k : SentPack) : State :=
  let g := s.ports[p]
  let s := emit (lnMoved s p.val 256 0) (.pack p.val (spread g.lanes g.txLane (k.bytes ++ leBytes 8 (packCheck g.epoch k.seq k.bytes))))
  modPort s p fun g => { g with txLane := (g.txLane + 8) % g.lanes.length }

/-- A new pack sent (R206, R211). -/
def sendPack (s : State) (p : Fin 10) (chan : Nat) (bytes : List Byte) : State :=
  let k : SentPack := { seq := s.ports[p].txNext, chan := chan, bytes := bytes, sentAt := s.time }
  modPort (putPack s p k) p fun g => { g with txNext := (g.txNext + 1) % 2 ^ 32, buffer := g.buffer ++ [k] }

/-- A channel of a port replaced. -/
def modChan (s : State) (p : Fin 10) (c : Fin 4) (f : Channel → Channel) : State :=
  modPort s p fun g => { g with channels := g.channels.set c (f g.channels[c]) }

/-- Credits a sender holds (R219). -/
def Channel.credits (c : Channel) : Nat := (c.cap + c.freedSeen + 2 ^ 16 - c.sent % 2 ^ 16) % 2 ^ 16

/-- Packs in a receive buffer. -/
def Channel.held (c : Channel) : Nat := c.rx.foldl (fun n m => n + m.packs.length) 0

/-- The start of a stall is kept, and its end (R221). `wanted`: a message waits for the channel elsewhere. -/
def noteStall (s : State) (p : Fin 10) (c : Fin 4) (wanted : Bool) : State :=
  modChan s p c fun h =>
    let stalled := h.credits = 0 ∧ (h.tx ≠ [] ∨ wanted)
    { h with stallSince := if stalled then some (h.stallSince.getD s.time) else none }

/-- The first credited channel with a pack and a credit: UESC, UFM, URSP, UREQ (R213). -/
def readyChannel (g : Port) : Option (Fin 4) :=
  ([3, 2, 1, 0] : List (Fin 4)).find? (fun c => decide (g.channels[c].tx ≠ []) && decide (0 < g.channels[c].credits))

/-- The pack that is sent again next: of those due the oldest. One with records waits while the link is not VERIFIED (R229). -/
def replayNext (g : Port) : Option SentPack :=
  g.buffer.find? fun k => g.replay.contains k.seq && (k.chan != 1 || k.bytes == paddedSched || g.idstat == 1)

/-- PACK_SLOT (R213). -/
def packSlot (s : State) (p : Fin 10) : State :=
  let g := s.ports[p]
  if !g.live then s
  else match replayNext g with
  | some k =>
    modPort (putPack s p k) p fun g =>
      { g with replay := g.replay.erase k.seq
               buffer := g.buffer.map (fun o => if o.seq = k.seq then { o with sentAt := s.time } else o) }
  | none =>
    if 2048 ≤ g.buffer.length then s
    else if g.egress ≠ [] ∧ g.idstat = 1 then
      let (pay, first) := schedPayload g
      let n := min 240 (132 * g.egress.length - g.cut)
      let s := sendPack s p 1 (leBytes 8 (2 ^ 60 + first * 2 ^ 54) ++ pay)
      unblockPort (modPort s p fun g => takeEgress g n) p
    else match readyChannel g with
    | some c =>
      match g.channels[c].tx with
      | b :: rest =>
        let s := sendPack s p (2 + c.val) b
        noteStall (modChan s p c fun h => { h with tx := rest, sent := (h.sent + 1) % 2 ^ 16 }) p c false
      | [] => s
    | none => s

/-! ## Records received (R208, R209, R237 to R240) -/

/-- GL_INQ_PEAK follows the queues. -/
def noteIngress (s : State) (p : Fin 10) : State :=
  let g := s.ports[p]
  peakField (peakField s (Reg.GL_INQ_PEAK p.val) 16 16 g.through.length) (Reg.GL_INQ_PEAK p.val) 0 16 g.landing.length

/-- A record of the landing queue lands (R238): at beat `beat` with its count the beat after, or at once in a stopped region. A
closed window or SEQ ≥ LEN is handled as R133 states (R149). A detoured cluster is 12 beats farther (R67). -/
def landRecord (s : State) (p : Fin 10) (q : InRec) (at_ : Option Nat) : State :=
  let r := regionFin (portHome p.val)
  let g := s.regions[r]
  let w := windowOf g 6 q.wid
  let x : Ctx := { r := r, beat := lastBeat g, issue := lastBeat g, slot := 62 }
  let drop (s : State) : State := modRegion s r fun g =>
    { g with windows := storeSet Window.closed g.windows (48 + q.wid) { w with drop := true } }
  if !w.isOpen then faultOf x (drop s) 0x2503
  else if w.len ≤ q.seq then
    let s := if w.base + q.seq < 8192 then undefine s (.sack r.val w.dsack (w.base + q.seq)) else s
    faultOf x (drop s) 0x2502
  else match at_ with
  | none => notifyPegs (incPeg x (putSackLine s r w.dsack (w.base + q.seq) q.data) w.peg 1) r
  | some b =>
    let b := b + detourBeats s r (sackCluster w.dsack) none
    later x (later x s b (.landPut w.dsack (w.base + q.seq) q.data)) (b + 1) (.landInc w.peg)

/-- LANDING_RELEASE (R238): one record in a beat of a region that runs, any in a stopped one. -/
def landingRelease (s : State) (p : Fin 10) : State :=
  let r := regionFin (portHome p.val)
  let g := s.regions[r]
  let k := s.ports[p]
  match k.landing with
  | [] => s
  | q :: rest =>
    let take (s : State) : State := modPort s p fun k => { k with landing := rest }
    if regionStopped s r then landRecord (take s) p q none
    else match beatOf g with
    | some y =>
      if q.since ≤ y ∧ k.landBeat ≠ some y then
        landRecord (modPort (take s) p fun k => { k with landBeat := some y }) p q (some (y + 8))
      else s
    | none => s

/-- The landing queue of a stopped region empties, oldest first (R238, R247). -/
def drainLanding (s : State) (p : Fin 10) : State :=
  if regionStopped s (regionFin (portHome p.val)) then
    (List.range (s.ports[p]).landing.length).foldl (fun s _ => landingRelease s p) s
  else s

/-- A whole record passed to the Guyline face (R209, R229, R237, R244). -/
def passRecord (s : State) (p : Fin 10) (bytes : List Byte) : State :=
  let h := leField bytes 0 4
  let r := regionFin (portHome p.val)
  let g := s.regions[r]
  let hop := (lastBeat g + 2048 - h % 2048 % 2048) % 2048
  let s := modPort s p fun k => { k with hop := match k.hop with
    | some (a, b) => some (max a hop, min b hop)
    | none => some (hop, hop) }
  let s := if getField s (Reg.GL_CONTRACT p.val) 0 11 < hop then
      limitedEvent (countField s (Reg.GL_LATE p.val) 0 32 1) p 0x0913
    else s
  if !running s then countField s (Reg.GL_INQ_FULL p.val) 0 32 1
  else
    let wid := fieldN h 27 3
    let q : InRec := { wid := wid, seq := fieldN h 11 16, data := lineOf (bytes.drop 4), since := g.begun }
    if (windowOf g 6 wid).isOpen then
      drainLanding (noteIngress (modPort s p fun k => { k with landing := k.landing ++ [q] }) p) p
    else takeWaiting (noteIngress (modPort s p fun k => { k with through := k.through ++ [q] }) p) r

/-- The record stream of a SCHED payload, from a position where `part` bytes of a record are held. `fuel` bounds the records. -/
def takeStream (p : Fin 10) : Nat → List Byte → List Byte → State → State
  | 0, _, _, s => s
  | fuel + 1, part, pay, s =>
    let keep (v : Option (List Byte)) (s : State) : State := modPort s p fun g => { g with part := v }
    if pay.length < 4 ∧ part = [] then keep (some []) s
    else if part = [] ∧ leField pay 0 4 / 2 ^ 30 = 0 then keep (some []) s
    else if part = [] ∧ 2 ≤ leField pay 0 4 / 2 ^ 30 then keep none s
    else
      let need := 132 - part.length
      if pay.length < need then keep (some (part ++ pay)) s
      else takeStream p fuel [] (pay.drop need) (passRecord s p (part ++ pay.take need))

/-- A SCHED payload (R208): continues the record held, or takes up the stream at FIRST. -/
def takeSched (s : State) (p : Fin 10) (first : Nat) (pay : List Byte) : State :=
  match s.ports[p].part with
  | some part => takeStream p 4 part pay s
  | none => if first = 63 then s else takeStream p 4 [] (pay.drop (4 * first)) s

/-- A credited pack put into its buffer (R255): SOM starts a message, EOM completes it. -/
def takeMessagePack (s : State) (p : Fin 10) (c : Fin 4) (som eom : Bool) (data : List Byte) : State :=
  modChan s p c fun h =>
    let ended (m : Message) : Message := { m with packs := m.packs ++ [data], complete := eom, since := s.time, counted := s.time }
    if som then
      { h with rx := h.rx ++ [ended { packs := [], complete := false, esc := decide (c.val = 3), since := 0, counted := 0 }] }
    else match h.rx.reverse with
      | m :: older =>
        if m.complete then { h with freed := (h.freed + 1) % 2 ^ 16 }
        else { h with rx := older.reverse ++ [ended m] }
      | [] => { h with freed := (h.freed + 1) % 2 ^ 16 }

/-- The reserved bits of a pack header, and its channel (R205). -/
def packHeaderOk (h : Nat) : Bool :=
  let chan := fieldN h 60 4
  if chan = 1 then h % 2 ^ 54 = 0 else decide (2 ≤ chan) && decide (chan ≤ 5) && h % 2 ^ 50 = 0

/-- A pack dropped is counted (R205). -/
def dropPack (s : State) (p : Fin 10) : State := countField s (Reg.GL_RX_DROP p.val) 0 32 1

/-- What a lane's FEC reports: symbols corrected and codewords that it could not correct (R222, Table 9.13). -/
def noteFec (s : State) (p : Fin 10) (corrected lost : Nat) : State :=
  countField (countField s (Reg.GL_FEC_CORR p.val) 0 64 corrected) (Reg.GL_FEC_UNC p.val) 0 32 lost

/-- PACK_RECEIVE (R204 to R210, R232, R240): the units of a pack, the skew of their lanes removed, with what FEC reports of them. -/
def packReceive (s : State) (p : Fin 10) (units : List (Fin 16 × List Byte)) (corrected lost : Nat) : State :=
  let g := s.ports[p]
  let bytes := units.flatMap (·.2)
  let body := bytes.take 248
  if !g.live then s
  else
    let s := noteFec s p corrected lost
    if lost ≠ 0 ∨ bytes.length ≠ 256 ∨ !onLanes g.lanes units ∨ packCheck g.epoch g.rxNext body ≠ leField bytes 248 8 then
      limitedEvent (dropPack s p) p 0x0901
    else
    let h := leField bytes 0 8
    let pay := body.drop 8
    if !packHeaderOk h then dropPack s p
    else
      let accept (s : State) : State := modPort (lnMoved s p.val 0 256) p fun g =>
        { g with rxNext := (g.rxNext + 1) % 2 ^ 32, unacked := g.unacked + 1
                 unackedAt := if g.unacked = 0 then s.time else g.unackedAt }
      if fieldN h 60 4 = 1 then
        if 18432 ≤ g.landing.length + g.through.length then
          limitedEvent (countField s (Reg.GL_INQ_FULL p.val) 0 32 1) p 0x0914
        else takeSched (accept s) p (fieldN h 54 6) pay
      else
        let c : Fin 4 := Fin.ofNat 4 (fieldN h 60 4 - 2)
        if 64 ≤ g.channels[c].held then dropPack s p
        else takeMessagePack (accept s) p c (fieldN h 59 1 = 1) (fieldN h 58 1 = 1) (pay.take (fieldN h 50 8 + 1))

/-! ## Acknowledgement and replay (R210 to R212) -/

/-- An ACK sent (R210). -/
def putAck (s : State) (p : Fin 10) : State :=
  let s := sendSymbol s p 1 (BitVec.ofNat 40 (s.ports[p].rxNext * 2 ^ 8))
  modPort s p fun g => { g with unacked := 0, ackAt := s.time }

/-- ACK_SEND: when one is due (R210). -/
def ackSend (s : State) (p : Fin 10) : State :=
  let g := s.ports[p]
  let cfg := Reg.GL_ACK_CFG p.val
  let due := getField s cfg 16 8 ≤ g.unacked ∨ (0 < g.unacked ∧ g.unackedAt + nsTime (getField s cfg 0 16) ≤ s.time) ∨
    g.ackAt + nsTime 1000 ≤ s.time
  if g.live ∧ due then putAck s p else s

/-- A received NEXT (R211): everything below it is acknowledged. -/
def takeAck (s : State) (p : Fin 10) (next : Nat) : State :=
  let g := s.ports[p]
  let oldest := (g.txNext + 2 ^ 32 - g.buffer.length) % 2 ^ 32
  let n := (next + 2 ^ 32 - oldest) % 2 ^ 32
  if g.buffer.length < n then s
  else
    let gone := (g.buffer.take n).map (·.seq)
    unblockPort (modPort s p fun g =>
      { g with buffer := g.buffer.drop n, replay := g.replay.filter (fun q => !gone.contains q) }) p

/-- The effective replay timeout (R212). -/
def replayTimeout (s : State) (p : Fin 10) : Nat :=
  nsTime (max (getField s (Reg.GL_RTO p.val) 0 20) (getField s (Reg.GL_RTT p.val) 0 32 + 128))

/-- Every unacknowledged pack is due again. -/
def replayAll (s : State) (p : Fin 10) : State := modPort s p fun g => { g with replay := g.buffer.map (·.seq) }

/-- REPLAY_TIMEOUT (R212). -/
def replayTick (s : State) (p : Fin 10) : State :=
  let g := s.ports[p]
  match g.buffer with
  | [] => s
  | k :: _ =>
    if g.live ∧ g.replay = [] ∧ k.sentAt + replayTimeout s p ≤ s.time then
      logEvent (countField (replayAll s p) (Reg.GL_REPLAYS p.val) 0 32 1) 0x0902
    else s

/-! ## Credits (R219 to R221) -/

/-- A CREDIT symbol sent. -/
def putCredit (s : State) (p : Fin 10) (c : Fin 4) (init : Bool) : State :=
  let h := s.ports[p].channels[c]
  let n := if init then 64 - h.held else h.freed
  let s := sendSymbol s p 2 (BitVec.ofNat 40 (c.val * 2 ^ 38 + bit1 init * 2 ^ 37 + n * 2 ^ 21))
  modChan s p c fun h => { h with freedTold := h.freed, toldAt := s.time }

/-- CREDIT_SEND: after a change of FREED, or at the interval (R219). -/
def creditSend (s : State) (p : Fin 10) (c : Fin 4) : State :=
  let h := s.ports[p].channels[c]
  if s.ports[p].live ∧ (h.freed ≠ h.freedTold ∨ h.toldAt + nsTime 1000 ≤ s.time) then putCredit s p c false else s

/-- CREDIT received (R219, R220). -/
def takeCredit (s : State) (p : Fin 10) (pl : BitVec 40) : State :=
  let c : Fin 4 := Fin.ofNat 4 (fieldN pl.toNat 38 2)
  let n := fieldN pl.toNat 21 16
  noteStall (modChan s p c fun h =>
    if fieldN pl.toNat 37 1 = 1 then { h with cap := n, freedSeen := 0, sent := 0 } else { h with freedSeen := n }) p c
    s.ports[p].channels[c].stallSince.isSome

/-! ## States and retraining (R222 to R225) -/

/-- The lane mask as a list of good lanes. -/
def laneCount (m : BitVec 16) : Nat := ((List.range 16).filter (fun i => m.getLsbD i)).length

/-- The active width for a number of good lanes (R203); 0: none. -/
def activeWidth (n : Nat) : Nat := if 16 ≤ n then 16 else if 14 ≤ n then 14 else if 12 ≤ n then 12 else if 10 ≤ n then 10
  else if 8 ≤ n then 8 else 0

/-- GL_CTL.SPEED. -/
def halfSpeed (s : State) (p : Fin 10) : Bool := (getReg s (Reg.GL_CTL p.val)).getLsbD 3

/-- The mode of a link that runs on a width (R203). -/
def runMode (s : State) (p : Fin 10) (w : Nat) : LinkMode := if 14 ≤ w ∧ !halfSpeed s p then .up else .degraded

/-- Since when a port has been DOWN or not VERIFIED follows its state (R259). -/
def noteBad (s : State) (p : Fin 10) : State :=
  modPort s p fun g =>
    { g with badSince := if g.mode = .down ∨ g.idstat ≠ 1 then some (g.badSince.getD s.time) else none }

/-- A port takes a mode. -/
def setMode (s : State) (p : Fin 10) (m : LinkMode) : State := noteBad (modPort s p fun g => { g with mode := m }) p

/-- The states from which a retrain starts: a link that is OFF, TRAINING or in IDENT has none (R223). -/
def Port.canRetrain (g : Port) : Bool := g.live || g.mode == .retrain || g.mode == .down

/-- The steps of Table 9.10 from the first; `paused`: the partner has paused already. -/
def newTraining (s : State) (p : Fin 10) (paused : Bool) : State :=
  modPort s p fun g => { g with training := { Training.start with paused := paused }, ident := [], asked := false }

/-- A retrain starts (R223): PAUSE_REQ, identity and proposals anew. -/
def startRetrain (s : State) (p : Fin 10) : State :=
  if s.ports[p].canRetrain then
    let s := newTraining (setMode s p .retrain) p false
    sendSymbol (modPort s p fun g => { g with phaseAt := s.time }) p 3 (BitVec.ofNat 40 0)
  else s

/-- A training starts (Table 9.9). -/
def startTraining (s : State) (p : Fin 10) : State :=
  newTraining (setMode (modPort s p fun g => { g with phaseAt := s.time }) p .training) p true

/-- The link goes DOWN (R225); level-1 codes are logged. -/
def linkDown (s : State) (p : Fin 10) (code bits : Nat) : State :=
  let s := modPort (setMode s p .down) p fun g => { g with phaseAt := s.time, failed := 0 }
  logEvent (setBits s (Reg.GL_LINK_ERR p.val) bits) code

/-- CREDIT_TIMEOUT (R221). -/
def creditTimeout (s : State) (p : Fin 10) (c : Fin 4) : State :=
  match s.ports[p].channels[c].stallSince with
  | some t =>
    if s.ports[p].live ∧ t + nsTime (getField s (Reg.GL_CRED_TMO p.val) 0 32) ≤ s.time then
      startRetrain (logEvent (setBits s (Reg.GL_LINK_ERR p.val) 0x10) 0x1907) p
    else s
  | none => s

/-- Bad lanes have gone and leave width w (R222): DOWN below 8 lanes. -/
def noteRemoved (s : State) (p : Fin 10) (w : Nat) : State :=
  let s := setBits s (Reg.GL_LINK_ERR p.val) 2
  if w = 0 then linkDown s p 0x1905 0x4
  else if 14 ≤ w then logEvent s 0x0904
  else logEvent (setBits s (Reg.GL_LINK_ERR p.val) 4) 0x1905

/-- Lanes taken out of the active set start a retrain without them (R222). -/
def removeLanes (s : State) (p : Fin 10) (mask : BitVec 16) : State :=
  let g := s.ports[p]
  let good := g.good &&& ~~~mask
  if mask &&& g.good = 0 then s
  else
    let s := modPort s p fun g => { g with good := good, removed := g.removed ||| mask }
    let s := (List.range 16).foldl (fun s i =>
      if mask.getLsbD i then setField (setField s (Reg.GL_LANE p.val i) 29 1 1) (Reg.GL_LANE p.val i) 30 1 0 else s) s
    let w := activeWidth (laneCount good)
    let s := noteRemoved s p w
    if w = 0 then s else startRetrain s p

/-- LANE_BAD. -/
def laneBad (s : State) (p : Fin 10) (lane : Fin 16) : State :=
  if s.ports[p].live ∨ s.ports[p].mode = .retrain then removeLanes s p (1#16 <<< lane.val) else s

/-- The coordinate register's own coordinate. -/
def selfCoord (s : State) : List Nat := coordOf (getField s Reg.GL_SELF_COORD 0 15)

/-- An IDENT word of this module (Table 9.11). -/
def identWord (s : State) (p : Fin 10) (w : Nat) : Nat :=
  match w with
  | 0 => s.identity.serial.toNat % 2 ^ 32
  | 1 => s.identity.serial.toNat / 2 ^ 32
  | 2 => p.val * 2 ^ 28 + s.ports[p].good.toNat
  | 3 => getField s Reg.GL_SELF_COORD 15 1 * 2 ^ 31 + getField s Reg.GL_SELF_COORD 0 15
  | 4 => s.identity.generation
  | 5 => (getReg s Reg.SEC_FW_VER).toNat
  | _ => s.ports[p].proposal.toNat

/-- The seven words sent (R227). -/
def sendIdent (s : State) (p : Fin 10) : State :=
  (List.range 7).foldl (fun s w => sendSymbol s p 4 (BitVec.ofNat 40 (w * 2 ^ 36 + identWord s p w))) s

/-- The next epoch after one: all ones is skipped (R224). -/
def nextEpoch (e : W32) : W32 := if e + 1 = 0xFFFFFFFF then 0 else e + 1

/-- IDSTAT by the first check that applies (R228): 2 MISWIRED, 3 MISMATCH, 4 UNPLACED, 1 VERIFIED. -/
def idStatus (s : State) (p : Fin 10) (word : Nat → Nat) : Nat :=
  let own := selfCoord s
  let k := p.val / 2
  let n := ringSizes.getD k 1
  let want := listSet own k ((own.getD k 0 + (if p.val % 2 = 0 then 1 else n - 1)) % n)
  let valid := getField s Reg.GL_SELF_COORD 15 1 = 1 ∧ fieldN (word 3) 31 1 = 1
  if s.ports[p].crossed ∨ fieldN (word 2) 28 4 ≠ p.val ^^^ 1 ∨ (valid ∧ coordOf (fieldN (word 3) 0 15) ≠ want) then 2
  else if fieldN (word 4) 0 8 ≠ s.identity.generation ∨ word 5 ≠ (getReg s Reg.SEC_FW_VER).toNat then 3
  else if ¬valid then 4
  else 1

/-- A status report of the identity checks (R228). -/
def identFault (s : State) (p : Fin 10) (st : Nat) : State :=
  if st = 2 then logEvent (setBits s (Reg.GL_LINK_ERR p.val) 0x40) 0x1909
  else if st = 3 then logEvent (setBits s (Reg.GL_LINK_ERR p.val) 0x80) 0x190A
  else s

/-- All seven IDENT words have come. -/
def Port.identified (g : Port) : Bool := (List.range 7).all (fun i => g.ident.any (fun e => e.1 == i))

/-- A received IDENT word. -/
def Port.identOf (g : Port) (i : Nat) : Nat := (storeGet (0 : W32) g.ident i).toNat

/-- The neighbour's words are recorded, and IDSTAT is set by them (R227, R228). -/
def noteNeighbour (s : State) (p : Fin 10) : State :=
  let word := (s.ports[p]).identOf
  let s := setReg s (Reg.GL_NBR_SERIAL p.val) (BitVec.ofNat 64 (word 1 * 2 ^ 32 + word 0))
  let s := setReg s (Reg.GL_NBR_INFO p.val) (BitVec.ofNat 64 (fieldN (word 2) 28 4 * 2 ^ 60 + fieldN (word 3) 31 1 * 2 ^ 59 +
    fieldN (word 3) 0 15 * 2 ^ 44 + fieldN (word 4) 0 8 * 2 ^ 36 + word 5))
  let st := idStatus s p word
  identFault (noteBad (modPort s p fun g => { g with idstat := st, ident := [] }) p) p st

/-- The link carries traffic again (R218 to R220, R223): queued symbols, ACK, CREDIT with INIT on every channel, replay. -/
def linkResume (s : State) (p : Fin 10) : State :=
  let g := s.ports[p]
  let s := setMode s p (runMode s p g.width)
  let s := modPort s p fun g => { g with failed := 0, epoch := g.proposal, queue := [], training := Training.start, txLane := 0 }
  let s := g.queue.foldl (fun s e => sendSymbol s p e.1 e.2) s
  let s := putAck s p
  let s := ([0, 1, 2, 3] : List (Fin 4)).foldl (fun s c => putCredit (modChan s p c fun h => { h with freed := 0 }) p c true) s
  replayAll s p

/-- Both sides have sent RESUME (R223, step 5): the link runs on the lanes that both name. -/
def resumeOn (s : State) (p : Fin 10) (lanes : BitVec 16) : State :=
  let lanes := s.ports[p].good &&& lanes
  let w := activeWidth (laneCount lanes)
  if w = 0 then linkDown s p 0x1905 0x4
  else linkResume (modPort s p fun g => { g with good := lanes, width := w }) p

/-- The active lanes as a mask. -/
def Port.laneMask (g : Port) : BitVec 16 := g.lanes.foldl (fun m i => m ||| (1#16 <<< i)) 0

/-- Step 4 of Table 9.10 ends once this side's lanes have passed and all words are in (R223, R224): the larger epoch proposal stands;
a link in IDENT runs, a retrain sends RESUME with the active lanes. -/
def agreeIdent (s : State) (p : Fin 10) : State :=
  let g := s.ports[p]
  if !g.training.passed || g.training.agreed || !g.identified then s
  else
    let other := BitVec.ofNat 32 (g.identOf 6)
    let s := modPort (noteNeighbour s p) p fun g =>
      { g with proposal := if g.proposal.toNat < other.toNat then other else g.proposal, training := { g.training with agreed := true } }
    match g.mode with
    | .ident => linkResume s p
    | .retrain =>
      let s := sendSymbol s p 3 (BitVec.ofNat 40 (2 * 2 ^ 36 + g.laneMask.toNat * 2 ^ 20))
      match g.training.resume with
      | some lanes => resumeOn s p lanes
      | none => s
    | _ => s

/-- GL_LANE of each lane at the end of a training: `markers` the lane that each marker names, `ber` the negative logarithms of the
pre-FEC bit error ratios. -/
def noteLanes (s : State) (p : Fin 10) (markers : BitVec 64) (ber : BitVec 128) : State :=
  let g := s.ports[p]
  (List.range 16).foldl (fun s i =>
    setReg s (Reg.GL_LANE p.val i) (BitVec.ofNat 64 (bit1 (g.good.getLsbD i) * 2 ^ 31 + bit1 (g.lanes.contains i) * 2 ^ 30 +
      bit1 (g.removed.getLsbD i) * 2 ^ 29 + fieldN markers.toNat (4 * i) 4 * 2 ^ 16 + fieldN ber.toNat (8 * i) 8 * 2 ^ 8))) s

/-- LINK_TRAINING_COMPLETE (R203, R222, R223): step 3 ends. `good` are the lanes that passed PRBS31, `rtt` the measured round trip in
ns. A retrain comes to it only once the partner has paused. A lane that failed is removed; a first training enters IDENT. -/
def trainingComplete (s : State) (p : Fin 10) (good : BitVec 16) (markers : BitVec 64) (ber : BitVec 128) (rtt : W32) : State :=
  let g := s.ports[p]
  if g.training.passed || !(g.mode == .training || (g.mode == .retrain && g.training.paused)) then s
  else
    let bad := ~~~good &&& ~~~g.removed
    let good := good &&& ~~~g.removed
    let w := activeWidth (laneCount good)
    let crossed := (List.range 16).any (fun i => good.getLsbD i && decide (fieldN markers.toNat (4 * i) 4 ≠ i))
    let s := modPort s p fun g =>
      { g with good := good, removed := g.removed ||| bad, width := w, crossed := crossed, proposal := nextEpoch g.epoch
               training := { g.training with passed := true } }
    let s := setReg (noteLanes s p markers ber) (Reg.GL_RTT p.val) (rtt.setWidth 64)
    let s := if bad ≠ 0 ∨ w = 0 then noteRemoved s p w else s
    if w = 0 then s
    else agreeIdent (sendIdent (if g.mode = .training then setMode s p .ident else s) p) p

/-- An IDENT word received (R224, R227, R228). In a link that runs, the exchange after a write of GL_SELF_COORD: the side that has not
asked for it answers with its own words. -/
def takeIdent (s : State) (p : Fin 10) (pl : BitVec 40) : State :=
  let w := fieldN pl.toNat 36 4
  if 6 < w then s
  else
    let s := modPort s p fun g => { g with ident := storePut g.ident w (BitVec.ofNat 32 pl.toNat) }
    let g := s.ports[p]
    if !g.live then agreeIdent s p
    else if !g.identified then s
    else
      let s := noteNeighbour s p
      if g.asked then modPort s p fun g => { g with asked := false } else sendIdent s p

/-- TRAIN RESUME received (R223, step 5): it stands until this side has sent its own. -/
def takeResume (s : State) (p : Fin 10) (pl : BitVec 40) : State :=
  let g := s.ports[p]
  let lanes := BitVec.ofNat 16 (fieldN pl.toNat 20 16)
  if g.mode ≠ .retrain ∨ fieldN pl.toNat 36 4 ≠ 2 then s
  else if g.training.agreed then resumeOn s p lanes
  else modPort s p fun g => { g with training := { g.training with resume := some lanes } }

/-- TRAIN PAUSE_REQ received (R223, step 1): a retrain starts, or starts anew with the partner's. -/
def takePauseReq (s : State) (p : Fin 10) (pl : BitVec 40) : State :=
  if fieldN pl.toNat 36 4 ≠ 0 then s
  else
    let s := if s.ports[p].live then modPort (setMode s p .retrain) p fun g => { g with phaseAt := s.time } else s
    if s.ports[p].mode = .retrain then sendSymbol (newTraining s p true) p 3 (BitVec.ofNat 40 (1 * 2 ^ 36)) else s

/-- TRAIN PAUSE_ACK received: step 1 is done (R223). -/
def takePauseAck (s : State) (p : Fin 10) (pl : BitVec 40) : State :=
  if fieldN pl.toNat 36 4 = 1 ∧ s.ports[p].mode = .retrain then
    modPort s p fun g => { g with training := { g.training with paused := true } }
  else s

/-- RETRAIN_TIMEOUT (R223). -/
def retrainTimeout (s : State) (p : Fin 10) : State :=
  let g := s.ports[p]
  if g.mode = .retrain ∧ g.phaseAt + nsTime (getField s (Reg.GL_RETRAIN_TMO p.val) 0 32) ≤ s.time then
    if 2 ≤ g.failed then linkDown s p 0x1908 0x20
    else startRetrain (modPort s p fun g => { g with failed := g.failed + 1 }) p
  else s

/-- LOCK_LOSS_TIMEOUT (R225). -/
def lockLoss (s : State) (p : Fin 10) : State :=
  let g := s.ports[p]
  if g.mode = .off ∨ g.mode = .down then s else linkDown s p 0x1906 0x8

/-- DOWN_RETRY (R225). -/
def downRetry (s : State) (p : Fin 10) : State :=
  let g := s.ports[p]
  if g.mode = .down ∧ g.phaseAt + nsTime (getField s (Reg.GL_DOWN_RETRY p.val) 0 32) ≤ s.time then
    startTraining s p
  else s

/-- LINK_LOCK_RETURN (R223). -/
def lockReturn (s : State) (p : Fin 10) : State := if s.ports[p].mode = .down then startRetrain s p else s

/-- The Fly die of a port (Table 1.6). -/
def portFly (p : Nat) : Nat := [0, 0, 1, 1, 2, 2, 0, 3, 3, 3].getD p 0

/-- A Fly die has light: one of its Lamps is present and good (R408). -/
def flyLit (s : State) (f : Nat) : Bool :=
  [2 * f, 2 * f + 1].any (fun l => getField s (Reg.LAMP_STAT l) 30 2 = 3)

/-- GL_ENABLE (R231, Table 9.9): GL_CTL.EN written. -/
def glEnable (s : State) (p : Fin 10) (en : Bool) : State :=
  let s := setField s (Reg.GL_CTL p.val) 0 1 (bit1 en)
  if !en then setMode s p .off
  else if s.ports[p].mode = .off ∧ flyLit s (portFly p.val) then
    startTraining s p
  else s

/-- GL_RESTORE (R222). -/
def glRestore (s : State) (p : Fin 10) : State :=
  if s.ports[p].canRetrain then startRetrain (modPort s p fun g => { g with removed := 0 }) p else s

/-- GL_SPEED (R223): a change starts a retrain. -/
def glSpeed (s : State) (p : Fin 10) (half : Bool) : State :=
  if halfSpeed s p = half then s else startRetrain (setField s (Reg.GL_CTL p.val) 3 1 (bit1 half)) p

/-- SELF_COORD_WRITE (R228, R230): the exchange is repeated without a retrain. Locked under a Pitch. -/
def selfCoordWrite (s : State) (v : W32) : State :=
  if s.pitch.isSome then s
  else
    let s := setReg s Reg.GL_SELF_COORD ((v &&& 0xFFFF).setWidth 64)
    forPorts s fun p s =>
      if s.ports[p].live then sendIdent (modPort s p fun g => { g with ident := [], asked := true }) p else s

/-! ## The commands -/

/-- PACK_SLOT. -/
def execPackSlot (p : Fin 10) (s : State) : Host.Outcome State Fault Refusal := .next (packSlot s p)

/-- PACK_RECEIVE. -/
def execPackReceive (p : Fin 10) (units : List (Fin 16 × List Byte)) (corrected : BitVec 16) (lost : BitVec 8) (s : State) :
    Host.Outcome State Fault Refusal := .next (packReceive s p units corrected.toNat lost.toNat)

/-- ACK_SEND. -/
def execAckSend (p : Fin 10) (s : State) : Host.Outcome State Fault Refusal := .next (ackSend s p)

/-- ACK. -/
def execAck (p : Fin 10) (v : BitVec 64) (s : State) : Host.Outcome State Fault Refusal :=
  .next (takeSymbol s p 1 v fun pl s => takeAck s p (pl.toNat / 2 ^ 8))

/-- REPLAY_TIMEOUT. -/
def execReplayTimeout (p : Fin 10) (s : State) : Host.Outcome State Fault Refusal := .next (replayTick s p)

/-- CREDIT_SEND. -/
def execCreditSend (p : Fin 10) (c : Fin 4) (s : State) : Host.Outcome State Fault Refusal := .next (creditSend s p c)

/-- CREDIT. -/
def execCredit (p : Fin 10) (v : BitVec 64) (s : State) : Host.Outcome State Fault Refusal :=
  .next (takeSymbol s p 2 v fun pl s => takeCredit s p pl)

/-- CREDIT_TIMEOUT. -/
def execCreditTimeout (p : Fin 10) (c : Fin 4) (s : State) : Host.Outcome State Fault Refusal := .next (creditTimeout s p c)

/-- LANE_BAD. -/
def execLaneBad (p : Fin 10) (lane : Fin 16) (s : State) : Host.Outcome State Fault Refusal := .next (laneBad s p lane)

/-- PAUSE_REQ. -/
def execPauseReq (p : Fin 10) (v : BitVec 64) (s : State) : Host.Outcome State Fault Refusal :=
  .next (takeSymbol s p 3 v fun pl s => takePauseReq s p pl)

/-- PAUSE_ACK. -/
def execPauseAck (p : Fin 10) (v : BitVec 64) (s : State) : Host.Outcome State Fault Refusal :=
  .next (takeSymbol s p 3 v fun pl s => takePauseAck s p pl)

/-- RESUME. -/
def execResume (p : Fin 10) (v : BitVec 64) (s : State) : Host.Outcome State Fault Refusal :=
  .next (takeSymbol s p 3 v fun pl s => takeResume s p pl)

/-- IDENT. -/
def execIdent (p : Fin 10) (v : BitVec 64) (s : State) : Host.Outcome State Fault Refusal :=
  .next (takeSymbol s p 4 v fun pl s => takeIdent s p pl)

/-- LINK_TRAINING_COMPLETE. -/
def execLinkTrainingComplete (p : Fin 10) (good : BitVec 16) (markers : BitVec 64) (ber : BitVec 128) (rtt : BitVec 32)
    (s : State) : Host.Outcome State Fault Refusal := .next (trainingComplete s p good markers ber rtt)

/-- RETRAIN_TIMEOUT. -/
def execRetrainTimeout (p : Fin 10) (s : State) : Host.Outcome State Fault Refusal := .next (retrainTimeout s p)

/-- LOCK_LOSS_TIMEOUT. -/
def execLockLossTimeout (p : Fin 10) (s : State) : Host.Outcome State Fault Refusal := .next (lockLoss s p)

/-- DOWN_RETRY. -/
def execDownRetry (p : Fin 10) (s : State) : Host.Outcome State Fault Refusal := .next (downRetry s p)

/-- GL_ENABLE. -/
def execGlEnable (w : Requester) (p : Fin 10) (en : Bool) (s : State) : Host.Outcome State Fault Refusal :=
  .next (byWriter s w fun s => glEnable s p en)

/-- GL_RETRAIN. -/
def execGlRetrain (w : Requester) (p : Fin 10) (s : State) : Host.Outcome State Fault Refusal :=
  .next (byWriter s w fun s => startRetrain s p)

/-- GL_RESTORE. -/
def execGlRestore (w : Requester) (p : Fin 10) (s : State) : Host.Outcome State Fault Refusal :=
  .next (byWriter s w fun s => glRestore s p)

/-- GL_SPEED. -/
def execGlSpeed (w : Requester) (p : Fin 10) (half : Bool) (s : State) : Host.Outcome State Fault Refusal :=
  .next (byWriter s w fun s => glSpeed s p half)

/-- SELF_COORD_WRITE. -/
def execSelfCoordWrite (w : Requester) (v : BitVec 32) (s : State) : Host.Outcome State Fault Refusal :=
  .next (byWriter s w fun s => selfCoordWrite s v)

/-- LANDING_RELEASE. -/
def execLandingRelease (p : Fin 10) (s : State) : Host.Outcome State Fault Refusal := .next (landingRelease s p)

/-- LINK_LOCK_RETURN. -/
def execLinkLockReturn (p : Fin 10) (s : State) : Host.Outcome State Fault Refusal := .next (lockReturn s p)

/-- THRU with IN = 6 (R241): one take in each beat from b to b + NBEATS. -/
def issueThruGuyline (f : Fin 7) (nbeats : BitVec 8) (dly : BitVec 4) (x : Ctx) (s : State) : State :=
  (List.range (nbeats.toNat + 1)).foldl (fun s i => atBeat x s (x.beat + i) (.thruTake f.val dly.toNat)) s

end Sys2Proof.Machine
end

