-- ==== Sys2Proof/Machine/Fabric.lean ====
section
/-!
DEFINITION. Machine/Fabric.lean: the Tarp (R248 to R252), boundary digests (R254), unscheduled messages (R255 to R257), STRIKE and
STOP_AT (R259 to R261).
-/

namespace Sys2Proof.Machine

/-! ## Holds -/

/-- A hold of another module added (R248 to R251): HELD at once, x checked against the horizon. -/
def addHold (s : State) (origin a : Nat) : State :=
  let s := enterHeld s
  if s.tarp.holds.length = 16 then raiseModule s 0x2123
  else
    let s := { s with tarp := { s.tarp with
      holds := s.tarp.holds ++ [{ origin := origin, a := a, own := false, causes := [] }]
      newest := (origin, a)
      resume := none } }
    if a + getField s Reg.TARP_H 0 15 < s.tarp.x then raise s 0x2121 { region := 0, slot := 63, beat := s.tarp.x } else s

/-- HOLD received (R248). -/
def takeHold (s : State) (p : Fin 10) (pl : BitVec 40) : State :=
  let origin := fieldN pl.toNat 25 15
  let a := recover (fieldN pl.toNat 0 25) 25 s.pacer.released
  if !running s || s.tarp.holds.any (fun h => h.origin == origin && h.a == a) then s
  else sendCamp (addHold (capture s 3 (origin * 2 ^ 33 + a % 2 ^ 25)) origin a) (some p) 8 pl

/-- RELEASE received (R250, R252). -/
def takeRelease (s : State) (p : Fin 10) (pl : BitVec 40) : State :=
  let origin := fieldN pl.toNat 25 15
  let a8 := fieldN pl.toNat 17 8
  let tr := recover (fieldN pl.toNat 0 17) 17 (nowTicks s)
  if !running s then s
  else match s.tarp.holds.find? (fun h => h.origin == origin && h.a % 256 == a8 && !h.own) with
  | some h => sendCamp (acceptRelease s origin h.a tr) (some p) 9 pl
  | none =>
    if s.tarp.accepted.contains (origin, a8, tr) then s
    else
      let a := recover a8 8 s.pacer.released
      let s := addHold s origin a
      if s.tarp.struck then s else sendCamp (acceptRelease s origin a tr) (some p) 9 pl

/-- HOLD_REPEAT (R248). -/
def holdRepeat (s : State) : State :=
  let own := s.tarp.holds.filter (·.own)
  if own ≠ [] ∧ s.tarp.repeatAt ≤ nowTicks s then
    let s := own.foldl (fun s h => sendCamp s none 8 (holdPayload h.origin h.a)) s
    { s with tarp := { s.tarp with repeatAt := nowTicks s + getField s Reg.TARP_REPEAT 0 16 } }
  else s

/-- RELEASE_REPEAT (R250). -/
def releaseRepeat (s : State) : State :=
  let now := nowTicks s
  let live := s.tarp.released.filter (fun e => decide (now < e.2.1))
  let s := live.foldl (fun s e => if e.2.2 ≤ now then sendCamp s none 9 (releasePayload (selfIndex s) e.1 e.2.1) else s) s
  { s with tarp := { s.tarp with
    released := live.map (fun e => if e.2.2 ≤ now then (e.1, e.2.1, now + getField s Reg.TARP_REPEAT 0 16) else e) } }

/-- The time in 1/256 tick of permit k under an anchor (R251). -/
def resumeTime (a tr n k : Nat) : Int := (tr : Int) * 256 + (((k : Int) - a) * 262144) / (n : Int)

/-- TARP_RESUME (R251): too late a release is fault 0x2122; else the pacer runs under the anchor from T_r on, or from the time of the
next permit where that is earlier. -/
def tarpResume (s : State) : State :=
  match s.tarp.resume with
  | none => s
  | some (a, tr, at_) =>
    if s.pacer.mode ≠ .held ∨ s.tarp.holds ≠ [] then s
    else if resumeTime a tr (max 1 s.pacer.n) (s.tarp.x + 1) ≤ at_ then
      raise s 0x2122 { region := 0, slot := 63, beat := s.tarp.x }
    else if nowTicks s < tr ∧ nowUnits s < resumeTime a tr (max 1 s.pacer.n) (s.tarp.x + 1) then s
    else
      let x := s.tarp.x
      let from_ := min (tr * 256) (resumeTime a tr (max 1 s.pacer.n) (x + 1)).toNat
      let s := forRegions s fun r s => if (s.regions[r]).begun = x + 1 then lnAdd s r.val 3 1 else s
      settleStop { s with
        pacer := { s.pacer with mode := .run, anchorAt := tr * 256, anchorBeat := a, base := none, resuming := true
                                anchorEnd := (from_ / 262144 + 1) * 262144 }
        tarp := { s.tarp with resume := none, best := none } }

/-! ## Boundary digests (R254) -/

/-- Ports with role 1. -/
def role1 (s : State) (p : Fin 10) : Bool :=
  match s.pitch with
  | some q => q.roles.getD p.val 0 == 1
  | none => false

/-- A mismatch is fault 0x2221. -/
def bndMismatch (s : State) : State := raiseModule s 0x2221

/-- This module's own boundary `n` with its digest: sent, kept, compared with what has come (R254). -/
def noteBoundary (s : State) (n : Nat) (d : W32) : State :=
  if !strictOn s then s
  else
    let pl : BitVec 40 := BitVec.ofNat 40 (n % 256 * 2 ^ 32 + d.toNat)
    let s := forPorts s fun p s => if role1 s p && campPort s p then sendSymbol s p 11 pl else s
    let mine := s.tarp.received.filter (fun e => e.2.1 == n % 256)
    let seen : BitVec 10 := mine.foldl (fun m e => m ||| (1#10 <<< e.1)) 0
    let bad := mine.any (fun e => e.2.2 != d)
    let all := (n, d, seen) :: s.tarp.own
    let s := { s with tarp := { s.tarp with own := all.take 16
                                            received := s.tarp.received.filter (fun e => e.2.1 != n % 256) } }
    let s := match all[16]? with
      | some (_, _, seen) => forPorts s fun p s =>
          if role1 s p && !seen.getLsbD p.val then logEvent (countField s (Reg.GL_BND_MISS p.val) 0 32 1) 0x0125 else s
      | none => s
    if bad then bndMismatch s else s

/-- BND received (R254). -/
def takeBnd (s : State) (p : Fin 10) (pl : BitVec 40) : State :=
  let c := fieldN pl.toNat 32 8
  let d : W32 := BitVec.ofNat 32 pl.toNat
  if !(strictOn s && role1 s p) then s
  else match s.tarp.own.find? (fun e => e.1 % 256 == c) with
  | some (n, own, _) =>
    let s := { s with tarp := { s.tarp with own := s.tarp.own.map (fun e =>
      if e.1 = n then (e.1, e.2.1, e.2.2 ||| (1#10 <<< p.val)) else e) } }
    if own = d then s else bndMismatch s
  | none =>
    let other := s.tarp.received.filter (fun e => e.1 != p.val)
    let here := s.tarp.received.filter (fun e => e.1 == p.val) ++ [(p.val, c, d)]
    { s with tarp := { s.tarp with received := other ++ here.drop (here.length - 16) } }

/-! ## Strike and stop (R259 to R261) -/

/-- STRIKE received (R260): fault 0x2124 of this module, with the origin's code and index kept. -/
def takeStrike (s : State) (p : Fin 10) (pl : BitVec 40) : State :=
  if fieldN pl.toNat 32 8 ≠ 2 then s
  else if s.tarp.struck then { s with tarp := { s.tarp with strikes := s.tarp.strikes + 1 } }
  else
    let s := sendCamp s (some p) 16 pl
    let s := logEvent (latchFault s 0x2124 { region := 0, slot := 63, beat := s.pacer.released - 1 }) 0x2124
    strikeSteps s (fieldN pl.toNat 16 16) (fieldN pl.toNat 0 15) (if s.trail.mode = .running then .stopped else s.trail.mode)

/-- A stop count takes effect here (R261): too late if a rest point of it or later has been taken since launch. -/
def applyStopAt (s : State) (n : Nat) : State :=
  let late := match s.tarp.lastRest with
    | some k => decide (n ≤ k)
    | none => false
  let s := { s with tarp := { s.tarp with stopSeen := some n } }
  if late then raiseModule s 0x2126 else { s with tarp := { s.tarp with stopAt := some n } }

/-- STOP_AT received (R261). -/
def takeStopAt (s : State) (p : Fin 10) (pl : BitVec 40) : State :=
  let n := recover (fieldN pl.toNat 0 32) 32 (getReg s Reg.TR_BND).toNat
  if fieldN pl.toNat 32 8 ≠ 1 ∨ s.tarp.stopSeen = some n ∨ s.tarp.struck then s
  else applyStopAt (sendCamp s (some p) 16 pl) n

/-- STOP_AT_SEND (R261): the write of the upper half of TARP_STOP_BND. -/
def stopAtSend (s : State) (q : Requester) (w : HalfWrite) : State :=
  let (v, s) := formHalf s q Reg.TARP_STOP_BND w
  let s := sendCamp (setReg s Reg.TARP_STOP_BND v) none 16 (fmPayload 1 (v.toNat % 2 ^ 32))
  if s.pitch.isNone then s else applyStopAt s (recover (v.toNat % 2 ^ 32) 32 (getReg s Reg.TR_BND).toNat)

/-- PORT_DOWN_LIMIT (R259). -/
def portDownLimit (s : State) (p : Fin 10) : State :=
  let lim := getField s Reg.TARP_DOWN_LIM 0 32
  match s.ports[p].badSince with
  | some t =>
    if running s ∧ role1 s p ∧ lim ≠ 0 ∧ t + lim * 256 ≤ s.time then
      raise s 0x2127 { region := 0, slot := 63, beat := s.pacer.released - 1 }
    else s
  | none => s

/-! ## Unscheduled messages (R255 to R257) -/

/-- A field of a message's header (Table 10.3). -/
def Message.field (m : Message) (lo len : Nat) : Nat := fieldN (leField (m.packs.flatten) 0 16) lo len

/-- The port towards a destination (R256); `esc`: mesh order, no wrap link. None at the destination. -/
def routePort (own dst : List Nat) (esc : Bool) : Option Nat :=
  (List.range 5).findSome? fun k =>
    let n := ringSizes.getD k 1
    let a := own.getD k 0
    let b := dst.getD k 0
    if a = b then none
    else
      let d := (b + n - a) % n
      let plus := if esc then decide (a < b) else decide (d ≤ n - d)
      some (2 * k + (if plus then 0 else 1))

/-- The packs of a message for a channel, HOPS and ESC in its header brought up to date. -/
def messagePacks (m : Message) (c : Nat) (hops : Nat) (esc : Bool) : List (List Byte) :=
  let n := m.packs.length
  let head := leField (m.packs.getD 0 []) 0 16
  let head := head - fieldN head 89 6 * 2 ^ 89 - fieldN head 95 1 * 2 ^ 95 + hops * 2 ^ 89 + bit1 esc * 2 ^ 95
  (List.range n).map (fun i =>
    let pay := m.packs.getD i []
    let pay := if i = 0 then leBytes 16 head ++ pay.drop 16 else pay
    leBytes 8 ((2 + c) * 2 ^ 60 + bit1 (i = 0) * 2 ^ 59 + bit1 (i + 1 = n) * 2 ^ 58 + (pay.length - 1) * 2 ^ 50) ++ pay ++
      List.replicate (240 - pay.length) 0)

/-- A message of a receive buffer leaves it: its places are freed (R219). -/
def dropMessage (s : State) (p : Fin 10) (c : Fin 4) (m : Message) : State :=
  modChan s p c fun h => { h with rx := h.rx.erase m, freed := (h.freed + m.packs.length) % 2 ^ 16 }

/-- The next port of a message from here. -/
def Message.next (m : Message) (s : State) : Option Nat := routePort (selfCoord s) (coordOf (m.field 113 15)) m.esc

/-- The ns that a complete message has waited for credits beyond those in GL_CSTALL (R263). -/
def Message.waited (m : Message) (s : State) : Nat := if m.complete then (s.time - m.counted) / 40 else 0

/-- A message at its destination (R256, R257). -/
def sinkMessage (s : State) (p : Fin 10) (c : Fin 4) (m : Message) : State :=
  let cls := m.field 96 2
  let used := s.sinks.foldl (fun n e => if e.1 = cls then n + e.2.length else n) 0
  if used + m.packs.length ≤ Config.sinkPacks then
    let s := { dropMessage s p c m with sinks := s.sinks ++ [(cls, m.packs)] }
    setField s Reg.GL_SINK 0 16 (min 65535 (s.sinks.foldl (fun n e => n + e.2.length) 0))
  else if m.esc then limitedEvent (countField (dropMessage s p c m) Reg.GL_SINK_DROP 0 32 1) p 0x0917
  else s

/-- A complete message goes on, where its next link has credits for all its packs (R255, R256). -/
def forwardMessage (s : State) (p : Fin 10) (c : Fin 4) (m : Message) : State :=
  match m.next s with
  | none => sinkMessage s p c m
  | some out =>
    let q : Fin 10 := Fin.ofNat 10 out
    let oc : Fin 4 := if m.esc then 3 else c
    let h := s.ports[q].channels[oc]
    let hops := m.field 89 6 + 1
    if 63 ≤ hops then countField (dropMessage s p c m) (Reg.GL_ESC p.val) 0 16 1
    else if h.credits < h.tx.length + m.packs.length then noteStall s q oc true
    else
      let s := dropMessage (countField s (Reg.GL_CSTALL q.val) 0 32 (m.waited s)) p c m
      noteStall (modChan s q oc fun h => { h with tx := h.tx ++ messagePacks m oc.val hops m.esc }) q oc false

/-- MESSAGE_FORWARD (R255, R256): the oldest message of a buffer, when it is complete; where that must wait, the oldest that has moved
to UESC. -/
def messageForward (s : State) (p : Fin 10) (c : Fin 4) : State :=
  let rx := s.ports[p].channels[c].rx
  match rx with
  | [] => s
  | m :: rest =>
    let t := if m.complete then forwardMessage s p c m else s
    if t.ports[p].channels[c].rx ≠ rx then t
    else match rest.find? (fun m => m.complete && m.esc) with
    | some e => if c = 3 then t else forwardMessage t p c e
    | none => t

/-- ESCAPE_TIMEOUT (R257): every complete message of a buffer that has waited so long for its next link moves to UESC. -/
def escapeTimeout (s : State) (p : Fin 10) (c : Fin 4) : State :=
  let limit := nsTime (getField s Reg.GL_ESC_TMO 0 32)
  let late (m : Message) : Bool := m.complete && !m.esc && decide (m.since + limit ≤ s.time) && (m.next s).isSome
  let rx := s.ports[p].channels[c].rx
  (rx.filter late).foldl (fun s m =>
    let q : Fin 10 := Fin.ofNat 10 ((m.next s).getD 0)
    let s := countField s (Reg.GL_CSTALL q.val) 0 32 (m.waited s)
    let s := modChan s p c fun h => { h with rx := h.rx.map fun o => if o = m then
      { o with esc := true, counted := o.counted + 40 * m.waited s } else o }
    let s := noteStall s q c false
    limitedEvent (countField s (Reg.GL_ESC p.val) 16 16 1) p 0x0916) s

/-! ## The commands -/

/-- HOLD. -/
def execHold (p : Fin 10) (v : BitVec 64) (s : State) : Host.Outcome State Fault Refusal :=
  .next (takeCamp s p 8 v fun pl s => takeHold s p pl)

/-- HOLD_REPEAT. -/
def execHoldRepeat (s : State) : Host.Outcome State Fault Refusal := .next (holdRepeat s)

/-- RELEASE_REPEAT. -/
def execReleaseRepeat (s : State) : Host.Outcome State Fault Refusal := .next (releaseRepeat s)

/-- RELEASE. -/
def execRelease (p : Fin 10) (v : BitVec 64) (s : State) : Host.Outcome State Fault Refusal :=
  .next (takeCamp s p 9 v fun pl s => takeRelease s p pl)

/-- TARP_RESUME. -/
def execTarpResume (s : State) : Host.Outcome State Fault Refusal := .next (tarpResume s)

/-- BND. -/
def execBnd (p : Fin 10) (v : BitVec 64) (s : State) : Host.Outcome State Fault Refusal :=
  .next (takeCamp s p 11 v fun pl s => takeBnd s p pl)

/-- STRIKE. -/
def execStrike (p : Fin 10) (v : BitVec 64) (s : State) : Host.Outcome State Fault Refusal :=
  .next (takeCamp s p 16 v fun pl s => takeStrike s p pl)

/-- STOP_AT_SEND. -/
def execStopAtSend (w : Requester) (v : HalfWrite) (s : State) : Host.Outcome State Fault Refusal :=
  .next (byWriter s w fun s => stopAtSend s w v)

/-- STOP_AT. -/
def execStopAt (p : Fin 10) (v : BitVec 64) (s : State) : Host.Outcome State Fault Refusal :=
  .next (takeCamp s p 16 v fun pl s => takeStopAt s p pl)

/-- PORT_DOWN_LIMIT. -/
def execPortDownLimit (p : Fin 10) (s : State) : Host.Outcome State Fault Refusal := .next (portDownLimit s p)

/-- MESSAGE_FORWARD. -/
def execMessageForward (p : Fin 10) (c : Fin 4) (s : State) : Host.Outcome State Fault Refusal := .next (messageForward s p c)

/-- ESCAPE_TIMEOUT. -/
def execEscapeTimeout (p : Fin 10) (c : Fin 4) (s : State) : Host.Outcome State Fault Refusal := .next (escapeTimeout s p c)

end Sys2Proof.Machine
end

