-- ==== Sys2Proof/Machine/Compass.lean ====
section
/-!
DEFINITION. Machine/Compass.lean: the Compass count, its reference, cycle timers and capture, and Zipper's commands (chapter 12).
Launches at a count are in Machine/Launch.lean.
-/

namespace Sys2Proof.Machine

/-! ## The count and its reference (R280 to R285) -/

/-- CMP_STAT.STATE set. -/
def setCompassState (s : State) (n : Nat) : State := setField s Reg.CMP_STAT 30 2 n

/-- A camp spans racks where its U or V extent exceeds 1 (R283). -/
def spansRacks (s : State) : Bool :=
  match s.pitch with
  | some p => decide (1 < p.extent.getD 3 1) || decide (1 < p.extent.getD 4 1)
  | none => false

/-- CMP_HOLD_ERR (R283). -/
def holdError (s : State) : Nat :=
  let hub := if spansRacks s then s.compass.hubErr else 0
  match compassState s with
  | 2 => hub
  | 3 => min (2 ^ 32 - 1) (1 + getField s Reg.CMP_HOLD_PPB 0 10 * ((s.time - s.compass.holdFrom) / 40) / 10 ^ 9 + hub)
  | _ => 0

/-- The first count of the form BASE + k × PERIOD at or above `from_` (R287). -/
def firstFiring (s : State) (j from_ : Nat) : Nat :=
  let base := (getReg s (Reg.CMP_CYC_BASE j)).toNat
  let per := max 1 (getField s (Reg.CMP_CYC_PER j) 0 32)
  if from_ ≤ base then base else base + ceilDiv (from_ - base) per * per

/-- The next firings after the count has taken a new value. -/
def rescheduleCycles (s : State) : State :=
  { s with compass := { s.compass with cycles := (List.range 4).map (fun j =>
      (s.compass.cycles.getD j none).map (fun t => if t < nowTicks s then firstFiring s j (nowTicks s) else t)) } }

/-- The count takes the reference: at once where that lies ahead; where it lies behind, the count stands still until it is
reached, for it never steps backwards (R280, R284). -/
def takeReference (s : State) (diff : Int) : State :=
  if 0 ≤ diff then
    let u := nowUnits s + diff.toNat
    rescheduleCycles { s with compass := { s.compass with count := BitVec.ofNat 64 (u / 256), frac := u % 256 } }
  else { s with compass := { s.compass with stall := (-diff).toNat } }

/-- HOLDOVER entered (Table 12.3): event 0x0A02, a capture, OFS_VALID clear (R285). -/
def enterHoldover (s : State) : State :=
  let s := setCompassState s 3
  let s := { s with compass := { s.compass with holdFrom := s.time, good := 0, ofsValid := false } }
  capture (logEvent s 0x0A02) 11 (2 ^ 47)

/-- The count is lost: UNLOCKED. CAL permits go on by the local tick counter (R40). While the pacer is RUN or HELD the count itself runs
on freely, for it never steps there (R280). -/
def unlockCompass (s : State) : State :=
  let s := if s.pacer.mode = .cal ∧ !s.pacer.onLocal then goLocal s else s
  { setReg s Reg.CMP_STAT 0 with compass := { s.compass with
      valid := s.compass.valid && pacing s, first := none, bad := 0, good := 0, diff := 0, stall := 0, owed := none
      ofsValid := false } }

/-- The count comes to the reference by a slew: it never steps while the pacer is RUN or HELD (R280, R284). -/
def slewTo (s : State) (diff : Int) : State :=
  { setField s Reg.CMP_STAT 27 1 1 with compass := { s.compass with diff := diff, slewFrom := s.time } }

/-- LOCKED again out of HOLDOVER, the reference `diff` ahead of the count (R284). -/
def relock (s : State) (diff : Int) : State :=
  let s := capture (logEvent (setCompassState s 2) 0x0A03) 11 0
  if !pacing s then takeReference s diff
  else if 40000 < diff.natAbs then
    let s := raiseModule s 0x2A05
    if pacing s then { s with compass := { s.compass with owed := some diff } } else takeReference s diff
  else slewTo s diff

/-- The echo frame (Table 12.2), sent 2 ticks after the start of the mark (R282). -/
def echoFrame (s : State) : State :=
  if getField s Reg.CMP_CTL 1 1 = 0 then s
  else
    let speaker := getField s Reg.CMP_CTL 2 1 = 1
    let body := leBytes 8 s.identity.serial.toNat ++ [BitVec.ofNat 8 (compassState s),
      BitVec.ofNat 8 (bit1 speaker + 2 * bit1 (speaker && s.compass.ofsValid))] ++ leBytes 8 (getReg s Reg.CMP_PTP_OFS).toNat
    emit s (.echo (nowTicks s + 2) (body ++ leBytes 4 (crc32c body)))

/-- A bad frame: a code violation, a failed CHECK or another VERSION (R281). -/
def frameBad (frame : List Byte) (violations : Nat) : Bool :=
  decide (violations ≠ 0) || decide (frame.length ≠ 19) || decide (leField frame 13 1 ≠ 1) ||
  decide (crc32c (frame.take 15) ≠ leField frame 15 4)

/-- A bad frame is counted and logged; a second one in a row while LOCKED gives HOLDOVER (R281, Table 12.3). -/
def takeBadFrame (s : State) (violations : Nat) : State :=
  let s := countField (countField s Reg.CMP_FRAME_ERR 16 16 1) Reg.CMP_FRAME_ERR 0 16 violations
  let s := logLimited s 0x0A01 0
  let s := { s with compass := { s.compass with bad := s.compass.bad + 1, good := 0 } }
  if compassState s = 2 ∧ 2 ≤ s.compass.bad then enterHoldover s else s

/-- What a good frame says of the hub. -/
def noteHub (s : State) (frame : List Byte) : State :=
  let flags := leField frame 10 1
  let s := setField (setField s Reg.CMP_STAT 28 1 (flags % 2)) Reg.CMP_STAT 29 1 (flags / 2 % 2)
  let s := setField s Reg.CMP_STAT 0 16 (leField frame 8 2)
  capture { s with compass := { s.compass with bad := 0, hubErr := leField frame 11 2 } } 9 (leField frame 8 2)

/-- Whether a COUNT is 65,536 above that of the first good frame (Table 12.3). -/
def followsFirst (s : State) (c : Nat) : Bool :=
  match s.compass.first with
  | some f => f + 65536 == c
  | none => false

/-- A good frame while ACQUIRING: the first loads the count, never backwards (R280), a second 65,536 above it gives LOCKED. -/
def acquireFrame (s : State) (c : Nat) (diff : Int) : State :=
  if s.compass.valid && followsFirst s c then
    let s := setCompassState s 2
    { s with compass := { s.compass with first := none } }
  else
    let s := { s with compass := { s.compass with valid := true, first := some c } }
    rescheduleCycles (if pacing s then slewTo s diff else takeReference s diff)

/-- A good frame in HOLDOVER: the second in a row relocks. -/
def holdoverFrame (s : State) (diff : Int) : State :=
  let s := { s with compass := { s.compass with good := s.compass.good + 1 } }
  if 2 ≤ s.compass.good then relock s diff else s

/-- A good frame (Table 12.3, R284). -/
def takeGoodFrame (s : State) (frame : List Byte) : State :=
  let c := leField frame 0 8
  let diff : Int := (c : Int) * 256 - (nowUnits s : Int)
  let state := compassState s
  if state = 1 then acquireFrame (noteHub s frame) c diff
  else if state = 2 then (if s.compass.count.toNat = c then noteHub s frame else enterHoldover s)
  else if state = 3 then holdoverFrame (noteHub s frame) diff
  else s

/-- REFERENCE_FRAME (R281, R282): the bytes after a K28.5 mark, with the code violations met in them. -/
def referenceFrame (s : State) (frame : List Byte) (violations : Nat) : State :=
  if compassState s = 0 then s
  else
    let s := echoFrame s
    if frameBad frame violations then takeBadFrame s violations else takeGoodFrame s frame

/-- SYMBOL_LOCK (Table 12.3). -/
def symbolLock (s : State) : State :=
  if compassState s = 0 ∧ getField s Reg.CMP_CTL 0 1 = 1 then setCompassState s 1 else s

/-- SYMBOL_LOCK_LOSS (Table 12.3). -/
def symbolLockLoss (s : State) : State :=
  match compassState s with
  | 1 => unlockCompass s
  | 2 => enterHoldover s
  | _ => s

/-- HOLDOVER_SKEW_FAULT (R283). -/
def skewFault (s : State) : State :=
  if s.trail.mode = .running ∧ getField s Reg.CMP_SKEW_LIM 0 10 < holdError s then raiseModule s 0x2A04 else s

/-- SLEW_COMPLETE (R284). -/
def slewComplete (s : State) : State := if s.compass.diff = 0 then setField s Reg.CMP_STAT 27 1 0 else s

/-- What stands until the pacer has left RUN and HELD: a reference that is then taken (R284), and the count of an UNLOCKED Compass. -/
def settleCompass (s : State) : State :=
  if pacing s then s
  else
    let s := match s.compass.owed with
      | some d => takeReference { s with compass := { s.compass with owed := none } } d
      | none => s
    if compassState s = 0 then { s with compass := { s.compass with valid := false } } else s

/-- The Compass moves on by 1/256 tick; a slew adds or takes one every 100,000, which is 10 ppm (R284). -/
def tickCompass (s : State) : State :=
  let s := settleCompass s
  let c := s.compass
  if !c.valid then s
  else if 0 < c.stall then { s with compass := { c with stall := c.stall - 1 } }
  else
    let turn := c.diff ≠ 0 ∧ (s.time - c.slewFrom) % 100000 = 0
    let step := if turn then (if 0 < c.diff then 2 else 0) else 1
    let u := nowUnits s + step
    { s with compass := { c with
        count := BitVec.ofNat 64 (u / 256), frac := u % 256
        diff := if turn then (if 0 < c.diff then c.diff - 1 else c.diff + 1) else c.diff } }

/-- PTP_SYNC_TIMEOUT (R285). -/
def syncTimeout (s : State) : State :=
  if getField s Reg.CMP_CTL 2 1 = 1 then { s with compass := { s.compass with ofsValid := false } } else s

/-- PTP_OFFSET_WRITE (R285, Table 12.7): a speaker whose Compass is not LOCKED holds OFS_VALID clear. -/
def writePtpOffset (s : State) (q : Requester) (w : HalfWrite) : State :=
  let (v, s) := formHalf s q Reg.CMP_PTP_OFS w
  { setReg s Reg.CMP_PTP_OFS v with
    compass := { s.compass with ofsValid := decide (getField s Reg.CMP_CTL 2 1 = 0) || decide (compassState s = 2) } }

/-- CYCLE_CONFIG_WRITE (R287). -/
def writeCycle (s : State) (j : Nat) (v : W32) : State :=
  let s := setReg s (Reg.CMP_CYC_CFG j) ((v.setWidth 64) &&& 0xFFFF0000)
  let next := if v.getLsbD 31 then some (firstFiring s j (nowTicks s + 64)) else none
  { s with compass := { s.compass with cycles := listSet s.compass.cycles j next } }

/-! ## Reads that take (R290, R306) -/

/-- Data returned to a read. -/
def answer (s : State) (n v : Nat) : State := emit s (.read (leBytes n v))

/-- A read that takes: until step 10 it returns 0 and takes nothing (R381). -/
def takeRead (s : State) (q : Requester) (f : State → State) : State :=
  let s := hostBytes s q 8 0
  match q with
  | .ranger => f s
  | .host _ => if ready s then f s else answer s 8 0

/-- CAPTURE_POP (R290). -/
def capturePop (s : State) : State :=
  match s.compass.capture with
  | [] => answer s 8 0
  | e :: rest => { answer s 8 e.2.2.toNat with compass := { s.compass with capture := rest } }

/-! ## Zipper's commands -/

/-- The watched lines of a region (R292): Sack and line, in range order. -/
def watchedLines (s : State) (r : Nat) : List (Nat × Nat) :=
  (List.range 4).flatMap fun i =>
    let v := (getReg s (Reg.ZP_WATCH r i)).toNat
    if v % 2 = 1 then tab (fieldN v 7 7 + 1) (fun k => (fieldN v 27 5, (fieldN v 14 13 + k) % 8192)) else []

/-- ZIPPER_BOUNDARY_DIGEST (R292): in the gap after a boundary B, from beat B + 2 to B + 127. -/
def zipBoundary (s : State) (r : Fin 32) : State :=
  let g := s.regions[r]
  match boundaryTaken s g with
  | some n =>
    let w := n.bnd
    if zipBoundaries s ∧ n.beat + 2 < g.begun ∧ g.begun ≤ n.beat + 128 ∧ storeGet 0 s.zipper.done r.val ≤ w then
      let all := watchedLines s r.val
      let ls := all.take 120
      let s := if 120 < all.length then setField s Reg.ZP_STAT 29 1 1 else s
      let exposed := ls.any (fun l => g.windows.any (fun e =>
        e.2.isOpen && e.2.dsack == l.1 && decide (e.2.base ≤ l.2) && decide (l.2 < e.2.base + e.2.len)))
      let d := zipDigest (crc64 (2 ^ 64 - 1) (ls.flatMap (fun l => lineBytes (sackLine g l.1 l.2))))
      let (u, s) := if exposed then freshWord s else (BitVec.ofNat 64 d, s)
      zipOwn { s with zipper := { s.zipper with done := storePut s.zipper.done r.val (w + 1) } } r.val w (u.toNat % 2 ^ 24)
    else s
  | none => s

/-- ZIP received (R293). -/
def takeZip (s : State) (p : Fin 10) (pl : BitVec 40) : State :=
  if !zipAllowed s p then dropCamp s p
  else if getField s Reg.ZP_CTL 31 1 = 0 ∨ p ≠ zipPort s then s
  else
    let r := fieldN pl.toNat 35 5
    let d := fieldN pl.toNat 0 24
    let near := if zipBoundaries s then (getReg s Reg.TR_BND).toNat else (s.regions[regionFin r]).completed / 64
    let w := recover (fieldN pl.toNat 24 11) 11 near
    match s.zipper.own.find? (fun e => e.region == r && e.window == w) with
    | some e =>
      zipCompare { s with zipper := { s.zipper with own := s.zipper.own.filter (fun e => !(e.region == r && e.window == w)) } }
        r w e.digest d
    | none =>
      let mine := s.zipper.peer.filter (fun e => e.region == r) ++ [{ region := r, window := w, digest := d }]
      { s with zipper := { s.zipper with
        peer := s.zipper.peer.filter (fun e => e.region != r) ++ mine.drop (mine.length - zipDepth s) } }

/-! ## The commands -/

/-- REFERENCE_FRAME. -/
def execReferenceFrame (frame : List Byte) (violations : BitVec 16) (s : State) : Host.Outcome State Fault Refusal :=
  .next (referenceFrame s frame violations.toNat)

/-- SYMBOL_LOCK. -/
def execSymbolLock (s : State) : Host.Outcome State Fault Refusal := .next (symbolLock s)

/-- SYMBOL_LOCK_LOSS. -/
def execSymbolLockLoss (s : State) : Host.Outcome State Fault Refusal := .next (symbolLockLoss s)

/-- HOLDOVER_SKEW_FAULT. -/
def execHoldoverSkewFault (s : State) : Host.Outcome State Fault Refusal := .next (skewFault s)

/-- SLEW_COMPLETE. -/
def execSlewComplete (s : State) : Host.Outcome State Fault Refusal := .next (slewComplete s)

/-- PTP_SYNC_TIMEOUT. -/
def execPtpSyncTimeout (s : State) : Host.Outcome State Fault Refusal := .next (syncTimeout s)

/-- PTP_OFFSET_WRITE. -/
def execPtpOffsetWrite (q : Requester) (w : HalfWrite) (s : State) : Host.Outcome State Fault Refusal :=
  .next (byWriter s q fun s => writePtpOffset s q w)

/-- CYCLE_CONFIG_WRITE. -/
def execCycleConfigWrite (q : Requester) (j : Fin 4) (v : BitVec 32) (s : State) : Host.Outcome State Fault Refusal :=
  .next (byWriter s q fun s => writeCycle s j.val v)

/-- CAPTURE_POP. -/
def execCapturePop (q : Requester) (s : State) : Host.Outcome State Fault Refusal := .next (takeRead s q capturePop)

/-- ZIPPER_WINDOW_DIGEST. -/
def execZipperWindowDigest (r : Fin 32) (s : State) : Host.Outcome State Fault Refusal := .next (zipFinish s r.val)

/-- ZIPPER_BOUNDARY_DIGEST. -/
def execZipperBoundaryDigest (r : Fin 32) (s : State) : Host.Outcome State Fault Refusal := .next (zipBoundary s r)

/-- ZIP. -/
def execZip (p : Fin 10) (v : BitVec 64) (s : State) : Host.Outcome State Fault Refusal :=
  .next (takeSymbol s p 12 v fun pl s => takeZip s p pl)

end Sys2Proof.Machine
end

