-- ==== Sys2Proof/Machine/Replay.lean ====
section
/-!
DEFINITION. Machine/Replay.lean: the gear log and the gear script (R306, R307) and the weight load (R312, R346).
-/

namespace Sys2Proof.Machine

/-! ## Gear log and script -/

/-- GEAR_LOG_POP. -/
def gearLogPop (s : State) : State :=
  match s.gearLog with
  | [] => answer s 8 0
  | e :: rest => { answer s 8 e.2.toNat with gearLog := rest }

/-- GEAR_SCRIPT_PUSH: a push to a full script is dropped and counted in MISS (R313). -/
def gearPush (s : State) (q : Requester) (w : HalfWrite) : State :=
  let (v, s) := formHalf s q Reg.CR_GSCRIPT w
  if 1024 ≤ s.gearScript.length then countField s Reg.CR_GSCRIPT_STAT 0 16 1
  else { s with gearScript := s.gearScript ++ [(fieldN v.toNat 32 32, fieldN v.toNat 0 2)] }

/-- GEAR_SCRIPT_ENABLE: clearing EN empties the script (R313). -/
def gearEnable (s : State) (en : Bool) : State :=
  let s := setField s Reg.CR_GSCRIPT_STAT 31 1 (bit1 en)
  if en then s else { s with gearScript := [] }

/-- The scripted gear at boundary `n`, with the entries that are past or used removed (R307). `holds`: the segment holds a vote
and the script applies. -/
def scriptGear (s : State) (n : Nat) (holds : Bool) : Option Nat × State :=
  let live := s.gearScript.dropWhile (fun e => decide (e.1 < n % 2 ^ 32))
  match live with
  | e :: rest =>
    if e.1 = n % 2 ^ 32 then
      (if holds && !strictOn s && decide (getField s Reg.CR_GSCRIPT_STAT 31 1 = 1) then some e.2 else none,
        { s with gearScript := rest })
    else (none, { s with gearScript := live })
  | [] => (none, { s with gearScript := [] })

/-! ## The weight load -/

/-- CR_WSTAT.OPEN. -/
def weightOpen (s : State) : Bool := decide (getField s Reg.CR_WSTAT 30 1 = 1)

/-- WEIGHT_LOAD_OPEN (R312). -/
def openWeights (s : State) : State :=
  if pacing s then logEvent s 0x080C
  else
    let s := setReg (setReg s Reg.CR_WSTAT (BitVec.ofNat 64 (2 ^ 30))) Reg.CR_WLEN 0
    { s with far := { s.far with weights := { bytes := [], next := 0, pages := [] } } }

/-- WEIGHT_LOAD_CLOSE (R312). -/
def closeWeights (s : State) : State :=
  if !weightOpen s then s
  else
    let gap := getField s Reg.CR_WSTAT 29 1
    setRegBytes (setField (setField s Reg.CR_WSTAT 30 1 0) Reg.CR_WSTAT 31 1 (1 - gap)) Reg.CR_WDIGEST (sha256 s.far.weights.bytes)

/-- The global track numbers that the disabled-unit map leaves present (R346). -/
def presentTracks (s : State) : List Nat :=
  (List.range 768).filter (fun g => getField s (Reg.HUB_MAP (g / 24)) (16 + g % 24) 1 = 0)

/-- HBM address of image byte w (R346); none past the last row. -/
def weightAddr (s : State) (present : List Nat) (w : Nat) : Option Nat :=
  let nt := present.length
  if nt = 0 then none
  else
    let row := getField s Reg.HST_WLOAD 0 16 + w / (32768 * nt)
    if row < 65536 then some (present.getD (w / 32768 % nt) 0 * 2 ^ 31 + row * 2 ^ 15 + w % 32768) else none

/-- Bytes of the weight image delivered at image offset w (R312, R346): written, hashed, their pages marked; a delivery that is
not at the next offset sets GAP. `priv` is the bit of LN_PSEL's PRIV. -/
def deliverWeights (s : State) (priv w : Nat) (data : List Byte) : State :=
  let present := presentTracks s
  let wl := s.far.weights
  let s := if w = wl.next then s else logEvent (setField s Reg.CR_WSTAT 29 1 1) 0x080C
  let s := setReg s Reg.CR_WLEN (getReg s Reg.CR_WLEN + BitVec.ofNat 64 data.length)
  (List.range data.length).foldl (fun s i =>
    match weightAddr s present (w + i) with
    | some a =>
      let s := if i = 0 ∨ a % 128 = 0 then
          (slotsIn s a 1).foldl emptySlot (lnHbm s 1 a (min (128 - a % 128) (data.length - i)) priv 0)
        else s
      let s := putHbmRaw s a [data.getD i 0]
      let page := a / 2 ^ 20
      if s.far.weights.pages.contains page then s
      else { s with far := { s.far with weights := { s.far.weights with pages := s.far.weights.pages ++ [page] } } }
    | none => s)
    { s with far := { s.far with weights := { wl with bytes := wl.bytes ++ data, next := w + data.length } } }

/-! ## The commands -/

/-- GEAR_LOG_POP. -/
def execGearLogPop (q : Requester) (s : State) : Host.Outcome State Fault Refusal := .next (takeRead s q gearLogPop)

/-- GEAR_SCRIPT_PUSH. -/
def execGearScriptPush (q : Requester) (w : HalfWrite) (s : State) : Host.Outcome State Fault Refusal :=
  .next (byWriter s q fun s => gearPush s q w)

/-- GEAR_SCRIPT_ENABLE. -/
def execGearScriptEnable (q : Requester) (en : Bool) (s : State) : Host.Outcome State Fault Refusal :=
  .next (byWriter s q fun s => gearEnable s en)

/-- WEIGHT_LOAD_OPEN. -/
def execWeightLoadOpen (q : Requester) (s : State) : Host.Outcome State Fault Refusal := .next (byWriter s q openWeights)

/-- WEIGHT_LOAD_CLOSE. -/
def execWeightLoadClose (q : Requester) (s : State) : Host.Outcome State Fault Refusal := .next (byWriter s q closeWeights)

end Sys2Proof.Machine
end

