-- ==== Sys2Proof/Machine/Firewatch.lean ====
section
/-!
DEFINITION. Machine/Firewatch.lean: power, heat, pace and gears (chapter 14).
-/

namespace Sys2Proof.Machine

/-! ## Zones (R315 to R317) -/

/-- The sensors' registers take an epoch's readings; HBM cases are sampled every 64 epochs. -/
def noteSensors (s : State) (x : Sensors) : State :=
  let word (l : List (BitVec 10)) (i : Nat) : W64 := (l.getD i 0).setWidth 64
  let s := (List.range 32).foldl (fun s r => setReg s (Reg.FW_RTEMP r) (word x.junction r)) s
  let s := (List.range 7).foldl (fun s d => setReg s (Reg.FW_DTEMP d) (word x.die d)) s
  let s := (List.range 8).foldl (fun s k => setReg s (Reg.FW_RAIL k) ((x.rail.getD k 0).setWidth 64)) s
  let last := x.input.getLastD (0, 0)
  let s := setReg s Reg.FW_INPUT (BitVec.ofNat 64 (last.1.toNat * 2 ^ 16 + last.2.toNat))
  if nowEpoch s % 64 = 0 then
    let s := (List.range 24).foldl (fun s k => setReg s (Reg.FW_HTEMP k) ((x.hbm.getD k 0).setWidth 64)) s
    forRegions s fun r s => (List.range 24).foldl (fun s t =>
      let n := r.val % 16
      let stack := 12 * (r.val / 16) + 6 * (n / 8) + t / 4
      let hot := getField s (Reg.FW_HTEMP stack) 8 1 == 1
      setTrack s r t fun k => { k with hot := hot }) s
  else s

/-- The largest of a list with its index, the lowest of several. -/
def hottest (l : List Nat) : Nat × Nat :=
  (l.foldl (fun (m : (Nat × Nat) × Nat) v => (if m.1.1 < v then (v, m.2) else m.1, m.2 + 1)) ((l.headD 0, 0), 0)).1

/-- Junction temperatures in 0.25 °C, and HBM cases in °C, as the registers hold them. -/
def junctions (s : State) : List Nat := tab 32 (fun r => getField s (Reg.FW_RTEMP r) 0 10)
/-- HBM case temperatures. -/
def cases (s : State) : List Nat := tab 24 (fun k => getField s (Reg.FW_HTEMP k) 0 8)

/-- The effective cap C (R316, R402). -/
def effectiveCap (s : State) : State :=
  let p := getField s Reg.FW_PCAP 0 12
  let e := getField s Reg.PE_LIMIT 0 12
  setReg s Reg.FW_CAP_EFF (BitVec.ofNat 64 (bit1 (decide (e < p)) * 2 ^ 31 + min p e))

/-- The power of some input samples, summed in 100 µW, and how many they are. -/
def inputSum (l : List (BitVec 16 × BitVec 16)) : Nat × Nat := (l.foldl (fun n v => n + v.1.toNat * v.2.toNat) 0, l.length)

/-- The power of the last n epochs: the sum of its samples in 100 µW, and how many they are (R315). -/
def powerSum (s : State) (n : Nat) : Nat × Nat :=
  let t := (s.firewatch.hist.take n).foldl (fun (m : Nat × Nat) e => (m.1 + e.1, m.2 + e.2)) (0, 0)
  (t.1, max 1 t.2)

/-- The zone (Table 14.2): 0 GREEN, 1 AMBER, 2 RED, 3 CRITICAL; with the power, junction, HBM and input causes of the row that
holds, as FW_STAT [23:20]. `input`: the samples of the last 1 µs. -/
def zoneOf (s : State) (input : Nat × Nat) : Nat × Nat :=
  let c := getField s Reg.FW_CAP_EFF 0 12
  let (fast, nf) := powerSum s 16
  let (slow, ns) := powerSum s 1024
  let tj := 4 * getField s Reg.FW_TLIM 8 8
  let th := getField s Reg.FW_TLIM 0 8
  let j := (hottest (junctions s)).1
  let h := (hottest (cases s)).1
  let bits (a b d e : Bool) : Nat := 8 * bit1 a + 4 * bit1 b + 2 * bit1 d + bit1 e
  let crit := bits (decide (10500 * c * nf < fast)) (decide (tj ≤ j)) (decide (th ≤ h)) (decide (34000000 * input.2 < input.1))
  let red := bits (decide (9700 * c * ns < slow)) (decide (tj < j + 12)) (decide (th < h + 2)) false
  if crit ≠ 0 then (3, crit)
  else if red ≠ 0 then (2, red)
  else if slow ≤ 9000 * c * ns ∧ j + 32 ≤ tj ∧ h + 5 ≤ th then (0, 0)
  else (1, 0)

/-! ## The ladder (R319, R320, R328) -/

/-- The pace floor (R162): the hot floor under STRICT while any track's stack is hot. -/
def paceFloor (s : State) : Nat :=
  let hot := s.regions.toList.any (fun g => g.tracks.any (fun t => t.2.hot))
  if strictOn s && hot then
    let period := (List.range 32).foldl (fun m r => max m (getField s (Reg.RG_TK_SLOT r) 0 16)) 0
    min (getField s Reg.PACE_DESIGN 0 14) (ceilDiv ((8 * period + getField s Reg.PACE_LAG_MAX 0 11) * 65536) 19500)
  else 1311

/-- MODE.GEAR_MAX. -/
def gearMax (s : State) : Nat :=
  match s.pitch with
  | some p => p.gearMax
  | none => 0

/-- Whether the gear is exhausted (R319). -/
def gearExhausted (s : State) : Bool :=
  strictOn s || decide (s.firewatch.gwant = gearMax s) || s.firewatch.tooSparse

/-- Whether GWANT or WANT may change in this epoch (R320). -/
def mayChange (s : State) (spell : Bool) : Bool :=
  (spell && !s.firewatch.spell) || (match s.firewatch.changed with
    | some e => decide (e + getField s Reg.FW_GEAR_WAIT 0 16 ≤ nowEpoch s)
    | none => true)

/-- GWANT changed. -/
def setGwant (s : State) (g : Nat) (spell : Bool) : State :=
  let s := countField s Reg.FW_ACTS (if s.firewatch.gwant < g then 48 else 32) 16 1
  modFire s fun f => { f with gwant := g, changed := some (nowEpoch s), spell := spell }

/-- WANT changed, within its range. -/
def setWant (s : State) (w : Nat) (spell : Bool) : State :=
  let w := max (paceFloor s) (min w (getField s Reg.PACE_DESIGN 0 14))
  if w = s.firewatch.want then s
  else
    let s := if w < s.firewatch.want then countField s Reg.FW_ACTS 16 16 1 else s
    modFire s fun f => { f with want := w, changed := some (nowEpoch s), spell := spell }

/-- WANT lowered by one step. -/
def lowerWant (s : State) : State := setWant s (s.firewatch.want - getField s Reg.FW_PACE_STEP 0 14) true

/-- WANT brought back into its range where the floor has risen above it (R162, R320); a change like any other for the wait that
follows (log entry 104). -/
def keepRange (s : State) : State := if s.pitch.isNone then s else setWant s s.firewatch.want s.firewatch.spell

/-- An emergency begins (R328, R329): the regions begin no new beat until the lag raises a hold of this module; while the module is
HELD its units are gated in place. -/
def emergencyHold (s : State) (power atFloor : Bool) : State :=
  if s.firewatch.ehold.isSome ∨ s.pitch.isNone ∨ !running s then s
  else
    let lag := s.tarp.holds.any (fun h => h.own && h.causes.contains .lag)
    let raised := if lag then some (nowEpoch s) else none
    let s := modFire s fun f => { f with
      ehold := some { raised := raised, power := power, want := f.want, atFloor := atFloor, gated := false } }
    if s.pacer.mode = .held then gateUnits s 2 else s

/-- The row of Table 14.3 that matches. -/
def ladder (s : State) (zone : Nat) (power : Bool) : State :=
  let f := s.firewatch
  if s.pitch.isNone then s
  else if zone = 3 then
    let t := if mayChange s true then lowerWant s else s
    emergencyHold t power (decide (f.want ≤ paceFloor s))
  else if zone = 2 then
    if !mayChange s true then s else if gearExhausted s then lowerWant s else setGwant s (f.gwant + 1) true
  else
    let s := modFire s fun f => { f with spell := false }
    if zone = 1 ∨ !mayChange s false then s
    else if f.want < getField s Reg.PACE_DESIGN 0 14 then setWant s (f.want + getField s Reg.FW_PACE_STEP 0 14) false
    else if 0 < f.gwant then setGwant s (f.gwant - 1) false
    else s

/-! ## Messages (R255, Table 14.4) -/

/-- The coordinate of a logical index in the camp's box (R233). -/
def coordOfIndex (p : Pitch) (i : Nat) : List Nat :=
  ((List.range 5).foldl (fun (m : List Nat × Nat) k =>
    let e := max 1 (p.extent.getD k 1)
    (m.1 ++ [(p.origin.getD k 0 + m.2 % e) % ringSizes.getD k 1], m.2 / e)) ([], i)).1

/-- The logical index of a coordinate in the camp's box (R233). -/
def indexOfCoord (p : Pitch) (c : List Nat) : Nat :=
  ((List.range 5).foldl (fun (m : Nat × Nat) k =>
    (m.1 + m.2 * boxOffset p.origin c k, m.2 * max 1 (p.extent.getD k 1))) (0, 1)).1

/-- A UFM message to a module of the camp: 16 bytes of body after the header. To itself it goes no further than its own sink. -/
def sendUfm (s : State) (p : Pitch) (dst type : Nat) (body : List Byte) : State :=
  let to_ := coordOfIndex p dst
  let own := selfCoord s
  let head := packCoord to_ * 2 ^ 113 + packCoord own * 2 ^ 98 + 2 * 2 ^ 96 + 31 * 2 ^ 77 + type * 2 ^ 69
  let m : Message := { packs := [leBytes 16 head ++ body], complete := true, esc := false, since := 0, counted := 0 }
  match routePort own to_ false with
  | none => { s with sinks := s.sinks ++ [(2, m.packs)] }
  | some out =>
    let q : Fin 10 := Fin.ofNat 10 out
    noteStall (modChan s q 2 fun h => { h with tx := h.tx ++ messagePacks m 2 1 false }) q 2 false

/-- The oldest UFM message of a type taken from its sink: the sender's coordinate and the body. -/
def takeUfm (s : State) (type : Nat) (f : List Nat → List Byte → State → State) : State :=
  match s.sinks.find? (fun e => e.1 == 2 && fieldN (leField e.2.flatten 0 16) 69 8 == type) with
  | some e =>
    let s := { s with sinks := s.sinks.erase e }
    let s := setField s Reg.GL_SINK 0 16 (min 65535 (s.sinks.foldl (fun n e => n + e.2.length) 0))
    f (coordOf (fieldN (leField e.2.flatten 0 16) 98 15)) (e.2.flatten.drop 16) s
  | none => s

/-- This module is the lookout (R321). -/
def isLookout (s : State) : Bool := s.pitch.isSome && decide (selfIndex s = 0)

/-- PACE_ASK sent when WANT has changed, or 64 epochs after the last (R321). -/
def sendAsk (s : State) : State :=
  match s.pitch with
  | none => s
  | some p =>
    let w := s.firewatch.want
    let e := nowEpoch s
    let due := match s.firewatch.asked with
      | some (w0, e0) => decide (w0 ≠ w) || decide (e0 + 64 ≤ e)
      | none => true
    if due then
      sendUfm (modFire s fun f => { f with asked := some (w, e) }) p 0 0x21
        (leBytes 4 w ++ leBytes 4 s.firewatch.serSeen ++ leBytes 8 e)
    else s

/-- Whether nothing is applied, armed or enabled (Table 14.6, M3). -/
def quiet (s : State) : Bool :=
  s.pitch.isNone && s.trail.launchArm.isNone && s.compass.cycles.all (·.isNone)

/-- Since when the module has been quiet. -/
def noteQuiet (s : State) : State :=
  modFire s fun f => { f with quietFrom := if quiet s then some (f.quietFrom.getD s.time) else none }

/-- FW_POWER and FW_HOT follow what the epoch's sensors show (R315). -/
def noteFire (s : State) : State :=
  let fast := powerSum s 16
  let slow := powerSum s 1024
  let s := setReg s Reg.FW_POWER (BitVec.ofNat 64 (min 65535 (slow.1 / (10000 * slow.2)) * 2 ^ 16 + min 65535 (fast.1 / (10000 * fast.2))))
  let j := hottest (junctions s)
  let h := hottest (cases s)
  setReg s Reg.FW_HOT (BitVec.ofNat 64 (j.1 / 4 * 2 ^ 24 + j.2 * 2 ^ 19 + h.1 * 2 ^ 8 + h.2))

/-- A zone with its causes entered (R317): entering RED is event 0x0B01. -/
def enterZone (s : State) (z : Nat × Nat) : State :=
  let old := getField s Reg.FW_STAT 30 2
  let s := setField (setField s Reg.FW_STAT 30 2 z.1) Reg.FW_STAT 20 4 z.2
  if z.1 = 2 ∧ old ≠ 2 then logEvent s 0x0B01 else s

/-- A reading at its trip value (R318): any junction at 115 °C or above, or any HBM case at 100 °C or above. -/
def tripAt (junction : List (BitVec 10)) (hbm : List (BitVec 8)) : Bool :=
  junction.any (fun t => decide (460 ≤ t.toNat)) || hbm.any (fun t => decide (100 ≤ t.toNat))

/-- FIREWATCH_EPOCH (R315 to R321); readings at a trip value trip (R318). -/
def fireEpoch (s : State) (x : Sensors) : State :=
  if tripAt x.junction (x.hbm.map (fun v => v.setWidth 8)) then raiseModule s 0x3B06
  else
    let s := noteQuiet (effectiveCap (noteSensors s x))
    let s := keepRange (noteFire (modFire s fun f => { f with hist := (inputSum x.input :: f.hist).take 1024 }))
    let z := zoneOf s (inputSum (x.input.drop (x.input.length - 10)))
    sendAsk (ladder (enterZone s z) z.1 (decide (8 ≤ z.2) || decide (z.2 % 2 = 1)))

/-- Whether the emergency may end (R328): the zone is better, the hold has lasted, and for a power cause a pace at or below the
lowered WANT is in force, or WANT was at the floor. An emergency whose job has ended lasts as long as the zone. -/
def emergencyOver (s : State) (e : Emergency) : Bool :=
  decide (getField s Reg.FW_STAT 30 2 ≠ 3) && (!running s ||
    ((match e.raised with
      | some n => decide (n + getField s Reg.FW_EHOLD 0 16 ≤ nowEpoch s)
      | none => false) && (!e.power || decide (s.pacer.n ≤ e.want) || e.atFloor)))

/-- EMERGENCY_HOLD_END (R328): the voltage and the units come back; then the pacer asks for release. -/
def endEmergency (s : State) : State :=
  match s.firewatch.ehold with
  | none => s
  | some e =>
    if emergencyOver s e then
      let s := modFire (gateUnits s 0) fun f => { f with ehold := none, low := false }
      match s.tarp.holds.find? (fun h => h.own && h.causes.contains .lag) with
      | some h => if allCompleted s h.a then causeMet s .lag else s
      | none => s
    else s

/-! ## Agreeing a pace (R321 to R324) -/

/-- PACE_ASK received by the lookout. -/
def takeAsk (s : State) : State :=
  takeUfm s 0x21 fun src body s => match s.pitch with
    | some p =>
      let ask := (leField body 0 2, leField body 4 4, leField body 8 8)
      if isLookout s then modFire s fun f => { f with asks := storePut f.asks (indexOfCoord p src) ask } else s
    | none => s

/-- The WANT of a module as the lookout takes it (R321). -/
def knownWant (s : State) (i : Nat) : Nat :=
  match s.firewatch.asks.find? (fun e => e.1 == i) with
  | some (_, w, _, e) => if e + 256 < nowEpoch s then s.pacer.n else w
  | none => s.pacer.n

/-- LOOKOUT_EPOCH (R322). -/
def lookoutEpoch (s : State) : State :=
  let busy := match s.firewatch.pend with
    | some (_, _, e) => decide (nowEpoch s < e)
    | none => false
  match s.pitch with
  | some p =>
    if !isLookout s || busy then s
    else
      let least := (List.range (campSize p)).foldl (fun m i => min m (knownWant s i)) (getField s Reg.PACE_DESIGN 0 14)
      if least = s.pacer.n then s
      else
        let ser := s.firewatch.serSent + 1
        let e := nowEpoch s + getField s Reg.FW_PACE_LEAD 0 8
        let s := modFire s fun f => { f with serSent := ser, pend := some (ser, least, e), acks := [] }
        (List.range (campSize p)).foldl (fun s i =>
          sendUfm s p i 0x22 (leBytes 4 least ++ leBytes 4 ser ++ leBytes 8 e)) s
  | none => s

/-- PACE_SET received (R323). -/
def takeSet (s : State) : State :=
  takeUfm s 0x22 fun _ body s => match s.pitch with
    | some p =>
      let n := leField body 0 2
      let ser := leField body 4 4
      let e := leField body 8 8
      if ser ≤ s.firewatch.serSeen then s
      else
        let before := getReg s Reg.PACE_ERR
        let s := modFire s fun f => { f with serSeen := ser }
        let s := setReg (setReg s Reg.PACE_NEXT (BitVec.ofNat 64 n)) Reg.PACE_AT (BitVec.ofNat 64 e)
        let s := armPace (setReg s Reg.PACE_ERR (before &&& ~~~3#64)) n e
        let err := getField s Reg.PACE_ERR 0 2
        let s := setReg s Reg.PACE_ERR (getReg s Reg.PACE_ERR ||| before)
        let result := if err = 0 then 0 else if err = 2 then 1 else 2
        let s := sendUfm s p 0 0x23 (leBytes 4 ser ++ leBytes 4 result ++ leBytes 8 e)
        if result = 0 then
          setReg (setReg s Reg.FW_SET (BitVec.ofNat 64 (ser * 2 ^ 32 + n))) Reg.FW_SET_AT (BitVec.ofNat 64 e)
        else raiseModule s 0x2B04
    | none => s

/-- PACE_ACK received by the lookout (R324). -/
def takePaceAck (s : State) : State :=
  takeUfm s 0x23 fun src body s => match s.pitch, s.firewatch.pend with
    | some p, some (ser, _, _) =>
      if leField body 0 4 = ser ∧ leField body 4 1 = 0 then
        modFire s fun f => { f with acks := (f.acks.filter (· ≠ indexOfCoord p src)) ++ [indexOfCoord p src] }
      else s
    | _, _ => s

/-- PACE_ACK_DEADLINE (R324). -/
def ackDeadline (s : State) : State :=
  match s.pitch, s.firewatch.pend with
  | some p, some (_, _, e) =>
    if isLookout s ∧ e ≤ nowEpoch s + ceilDiv (getField s Reg.FW_PACE_LEAD 0 8) 2 ∧ nowEpoch s < e ∧
        s.firewatch.acks.length < campSize p then raiseModule s 0x2B03
    else s
  | _, _ => s

/-! ## The gear vote (R326, R327) -/

/-- The largest gear voted. -/
def voteMax (s : State) : Nat := (votesNow s).foldl (fun m v => max m v.gear) 0

/-- A vote recorded. -/
def addVote (s : State) (v : Vote) : State := modFire s fun f => { f with votes := f.votes ++ [v] }

/-- GEAR's payload (Table 9.8). -/
def gearPayload (i g seg bnd : Nat) : BitVec 40 := BitVec.ofNat 40 (i * 2 ^ 25 + g * 2 ^ 23 + seg * 2 ^ 11 + bnd % 2 ^ 11)

/-- GEAR_VOTE_CAST (R307, R326), once beat B - 8,192 has begun in region W0. -/
def castVote (s : State) : State :=
  let (seg, gear, b) := segmentNow s
  if !running s || !(s.regions[(0 : Fin 32)]).fetch.active || s.firewatch.voteCast || strictOn s || !holdsVote s seg gear ||
      decide ((s.regions[(0 : Fin 32)]).begun + 8192 ≤ b) then s
  else
    let (scripted, s) := scriptGear s (bndCount s) true
    let g := scripted.getD (min s.firewatch.gwant (gearMax s))
    let s := modFire s fun f => { f with voteCast := true, scripted := scripted }
    let s := sendCamp s none 10 (gearPayload (selfIndex s) g seg (bndCount s))
    addVote s { bnd := bndCount s, seg := seg, who := selfIndex s, gear := g }

/-- GEAR_VOTE_TIMEOUT (R327). -/
def voteTimeout (s : State) : State :=
  match s.firewatch.voteWait with
  | some t => if t + getField s Reg.FW_VOTE_TMO 0 32 * 256 ≤ s.time then raiseModule s 0x2B05 else s
  | none => s

/-! ## Idle and module states (R318, R330 to R332) -/

/-- THERMAL_TRIP (R318), where a reading is at its trip value. -/
def thermalTrip (s : State) (junction : List (BitVec 10)) (hbm : List (BitVec 8)) : State :=
  if tripAt junction hbm then raiseModule s 0x3B06 else s

/-- THERMAL_RECOVERY (R318), where every reading is at least 20 °C below its trip value. -/
def thermalRecovery (s : State) (junction : List (BitVec 10)) (hbm : List (BitVec 8)) : State :=
  if junction.any (fun t => decide (380 < t.toNat)) || hbm.any (fun t => decide (80 < t.toNat)) then s
  else { s with startup := { s.startup with thermal := false, stepFrom := s.time } }

/-- The counts whose wake signal is due: the armed TR_LAUNCH_AT and the next firing of each enabled timer (R289). -/
def wakeCounts (s : State) : List Nat := s.trail.launchArm.toList.map (·.toNat) ++ s.compass.cycles.flatMap (·.toList)

/-- Ticks until the wake signal; none: unbounded (R331). -/
def untilWake (s : State) : Option Nat :=
  (earliest (wakeCounts s)).map (fun t => t - getField s Reg.CMP_WAKE_LEAD 0 24 - nowTicks s)

/-- The deepest module state in which what waits to be served can be: accesses of tracks, and others of the far engine (R332). -/
def neededState (s : State) : Nat :=
  if !s.far.reqs.isEmpty || s.hosts.toList.any (fun h => !h.posted.isEmpty || !h.reads.isEmpty) then 1
  else if s.far.waits.isEmpty then 3 else 2

/-- The deepest module state whose conditions hold (Table 14.6). -/
def deepestState (s : State) : Nat :=
  let away (n : Nat) : Bool := match untilWake s with
    | some t => decide (n ≤ t)
    | none => true
  let m1 := !pacing s && away 3125
  let m2 := m1 && away 156250 && decide (31250 ≤ getField s Reg.CMP_WAKE_LEAD 0 24)
  let m3 := m2 && quiet s && (match s.firewatch.quietFrom with
    | some t => decide (t + 4000000000 ≤ s.time)
    | none => false)
  min (min (getField s Reg.FW_MCFG 0 2) (neededState s)) (if m3 then 3 else if m2 then 2 else if m1 then 1 else 0)

/-- MODULE_STATE_CHANGE (R331). -/
def moduleState (s : State) : State := setModuleState (noteQuiet s) (deepestState s)

/-- WAKE_SIGNAL (R289, R331): M0, every region in A1, the voltage for the pace. -/
def wakeSignal (s : State) : State :=
  match earliest (wakeCounts s) with
  | some t =>
    if t ≤ nowTicks s + getField s Reg.CMP_WAKE_LEAD 0 24 ∧ s.compass.wokeFor ≠ some t then
      let s := gateUnits (setModuleState s 0) 1
      { s with compass := { s.compass with wokeFor := some t }, firewatch := { s.firewatch with low := false } }
    else s
  | none => s

/-! ## The commands -/

/-- FIREWATCH_EPOCH. -/
def execFirewatchEpoch (x : Sensors) (s : State) : Host.Outcome State Fault Refusal := .next (fireEpoch s x)

/-- EMERGENCY_HOLD_END. -/
def execEmergencyHoldEnd (s : State) : Host.Outcome State Fault Refusal := .next (endEmergency s)

/-- PACE_ASK. -/
def execPaceAsk (s : State) : Host.Outcome State Fault Refusal := .next (takeAsk s)

/-- LOOKOUT_EPOCH. -/
def execLookoutEpoch (s : State) : Host.Outcome State Fault Refusal := .next (lookoutEpoch s)

/-- PACE_SET. -/
def execPaceSet (s : State) : Host.Outcome State Fault Refusal := .next (takeSet s)

/-- PACE_ACK. -/
def execPaceAck (s : State) : Host.Outcome State Fault Refusal := .next (takePaceAck s)

/-- PACE_ACK_DEADLINE. -/
def execPaceAckDeadline (s : State) : Host.Outcome State Fault Refusal := .next (ackDeadline s)

/-- GEAR_VOTE_CAST. -/
def execGearVoteCast (s : State) : Host.Outcome State Fault Refusal := .next (castVote s)

/-- GEAR_VOTE_TIMEOUT. -/
def execGearVoteTimeout (s : State) : Host.Outcome State Fault Refusal := .next (voteTimeout s)

/-- THERMAL_TRIP. -/
def execThermalTrip (junction : List (BitVec 10)) (hbm : List (BitVec 8)) (s : State) : Host.Outcome State Fault Refusal :=
  .next (thermalTrip s junction hbm)

/-- THERMAL_RECOVERY. -/
def execThermalRecovery (junction : List (BitVec 10)) (hbm : List (BitVec 8)) (s : State) : Host.Outcome State Fault Refusal :=
  .next (thermalRecovery s junction hbm)

/-- MODULE_STATE_CHANGE. -/
def execModuleStateChange (s : State) : Host.Outcome State Fault Refusal := .next (moduleState s)

/-- WAKE_SIGNAL. -/
def execWakeSignal (s : State) : Host.Outcome State Fault Refusal := .next (wakeSignal s)

end Sys2Proof.Machine
end

