-- ==== Sys2Proof/Machine/Boundary.lean ====
section
/-!
DEFINITION. Machine/Boundary.lean: region control (R58, R145 to R147) and boundaries (R62, R63, R306, R307, R326, R327).
-/

namespace Sys2Proof.Machine

/-! ## Rows -/

/-- A loaded segment. -/
def segOf (s : State) (n : Nat) : Segment := storeGet Segment.none s.trail.segs n

/-- The gears present in a segment. -/
def gearsOf (s : State) (n : Nat) : Nat := (segOf s n).lens.length

/-- The row words that a region runs. -/
def rowWords (s : State) (r : Nat) (f : Fetch) : List W64 := storeGet [] (segOf s f.seg).rows (32 * f.gear + r)

/-- The slots that a mask word names, ascending (R57). -/
def maskSlots (m : W64) : List Nat := (List.range 64).filter (fun i => m.getLsbD i)

/-- The position after `n` stored rows from `pos` on (R57). -/
def skipRows (ws : List W64) : Nat → Nat → Nat
  | 0, pos => pos
  | n + 1, pos => skipRows ws n (pos + 1 + (maskSlots (ws.getD pos 0)).length)

/-- CIDLE (R58): the next rows are empty. -/
def issueCidle (count : BitVec 32) (x : Ctx) (s : State) : State :=
  modRegion s x.r fun g => { g with fetch := { g.fetch with idle := count.toNat } }

/-- CREP (R58): the next k stored rows run m times. -/
def issueCrep (body : BitVec 12) (total : BitVec 32) (x : Ctx) (s : State) : State :=
  let f := (x.g s).fetch
  let stop := skipRows (rowWords s x.r.val f) body.toNat f.pos
  modRegion s x.r fun g => { g with fetch := { g.fetch with
    loops := { first := f.pos, stop := stop, left := total.toNat - 1 } :: f.loops } }

/-- At a rest point, or at CHLT, a record left in the through queue of a home region is fault 0x2915 and discarded (R243). A STOP
entry stands at a rest point alone (R61). -/
def checkThrough (s : State) (x : Ctx) : State :=
  match homePort x.r.val with
  | none => s
  | some n =>
    let p : Fin 10 := Fin.ofNat 10 n
    if s.ports[p].through.isEmpty then s
    else raise (modPort s p fun g => { g with through := [] }) 0x2915 { region := x.r.val, slot := 62, beat := x.beat }

/-- CHLT (R146): the pacer stops after this beat. -/
def issueChlt (setseg : Bool) (gear : BitVec 2) (seg : BitVec 12) (x : Ctx) (s : State) : State :=
  let s := if setseg then setReg s Reg.TR_LAUNCH_SEG (BitVec.ofNat 64 (gear.toNat * 2 ^ 12 + seg.toNat)) else s
  let s := { modRegion s x.r (fun g => { g with fetch := { g.fetch with active := false } }) with
    pacer := { s.pacer with stopAt := some x.beat, stopCloses := false } }
  checkThrough s x

/-! ## Boundaries -/

/-- The pin of the strict mode (R62): MODE.GEAR_PIN, which ZP_GEAR replaces in boundary scope (R292). -/
def gearPin (s : State) : Nat :=
  if zipBoundaries s && decide (getField s Reg.ZP_GEAR 31 1 = 1) then getField s Reg.ZP_GEAR 0 2
  else match s.pitch with
    | some p => p.gearPin
    | none => 0

/-- The gear of the successor entry `e` (R62). -/
def gearTaken (s : State) (c : Crossroad) (e : W64) : Nat :=
  let f := fieldN e.toNat 56 4
  let g := if f ≤ 3 then f
    else if strictOn s then gearPin s
    else if holdsVote s c.seg c.gear && votesIn s then voteMax s
    else c.gear
  min g (gearsOf s (fieldN e.toNat 44 12) - 1)

/-- Zipper's record of a boundary (R291). -/
def boundaryNote (s : State) (r : Nat) (n : NextSeg) : State :=
  zipNote s r 63 n.beat 0 0 2 (leBytes 1 n.index ++ leBytes 1 n.gear ++ leBytes 1 n.kind ++ [0])

/-- The record in each region that has passed the boundary: with its beat's others, or after them where the beat has
completed. -/
def boundaryNotes (s : State) (n : NextSeg) : State :=
  forRegions s fun r s =>
    let g := s.regions[r]
    if g.bndBeat ≠ some n.beat then s
    else if g.completed ≤ n.beat then boundaryNote s r.val n
    else zipFold (boundaryNote s r.val n) r.val n.beat

/-- Word 1 of the gear log entry (Table 13.6). -/
def gearWord (s : State) (c : Crossroad) (n : NextSeg) (open_ : Bool) : Nat :=
  let ok := holdsVote s c.seg c.gear && !strictOn s && votesIn s
  n.bnd % 2 ^ 32 * 2 ^ 32 + c.seg * 2 ^ 20 + n.seg * 2 ^ 8 + c.gear * 2 ^ 6 + n.gear * 2 ^ 4 +
    bit1 (open_ && !strictOn s) * 8 + bit1 ok * 4 + (if ok then voteMax s else 0)

/-- The entry goes into the gear log with the count at which beat B ended in the Peg's region (R306). -/
def logGear (s : State) (c : Crossroad) (w : Nat) : State :=
  match c.ended with
  | some t => gearAppend s t w
  | none => { s with trail := { s.trail with logDue := some (c.region, c.beat, BitVec.ofNat 64 w) } }

/-- The gear taken is compared with the gear of the script, of the vote cast here or else of the entry now at the head (R307). -/
def checkScript (s : State) (bnd : Nat) (open_ : Bool) (gear : Nat) : State :=
  let (now, s') := scriptGear s bnd open_
  match s.firewatch.scripted <|> now with
  | some g => if open_ && !strictOn s && decide (g ≠ gear) then
      logEvent (countField s' Reg.CR_GSCRIPT_STAT 0 16 1) 0x0228 else s'
  | none => s'

/-- The votes and the script entries of a boundary that has been taken are done with. -/
def closeVote (s : State) (c : Crossroad) (bnd gear : Nat) (open_ : Bool) : State :=
  let voted := holdsVote s c.seg c.gear && !strictOn s
  let s := checkScript s bnd open_ gear
  modFire s fun f =>
    { f with votes := f.votes.filter (fun v => decide (bnd < v.bnd)), voteCast := false, scripted := none, voteWait := none
             tooSparse := if voted && open_ then decide (gear < f.gwant) else f.tooSparse }

/-- A boundary stops the job (R63): a STOP entry, or the first rest point of a STOP_AT count (R261). -/
def stopBoundary (s : State) (n : NextSeg) : State :=
  { setReg s Reg.TR_LAUNCH_SEG (BitVec.ofNat 64 (n.gear * 2 ^ 12 + n.seg)) with
    pacer := { s.pacer with stopAt := some n.beat, stopCloses := true } }

/-- The boundary is resolved (R62): digest, count, gear log, votes, and the successor or the stop. -/
def resolveBoundary (s : State) (c : Crossroad) : State :=
  let seg := segOf s c.seg
  let e := seg.succ.getD c.index 0
  let kind := fieldN e.toNat 62 2
  let open_ := decide (3 < fieldN e.toNat 56 4)
  let bnd := getReg s Reg.TR_BND
  let stopping := match s.tarp.stopAt with
    | some k => seg.rest && decide (k ≤ bnd.toNat)
    | none => false
  let n : NextSeg := { seg := fieldN e.toNat 44 12, gear := gearTaken s c e, beat := c.beat, bnd := bnd.toNat, index := c.index,
                       kind := kind, stop := stopping || decide (kind = 1) }
  let d := (kindling (indexCtr bnd (BitVec.ofNat 32 (c.seg * 2 ^ 20 + n.seg * 2 ^ 8 + c.index * 2 ^ 4 + n.gear * 4 + kind)) c.count)
    0 0).c0
  let s := logGear s c (gearWord s c n open_)
  let s := closeVote s c n.bnd n.gear open_
  let s := setReg (setReg s Reg.TR_BND_DIGEST (d.setWidth 64)) Reg.TR_BND (bnd + 1)
  let s := { s with
    trail := { s.trail with nexts := (n :: s.trail.nexts).take 2, crossroad := none }
    tarp := { s.tarp with lastRest := if seg.rest then some n.bnd else s.tarp.lastRest
                          stopAt := if stopping then none else s.tarp.stopAt } }
  let s := boundaryNotes s n
  let s := if n.stop then stopBoundary s n else s
  noteBoundary s (n.bnd + 1) d

/-- The Peg's region reads it (R62): a fault, a boundary that waits for votes (R327), or one that is resolved now. -/
def readBoundary (s : State) (x : Ctx) (seg gear peg shift : Nat) : State :=
  let at_ : FaultAt := { region := x.r.val, slot := 63, beat := x.beat }
  let s := lnPeg s x.r.val (peg % 512) 4 0 5
  let q := pegOf (x.g s) (peg % 512)
  let i := (q.count >>> shift).toNat % 16
  if q.err then raise s 0x2226 at_
  else if (segOf s seg).succ.length ≤ i then raise s 0x2220 at_
  else if fieldN ((segOf s seg).succ.getD i 0).toNat 62 2 = 2 then raise s 0x2225 at_
  else
    let c : Crossroad := { region := x.r.val, beat := x.beat, seg := seg, gear := gear, count := q.count, index := i,
                           ended := none }
    if holdsVote s seg gear && !strictOn s && !votesIn s then
      modFire { s with trail := { s.trail with crossroad := some c } } fun f => { f with voteWait := some s.time }
    else resolveBoundary s c

/-- Entries and effects still due after the CBND beat (R55, R74, R75): hazards of kinds 4 and 6, their destinations undefined.
Guyline transfers run on. -/
def dropLate (x : Ctx) (s : State) : State :=
  let g := x.g s
  let b := x.beat
  let late (e : Entry) : Bool := decide (b < e.due)
  let runsOn (d : Due) : Bool := decide (d.beat ≤ b) || (match d.op with
    | .portPut _ _ _ _ => true
    | .move _ _ (.guyline _ _ _) => true
    | .landPut _ _ _ => true
    | .landInc _ => true
    | _ => false)
  let hub := (hubEntries s x.r).filter late
  let ents := (List.finRange 6).flatMap (fun i => (g.xings[i].filter late).map (fun e => (i.val, e)))
  let dues := g.due.filter (fun d => !runsOn d)
  let source (i : Nat) : Nat := match crossSource x.r.val i with
    | some (r, _) => r
    | none => x.r.val
  let s := match ents ++ hub.map (fun e => (5, e)), dues with
    | (i, e) :: _, _ => if debugOn s then raiseHazard s 4 (source i) e.slot b else s
    | [], d :: _ => if debugOn s then raiseHazard s 6 x.r.val d.slot b else s
    | [], [] => s
  let s := undefineAll s (ents.flatMap (fun e => entryPlaces s 10 x.r.val e.1 e.2.due e.2.side) ++
    hub.flatMap (fun e => hubPlaces x.r.val e.side) ++ dues.flatMap (fun d => microPlaces s x.r.val d.beat d.op))
  let s := setHubEntries s x.r ((hubEntries s x.r).filter (fun e => !late e))
  modRegion s x.r fun g =>
    { g with due := g.due.filter runsOn, xings := g.xings.map (fun l => l.filter (fun e => !late e)) }

/-- CBND (R62): it ends the region's segment; the region of its Peg reads the Peg and resolves the boundary. -/
def issueCbnd (peg : BitVec 14) (shift : BitVec 5) (x : Ctx) (s : State) : State :=
  let f := (x.g s).fetch
  let s := lnAdd (dropLate x s) x.r.val 42 1
  let s := modRegion s x.r fun g => { g with bndBeat := some x.beat, fetch := { f with active := false } }
  let s := if (segOf s f.seg).rest then checkThrough s x else s
  if peg.toNat / 512 = x.r.val then readBoundary s x f.seg f.gear peg.toNat shift.toNat
  else match boundaryTaken s (x.g s) with
    | some n => boundaryNote s x.r.val n
    | none => s

/-- GEAR received (R326): a vote for the segment in progress, or early for the boundary after it, is recorded and forwarded; a
boundary that waited for it goes on. -/
def takeGear (s : State) (p : Fin 10) (pl : BitVec 40) : State :=
  let v : Vote := { who := fieldN pl.toNat 25 15, gear := fieldN pl.toNat 23 2, seg := fieldN pl.toNat 11 12
                    bnd := recover (fieldN pl.toNat 0 11) 11 (bndCount s) }
  let known := s.firewatch.votes.any (fun o => o.who == v.who && o.bnd == v.bnd && o.seg == v.seg)
  let wanted := (v.bnd = bndCount s ∧ v.seg = votingSeg s) ∨ v.bnd = bndCount s + 1
  if !running s || strictOn s || known || !decide wanted then s
  else
    let s := addVote (sendCamp s (some p) 10 pl) v
    match s.trail.crossroad with
    | some c => if votesIn s then resolveBoundary s c else s
    | none => s

/-! ## The commands -/

/-- CIDLE. -/
def execCidle (r : Fin 32) (count : BitVec 32) (s : State) : Host.Outcome State Fault Refusal :=
  direct s r (.cidle r count) (issueCidle count)

/-- CREP. -/
def execCrep (r : Fin 32) (body : BitVec 12) (total : BitVec 32) (s : State) : Host.Outcome State Fault Refusal :=
  direct s r (.crep r body total) (issueCrep body total)

/-- CBND. -/
def execCbnd (r : Fin 32) (peg : BitVec 14) (shift : BitVec 5) (s : State) : Host.Outcome State Fault Refusal :=
  direct s r (.cbnd r peg shift) (issueCbnd peg shift)

/-- CHLT. -/
def execChlt (r : Fin 32) (setseg : Bool) (gear : BitVec 2) (seg : BitVec 12) (s : State) : Host.Outcome State Fault Refusal :=
  direct s r (.chlt r setseg gear seg) (issueChlt setseg gear seg)

/-- FQPOST. -/
def execFqpost (r : Fin 32) (queue : BitVec 6) (dsack : BitVec 5) (line : BitVec 13) (s : State) :
    Host.Outcome State Fault Refusal :=
  direct s r (.fqpost r queue dsack line) (issueFqpost queue dsack line)

/-- THRU where IN or the output face is Guyline. -/
def issueThruPort (f : Fin 7) (inn : BitVec 3) (nbeats : BitVec 8) (dly : BitVec 4) (x : Ctx) (s : State) : State :=
  if inn = 6 then issueThruGuyline f nbeats dly x s else issueThru f inn nbeats dly x s

/-- THRU on a Guyline face. -/
def execThruGuyline (r : Fin 32) (f : Fin 7) (inn : BitVec 3) (nbeats : BitVec 8) (dly : BitVec 4) (s : State) :
    Host.Outcome State Fault Refusal :=
  if inn = 6 then direct s r (.thruGuyline r f inn nbeats dly) (issueThruPort f inn nbeats dly)
  else directThru s r (.thruGuyline r f inn nbeats dly) (issueThruPort f inn nbeats dly)

/-- GEAR. -/
def execGear (p : Fin 10) (v : BitVec 64) (s : State) : Host.Outcome State Fault Refusal :=
  .next (takeCamp s p 10 v fun pl s => takeGear s p pl)

end Sys2Proof.Machine
end

