-- ==== Sys2Proof/Machine/Beats.lean ====
section
/-!
DEFINITION. Machine/Beats.lean: the beat wave (R28 to R31): beginning a beat, its due effects and arrivals, its row, its
acknowledgements; idle units' look-ahead (R330) and row tagging (R375).
-/

namespace Sys2Proof.Machine

/-- An action of a row issues. -/
def runAction (x : Ctx) (i : Instr) (s : State) : State :=
  match i with
  | .sloadWeights _ c sack line nrows => issueSloadWeights c sack line nrows x s
  | .sloadRawAdd _ c sack line nrows acc => issueSloadRawAdd c sack line nrows acc x s
  | .smxsWeightScales _ c sack line => issueSmxsWeightScales c sack line x s
  | .smxsAsb _ c sack line => issueSmxsAsb c sack line x s
  | .sfmt _ c wfmt afmt both keyld sack line => issueSfmt c wfmt afmt both keyld sack line x s
  | .smac _ c sack line acc nvec asb flip => issueSmac c sack line acc nvec asb flip x s
  | .sout _ c acc sack line ofmt rmode sat clr oscale sline => issueSout c acc sack line ofmt rmode sat clr oscale sline x s
  | .sclr _ c banks asb planes key => issueSclr c banks asb planes key x s
  | .kadd _ u o => issueKettle .kadd u o x s
  | .kmul _ u o => issueKettle .kmul u o x s
  | .kfma _ u o => issueKettle .kfma u o x s
  | .kmax _ u o => issueKettle .kmax u o x s
  | .kmin _ u o => issueKettle .kmin u o x s
  | .ksel _ u o => issueKettle .ksel u o x s
  | .kcmp _ u o => issueKettle .kcmp u o x s
  | .kcvt _ u o => issueKettle .kcvt u o x s
  | .kexp2 _ u o => issueKettle .kexp2 u o x s
  | .klog2 _ u o => issueKettle .klog2 u o x s
  | .krcp _ u o => issueKettle .krcp u o x s
  | .krsq _ u o => issueKettle .krsq u o x s
  | .ktanh _ u o => issueKettle .ktanh u o x s
  | .ksum _ u o => issueKettle .ksum u o x s
  | .kmerge _ u o => issueKettle .kmerge u o x s
  | .kidxArgmax _ u o => issueKettle .kidx u o x s
  | .kidxCumsel _ u o => issueKettle .kidx u o x s
  | .krng _ u o => issueKettle .krng u o x s
  | .ksrSackToRegister _ u sack line reg half => issueKsrSackToRegister u sack line reg half x s
  | .ksrRegisterToSack _ u sack line reg half => issueKsrRegisterToSack u sack line reg half x s
  | .ksrRegisterCopy _ u dst src bcast lane => issueKsrRegisterCopy u dst src bcast lane x s
  | .ksrKeyLoad _ u sack line => issueKsrKeyLoad u sack line x s
  | .srd _ k dsack line dline nlines => issueSrd k dsack line dline nlines x s
  | .swrFill _ k line nlines imm => issueSwrFill k line nlines imm x s
  | .swrPegSnapshot _ k line peg => issueSwrPegSnapshot k line peg x s
  | .sgath _ k iline dsack dline base wbits nidx => issueSgath k iline dsack dline base wbits nidx x s
  | .pass _ f ssack sline dsack dline nlines => issuePass f ssack sline dsack dline nlines x s
  | .send _ f ssack sline wid seq0 nlines => issueSend f ssack sline wid seq0 nlines x s
  | .rwinOpen _ f wid dsack base len peg => issueRwinOpen f wid dsack base len peg x s
  | .rwinClose _ f wid => issueRwinClose f wid x s
  | .thru _ f inn nbeats dly => issueThru f inn nbeats dly x s
  | .pinc _ peg amount => issuePinc peg amount x s
  | .psetCount _ peg value => issuePsetCount peg value x s
  | .psetMark _ peg value => issuePsetMark peg value x s
  | .perrSet _ peg => issuePerr peg true x s
  | .perrClear _ peg => issuePerr peg false x s
  | .pwait _ peg rel adv t => issuePwait peg rel adv t x s
  | .parmArm _ peg rel nsrc t => issueParmArm peg rel nsrc t x s
  | .parmDisarm _ peg => issueParmDisarm peg x s
  | .cidle _ count => issueCidle count x s
  | .crep _ body total => issueCrep body total x s
  | .cbnd _ peg shift => issueCbnd peg shift x s
  | .chlt _ setseg gear seg => issueChlt setseg gear seg x s
  | .fqpost _ queue dsack line => issueFqpost queue dsack line x s
  | .thruGuyline _ f inn nbeats dly => issueThruPort f inn nbeats dly x s
  | .tact _ track bank row xen xr => issueTact track bank row xen xr x s
  | .trd _ track bank col nl sack line ap => issueTrd track bank col nl sack line ap x s
  | .twr _ track bank col nl sack line ap => issueTwr track bank col nl sack line ap x s
  | .tpre _ track bank all => issueTpre track bank all x s
  | .tslotRefresh _ mask pair => issueTslotRefresh mask pair x s
  | .tslotFar _ mask nbeats => issueTslotFar mask nbeats x s
  | .tidxColumn _ track bank isack iline nlog dsack dline => issueTidxColumn track bank isack iline nlog dsack dline x s
  | .tidxLoadIndex _ xr isack iline word stride count => issueTidxLoadIndex xr isack iline word stride count x s
  | _ => s

/-! ## Reading the row store (R54, R57, R58) -/

/-- CREP bodies that end at the fetch position: the next run starts, or the body is done. -/
def closeLoops : Nat → Fetch → Fetch
  | 0, f => f
  | fuel + 1, f =>
    match f.loops with
    | l :: rest =>
      if f.pos = l.stop then
        if l.left = 0 then closeLoops fuel { f with loops := rest }
        else { f with pos := l.first, loops := { l with left := l.left - 1 } :: rest }
      else f
    | [] => f

/-- The next row: its action words with their slots, and the fetch after it. -/
def takeRow (ws : List W64) (f : Fetch) : List (Nat × W64) × Fetch :=
  if 0 < f.idle then ([], { f with idle := f.idle - 1 })
  else
    let f := closeLoops 5 f
    let slots := maskSlots (ws.getD f.pos 0)
    let part := (ws.drop (f.pos + 1)).take slots.length
    (slots.zip part, { f with pos := f.pos + 1 + slots.length })

/-- What the region control's word of a row does to the fetch (R58, R62, R146). -/
def controlFetch (ws : List W64) (f : Fetch) (w : W64) : Fetch :=
  match fieldN w.toNat 50 8 with
  | 1 => { f with idle := fieldN w.toNat 18 32 }
  | 2 => { f with loops := { first := f.pos, stop := skipRows ws (fieldN w.toNat 38 12) f.pos, left := fieldN w.toNat 6 32 - 1 } :: f.loops }
  | 3 => { f with active := false }
  | 4 => { f with active := false }
  | _ => f

/-- Whether none of some slots has an action in the next `n` rows of the segment. -/
def rowsClear (ws : List W64) (slots : List Nat) : Nat → Fetch → Bool
  | 0, _ => true
  | n + 1, f =>
    if !f.active then true
    else
      let (acts, f) := takeRow ws f
      if acts.any (fun a => slots.contains a.1) then false
      else rowsClear ws slots n (match acts.find? (fun a => a.1 == 63) with
        | some a => controlFetch ws f a.2
        | none => f)

/-! ## A beat's work -/

/-- Effects of a phase that are due at beat b, each in turn. -/
def runDue (s : State) (r : Fin 32) (b phase : Nat) : State :=
  let here (d : Due) : Bool := d.beat == b && d.op.phase == phase
  (List.range ((s.regions[r]).due.filter here).length).foldl (fun s _ =>
    match (s.regions[r]).due.find? here with
    | some d =>
      runMicro { r := r, beat := b, issue := d.issue, slot := d.slot } (modRegion s r fun g => { g with due := g.due.erase d }) d.op
    | none => s) s

/-- Increments and ERR whose beat is not fixed take effect (R136). -/
def applyLater (s : State) (r : Fin 32) (b : Nat) : State :=
  let x : Ctx := { r := r, beat := b, issue := b, slot := 61 }
  let l := (s.regions[r]).pegLater
  let s := l.foldl (fun s e =>
    let s := if e.2.2 then setPeg s r e.1 (fun q => { q with err := true }) else s
    if e.2.1 = 0 ∧ e.2.2 then s else incPeg x s e.1 e.2.1) (modRegion s r fun g => { g with pegLater := [] })
  -- a host write that changes the launch Peg's COUNT has a launch evaluated (R348)
  if l.any (fun e => decide (e.2.1 ≠ 0) && r.val * 512 + e.1 == getField s Reg.HST_LPEG 0 14) then evalLaunchPeg s else s

/-- A successor's row 0 issues 128 beats after its boundary (R54). -/
def startSegment (s : State) (r : Fin 32) (b : Nat) : State :=
  if (s.regions[r]).fetch.active then s
  else match s.trail.nexts.find? (fun n => n.beat + 128 == b && !n.stop) with
  | some n => modRegion s r fun g =>
      { g with fetch := { Fetch.none with active := true, seg := n.seg, gear := n.gear, start := b }, rowsBegun := 0 }
  | none => s

/-- The last beat at which a queued effect or what follows from it is due. -/
def dueEnd (s : State) (r : Nat) (d : Due) : Nat :=
  match d.op with
  | .move _ _ (.sack _ _ delay) => d.beat + delay
  | .move _ _ (.face f _ extra) => d.beat + extra + crossLatency f
  | .move _ _ (.guyline _ _ delay) => d.beat + delay
  | .planeRead _ _ _ _ _ => d.beat + 2
  | .rawRead _ _ _ _ _ => d.beat + 4
  | .scaleRead _ _ _ _ _ => d.beat + 2
  | .macRead _ _ _ af _ _ _ _ => d.beat + 5 + (match fmtClass af with
      | some cls => cls.bpv
      | none => 1)
  | .macArrive _ _ _ _ _ _ wait _ => d.beat + wait
  | .kexec _ op o _ _ => d.beat + kDepth op + (if o.dm then 2 else 0)
  | .ksrStore _ _ _ _ _ => d.beat + 2
  | .facePut f _ _ _ => d.beat + crossLatency f
  | .twrRead src _ _ => d.beat + detourBeats s (regionFin r) (sackCluster src) none
  | .thruTake out dly => if out = 6 then d.beat + 8 + dly else d.beat + dly + crossLatency out
  | .tidxColumn _ _ _ nl _ _ => d.beat + tkRdl s r + busBeats s (nl - 1)
  | _ => d.beat

/-- Whether row n of a region is tagged (R375), with the state after the draw. -/
def tagDraw (s : State) (r b : Nat) : Bool × State :=
  let k := getField s Reg.LN_TAG_CFG 8 5
  let (u, s) := if strictOn s then
      let seed := getReg s Reg.LN_TAG_SEED
      (((kindling (indexCtr (BitVec.ofNat 64 b) (BitVec.ofNat 32 (0x1A40 + r)) 0) (seed.setWidth 32) ((seed >>> 32).setWidth 32)).c0).toNat, s)
    else let (w, s) := freshWord s; ((w.setWidth 32).toNat, s)
  (decide (u < 2 ^ (32 - k)), s)

/-- A row that has issued at b is tagged, or counted where four are in flight (R375). -/
def tagRow (s : State) (r : Fin 32) (b : Nat) : State :=
  if getField s Reg.LN_TAG_CFG 31 1 = 0 then s
  else
    let (hit, s) := tagDraw s r.val b
    if !hit then s
    else if 4 ≤ (s.lantern.tagged.filter (fun t => t.region == r.val && t.ended.isNone)).length then countField s Reg.LN_TRACE_SKIP 16 16 1
    else
      let g := s.regions[r]
      let ends := (g.due.filter (fun d => d.issue == b)).map (dueEnd s r.val) ++
        (g.faces.filter (fun f => decide (f.1 < 6))).map (fun f => b + crossLatency f.1)
      let (w, s) := freshWord s
      let t : TagRow := { region := r.val, beat := b, last := ends.foldl max b, seg := g.fetch.seg, gear := g.fetch.gear,
                          row := g.rowsBegun - 1, issued := nowUnits s, fetched := nowUnits s - w.toNat % 2 ^ 24, held := false,
                          lag := decide (b + 1 < s.pacer.released), wake := false, guard := g.held.getLsbD 60, ended := none }
      lnAdd { s with lantern := { s.lantern with tagged := s.lantern.tagged ++ [t] } } r.val 47 1

/-- The actions of the row that issues at b; none before the segment's start, in a gap or after CHLT. -/
def issueRow (s : State) (r : Fin 32) (b : Nat) : List (Nat × Instr) × Bool × State :=
  let g := s.regions[r]
  if g.fetch.active && decide (g.fetch.start ≤ b) then
    let (ws, f) := takeRow (rowWords s r.val g.fetch) g.fetch
    (ws.filterMap (fun w => (decodeAction r w.2).map (fun i => (w.1, i))), true,
      modRegion s r fun g => { g with fetch := f, rowsBegun := g.rowsBegun + 1 })
  else ([], false, s)

/-- A unit whose wake is over is awake (R330). One that had an action to acknowledge acknowledges it late: event 0x0B07. -/
def wakeUnit (s : State) (r : Fin 32) (slot : Nat) : State :=
  match (s.regions[r]).waking.find? (fun e => e.1 == slot) with
  | none => s
  | some (_, t) =>
    if s.time < t then s
    else
      let late := (s.regions[r]).asleep.getLsbD slot
      let s := modRegion s r fun g => { g with
        idleOf := storeDel g.idleOf slot, waking := storeDel g.waking slot, asleep := g.asleep &&& ~~~(1#64 <<< slot) }
      if !late then s
      else
        let s := lnAdd (logEvent s 0x0B07) r.val 46 1
        let s := { s with lantern := { s.lantern with tagged := s.lantern.tagged.map (fun t =>
          if t.region = r.val ∧ t.ended = none then { t with wake := true } else t) } }
        ackSlot (restartHang s r) r slot

/-- The beat's reads and row, once its writes and arrivals are in. Slots with neither an action nor an effect due have
acknowledged (R29); a unit that its action finds asleep withholds (R330). -/
def finishRow (s : State) (r : Fin 32) : State :=
  let b := lastBeat s.regions[r]
  let (acts, isRow, s) := issueRow (notifyPegs s r) r b
  let reads := ((s.regions[r]).due.filter (fun d => d.beat == b)).flatMap (fun d => d.op.reads.map (fun k => (k, d.slot))) ++
    acts.flatMap (fun a => (portReads { r := r, beat := b, issue := b, slot := a.1 } s a.2).map (fun k => (k, a.1)))
  let s := (acts.map (·.1)).foldl (wakeUnit · r) s
  let late := acts.filter (fun a => decide (0 < storeGet 0 (s.regions[r]).idleOf a.1))
  let s := modRegion s r fun g =>
    { g with rowWait := false, readers := g.readers ++ reads
             acked := acts.foldl (fun m a => m &&& ~~~(1#64 <<< a.1)) g.acked
             asleep := late.foldl (fun m a => m ||| (1#64 <<< a.1)) g.asleep }
  let s := runDue (runDue s r b 2) r b 3
  let s := acts.foldl (fun s a => runAction { r := r, beat := b, issue := b, slot := a.1 } a.2 (lnAction s r a.2)) s
  let s := if isRow then tagRow s r b else s
  tryComplete (takeWaiting s r) r

/-- Whether an entry is due in the beat in progress. -/
def arrivalDue (g : Region) (b : Nat) : Bool := g.xings.toList.any (fun l => l.any (fun e => e.due == b))

/-- Counters that were frozen count again from this beat (R372). -/
def thawRegion (s : State) (r : Nat) : State :=
  let l := s.lantern
  if l.thawing.getLsbD r then
    { s with lantern := { l with frozen := l.frozen &&& ~~~(1#32 <<< r), thawing := l.thawing &&& ~~~(1#32 <<< r) } }
  else s

/-- The THRU actions of the row that will issue in this beat are in force for the beat's arrivals (R134): they forward from their
issue beat on. -/
def thruAhead (s : State) (r : Fin 32) (b : Nat) : State :=
  let acts := (issueRow s r b).1
  acts.foldl (fun s a => match a.2 with
    | .thru _ f inn nbeats dly => issueThru f inn nbeats dly { r := r, beat := b, issue := b, slot := a.1 } s
    | .thruGuyline _ f inn nbeats dly =>
      if inn = 6 then s else issueThru f inn nbeats dly { r := r, beat := b, issue := b, slot := a.1 } s
    | _ => s) s

/-- A region begins beat n: PSET and PERR due then take effect before the increments of R136, then its other due writes, and, once
its arrivals are in, its row issues. -/
def startBeat (s : State) (r : Fin 32) (n : Nat) : State :=
  let g := s.regions[r]
  let busy := ((g.due.filter (fun d => d.beat == n)).map (·.slot))
  let s := lnAdd (thawRegion s r.val) r.val 56 1
  let s := if n + 1 < s.pacer.released then lnAdd s r.val 0 1 else s
  let s := if g.permitWait then lnAdd s r.val 1 1 else s
  let s := if g.slackWait then lnAdd s r.val 2 1 else s
  let s := modRegion s r fun g =>
    { g with begun := n + 1, acked := busy.foldl (fun m k => m &&& ~~~(1#64 <<< k)) (BitVec.allOnes 64), hangFrom := s.time
             begunAt := s.time, readers := [], writers := [], faces := [], permitWait := false, slackWait := false }
  let s := runDue (thruAhead (startPrecharges (startSegment s r n) r n) r n) r n 0
  let s := runDue (applyLater s r n) r n 1
  if arrivalDue s.regions[r] n then modRegion s r fun g => { g with rowWait := true } else finishRow s r

/-- BEGIN_BEAT (R28). -/
def beginBeat (s : State) (r : Fin 32) : State :=
  let g := s.regions[r]
  let n := g.begun
  if s.pacer.mode = .cal then calBeat s r
  else if g.completed < n || beatBarred s g n then s
  else if s.pacer.released ≤ n then modRegion s r fun g => { g with permitWait := true }
  else if !slackOk s r n then modRegion s r fun g => { g with slackWait := true }
  else startBeat s r n

/-- CROSSING_ARRIVAL (R32, R129, R130): the entry due at the beat in progress is taken; after the last the row issues. -/
def crossingArrival (s : State) (r : Fin 32) (i : Fin 6) (flip : Option (BitVec 11)) : State :=
  let g := s.regions[r]
  let b := lastBeat g
  if !g.rowWait then s
  else match (g.xings[i]).find? (fun e => e.due == b) with
  | none => s
  | some e =>
    let x : Ctx := { r := r, beat := b, issue := e.issue, slot := faceSlot i.val }
    let s := modRegion s r fun g => { g with xings := g.xings.set i (g.xings[i].erase e) }
    let s := arrive x s i.val e flip
    if arrivalDue s.regions[r] b then s else finishRow s r

/-! ## Idle units (R330, Table 14.5) -/

/-- Whether the gap to the next action of some slots is at least `n` beats, as the look-ahead shows it. -/
def gapClear (s : State) (r : Fin 32) (slots : List Nat) (n : Nat) : Bool :=
  let g := s.regions[r]
  if !running s then true
  else if g.fetch.active then rowsClear (rowWords s r.val g.fetch) slots n g.fetch
  else match g.bndBeat with
    | some b => decide (g.begun + n ≤ b + 128)
    | none => true

/-- The units that are gated together in an idle state (Table 14.5). -/
def idleGroup (k depth : Nat) : List Nat :=
  let c := if k < 8 then k else (k - 8) / 2
  match depth with
  | 2 => [c, 8 + 2 * c, 9 + 2 * c]
  | 3 => List.range 24
  | _ => [k]

/-- UNIT_IDLE_ENTRY (R330): A1 for any unit, A2 for the Stove and Kettles of a cluster together, A3 for all those of the
region. -/
def unitIdle (s : State) (r : Fin 32) (slot : Fin 64) (depth : Fin 4) : State :=
  let k := slot.val
  let enter (slots : List Nat) (n : Nat) : State :=
    if gapClear s r slots n then
      modRegion s r fun g => { g with
        idleOf := slots.foldl (fun m i => storePut m i depth.val) g.idleOf, waking := slots.foldl (fun m i => storeDel m i) g.waking }
    else s
  match depth.val with
  | 1 => enter [k] 8
  | 2 => if k < 24 then enter (idleGroup k 2) 160 else s
  | 3 => if k < 24 then enter (idleGroup k 3) 4096 else s
  | _ => s

/-- The wake time of an idle state, in beats (Table 14.5). -/
def wakeBeats (depth : Nat) : Nat :=
  match depth with
  | 0 => 0
  | 1 => 2
  | 2 => 40
  | _ => 2000

/-- UNIT_WAKE (R330). The gate starts the wake once an action of the unit, or of those gated with it, lies no farther ahead than the wake
time; between jobs in M0 whenever it is told. The time runs at the pace in force (log entry 107). A unit whose wake is over is awake. -/
def unitWake (s : State) (r : Fin 32) (slot : Fin 64) : State :=
  let s := wakeUnit s r slot.val
  let g := s.regions[r]
  let depth := storeGet 0 g.idleOf slot.val
  let group := idleGroup slot.val depth
  let near := if running s then group.any (fun k => g.asleep.getLsbD k) || !gapClear s r group (wakeBeats depth)
    else decide (getField s Reg.FW_STAT 28 2 = 0)
  if depth = 0 ∨ g.waking.any (fun e => e.1 == slot.val) ∨ !near then s
  else
    let t := s.time + ceilDiv (wakeBeats depth * 262144) (max 1 s.pacer.n)
    modRegion s r fun g => { g with waking := group.foldl (fun m k => storePut m k t) g.waking }

/-! ## The commands -/

/-- BEGIN_BEAT. -/
def execBeginBeat (r : Fin 32) (s : State) : Host.Outcome State Fault Refusal := .next (noteLag (beginBeat s r))

/-- UNIT_ACKNOWLEDGE. -/
def execUnitAcknowledge (r : Fin 32) (slot : Fin 64) (s : State) : Host.Outcome State Fault Refusal :=
  .next (ackSlot (wakeUnit s r slot.val) r slot.val)

/-- CROSSING_ARRIVAL. -/
def execCrossingArrival (r : Fin 32) (i : Fin 6) (flip : Option (BitVec 11)) (s : State) : Host.Outcome State Fault Refusal :=
  .next (crossingArrival s r i flip)

/-- UNIT_WAKE. -/
def execUnitWake (r : Fin 32) (slot : Fin 64) (s : State) : Host.Outcome State Fault Refusal := .next (unitWake s r slot)

/-- UNIT_IDLE_ENTRY. -/
def execUnitIdleEntry (r : Fin 32) (slot : Fin 64) (depth : Fin 4) (s : State) : Host.Outcome State Fault Refusal :=
  .next (unitIdle s r slot depth)

end Sys2Proof.Machine
end

