-- ==== Sys2Proof/Machine/Pitch.lean ====
section
/-!
DEFINITION. Machine/Pitch.lean: the Pitch bit-stream, its checks, apply and withdrawal (R66 to R72, R415).
-/

namespace Sys2Proof.Machine

/-! ## The bit-stream (Tables 3.10 and 3.11, R70) -/

/-- The sections by ascending type: CLASS and body length in bytes; 0: any non-zero multiple of 4. -/
def sectionTable : List (Nat × Nat) :=
  [(2, 48), (0, 8), (1, 12), (1, 16), (2, 24), (2, 128), (2, 0), (2, 96), (0, 4096), (0, 256), (0, 512), (0, 8192), (0, 48),
   (0, 40)]

/-- CLASS of a section type. -/
def sectionClass (t : Nat) : Nat := (sectionTable.getD (t - 1) (3, 0)).1

/-- `n` sections off the front of a byte string: type and whole bytes of each, and what follows them. -/
def takeSections : Nat → List Byte → Option (List (Nat × List Byte) × List Byte)
  | 0, bs => some ([], bs)
  | n + 1, bs =>
    let size := 8 + ceilDiv (leField bs 0 4) 8 * 8
    if bs.length < size then none
    else match takeSections n (bs.drop size) with
      | some (l, rest) => some ((leField bs 7 1, bs.take size) :: l, rest)
      | none => none

/-- Body of a section of a type; empty where there is none. -/
def sectionBody (secs : List (Nat × List Byte)) (t : Nat) : List Byte :=
  match secs.find? (fun e => e.1 == t) with
  | some (_, bs) => (bs.drop 8).take (leField bs 0 4)
  | none => []

/-- Masks of the bits of a body byte that must be zero, by section type: ranges of bytes and a mask. -/
def reservedBytes : Nat → List (Nat × Nat × Nat)
  | 0x01 => [(11, 15, 0xFF)]
  | 0x02 => [(0, 0, 0xF0), (1, 2, 0xFC), (3, 7, 0xFF)]
  | 0x03 => [(7, 7, 0xFE)]
  | 0x04 => [(10, 10, 0xE0), (11, 11, 0xFF)]
  | 0x05 => [(5, 5, 0xFF), (18, 23, 0xFF)]
  | 0x0D => [(12, 15, 0xFF), (20, 23, 0xFF), (28, 31, 0xFF), (46, 47, 0xFF)]
  | 0x0E => [(34, 34, 0xFC), (35, 39, 0xFF)]
  | _ => []

/-- Every reserved bit of a body is zero; in BOUNDS so is HPORT of a window that is not KIND 3. -/
def bodyClean (t : Nat) (b : List Byte) : Bool :=
  (reservedBytes t).all (fun e => (List.range (e.2.1 + 1 - e.1)).all (fun i => leField b (e.1 + i) 1 &&& e.2.2 == 0)) &&
  (match t with
  | 0x07 => (List.range (b.length / 4)).all (fun i => fieldN (leField b (4 * i) 4) 0 15 == 0)
  | 0x0A => (List.range 32).all (fun r => leField b (8 * r + 3) 1 == 0)
  | 0x0B => (List.range 64).all (fun q => fieldN (leField b (8 * q) 8) 0 50 == 0)
  | 0x0C => (List.range 512).all (fun i =>
      let w := leField b (16 * i) 8
      fieldN w 5 7 == 0 && (fieldN w 0 2 == 3 || fieldN w 4 1 == 0))
  | _ => true)

/-- A section meets R70. -/
def sectionOk (e : Nat × List Byte) : Bool :=
  let h := leField e.2 0 8
  let n := fieldN h 0 32
  match sectionTable[e.1 - 1]? with
  | none => false
  | some (cls, len) =>
    decide (e.1 ≠ 0) && fieldN h 54 2 == cls && fieldN h 48 6 == 0 && fieldN h 32 16 == 1 &&
    (if len = 0 then decide (n ≠ 0) && n % 4 == 0 else n == len) &&
    (e.2.drop (8 + n)).all (· == 0) && bodyClean e.1 ((e.2.drop 8).take n)

/-- Check 2 of Table 3.12: the sections of a well-formed bit-stream. -/
def parsePitch (bs : List Byte) : Option (List (Nat × List Byte)) :=
  let n := leField bs 8 8
  let nsect := leField bs 7 1
  if leField bs 0 4 = 0x4E565054 ∧ leField bs 4 2 = 1 ∧ 96 ≤ n ∧ n ≤ 2 ^ 20 ∧ bs.length = n ∧ (nsect = 13 ∨ nsect = 14) ∧
      ((bs.drop 16).take 48).all (· == 0) ∧ sha256 (bs.take (n - 32)) = bs.drop (n - 32) then
    match takeSections nsect ((bs.take (n - 32)).drop 64) with
    | some (secs, []) =>
      let types := secs.map (·.1)
      if (types = tab 14 (· + 1) ∨ types = (tab 14 (· + 1)).filter (· != 7)) ∧ secs.all sectionOk then some secs else none
    | _ => none
  else none

/-- The SHA-256 of the sections whose class is at most `c`, each whole (R71). -/
def classDigest (secs : List (Nat × List Byte)) (c : Nat) : List Byte :=
  sha256 ((secs.filter (fun e => decide (sectionClass e.1 ≤ c))).flatMap (·.2))

/-- The values of a well-formed bit-stream. -/
def readPitch (bs : List Byte) (secs : List (Nat × List Byte)) : Pitch :=
  let body := sectionBody secs
  let mode := body 0x02
  let camp := body 0x04
  let ports := body 0x05
  let tables := body 0x0D
  let trail := body 0x0E
  { strict := leField mode 0 1 % 2 = 1
    debug := fieldN (leField mode 0 1) 1 1 = 1
    detourOk := fieldN (leField mode 0 1) 2 1 = 1
    relaxed := fieldN (leField mode 0 1) 3 1 = 1
    gearPin := leField mode 1 1
    gearMax := leField mode 2 1
    paceN := leField (body 0x03) 2 2
    origin := tab 5 fun k => leField camp k 1
    extent := tab 5 fun k => leField camp (5 + k) 1
    wrap := leField camp 10 1
    horizon := leField camp 12 4
    coord := tab 5 fun k => leField ports k 1
    self := leField ports 6 2
    roles := tab 10 fun p => leField ports (8 + p) 1
    clmap := tab 256 fun i => fieldN (leField (body 0x06) (4 * (i / 8)) 4) (4 * (i % 8)) 4
    detours := tab ((body 0x07).length / 4) fun i =>
      let w := leField (body 0x07) (4 * i) 4
      { home := fieldN w 27 5, cluster := fieldN w 24 3, lender := fieldN w 19 5, phys := fieldN w 15 4 }
    alloc := tab 32 fun r => BitVec.ofNat 512 (leField (body 0x09) (128 * r) 64)
    hostw := tab 32 fun r => BitVec.ofNat 512 (leField (body 0x09) (128 * r + 64) 64)
    enable := tab 32 fun r => BitVec.ofNat 24 (leField (body 0x0A) (8 * r) 3)
    period := tab 32 fun r => leField (body 0x0A) (8 * r + 4) 2
    phase := tab 32 fun r => leField (body 0x0A) (8 * r + 6) 2
    farq := tab 64 fun q =>
      let w := leField (body 0x0B) (8 * q) 8
      (fieldN w 63 1, fieldN w 58 5, fieldN w 50 8)
    bounds := tab 32 fun r => tab 16 fun i =>
      let w := leField (body 0x0C) (256 * r + 16 * i) 8
      { kind := fieldN w 0 2, r := fieldN w 2 1 = 1, w := fieldN w 3 1 = 1, hport := fieldN w 4 1
        base := w / 4096 * 4096, limit := leField (body 0x0C) (256 * r + 16 * i + 8) 8 }
    bunkBase := leField tables 0 8
    bunkCount := leField tables 8 4
    topoBase := leField tables 16 8
    topoCount := leField tables 24 4
    slotBase := leField tables 32 8
    slotSize := leField tables 40 4
    slotCount := leField tables 44 2
    trailDigest := trail.take 32
    entrySeg := leField trail 32 2
    entryGear := leField trail 34 1
    digest := sha256 bs
    ldigest := classDigest secs 0
    cdigest := classDigest secs 1 }

/-! ## The checks (Table 3.12) -/

/-- Whether failed bit k of a region's map record is set: physical cluster k, or track k - 16. -/
def failedUnit (s : State) (r k : Nat) : Bool := (getReg s (Reg.HUB_MAP r)).getLsbD k

/-- Clusters that a region has lost. -/
def clustersLost (s : State) (r : Nat) : Nat := ((List.range 9).filter (failedUnit s r)).length

/-- Check 5: CLMAP and DETOUR meet R66 and R67. -/
def placementOk (s : State) (p : Pitch) : Bool :=
  let mapOf (r : Nat) : List Nat := tab 8 fun c => p.clmap.getD (8 * r + c) 0
  let regionOk (r : Nat) : Bool :=
    let phys := (mapOf r).filter (· != 0xF)
    let holes := 8 - phys.length
    phys.all (fun k => decide (k ≤ 8) && !failedUnit s r k) && decide phys.Nodup &&
    (holes == 0 || (holes == 1 && clustersLost s r == 2)) &&
    (List.range 8).all (fun c => (mapOf r).getD c 0 != 0xF || p.detours.any (fun d => d.home == r && d.cluster == c))
  let detourOk (d : Detour) : Bool :=
    (mapOf d.home).getD d.cluster 0 == 0xF &&
    (List.range 4).any (fun i => poleNeighbour d.home i == some d.lender) &&
    clustersLost s d.lender == 0 && decide (d.phys ≤ 8) && !(mapOf d.lender).contains d.phys
  (List.range 32).all regionOk && p.detours.all detourOk && decide (p.detours.map (·.lender)).Nodup &&
    decide (p.detours.map (fun d => (d.home, d.cluster))).Nodup

/-- Check 7: every d is the crossing's own (R35). -/
def crossingsOk (s : State) (body : List Byte) : Bool :=
  (List.range 32).all fun r => (List.range 6).all fun i =>
    fieldN (leField body (3 * r) 3) (4 * i) 4 == getField s (Reg.RG_XING_STAT r i) 16 4

/-- Check 8: the PACE section's ranges. -/
def paceOk (s : State) (p : Pitch) (body : List Byte) : Bool :=
  let design := leField body 0 2
  let lag := leField body 4 2
  let margin := leField body 6 1
  let hang := leField body 8 4
  decide (1311 ≤ p.paceN) && decide (p.paceN ≤ design) && decide (design ≤ gradeMax s) && decide (16 ≤ lag) &&
  decide (lag ≤ 1024) && decide (4 ≤ margin) && decide (margin ≤ 20) && decide (156 ≤ hang) && decide (hang < 2 ^ 24) &&
  (!p.debug || decide (design ≤ 5242))

/-- Where the part of [lo, …) that windows cover without a gap ends. -/
def coverEnd (ws : List Bound) : Nat → Nat → Nat
  | 0, lo => lo
  | n + 1, lo =>
    let e := ws.foldl (fun m w => if w.base ≤ lo ∧ lo < w.limit then max m w.limit else m) lo
    if e = lo then lo else coverEnd ws n e

/-- Whether HBM bytes [lo, lo + n) lie in KIND 1 windows of the regions that own their tracks (R415). -/
def tablePlaced (p : Pitch) (lo n : Nat) : Bool :=
  n == 0 || (List.range ((lo + n - 1) / 2 ^ 31 + 1 - lo / 2 ^ 31)).all fun i =>
    let g := lo / 2 ^ 31 + i
    let a := max lo (g * 2 ^ 31)
    let e := min (lo + n) ((g + 1) * 2 ^ 31)
    let ws := (p.bounds.getD (g / 24) []).filter (fun w => w.kind == 1)
    decide (g < 768) && decide (e ≤ coverEnd ws 16 a)

/-- Whether the adapter slots are placed (R196, R415): on the i-th enabled track, the rows of slot k. -/
def slotsPlaced (p : Pitch) : Bool :=
  let ts := enabledTracks p
  let row := fieldN p.slotBase 15 16
  let rows := slotRows p
  let units := p.slotSize / 32768
  decide (p.slotBase = row * 2 ^ 15) &&
  (p.slotCount == 0 || units == 0 ||
    (!ts.isEmpty && decide (row + rows * p.slotCount ≤ 65536) &&
     (List.range (min units ts.length)).all (fun i => (List.range p.slotCount).all (fun k =>
        tablePlaced p (ts.getD i 0 * 2 ^ 31 + (row + k * rows) * 2 ^ 15) (ceilDiv (units - i) ts.length * 2 ^ 15)))))

/-- Check 9: BOUNDS, Pegs, tables and tracks (R415). -/
def memoryOk (s : State) (p : Pitch) : Bool :=
  let top (k : Nat) : Nat := if k = 1 then 768 * 2 ^ 31 else if k = 2 then barrelSize s else 2 ^ 64
  p.bounds.all (fun l => l.all (fun w =>
    w.kind == 0 || (decide (w.base < w.limit) && decide (w.limit ≤ top w.kind) && w.limit % 4096 == 0))) &&
  (List.range 32).all (fun r => p.hostw.getD r 0 &&& ~~~(p.alloc.getD r 0) == 0) &&
  decide (p.bunkCount ≤ 65536) && decide (p.topoCount ≤ 1048576) && decide (p.slotCount ≤ 256) &&
  decide (p.slotSize ≤ 2 ^ 30) && p.slotSize % 2 ^ 20 == 0 &&
  tablePlaced p p.bunkBase (256 * p.bunkCount) && tablePlaced p p.topoBase (16 * p.topoCount) && slotsPlaced p &&
  (List.range 32).all (fun r => (List.range 24).all (fun t => !((p.enable.getD r 0).getLsbD t && failedUnit s r (16 + t))))

/-- Check 10: the camp box, the coordinate, the index and the roles (R233, R234). -/
def campOk (p : Pitch) : Bool :=
  let o (k : Nat) : Nat := p.origin.getD k 0
  let e (k : Nat) : Nat := p.extent.getD k 0
  let c (k : Nat) : Nat := p.coord.getD k 0
  let n (k : Nat) : Nat := ringSizes.getD k 1
  let d (k : Nat) : Nat := (c k + n k - o k) % n k
  let roleOk (q : Nat) : Bool :=
    let k := q / 2
    -- the offset at the other end, and whether the link joins offsets n - 1 and 0
    let far := if q % 2 = 0 then (d k + 1) % n k else (d k + n k - 1) % n k
    let wraps := if q % 2 = 0 then d k + 1 == n k else d k == 0
    match p.roles.getD q 0 with
    | 0 => true
    | 1 => decide (far < e k) && (!wraps || fieldN p.wrap k 1 == 1)
    | 2 => true
    | _ => false
  (List.range 5).all (fun k => decide (o k < n k) && decide (c k < n k) && decide (1 ≤ e k) && decide (e k ≤ n k) &&
    decide (d k < e k) && (fieldN p.wrap k 1 == 0 || e k == n k)) &&
  decide (256 ≤ p.horizon) && decide (p.horizon ≤ 16384) &&
  p.self == d 0 + e 0 * (d 1 + e 1 * (d 2 + e 2 * (d 3 + e 3 * d 4))) && (List.range 10).all roleOk

/-- The first check of Table 3.12 from check 2 on that the bit-stream fails, or the Pitch. -/
def checkPitch (s : State) (bs : List Byte) : Nat ⊕ Pitch :=
  match parsePitch bs with
  | none => .inl 0x01
  | some secs =>
    let p := readPitch bs secs
    let ident := sectionBody secs 0x01
    if leField bs 6 1 ≠ s.identity.generation ∨ leField ident 10 1 ≠ s.identity.generation then .inl 0x02
    else if leField ident 0 8 ≠ s.identity.serial.toNat ∨ leField ident 8 1 ≠ bit1 s.identity.gradeS ∨
        leField ident 9 1 ≠ bit1 s.identity.steppingB0 ∨ (ident.drop 16).take 32 ≠ sha256 (mapBytes s) then .inl 0x03
    else if !placementOk s p then .inl 0x04
    else if !p.detours.isEmpty && !p.detourOk then .inl 0x05
    else if !crossingsOk s (sectionBody secs 0x08) then .inl 0x06
    else if !paceOk s p (sectionBody secs 0x03) then .inl 0x07
    else if !memoryOk s p then .inl 0x08
    else if !campOk p then .inl 0x09
    else .inr p

/-! ## Apply and withdrawal -/

/-- A Pitch command refused with a cause (R71, R72): PT_STAT.ERR_CAUSE and event 0x02cc. -/
def refusePitch (s : State) (cause : Nat) : State := logEvent (setField s Reg.PT_STAT 8 8 cause) (0x0200 + cause)

/-- Beats of a contract time in ps at design pace N_d (R152): T(t) = ceil(t × N_d ÷ 6,553.6), t in ns. -/
def contractBeats (ps n : Nat) : Nat := ceilDiv (ps * n) 6553600

/-- The track registers of the Pitch and its design pace (Tables 7.3 and 7.8). -/
def applyTracks (s : State) (p : Pitch) (nd : Nat) : State :=
  let b (ps : Nat) : Nat := contractBeats ps nd
  let t0 := b 14000 * 2 ^ 24 + b 30000 * 2 ^ 16 + b 14000 * 2 ^ 8 + b 2000
  let t1 := b 12000 * 2 ^ 24 + b 16000 * 2 ^ 16 + b 8000 * 2 ^ 8 + b 6000
  let t2 := b 160000 * 2 ^ 16 + b 40000 * 2 ^ 8 + b 2500
  (List.range 32).foldl (fun s r =>
    let s := setReg s (Reg.RG_TK_CFG r) ((p.enable.getD r 0).setWidth 64)
    let s := setReg s (Reg.RG_TK_SLOT r) (BitVec.ofNat 64 (p.phase.getD r 0 * 2 ^ 16 + p.period.getD r 0))
    setReg (setReg (setReg s (Reg.RG_TK_T0 r) (BitVec.ofNat 64 t0)) (Reg.RG_TK_T1 r) (BitVec.ofNat 64 t1))
      (Reg.RG_TK_T2 r) (BitVec.ofNat 64 t2)) s

/-- The far queues of the Pitch: FQ_CFG, and ENABLED or DISABLED. -/
def applyQueues (s : State) (p : Pitch) : State :=
  (List.range 64).foldl (fun s q =>
    let (en, owner, ops) := p.farq.getD q (0, 0, 0)
    let s := setReg s (Reg.FQ_CFG q) (BitVec.ofNat 64 (en * 2 ^ 31 + owner * 2 ^ 26 + ops * 2 ^ 18))
    setField s (Reg.FQ_STAT q) 30 2 (if en = 1 then 0 else 2)) s

/-- The RWL fields of the other blocks (R71). -/
def applyFields (s : State) (p : Pitch) (pace : List Byte) : State :=
  let nd := leField pace 0 2
  let racks := 1 < p.extent.getD 3 1 ∨ 1 < p.extent.getD 4 1
  let s := setField s Reg.PACE_CTL 2 1 (leField pace 7 1)
  let s := setReg s Reg.PACE_DESIGN (BitVec.ofNat 64 nd)
  let s := setReg s Reg.PACE_LAG_MAX (BitVec.ofNat 64 (leField pace 4 2))
  let s := setReg s Reg.PACE_VMARGIN (BitVec.ofNat 64 (leField pace 6 1))
  let s := setReg s Reg.PACE_HANG (BitVec.ofNat 64 (leField pace 8 4))
  let s := setReg s Reg.TARP_H (BitVec.ofNat 64 p.horizon)
  let s := setReg s Reg.TARP_SELF (BitVec.ofNat 64 p.self)
  let s := setReg s Reg.GL_SELF_COORD (BitVec.ofNat 64 (2 ^ 15 + packCoord p.coord))
  let s := setReg s Reg.CMP_SKEW_LIM (BitVec.ofNat 64 (if racks then 100 else 20))
  let s := setReg s Reg.FW_PACE_LEAD (BitVec.ofNat 64 (if racks then 32 else 8))
  let s := setReg s Reg.FW_PACE_STEP (BitVec.ofNat 64 (ceilDiv nd 20))
  applyQueues (applyTracks s p nd) p

/-- A Pitch that passed every check is applied (R71): RWL fields, digests, Sacks and Pegs cleared, the pacer ARMED. -/
def applyPitch (s : State) (p : Pitch) (pace : List Byte) : State :=
  let s := applyFields (setField s Reg.PT_STAT 8 8 0) p pace
  let s := setRegBytes (setRegBytes (setRegBytes s Reg.PT_DIGEST p.digest) Reg.PT_LDIGEST p.ldigest) Reg.PT_CDIGEST p.cdigest
  let s := modRegions s fun g => { g with sacks := [], pegs := [], pegLater := [] }
  let s := { s with
    pitch := some p, pegTouched := []
    pacer := { s.pacer with mode := .armed, n := p.paceN, released := 0, base := none, pend := none, stopAt := none }
    firewatch := { s.firewatch with
      want := p.paceN, gwant := 0, changed := none, spell := false, tooSparse := false, asks := [], asked := none
      pend := none, acks := [], votes := [], voteCast := false, scripted := none, voteWait := none, quietFrom := none } }
  let s := modFire s fun f => { f with want := max f.want (paceFloor s) }
  evalLaunchPeg (pulse s 149)

/-- PT_CMD.APPLY (R71): the checks, on the LENGTH bytes at PT_ADDR. -/
def pitchApply (s : State) : State :=
  if s.pitch.isSome ∨ s.pacer.mode ≠ .off then refusePitch s 0x0A
  else
    let a := getField s Reg.PT_ADDR 12 52 * 4096
    let (head, s) := firmwareRead s a 64
    let n := leField head 8 8
    let (rest, s) := firmwareRead s (a + 64) (if n ≤ 2 ^ 20 then n - 64 else 0)
    let bs := head ++ rest
    match checkPitch s bs with
    | .inl cause => refusePitch s cause
    | .inr p => applyPitch s p (sectionBody ((parsePitch bs).getD []) 0x03)

/-- The Bunk store goes back to its table and is emptied, and nothing is staged (log entry 70). -/
def dropStore (s : State) : State :=
  let s := s.far.bunks.foldl (fun t e => writeBack t e.1) s
  noteStore (setField (setField { s with far := { s.far with
    bunks := [], topo := [], loading := none, staged := [], running := [], bunkWait := false } } Reg.BK_STAT 30 1 0) Reg.BK_STAT 31 1 0)

/-- Crossing values that waited for the withdrawal take effect (R388). -/
def applyHeld (s : State) : State :=
  let s := s.startup.heldD.foldl (fun s e => setField s (Reg.RG_XING_STAT e.1 e.2.1) 16 4 e.2.2) s
  setField { s with startup := { s.startup with heldD := [] } } Reg.HUB_CAL_STAT 31 1 0

/-- The Trail is unloaded: EMPTY. -/
def unloadTrail (s : State) : State :=
  { s with trail := { s.trail with
    mode := .empty, segs := [], nseg := 0, nexts := [], crossroad := none, logDue := none, pegArm := none, loadResult := none } }

/-- A withdrawal (R72): Trail, Pitch and pending change go, the pacer is OFF, held values and failures take effect. -/
def withdraw (s : State) : State :=
  let loading := s.trail.mode == .loading
  let s := unloadTrail (dropStore (discardRecords s false false))
  let s := { s with
    pitch := none
    pacer := { s.pacer with mode := .off, n := 0, pend := none, base := none, stopAt := none }
    firewatch := { s.firewatch with pend := none, votes := [], voteWait := none } }
  let s := pulse (mergeMap (applyHeld s)) 149
  if loading then pulse s 150 else s

/-- PT_CMD.WITHDRAW (R72). -/
def pitchWithdraw (s : State) : State :=
  if s.pitch.isSome ∧ s.pacer.mode = .armed then withdraw s else refusePitch s 0x0A

/-- PT_CMD.WITHDRAW with FORCE (R72): in RUN and HELD the job is struck with 0x2224, and far requests complete poisoned. -/
def pitchForcedWithdraw (s : State) : State :=
  if s.pitch.isSome ∧ pacing s then
    withdraw (abortReqs (raiseModule s 0x2224) (fun _ => true) 5)
  else pitchWithdraw s

/-! ## The commands -/

/-- PITCH_APPLY. -/
def execPitchApply (q : Requester) (s : State) : Host.Outcome State Fault Refusal :=
  .next (byWriter s q pitchApply)

/-- PITCH_WITHDRAW. -/
def execPitchWithdraw (q : Requester) (s : State) : Host.Outcome State Fault Refusal := .next (byWriter s q pitchWithdraw)

/-- PITCH_FORCED_WITHDRAW. -/
def execPitchForcedWithdraw (q : Requester) (s : State) : Host.Outcome State Fault Refusal :=
  .next (byWriter s q pitchForcedWithdraw)

end Sys2Proof.Machine
end

