-- ==== Sys2Proof/Machine/TrailImage.lean ====
section
/-!
DEFINITION. Machine/TrailImage.lean: the Trail image, its checks, load and unload (R52 to R61, R73).
-/

namespace Sys2Proof.Machine

/-! ## The image -/

/-- A segment image as step 3 of R73 reads it: its bytes, gears present, header fields, lengths, successors, offset table. -/
structure SegImage where
  bytes : List Byte
  ngear : Nat
  rest : Bool
  lens : List Nat
  succ : List W64
  offs : List Nat
  deriving DecidableEq, Repr

/-- A region record at its place in the offset table: segment, gear, region, header word 0, row words. -/
structure Rec where
  seg : Nat
  gear : Nat
  region : Nat
  head : Nat
  words : List W64
  deriving DecidableEq, Repr

/-- The little-endian 64-bit words of a byte string, `n` of them from byte `off`. -/
def wordsAt (bs : List Byte) (off n : Nat) : List W64 := tab n fun i => BitVec.ofNat 64 (leField bs (off + 8 * i) 8)

/-- Step 2: the header of Table 3.4 and the segment images within LENGTH; cause 0x10. -/
def trailHeader (bs : List Byte) : Option (List (List Byte)) :=
  let nseg := leField bs 8 2
  let dir (i : Nat) : Nat × Nat := (leField bs (64 + 8 * i + 4) 4, leField bs (64 + 8 * i) 4)
  if leField bs 0 4 = 0x4E56544C ∧ leField bs 4 2 = 1 ∧ leField bs 7 1 = 0 ∧ leField bs 10 6 = 0 ∧
      leField bs 16 8 = bs.length ∧ bs.length ≤ 2 ^ 28 ∧ leField bs 24 40 = 0 ∧ 1 ≤ nseg ∧ nseg ≤ 4096 ∧
      64 + 8 * nseg ≤ bs.length ∧ (List.range nseg).all (fun i => decide ((dir i).1 + (dir i).2 ≤ bs.length)) = true then
    some (tab nseg fun i => (bs.drop (dir i).1).take (dir i).2)
  else none

/-- A segment header, its lengths, successors and offset table (Table 3.5); none: cause 0x10. -/
def segImage (b : List Byte) (i : Nat) : Option SegImage :=
  let h := leField b 0 8
  let ng := fieldN h 50 2 + 1
  let ns := fieldN h 46 4 + 1
  if fieldN h 52 12 = i ∧ fieldN h 0 45 = 0 ∧ 24 + 8 * ns + 128 * ng ≤ b.length ∧
      (List.range 4).all (fun g => decide (g < ng) || leField b (8 + 4 * g) 4 == 0) = true then
    some { bytes := b, ngear := ng, rest := fieldN h 45 1 = 1, lens := tab ng fun g => leField b (8 + 4 * g) 4
           succ := wordsAt b 24 ns, offs := tab (32 * ng) fun j => leField b (24 + 8 * ns + 4 * j) 4 }
  else none

/-- The record at an offset (Table 3.3); none: cause 0x10. -/
def recordAt (b : List Byte) (o : Nat) : Option (Nat × List W64) :=
  let h := leField b o 8
  let n := leField b (o + 12) 4
  if o + 16 + 8 * n ≤ b.length ∧ fieldN h 56 8 = 0xA1 ∧ fieldN h 32 5 = 0 ∧
      crc32c ((b.drop (o + 16)).take (8 * n)) = leField b (o + 8) 4 then some (h, wordsAt b (o + 16) n)
  else none

/-- The records of one segment image in offset-table order; an offset of 0 is a missing record, left to step 6. -/
def segRecords (g : SegImage) (i : Nat) : Option (List Rec) :=
  (List.range g.offs.length).foldlM (fun l j =>
    let o := g.offs.getD j 0
    if o = 0 then some l
    else (recordAt g.bytes o).map fun e => l ++ [{ seg := i, gear := j / 32, region := j % 32, head := e.1, words := e.2 }]) []

/-- Step 3: every segment image with its records; cause 0x10. -/
def readSegments (imgs : List (List Byte)) : Option (List SegImage × List Rec) :=
  (List.range imgs.length).foldlM (fun l i =>
    match segImage (imgs.getD i []) i with
    | none => none
    | some g => (segRecords g i).map fun rs => (l.1 ++ [g], l.2 ++ rs)) ([], [])

/-- Step 4: the row words of every region fit its row store (R60). -/
def storesFit (rs : List Rec) : Bool :=
  (List.range 32).all fun r => decide ((rs.filter (fun e => e.region == r)).foldl (fun n e => n + e.words.length) 0 ≤ 524288)

/-! ## Rows (step 5) -/

/-- A CREP body being counted (R58): stored rows still to come, runs, rows of one pass so far. -/
structure Body where
  left : Nat
  runs : Nat
  rows : Nat
  deriving DecidableEq, Repr

/-- `n` rows added to the innermost open body, or to the record. -/
def addRows (total : Nat) (bodies : List Body) (n : Nat) : Nat × List Body :=
  match bodies with
  | [] => (total + n, [])
  | b :: rest => (total, { b with rows := b.rows + n } :: rest)

/-- Bodies with no stored row to come are closed, their runs added to what encloses them; `add` rows come from inside. -/
def closeBodies (total : Nat) : Nat → List Body → Nat × List Body
  | add, [] => (total + add, [])
  | add, b :: rest =>
    if b.left ≠ 0 then (total, { b with rows := b.rows + add } :: rest) else closeBodies total (b.runs * (b.rows + add)) rest

/-- The face that an action occupies, for how many beats from its own on, and whether it is a THRU (R131, R132, R134). -/
def faceUse (i : Instr) : Option (Nat × Nat × Bool) :=
  match i with
  | .pass _ f _ _ _ _ nlines => some (f.val, nlines.toNat + 1, false)
  | .send _ f _ _ _ _ nlines => some (f.val, nlines.toNat + 1, false)
  | .thru _ f _ nbeats _ | .thruGuyline _ f _ nbeats _ => some (f.val, nbeats.toNat + 1, true)
  | _ => none

/-- A face that earlier rows of a record occupy: the first row it is free, and whether by a THRU. -/
structure HeldFace where
  face : Nat
  free : Nat
  thru : Bool
  deriving DecidableEq, Repr

/-- Whether an action at row `at_` breaches the beats of a THRU (R134): one of the two that occupy its face is a THRU, and their
beats meet (log entry 95). -/
def breachesBeats (held : List HeldFace) (at_ : Nat) (i : Instr) : Bool :=
  match faceUse i with
  | some (f, _, thru) => held.any (fun h => h.face == f && decide (at_ < h.free) && (thru || h.thru))
  | none => false

/-- The faces held after an action at row `at_`. -/
def holdFace (held : List HeldFace) (at_ : Nat) (i : Instr) : List HeldFace :=
  match faceUse i with
  | some (f, n, thru) => { face := f, free := at_ + n, thru := thru } :: held.filter (fun h => decide (at_ < h.free))
  | none => held

/-- The cause with which a word of row `at_` is refused: its UNIT is not its slot, or it is refused itself (R57, R73). -/
def slotCause (p : Pitch) (r : Fin 32) (held : List HeldFace) (at_ slot : Nat) (w : W64) : Option Nat :=
  if fieldN w.toNat 58 6 ≠ slot then some 0x15
  else match wordCause r w with
    | some c => some c
    | none =>
      match decodeUnit r w with
      | some (.tslotRefresh _ mask _) => if maskEnabled p r.val mask then none else some 0x17
      | some (.tslotFar _ mask _) => if maskEnabled p r.val mask then none else some 0x17
      | some i => causeIf (breachesBeats held at_ i) 0x17
      | none => none

/-- The words of row `at_` from its slots on: their first cause, or what follows the row with the faces then held. A row that runs
past the record has cause 0x15. -/
def rowCause (p : Pitch) (r : Fin 32) (at_ : Nat) : List HeldFace → List Nat → List W64 → Nat ⊕ (List W64 × List HeldFace)
  | held, [], ws => .inr (ws, held)
  | _, _ :: _, [] => .inl 0x15
  | held, k :: ks, w :: ws =>
    match slotCause p r held at_ k w with
    | some c => .inl c
    | none =>
      rowCause p r at_ (match decodeUnit r w with
        | some i => holdFace held at_ i
        | none => held) ks ws

/-- The bodies after a row (R58), `w` its region-control word, if it has one: the row itself is counted, CIDLE adds empty rows,
CREP opens a body; none: cause 0x15. -/
def rowBodies (r : Fin 32) (total : Nat) (bodies : List Body) (w : Option W64) : Option (Nat × List Body) :=
  let within := bodies.map fun b => { b with left := b.left - 1 }
  match w.bind (decodeUnit r) with
  | some (.cidle _ count) => some (addRows total within (1 + count.toNat))
  | some (.crep _ body runs) =>
    let fits := match within with
      | [] => true
      | b :: _ => decide (body.toNat ≤ b.left)
    if 4 ≤ within.length ∨ !fits then none
    else
      let (total, within) := addRows total within 1
      some (total, { left := body.toNat, runs := runs.toNat, rows := 0 } :: within)
  | some (.cbnd _ _ _) => if bodies.isEmpty then some (addRows total within 1) else none
  | _ => some (addRows total within 1)

/-- Step 5 over the words of a record, `fuel` bounding its rows: the first cause, or the rows after expansion. A body is checked at
the beats of its first run. -/
def rowsCause (p : Pitch) (r : Fin 32) : Nat → List W64 → Nat → List Body → List HeldFace → Nat ⊕ Nat
  | 0, _, _, _, _ => .inl 0x15
  | _ + 1, [], total, bodies, _ => if bodies.isEmpty then .inr total else .inl 0x15
  | fuel + 1, mask :: ws, total, bodies, held =>
    if mask = 0 then .inl 0x15
    else
      let slots := maskSlots mask
      match rowCause p r (bodies.foldl (fun n b => n + b.rows) total) held slots ws with
      | .inl c => .inl c
      | .inr (rest, held) =>
        let last := if slots.getLast? = some 63 then ws[slots.length - 1]? else none
        match rowBodies r total bodies last with
        | none => .inl 0x15
        | some (total, bodies) =>
          let (total, bodies) := closeBodies total 0 bodies
          rowsCause p r fuel rest total bodies held

/-- Step 5: the first cause over every record. -/
def wordsCause (p : Pitch) (rs : List Rec) : Option Nat :=
  rs.findSome? fun e =>
    match rowsCause p (regionFin e.region) (e.words.length + 1) e.words 0 [] [] with
    | .inl c => some c
    | .inr n => causeIf (decide (n ≠ fieldN e.head 0 32)) 0x15

/-! ## Segments and grants (steps 6 and 7) -/

/-- The rows of a record that passed step 5: mask and words of each. -/
def splitRows : Nat → List W64 → List (W64 × List W64)
  | 0, _ => []
  | _ + 1, [] => []
  | fuel + 1, mask :: ws =>
    let n := (maskSlots mask).length
    (mask, ws.take n) :: splitRows fuel (ws.drop n)

/-- The region-control words of a record's rows, in order. -/
def controlWords (e : Rec) : List (Option W64) :=
  (splitRows e.words.length e.words).map fun row => if row.1.getLsbD 63 then row.2.getLast? else none

/-- Whether a region-control word is a CBND. -/
def isCbnd (w : Option W64) : Bool :=
  match w with
  | some v => fieldN v.toNat 50 8 == 3
  | none => false

/-- A record meets R61: in its place, its last row a CBND and no earlier one. -/
def recordOk (g : SegImage) (e : Rec) : Bool :=
  let ws := controlWords e
  fieldN e.head 51 5 == e.region && fieldN e.head 49 2 == e.gear && fieldN e.head 37 12 == e.seg &&
  fieldN e.head 0 32 == g.lens.getD e.gear 0 && isCbnd (ws.getLast?.getD none) && ws.dropLast.all (fun w => !isCbnd w)

/-- A successor entry meets R61. -/
def successorOk (nseg : Nat) (rest : Bool) (v : W64) : Bool :=
  let kind := fieldN v.toNat 62 2
  let gear := fieldN v.toNat 56 4
  kind != 3 && (decide (gear ≤ 3) || gear == 15) && fieldN v.toNat 60 2 == 0 && fieldN v.toNat 0 44 == 0 &&
  (kind == 2 || decide (fieldN v.toNat 44 12 < nseg)) && (kind != 1 || rest)

/-- Whether a list is in rising order, repeats allowed. -/
def risingList : List Nat → Bool
  | a :: b :: rest => decide (a ≤ b) && risingList (b :: rest)
  | _ => true

/-- A segment meets R61: cause 0x15 otherwise. -/
def segmentOk (nseg : Nat) (g : SegImage) (rs : List Rec) : Bool :=
  risingList g.lens && g.offs.all (· != 0) && decide g.offs.Nodup && rs.all (recordOk g) &&
  (match rs.map (fun e => (controlWords e).getLast?.getD none) with
  | [] => false
  | w :: ws => ws.all (· == w)) && g.succ.all (successorOk nseg g.rest)

/-- The Pegs, tracks and far queue that an action names, granted by the Pitch (step 7). -/
def granted (p : Pitch) (r : Nat) (i : Instr) : Bool :=
  let peg (q : BitVec 9) : Bool := (p.alloc.getD r 0).getLsbD q.toNat
  let track (t : BitVec 5) : Bool := (p.enable.getD r 0).getLsbD t.toNat
  match i with
  | .swrPegSnapshot _ _ _ q => peg q
  | .rwinOpen _ _ _ _ _ _ q => peg q
  | .pinc _ q _ => peg q
  | .psetCount _ q _ => peg q
  | .psetMark _ q _ => peg q
  | .perrSet _ q => peg q
  | .perrClear _ q => peg q
  | .pwait _ q _ _ _ => peg q
  | .parmArm _ q _ _ _ => peg q
  | .parmDisarm _ q => peg q
  | .cbnd _ q _ => (p.alloc.getD (q.toNat / 512) 0).getLsbD (q.toNat % 512)
  | .tact _ t _ _ _ _ => track t
  | .trd _ t _ _ _ _ _ _ => track t
  | .twr _ t _ _ _ _ _ _ => track t
  | .tpre _ t _ _ => track t
  | .tidxColumn _ t _ _ _ _ _ _ => track t
  | .fqpost _ q _ _ =>
    let e := p.farq.getD q.toNat (0, 0, 0)
    e.1 == 1 && e.2.1 == r
  | _ => true

/-- Step 7 over every record: cause 0x16. -/
def grantsOk (p : Pitch) (rs : List Rec) : Bool :=
  rs.all fun e => (splitRows e.words.length e.words).all fun row => row.2.all fun w =>
    match decodeUnit (regionFin e.region) w with
    | some i => granted p e.region i
    | none => true

/-- The loaded segments. -/
def loadSegments (gs : List SegImage) (rs : List Rec) : Store Segment :=
  (List.range gs.length).map fun i =>
    let g := gs.getD i { bytes := [], ngear := 0, rest := false, lens := [], succ := [], offs := [] }
    (i, { rest := g.rest, lens := g.lens, succ := g.succ
          rows := (rs.filter (fun e => e.seg == i)).map fun e => (32 * e.gear + e.region, e.words) })

/-- The checks of R73 in order: the first cause, or the segments. -/
def checkTrail (s : State) (p : Pitch) (bs : List Byte) : Nat ⊕ Store Segment :=
  if sha256 bs ≠ p.trailDigest then .inl 0x11
  else match trailHeader bs with
    | none => .inl 0x10
    | some imgs =>
      if leField bs 6 1 ≠ s.identity.generation then .inl 0x12
      else match readSegments imgs with
        | none => .inl 0x10
        | some (gs, rs) =>
          if !storesFit rs then .inl 0x14
          else match wordsCause p rs with
            | some c => .inl c
            | none =>
              if !(List.range gs.length).all (fun i =>
                  match gs[i]? with
                  | some g => segmentOk gs.length g (rs.filter (fun e => e.seg == i))
                  | none => true) || decide (gs.length ≤ p.entrySeg) then .inl 0x15
              else if !grantsOk p rs then .inl 0x16
              else .inr (loadSegments gs rs)

/-! ## Load and unload -/

/-- TR_CMD.LOAD (R73): accepted while a Pitch is applied and the state is EMPTY; the image is read and checked, and
TRAIL_LOAD_COMPLETE leaves LOADING (log entry 71). -/
def trailLoad (s : State) : State :=
  match s.pitch with
  | some p =>
    if s.trail.mode = .empty then
      let (bs, s) := firmwareRead s (getField s Reg.TR_ADDR 12 52 * 4096) (getField s Reg.TR_LEN 0 29)
      let result := match checkTrail s p bs with
        | .inl c => (c, [], 0)
        | .inr segs => (0, segs, segs.length)
      { s with trail := { s.trail with mode := .loading, loadResult := some result } }
    else s
  | none => s

/-- LOADING ends (R73): LOADED, with TR_LAUNCH_SEG from the TRAIL section, or EMPTY with the cause and event 0x02cc. -/
def trailLoaded (s : State) : State :=
  match s.trail.loadResult with
  | none => s
  | some (cause, segs, n) =>
    let mode : TrailMode := if cause = 0 then .loaded else .empty
    let s := { s with trail := { s.trail with mode := mode, cause := cause, segs := segs, nseg := n, loadResult := none } }
    let s := match s.pitch with
      | some p => if cause = 0 then setReg s Reg.TR_LAUNCH_SEG (BitVec.ofNat 64 (p.entryGear * 2 ^ 12 + p.entrySeg)) else s
      | none => s
    pulse (if cause = 0 then s else logEvent s (0x0200 + cause)) 150

/-- TR_CMD.UNLOAD, accepted unless RUNNING (Table 3.14). -/
def trailUnload (s : State) : State :=
  if s.trail.mode = .running then s
  else
    let t := unloadTrail s
    if s.trail.mode = .loading then pulse t 150 else t

/-! ## The commands -/

/-- TRAIL_LOAD. -/
def execTrailLoad (q : Requester) (s : State) : Host.Outcome State Fault Refusal :=
  .next (byWriter s q trailLoad)

/-- TRAIL_LOAD_COMPLETE. -/
def execTrailLoadComplete (s : State) : Host.Outcome State Fault Refusal := .next (trailLoaded s)

/-- TRAIL_UNLOAD. -/
def execTrailUnload (q : Requester) (s : State) : Host.Outcome State Fault Refusal := .next (byWriter s q trailUnload)

end Sys2Proof.Machine
end

