-- ==== Sys2Proof/Machine/Launch.lean ====
section
/-!
DEFINITION. Machine/Launch.lean: launches by count, cycle timer and Peg write (R78, R193, R230, R286 to R288, R348).
-/

namespace Sys2Proof.Machine

/-! ## What a launch resets -/

/-- A track at beat 0: every bank closed and no beat constraint left (R164); what its stack still does in real time stays. -/
def Track.launch (t : Track) : Track :=
  { t with busFree := 0, slotFree := 0, readFree := 0, writeFree := 0, acts := [], farEnd := 0, saved := [] }

/-- A bank at beat 0. -/
def Bank.launch (b : Bank) : Bank := { b with row := none, actAt := 0, wrEnd := 0, pre := none, refAt := 0 }

/-- A Peg at a launch (R135): 0 in ALLOC and not HOSTW, else COUNT, ERR and MARK kept. -/
def Peg.launch (q : Peg) (cleared : Bool) : Peg := if cleared then Peg.zero else { q with thr := 0, armed := false, nsrc := 0 }

/-- A region at beat 0 of a launch of a segment in a gear: Sacks and DROP bits as they were. -/
def launchRegion (p : Pitch) (seg gear r : Nat) (g : Region) : Region :=
  let cleared (i : Nat) : Bool := (p.alloc.getD r 0).getLsbD i && !(p.hostw.getD r 0).getLsbD i
  { closeWindows g with
    begun := 0, completed := 0, acked := 0, rowWait := false, permitWait := false, slackWait := false
    waits := [], held := 0, asleep := 0, guard := 0, due := [], readers := [], writers := [], faces := []
    fetch := { Fetch.none with active := true, seg := seg, gear := gear, start := 96 }
    rowsBegun := 0, bndBeat := none
    stoves := Vector.replicate 8 Stove.launch, kettles := Vector.replicate 16 Kettle.launch
    pegs := g.pegs.filterMap fun e =>
      let q := e.2.launch (cleared e.1)
      if q = Peg.zero then none else some (e.1, q)
    pegLater := [], thrus := [], xings := Vector.replicate 6 []
    tracks := g.tracks.filterMap fun e => if e.2.launch = Track.idle then none else some (e.1, e.2.launch)
    banks := g.banks.filterMap fun e => if e.2.launch = Bank.idle then none else some (e.1, e.2.launch)
    xregs := g.xregs.map fun x => (0, x.2) }

/-- What a launch attempt clears before its checks: TR_FAULT, TR_FAULT_BEAT and TARP_STRIKE (R78, Table 10.7). -/
def clearFaults (s : State) : State :=
  let s := setReg (setReg (setReg s Reg.TR_FAULT 0) Reg.TR_FAULT_BEAT 0) Reg.TARP_STRIKE 0
  { s with tarp := { s.tarp with struck := false } }

/-- Everything that starts afresh at beat 0, T_A the anchor in ticks. -/
def launchState (s : State) (p : Pitch) (seg gear ta : Nat) : State :=
  let s := discardRecords s true false
  let s := forRegions s fun r s => modRegion s r (launchRegion p seg gear r.val)
  let s := forPorts s fun q s => modPort s q fun g => { g with landBeat := none }
  let s := setReg (setReg (setReg s Reg.TR_BND 0) Reg.TR_BND_DIGEST 0) Reg.TARP_TR 0
  let s := setField (setField s Reg.ZP_STAT 29 1 0) Reg.ZP_STAT 30 2 (getField s Reg.ZP_CTL 31 1)
  let ehold := s.firewatch.ehold.map fun e => { e with raised := none, gated := false }
  { s with
    far := { s.far with reqs := s.far.reqs.map fun q => { q with served := q.served.map fun e => (e.1, none) } }
    hubIn := [[], []], pegTouched := [], zipper := Zipper.reset
    lantern := { s.lantern with tagged := [] }
    pacer := { s.pacer with mode := .run, released := 0, anchorAt := ta * 256, anchorBeat := 0, base := none, stopAt := none
                            anchorEnd := (ta / 1024 + 1) * 262144, resuming := false }
    tarp := { s.tarp with holds := [], x := 0, best := none, resume := none, released := [], struck := false
                          strikes := 0, stopAt := none, stopSeen := none, lastRest := none, own := [], received := [] }
    firewatch := { s.firewatch with votes := [], voteCast := false, scripted := none, voteWait := none, ehold := ehold }
    trail := { s.trail with mode := .running, nexts := [], crossroad := none, logDue := none, pegArm := s.trail.pegArm.map fun _ => 0 } }

/-! ## The launch -/

/-- A port with role 1 is UP or DEGRADED, with IDSTAT VERIFIED (R230). -/
def portReady (s : State) (p : Fin 10) : Bool := !role1 s p || (s.ports[p].live && decide (s.ports[p].idstat = 1))

/-- The source and cycle of a launch, as Table 12.6 codes them. -/
def sourceCode (src : LaunchSource) : Nat :=
  match src with
  | .register => 0
  | .cycle j => 4 + j.val
  | .peg => 8

/-- A launch that passes the state checks: the launch list (R193), then the scheduled ports (R230), then beat 0 at count `ta`.
Answers whether the job starts. -/
def startJob (s : State) (p : Pitch) (src : LaunchSource) (ta : Nat) : Bool × State :=
  let s := clearFaults (abortTest s)
  if s.far.loading.isNone ∧ getField s Reg.BK_STAT 31 1 = 0 then (false, raise s 0x2806 { region := 0, slot := 63, beat := 0 })
  else if !(List.finRange 10).all (portReady s) then (false, raise s 0x2912 { region := 0, slot := 62, beat := 0 })
  else
    let seg := getField s Reg.TR_LAUNCH_SEG 0 12
    let gear := min (getField s Reg.TR_LAUNCH_SEG 12 2) (gearsOf s seg - 1)
    let s := wakeTo (launchState s p seg gear ta) 0
    let s := { s with firewatch := { s.firewatch with low := false } }
    let list := s.far.loading.getD s.far.staged
    let s := { s with far := { s.far with running := list, bunkWait := s.far.loading.isSome } }
    let s := if s.far.bunkWait then s else queueBunkLoad s
    (true, captureAt (pulse s 145) (ta * 256) 1 (sourceCode src * 2 ^ 44 + gear * 2 ^ 12 + seg))

/-- The LAUNCH timers whose next firing is at a count (R288). -/
def timersAt (s : State) (t : Nat) : List (Fin 4) :=
  (List.finRange 4).filter fun j =>
    decide (s.compass.cycles.getD j.val none = some t) && decide (getField s (Reg.CMP_CYC_CFG j.val) 30 1 = 0)

/-- A cycle timer has fired, or missed: counted, captured, and its next firing found (R287, R290). -/
def noteFiring (s : State) (j : Fin 4) (t : Nat) (missed : Bool) : State :=
  let s := countField s (Reg.CMP_CYC_CNT j.val) 16 16 1
  let s := if missed then logEvent (countField s (Reg.CMP_CYC_CNT j.val) 0 16 1) 0x0A06 else s
  let s := captureAt (pulse s (152 + j.val)) (t * 256) 10 (j.val * 2 ^ 46 + bit1 missed * 2 ^ 45)
  let next := some (t + max 1 (getField s (Reg.CMP_CYC_PER j.val) 0 32))
  { s with compass := { s.compass with cycles := listSet s.compass.cycles j.val next } }

/-- Whether a launch that is due can start, its list and ports apart (R78, R287). -/
def canLaunch (s : State) : Bool := launchable s && segmentLoaded s && s.pitch.isSome

/-- Count `t` is reached: every arm for it is consumed by one launch; where the Trail cannot launch the arm is consumed with
0x020C, and each timer misses (R78, R287, R288). -/
def launchAt (s : State) (src : LaunchSource) (t : Nat) : State :=
  let armed := decide (s.trail.launchArm.map (·.toNat) = some t)
  let js := timersAt s t
  let s := if armed then { s with trail := { s.trail with launchArm := none } } else s
  match s.pitch, canLaunch s with
  | some p, true =>
    let s := js.foldl (fun s j => noteFiring s j t false) s
    (startJob s p (if armed then .register else src) t).2
  | _, _ =>
    let s := if armed then logEvent s 0x020C else s
    js.foldl (fun s j => noteFiring s j t true) s

/-- A launch by Peg write reaches its anchor (R348). The conditions are looked at again; while a job runs the write stays due. -/
def launchPeg (s : State) : State :=
  match s.trail.pegArm with
  | none => s
  | some t =>
    if t = 0 ∨ nowTicks s < t ∨ compassState s = 0 ∨ s.trail.mode = .running then s
    else
      let s := { s with trail := { s.trail with pegArm := none } }
      match s.pitch, canLaunch s with
      | some p, true =>
        (startJob s p .peg t).2
      | _, _ => pulse (pulse (logEvent s 0x0C0A) 198) 214

/-! ## Cycle timers -/

/-- A host write to a Peg, or a cycle timer's under its rules (R144): outside HOSTW, or with no Pitch, it is dropped with 0x0602.
A launch by Peg write is evaluated where the COUNT has changed (R348). -/
def hostPeg (s : State) (r : Fin 32) (p n : Nat) (err : Bool) : State :=
  if !pegHostw s r.val p then logEvent s 0x0602
  else
    let before := (pegOf s.regions[r] p).count
    let s := incPegLater s r p n err
    if (pegOf s.regions[r] p).count ≠ before ∧ r.val * 512 + p = getField s Reg.HST_LPEG 0 14 then evalLaunchPeg s else s

/-- A timer's Peg action. -/
def cyclePeg (s : State) (j : Fin 4) (t : Nat) : State :=
  let id := getField s (Reg.CMP_CYC_CFG j.val) 16 14
  hostPeg (noteFiring s j t false) (regionFin (id / 512)) (id % 512) 1 false

/-- CYCLE_FIRE (R287): at the timer's firing count it acts; while UNLOCKED its launch is refused with 0x0A08 (R286). -/
def cycleFire (s : State) (j : Fin 4) : State :=
  match s.compass.cycles.getD j.val none with
  | none => s
  | some t =>
    let launches := decide (getField s (Reg.CMP_CYC_CFG j.val) 30 1 = 0)
    if compassState s = 0 then (if launches then logEvent s 0x0A08 else s)
    else if nowTicks s < t then s
    else if launches then launchAt s (.cycle j) t
    else cyclePeg s j t

/-! ## Arms -/

/-- A write of the upper half of TR_LAUNCH_AT (R78, R286): the arm is refused while UNLOCKED, and for a count already passed. A
test that it leaves too little idle time stops (R392). -/
def armLaunch (s : State) (q : Requester) (w : HalfWrite) : State :=
  let (v, s) := formHalf s q Reg.TR_LAUNCH_AT w
  let s := setReg s Reg.TR_LAUNCH_AT v
  if compassState s = 0 then logEvent s 0x0A08
  else if v.toNat * 256 < nowUnits s then logEvent s 0x020B
  else
    let s := { s with trail := { s.trail with launchArm := some v } }
    match s.startup.test with
    | some t => if t.running ∧ v.toNat < t.began + restTicks t.kind + getField s Reg.CMP_WAKE_LEAD 0 24 then
        (if s.pacer.mode = .cal ∧ s.pitch.isSome then evalLaunchPeg (abortTest s) else abortTest s)
      else s
    | none => s

/-- A launch register count that is reached. -/
def launchRegister (s : State) : State :=
  match s.trail.launchArm with
  | some t => if compassState s = 0 ∨ nowTicks s < t.toNat then s else launchAt s .register t.toNat
  | none => s

/-- LAUNCH_START by its source. -/
def launchStart (s : State) (src : LaunchSource) : State :=
  match src with
  | .register => launchRegister s
  | .cycle j => if getField s (Reg.CMP_CYC_CFG j.val) 30 1 = 0 then cycleFire s j else s
  | .peg => launchPeg s

/-! ## The commands -/

/-- LAUNCH_ARM. -/
def execLaunchArm (q : Requester) (w : HalfWrite) (s : State) : Host.Outcome State Fault Refusal :=
  .next (byWriter s q fun s => armLaunch s q w)

/-- LAUNCH_START. -/
def execLaunchStart (src : LaunchSource) (s : State) : Host.Outcome State Fault Refusal := .next (launchStart s src)

/-- CYCLE_FIRE. -/
def execCycleFire (j : Fin 4) (s : State) : Host.Outcome State Fault Refusal := .next (cycleFire s j)

end Sys2Proof.Machine
end

