-- ==== Sys2Proof/Machine/Whistle.lean ====
section
/-!
DEFINITION. Machine/Whistle.lean: Whistle's sources, routing and delivery, MSI-X, and Lantern's commands (chapter 16).
-/

namespace Sys2Proof.Machine

/-! ## MSI-X (R352) -/

/-- Pending messages that are no longer blocked are sent. -/
def msixFlush (s : State) (p : Fin 2) : State :=
  (List.range 2048).foldl (fun s v =>
    if (s.hosts[p]).pba.getLsbD v && !msixBlocked s p v then
      emit (lnMoved (modHost s p fun h => { h with pba := h.pba &&& ~~~(1#2048 <<< v) }) (54 + p.val) 4 0) (.msix p.val v)
    else s) s

/-- MSIX_UNBLOCK: one blocking condition clears. -/
def msixUnblock (s : State) (p : Fin 2) (c : MsixGate) : State :=
  let s := match c with
    | .function => modHost s p fun h => { h with msix := true }
    | .vector v => modHost s p fun h => { h with table := storeSet 1 h.table (4 * v.toNat + 3) 0 }
    | .busMaster => setField s (Reg.HST_LINK p.val) 18 1 1
    | .link => s
  msixFlush s p

/-! ## Whistle (R358 to R366) -/

/-- The sources of a 32-bit word. -/
def wordSources (w : Fin 32) (v : W32) : List Nat := (List.range 32).filterMap (fun i => if v.getLsbD i then some (32 * w.val + i) else none)

/-- What comes before the writes of a tick (R364): the sources are sensed and every timer is checked. -/
def settleSources (s : State) : State :=
  let s := sense s
  (s.whistle.timers.map (·.1)).foldl checkTimer s

/-- The bits of a word of sources. -/
def wordMask (w : Fin 32) (v : W32) : BitVec 1024 := v.setWidth 1024 <<< (32 * w.val)

/-- WHISTLE_SERVICE_END (R363, R364). `hw`: the bits that the hardware sets in the same moment (R8). Service ends for all the sources
written before any is delivered again. -/
def serviceEnd (s : State) (w : Fin 32) (v hw : W32) : State :=
  let s := settleSources s
  let ended := (wordSources w (v &&& ~~~hw)).filter (fun n => s.whistle.insv.getLsbD n)
  let s := { s with whistle := { s.whistle with insv := (s.whistle.insv &&& ~~~wordMask w v) ||| wordMask w hw } }
  let s := ended.foldl (fun s n => if isLevel s n && (stateSource? s n).getD false then makePending s n else s) s
  ended.foldl deliverSource s

/-- WHISTLE_PEND_SET (R363). -/
def pendSet (s : State) (w : Fin 32) (v : W32) : State := (wordSources w v).foldl makePending (settleSources s)

/-- WHISTLE_PEND_CLEAR (R363, R364): a source that the hardware makes pending in the same moment stays pending (R8). -/
def pendClear (s : State) (w : Fin 32) (v hw : W32) : State :=
  let t := settleSources s
  let new := t.whistle.pend &&& ~~~s.whistle.pend
  let t := { t with whistle := { t.whistle with pend := t.whistle.pend &&& (~~~wordMask w v ||| new) } }
  (wordSources w hw).foldl makePending t

/-- WHISTLE_SOURCE_CONFIG (R360): the count is zero and the timer stopped whatever is written. A LEVEL source whose condition holds
starts anew from the write (R362, log entry 103). -/
def sourceConfig (s : State) (n : Fin 1024) (time : Bool) (v : W32) : State :=
  let s := sense s
  let s := { s with whistle := { s.whistle with
    counts := storeDel s.whistle.counts n.val, timers := storeDel s.whistle.timers n.val } }
  let s := if time then setReg s (Reg.WH_SRC_CTIME n.val) (v.setWidth 64)
    else if fieldN v.toNat 8 8 = 0 ∨ (fieldN v.toNat 28 2 = 1 ∧ 3 < fieldN v.toNat 16 11) then logEvent s 0x0043
    else setReg s (Reg.WH_SRC_CFG n.val) ((v &&& 0xF7FFFF00).setWidth 64)
  if isLevel s n.val && s.whistle.raw.getLsbD n.val && !s.whistle.retained then levelOnset s n.val else s

/-- Whistle at its reset state, its registers with it; what it senses stays as it is. -/
def resetWhistle (s : State) : State :=
  { s with whistle := { Whistle.reset with raw := s.whistle.raw }
           regs := s.regs.filter (fun e => decide (e.1 < Reg.WH_SRC_CFG 0) || decide (Reg.WH_SRC_CNT 0 ≤ e.1)) }

/-- WHISTLE_RETENTION_WAKE (R366), on a latched event of a routed source; `ok`: the retained copy passes its check. -/
def retentionWake (s : State) (ok : Bool) : State :=
  let s := sense s
  let due := (List.range 1024).any (fun n => s.whistle.latched.getLsbD n && decide (fieldN (srcCfg s n) 28 2 ≠ 0))
  if !s.whistle.retained || !due then s
  else if !ok then logEvent (setField (resetWhistle s) Reg.WH_STAT 30 1 1) 0x0040
  else wakeWhistle s

/-! ## Lantern (R371 to R377) -/

/-- LANTERN_CLEAR (R371). -/
def lanternClear (s : State) : State :=
  let s := (List.range 56).foldl (fun s i => setReg (setReg s (Reg.LN_BW i) 0) (Reg.LN_BW_PEAK i) 0) s
  { s with lantern := { s.lantern with counts := [], wraps := [], bw := [], cleared := s.time } }

/-- LANTERN_THAW (R372): the counters start again at the next beat. -/
def lanternThaw (s : State) : State :=
  { setField s Reg.LN_STAT 30 2 (if s.lantern.arm.isSome then 1 else 0) with
    lantern := { s.lantern with thawing := s.lantern.frozen } }

/-- The snapshot of beat b is complete: the last region has ended it at `count` (R372). -/
def finishSnapshot (s : State) (b : Nat) (freeze : Bool) (count : W64) : State :=
  let s := (List.range 56).foldl (fun s i => setReg s (Reg.LN_BW_SNAP i) (getReg s (Reg.LN_BW i))) s
  let s := setReg (setReg s Reg.LN_SNAP_BEAT (BitVec.ofNat 64 b)) Reg.LN_SNAP_COUNT count
  let s := setField (setField s Reg.LN_STAT 30 2 (if freeze ∨ s.lantern.frozen ≠ 0 then 2 else 0)) Reg.LN_STAT 29 1 1
  pulse { s with lantern := { s.lantern with arm := none, snapped := 0 } } 175

/-- LANTERN_FREEZE_ARM (R372, R373). A snapshot that is taken at once is of the beat that MODE 1 asks for (DEDUCED, log entry 109). -/
def freezeArm (s : State) (q : Requester) (w : HalfWrite) : State :=
  let (v, s) := formHalf s q Reg.LN_FREEZE w
  let s := setReg s Reg.LN_FREEZE (v &&& 0xC000FFFFFFFFFFFF)
  let now := v.getLsbD 63
  let freeze := v.getLsbD 62
  let b := if now then s.pacer.released + 256 else fieldN v.toNat 0 48
  if now && !pacing s then
    let s := forRegions s fun r s => snapRegion s r.val
    let s := if freeze then { s with lantern := { s.lantern with frozen := BitVec.allOnes 32 } } else s
    finishSnapshot s b freeze s.compass.count
  else if !now && decide (s.pacer.mode ≠ .armed) && decide (b < s.pacer.released + 256) then logEvent s 0x0042
  else { setField s Reg.LN_STAT 30 2 1 with lantern := { s.lantern with arm := some (b, freeze), snapped := 0 } }

/-- LANTERN_SNAPSHOT (R372), once every region has ended the armed beat. -/
def lanternSnapshot (s : State) : State :=
  match s.lantern.arm with
  | some (b, freeze) => if s.lantern.snapped = BitVec.allOnes 32 then finishSnapshot s b freeze s.lantern.endedAt else s
  | none => s

/-- BANDWIDTH_WINDOW (R374). -/
def bandwidthWindow (s : State) : State :=
  let n := max 1 (getField s Reg.LN_BW_WIN 0 24)
  let w := nowTicks s / n * n
  if w ≤ s.lantern.bwWin then s
  else
    let s := (List.range 56).foldl (fun s i =>
      let m := storeGet (0, 0) s.lantern.bw i
      let out := min (2 ^ 32 - 1) (m.1 / 64)
      let inn := min (2 ^ 32 - 1) (m.2 / 64)
      let s := setReg s (Reg.LN_BW i) (BitVec.ofNat 64 (out * 2 ^ 32 + inn))
      peakField (peakField s (Reg.LN_BW_PEAK i) 32 32 out) (Reg.LN_BW_PEAK i) 0 32 inn) s
    { s with lantern := { s.lantern with bw := [], bwWin := w } }

/-- The record of a completed tagged row (Table 16.7). -/
def tagRecord (s : State) (t : TagRow) : List W64 :=
  let cap (n : Nat) : Nat := min (2 ^ 24 - 1) n
  [BitVec.ofNat 64 t.beat,
   BitVec.ofNat 64 (t.seg * 2 ^ 52 + t.gear * 2 ^ 50 + t.region * 2 ^ 45 + t.row % 2 ^ 32),
   BitVec.ofNat 64 (t.issued % 2 ^ 64),
   BitVec.ofNat 64 (cap (t.issued - t.fetched) * 2 ^ 40 + cap ((t.ended.getD (nowUnits s)) - t.issued) * 2 ^ 16 + bit1 t.held * 2 ^ 15 +
     bit1 t.lag * 2 ^ 14 + bit1 t.wake * 2 ^ 13 + bit1 t.guard * 2 ^ 12)]

/-- The tagged row whose record is next: in the order of completion, at one time in ascending region (R376). -/
def nextRecord (s : State) : Option TagRow :=
  s.lantern.tagged.foldl (fun m t => match t.ended, m with
    | none, _ => m
    | some _, none => some t
    | some e, some u => if e < u.ended.getD 0 ∨ (e = u.ended.getD 0 ∧ t.region < u.region) then some t else m) none

/-- TRACE_RECORD (R376): the row that has completed first, of a region. -/
def traceRecord (s : State) (r : Fin 32) : State :=
  match nextRecord s with
  | none => s
  | some t =>
    if t.region ≠ r.val then s
    else
      let rec4 := tagRecord s t
      let s := { s with lantern := { s.lantern with tagged := s.lantern.tagged.erase t } }
      if getField s Reg.LN_TRACE_STAT 31 1 = 1 then countField s Reg.LN_TRACE_SKIP 0 16 1
      else
        let n := getField s Reg.LN_TRACE_STAT 16 11
        let s := { s with lantern := { s.lantern with trace := storePut s.lantern.trace n rec4 } }
        if n < 2047 then setField s Reg.LN_TRACE_STAT 16 11 (n + 1)
        else
          let s := setField s Reg.LN_TRACE_STAT 16 11 0
          if getField s Reg.LN_TRACE_CFG 0 1 = 1 then countField s Reg.LN_TRACE_STAT 0 16 1
          else logEvent (setField s Reg.LN_TRACE_STAT 31 1 1) 0x0041

/-- TRACE_RESET (R376). -/
def traceReset (s : State) : State := { setReg s Reg.LN_TRACE_STAT 0 with lantern := { s.lantern with trace := [] } }

/-! ## The commands -/

/-- MSIX_UNBLOCK. -/
def execMsixUnblock (p : Fin 2) (c : MsixGate) (s : State) : Host.Outcome State Fault Refusal := .next (msixUnblock s p c)

/-- WHISTLE_TIMER. -/
def execWhistleTimer (n : Fin 1024) (s : State) : Host.Outcome State Fault Refusal := .next (checkTimer (sense s) n.val)

/-- WHISTLE_DELIVER. -/
def execWhistleDeliver (n : Fin 1024) (s : State) : Host.Outcome State Fault Refusal := .next (deliverSource (sense s) n.val)

/-- WHISTLE_SERVICE_END. -/
def execWhistleServiceEnd (q : Requester) (w : Fin 32) (v : BitVec 32) (s : State) : Host.Outcome State Fault Refusal :=
  .next (byWriter s q fun s => serviceEnd s w v 0)

/-- WHISTLE_PEND_SET. -/
def execWhistlePendSet (q : Requester) (w : Fin 32) (v : BitVec 32) (s : State) : Host.Outcome State Fault Refusal :=
  .next (byWriter s q fun s => pendSet s w v)

/-- WHISTLE_PEND_CLEAR. -/
def execWhistlePendClear (q : Requester) (w : Fin 32) (v : BitVec 32) (s : State) : Host.Outcome State Fault Refusal :=
  .next (byWriter s q fun s => pendClear s w v 0)

/-- WHISTLE_SOURCE_CONFIG. -/
def execWhistleSourceConfig (q : Requester) (n : Fin 1024) (time : Bool) (v : BitVec 32) (s : State) :
    Host.Outcome State Fault Refusal :=
  .next (byWriter s q fun s => sourceConfig s n time v)

/-- WHISTLE_RETENTION_WAKE. -/
def execWhistleRetentionWake (ok : Bool) (s : State) : Host.Outcome State Fault Refusal := .next (retentionWake s ok)

/-- LANTERN_CLEAR. -/
def execLanternClear (q : Requester) (s : State) : Host.Outcome State Fault Refusal := .next (byWriter s q lanternClear)

/-- LANTERN_THAW. -/
def execLanternThaw (q : Requester) (s : State) : Host.Outcome State Fault Refusal := .next (byWriter s q lanternThaw)

/-- LANTERN_FREEZE_ARM. -/
def execLanternFreezeArm (q : Requester) (w : HalfWrite) (s : State) : Host.Outcome State Fault Refusal :=
  .next (byWriter s q fun s => freezeArm s q w)

/-- LANTERN_SNAPSHOT. -/
def execLanternSnapshot (s : State) : Host.Outcome State Fault Refusal := .next (lanternSnapshot s)

/-- BANDWIDTH_WINDOW. -/
def execBandwidthWindow (s : State) : Host.Outcome State Fault Refusal := .next (bandwidthWindow s)

/-- TRACE_RECORD. -/
def execTraceRecord (r : Fin 32) (s : State) : Host.Outcome State Fault Refusal := .next (traceRecord s r)

/-- TRACE_RESET. -/
def execTraceReset (q : Requester) (s : State) : Host.Outcome State Fault Refusal := .next (byWriter s q traceReset)

end Sys2Proof.Machine
end

