-- ==== Sys2Proof/Machine/HostLink.lean ====
section
/-!
DEFINITION. Machine/HostLink.lean: the host links and the Ethernet links, and the steward lease (chapter 15).
-/

namespace Sys2Proof.Machine

/-! ## Host links (R336, R337, R357) -/

/-- The converters are on. -/
def powered (s : State) : Bool := s.startup.power == .on

/-- Bring-up has reached a step, or has ended in FAILED or RECOVERY, where the links train too (R380 to R382). -/
def reached (s : State) (step : Nat) : Bool :=
  powered s && (decide (step ≤ getField s Reg.HUB_BOOT 28 4) || decide (2 ≤ getField s Reg.HUB_BOOT 22 2))

/-- HST_LINK(p).STATE changes; entry 2 of the other port's Whistle block pulses (Table 16.2). -/
def setHostState (s : State) (p : Fin 2) (st : Nat) : State :=
  if getField s (Reg.HST_LINK p.val) 28 4 = st then s
  else pulse (setField s (Reg.HST_LINK p.val) 28 4 st) (194 + 16 * (1 - p.val))

/-- HOST_LINK_TRAINED (R335, R336): `speed` 0 to 2 is 16, 32, 64 GT/s, `width` the power of two. No port trains before step 6
(R381). -/
def hostTrained (s : State) (p : Fin 2) (speed : Fin 3) (width : Fin 4) : State :=
  if !reached s 6 then s
  else
    let s := setHostState s p 2
    let s := setField (setField (setField s (Reg.HST_LINK p.val) 24 4 (4 + speed.val)) (Reg.HST_LINK p.val) 20 4 (2 ^ width.val))
      (Reg.HST_LINK p.val) 19 1 1
    if width.val < 3 ∨ speed.val < 2 then logEvent (setBits s (Reg.HST_ERR p.val) 2) 0x0C02 else s

/-- Far requests outstanding on a host port complete poisoned with cause 4, and its reads are lost with the link. -/
def abortHost (s : State) (p : Fin 2) : State :=
  let s := abortReqs s (fun q => (decide (q.op = 3) || decide (q.op = 4)) && decide (q.hport = p.val)) 4
  modHost s p fun h => { h with reads := [] }

/-- The link of a port stands DOWN, its speed and width with it. -/
def hostLinkOff (s : State) (p : Fin 2) : State :=
  setField (setField (setField (setHostState s p 0) (Reg.HST_LINK p.val) 24 4 0) (Reg.HST_LINK p.val) 20 4 0) (Reg.HST_LINK p.val)
    19 1 0

/-- A port's link is being trained (HST_LINK.STATE 1): from bring-up step 6 on, and anew after a port reset (log entry 108). -/
def trainHost (s : State) (p : Fin 2) : State := if getField s (Reg.HST_LINK p.val) 28 4 = 0 then setHostState s p 1 else s

/-- HOST_LINK_DOWN (R357): a link that was up is DOWN. -/
def hostDown (s : State) (p : Fin 2) : State :=
  if getField s (Reg.HST_LINK p.val) 28 4 ≠ 2 then s
  else abortHost (logEvent (setBits (hostLinkOff s p) (Reg.HST_ERR p.val) 1) 0x1C01) p

/-- The holder of the lease changes (R341): 0 none, else port + 1. -/
def setHolder (s : State) (h : Nat) : State :=
  pulse (pulse (logEvent (setField s Reg.HST_LEASE 30 2 h) 0x0C04) 192) 208

/-- HOST_PORT_RESET (R337): PERST#, or with `flr` a function-level reset. -/
def hostReset (s : State) (p : Fin 2) (flr : Bool) : State :=
  let s := hostLinkOff s p
  let s := setField s (Reg.HST_LINK p.val) 18 1 0
  let s := modHost s p fun h => { h with table := [], pba := 0, msix := false }
  let s := if isSteward s p then setHolder s 0 else s
  let s := if reached s 6 then trainHost s p else s
  logEvent (setBits (abortHost s p) (Reg.HST_ERR p.val) (if flr then 8 else 4)) 0x0C08

/-! ## The lease (R341) -/

/-- ACQUIRE. -/
def acquireLease (s : State) (p : Fin 2) : State :=
  if !ready s ∨ getField s Reg.HST_LEASE 30 2 ≠ 0 then s
  else
    let s := setField s Reg.HST_LEASE 0 16 (getField s Reg.HST_LEASE 0 16 + 1)
    setHolder { s with firmware := { s.firmware with leaseFrom := s.time } } (p.val + 1)

/-- RENEW. -/
def renewLease (s : State) (p : Fin 2) : State :=
  if ready s ∧ isSteward s p then { s with firmware := { s.firmware with leaseFrom := s.time } } else s

/-- RELEASE. -/
def releaseLease (s : State) (p : Fin 2) : State := if ready s ∧ isSteward s p then setHolder s 0 else s

/-- A time in ms as 1/256 tick. -/
def msTime (ms : Nat) : Nat := 40000000 * ms

/-- The end of the steward's term. -/
def leaseEnd (s : State) : Nat := s.firmware.leaseFrom + msTime (getField s Reg.HST_LEASE_TERM 0 14)

/-- LEASE_EXPIRY. -/
def expireLease (s : State) : State :=
  if getField s Reg.HST_LEASE 30 2 ≠ 0 ∧ leaseEnd s ≤ s.time then setHolder s 0 else s

/-! ## Ethernet (R353) -/

/-- ETHERNET_LINK_UP, from bring-up step 7 on, with the lanes locked. -/
def ethUp (s : State) (e : Fin 2) (lanes : BitVec 4) : State :=
  if !reached s 7 then s
  else setField (setField s (Reg.ETH_LINK e.val) 28 4 1) (Reg.ETH_LINK e.val) 0 4 lanes.toNat

/-- ETHERNET_LINK_DOWN: fault 0x1D01. -/
def ethDown (s : State) (e : Fin 2) (lanes : BitVec 4) : State :=
  if getField s (Reg.ETH_LINK e.val) 28 4 = 0 then s
  else logEvent (setField (setField s (Reg.ETH_LINK e.val) 28 4 0) (Reg.ETH_LINK e.val) 0 4 lanes.toNat) 0x1D01

/-- A big-endian field of a frame. -/
def beField (bs : List Byte) (off n : Nat) : Nat := leNat ((bs.drop off).take n).reverse

/-- The PTP message of a frame, over IEEE 802.3 or over UDP to port 319 (R285), behind at most one 802.1Q tag. PRESUMED: the
layouts of IEEE 802.3, 802.1Q, 1588 and of IPv4, IPv6 and UDP (log entry 60). -/
def ptpMessage (f : List Byte) : Option (List Byte) :=
  let f := if beField f 12 2 = 0x8100 then f.drop 4 else f
  let b := f.drop 14
  let udp (n : Nat) : Option (List Byte) := if beField b (n + 2) 2 = 319 then some (b.drop (n + 8)) else none
  match beField f 12 2 with
  | 0x88F7 => some b
  | 0x0800 => if beField b 9 1 = 17 then udp (4 * (beField b 0 1 % 16)) else none
  | 0x86DD => if beField b 6 1 = 17 then udp 40 else none
  | _ => none

/-- The delay request of a speaker's ordinary clock (R285), and its capture (R290). DESIGN CHOICE: one is sent for each Sync that
comes in, on its port (log entry 101). -/
def sendDelayReq (s : State) (e : Fin 2) : State :=
  if getField s Reg.CMP_CTL 2 1 = 0 then s
  else
    let seq := s.compass.ptpSeq
    let s := countField (emit s (.delayReq e.val seq)) (Reg.ETH_TX e.val) 0 64 1
    let s := capture s 7 (e.val * 2 ^ 47 + 2 ^ 43 + seq)
    { s with compass := { s.compass with ptpSeq := (seq + 1) % 65536 } }

/-- ETHERNET_FRAME (R353): a good frame is counted and goes to Ranger firmware, a PTP event message with a capture (R290); a bad
one is dropped, counted and logged. -/
def ethFrame (s : State) (e : Fin 2) (f : List Byte) (check : FrameCheck) : State :=
  if getField s (Reg.ETH_LINK e.val) 28 4 = 0 ∨ 9216 < f.length then s
  else match check with
  | .fcs => logLimited (countField s (Reg.ETH_DROP e.val) 16 16 1) 0x0D04 e.val
  | .codeword => logLimited (countField s (Reg.ETH_DROP e.val) 0 16 1) 0x0D04 e.val
  | .good =>
    let s := countField s (Reg.ETH_RX e.val) 0 64 1
    match ptpMessage f with
    | some m =>
      let t := beField m 0 1 % 16
      if 4 ≤ t then s
      else
        let s := capture s 8 (e.val * 2 ^ 47 + t * 2 ^ 43 + beField m 30 2)
        if t = 0 then sendDelayReq s e else s
    | none => s

/-! ## The commands -/

/-- HOST_PORT_RESET. -/
def execHostPortReset (p : Fin 2) (flr : Bool) (s : State) : Host.Outcome State Fault Refusal := .next (hostReset s p flr)

/-- HOST_LINK_TRAINED. -/
def execHostLinkTrained (p : Fin 2) (speed : Fin 3) (width : Fin 4) (s : State) : Host.Outcome State Fault Refusal :=
  .next (hostTrained s p speed width)

/-- HOST_LINK_DOWN. -/
def execHostLinkDown (p : Fin 2) (s : State) : Host.Outcome State Fault Refusal := .next (hostDown s p)

/-- ACQUIRE. -/
def execAcquire (p : Fin 2) (s : State) : Host.Outcome State Fault Refusal := .next (acquireLease s p)

/-- RENEW. -/
def execRenew (p : Fin 2) (s : State) : Host.Outcome State Fault Refusal := .next (renewLease s p)

/-- RELEASE_LEASE. -/
def execReleaseLease (p : Fin 2) (s : State) : Host.Outcome State Fault Refusal := .next (releaseLease s p)

/-- LEASE_EXPIRY. -/
def execLeaseExpiry (s : State) : Host.Outcome State Fault Refusal := .next (expireLease s)

/-- ETHERNET_FRAME. -/
def execEthernetFrame (e : Fin 2) (frame : List Byte) (check : FrameCheck) (s : State) : Host.Outcome State Fault Refusal :=
  .next (ethFrame s e frame check)

/-- ETHERNET_LINK_DOWN. -/
def execEthernetLinkDown (e : Fin 2) (lanes : BitVec 4) (s : State) : Host.Outcome State Fault Refusal := .next (ethDown s e lanes)

/-- ETHERNET_LINK_UP. -/
def execEthernetLinkUp (e : Fin 2) (lanes : BitVec 4) (s : State) : Host.Outcome State Fault Refusal := .next (ethUp s e lanes)

end Sys2Proof.Machine
end

