-- ==== Sys2Proof/Machine/Startup.lean ====
section
/-!
DEFINITION. Machine/Startup.lean: bring-up, resets, the spare sweep (chapter 17), power entry, Lamps and fibres (chapter 18).
-/

namespace Sys2Proof.Machine

/-! ## Power (R400 to R404) -/

/-- A block-15 fault while the converters run: they turn off. -/
def powerFault (s : State) (code : Nat) : State := if powered s then raiseModule s code else s

/-- The converters turn on and bring-up starts at step 1. -/
def powerUp (s : State) : State :=
  let s := { s with startup := { s.startup with power := .on, stepFrom := s.time } }
  setField s Reg.HUB_BOOT 28 4 1

/-- POWER_ON (R379, R396, R401): a power cycle clears the event log and HUB_RESET too. -/
def powerOn (s : State) : State :=
  let s := (List.range 32).foldl (fun s r => setReg s (Reg.HUB_MAP_PEND r) 0) s
  let s := restart s .on 0
  powerUp { setReg s Reg.HUB_RESET 0 with log := [], logSeq := 0 }

/-- Good pairs, by PE_STAT. -/
def goodPairs (s : State) : List Nat := (List.range 4).filter (fun i => (getReg s Reg.PE_STAT).getLsbD (28 + i))

/-- PE_LIMIT (R402): n pairs of 22 A at V_min, at most 3,500 W; and the cap that follows it. -/
def entryLimit (s : State) : State :=
  let n := (goodPairs s).length
  effectiveCap (setReg s Reg.PE_LIMIT (BitVec.ofNat 64 (min 3500 (n * 22 * getField s Reg.PE_VMIN 0 16 / 100))))

/-- PE_STAT.GOOD of a pair; the time from which R403 counts starts where the good pairs come to be fewer than two, or two again. -/
def setGood (s : State) (i : Nat) (good : Bool) : State :=
  let t := setField s Reg.PE_STAT (28 + i) 1 (bit1 good)
  if decide ((goodPairs s).length < 2) = decide ((goodPairs t).length < 2) then t
  else { t with startup := { t.startup with pairsFrom := t.time } }

/-- A good pair is lost (R402). -/
def pairLost (s : State) (i : Nat) : State :=
  if getField s Reg.PE_STAT (28 + i) 1 = 0 then s
  else entryLimit (logEvent (setBits (setGood s i false) Reg.PE_ERR 1) 0x0F01)

/-- A lost pair is good again (R402). -/
def pairReturn (s : State) (i : Nat) : State :=
  if getField s Reg.PE_STAT (28 + i) 1 = 1 then s
  else entryLimit (logEvent (setBits (setGood s i true) Reg.PE_ERR 2) 0x0F01)

/-- The pairs that the samples show good (R402): within 1 V of the highest; above 500 W also with a tenth of their share of the
current. -/
def classify (pairs : List Pair) : List Bool :=
  let top : Nat := pairs.foldl (fun m q => max m q.volt.toNat) 0
  let amps : Nat := pairs.foldl (fun n q => n + q.amp.toNat) 0
  let watts : Nat := pairs.foldl (fun n q => n + q.volt.toNat * q.amp.toNat) 0
  let near (q : Pair) : Bool := decide (top ≤ q.volt.toNat + 100)
  let n := (pairs.filter near).length
  pairs.map (fun q => near q && (decide (watts ≤ 5000000) || decide (amps ≤ 10 * n * q.amp.toNat)))

/-- The pairs' registers take their samples. -/
def notePairs (s : State) (pairs : List Pair) : State :=
  (List.range 4).foldl (fun s i => match pairs[i]? with
    | some q => setReg s (Reg.PE_PAIR i) (BitVec.ofNat 64 (q.volt.toNat * 2 ^ 16 + q.amp.toNat))
    | none => s) s

/-- ENTRY_LIMIT_UPDATE (R402), with the epoch's samples of the input, in 10 mV, and of the pairs. -/
def entryUpdate (s : State) (volt : BitVec 16) (pairs : List Pair) : State :=
  let good := classify pairs
  let volts := (volt.toNat :: s.firewatch.volts).take 1024
  let s := setReg (notePairs (modFire s fun f => { f with volts := volts }) pairs) Reg.PE_VMIN
    (BitVec.ofNat 64 (volts.foldl min volt.toNat))
  let s := (List.range 4).foldl (fun s i => match good[i]? with
    | some true => pairReturn s i
    | some false => pairLost s i
    | none => s) s
  entryLimit s

/-- PAIR_LOST or PAIR_RETURN (R402): a pair that its samples show lost, or good. -/
def pairChange (s : State) (i : Nat) (pairs : List Pair) (good : Bool) : State :=
  if (classify pairs)[i]? = some good then (if good then pairReturn (notePairs s pairs) i else pairLost (notePairs s pairs) i) else s

/-- PAIR_SHORTAGE (R403): fewer than two good pairs for 1 ms. -/
def pairShortage (s : State) : State :=
  if (goodPairs s).length < 2 ∧ s.startup.pairsFrom + msTime 1 ≤ s.time then powerFault s 0x3F02 else s

/-- PAIR_RESTORED (R403): two good pairs for 1 s. -/
def pairRestored (s : State) : State :=
  if s.startup.power = .pairs ∧ 2 ≤ (goodPairs s).length ∧ s.startup.pairsFrom + msTime 1000 ≤ s.time then powerUp s else s

/-- INPUT_UNDERVOLTAGE (Table 18.1): below 38 V for 100 µs. -/
def underVoltage (s : State) (volt us : Nat) : State := if volt < 3800 ∧ 100 ≤ us then powerFault s 0x3F04 else s

/-- INPUT_OVERVOLTAGE (Table 18.1): above 62 V for 100 µs. -/
def overVoltage (s : State) (volt us : Nat) : State := if 6200 < volt ∧ 100 ≤ us then powerFault s 0x3F05 else s

/-- The input is back for 1 s (Table 18.1): at 40 V or above after an undervoltage, at 60 V or below after an overvoltage. -/
def inputBack (s : State) (low high ms : Nat) : Bool :=
  decide (1000 ≤ ms) && (if getField s Reg.PE_LAST 48 16 = 0x3F05 then decide (high ≤ 6000) else decide (4000 ≤ low))

/-- INPUT_RESTORED (R400). -/
def inputRestored (s : State) (low high ms : Nat) : State :=
  if s.startup.power = .input ∧ inputBack s low high ms = true then powerUp s else s

/-- SENSE_PIN_BREAK (R401). -/
def senseBreak (s : State) : State := restart (setField s Reg.PE_STAT 27 1 0) .off 0

/-- RAIL_SHORT (R404): the rail goes into PE_LAST. -/
def railShort (s : State) (k : Nat) : State := if powered s then setField (powerFault s 0x3F03) Reg.PE_LAST 32 3 k else s

/-- COOLANT_LEAK (R411). -/
def coolantLeak (s : State) : State := powerFault (setField s Reg.PE_STAT 25 1 1) 0x3F0A

/-- LID_OPEN (R412). -/
def lidOpen (s : State) : State := powerFault (setField s Reg.PE_STAT 26 1 0) 0x3F0B

/-! ## Lamps and fibres (R408 to R410) -/

/-- A Lamp present and good. -/
def lampGood (s : State) (l : Nat) : Bool := decide (getField s (Reg.LAMP_STAT l) 30 2 = 3)

/-- The other Lamp of a Fly die. -/
def partner (l : Nat) : Nat := l / 2 * 2 + (1 - l % 2)

/-- Every lane of a Fly die goes dark (R408): the links of Table 1.6 that it carries go down. -/
def darkDie (s : State) (f : Nat) : State :=
  let s := forPorts s fun p s => if portFly p.val = f then lockLoss s p else s
  match f with
  | 1 => ethDown (hostDown s 0) 0 0
  | 2 => ethDown (hostDown s 1) 1 0
  | _ => s

/-- A good Lamp goes out: its partner carries the die with output `power`, or the die goes dark (R408). `code` is that of the first
case, `bit` its bit of PE_ERR. -/
def lampOut (s : State) (l code bit power : Nat) : State :=
  let s := setField (setField (setField s (Reg.LAMP_STAT l) 30 1 0) (Reg.LAMP_STAT l) 29 1 0) (Reg.LAMP_STAT l) 0 16 0
  if lampGood s (partner l) then
    let s := setField (setField s (Reg.LAMP_STAT (partner l)) 29 1 1) (Reg.LAMP_STAT (partner l)) 0 16 power
    logEvent (setBits s Reg.PE_ERR bit) code
  else darkDie (logEvent (setBits s Reg.PE_ERR 4) 0x1F07) (l / 2)

/-- LAMP_FAIL (R408): an output below 80% of its setting, or a self-check that fails. -/
def lampFail (s : State) (l own setting : Nat) (check : Bool) (power : Nat) : State :=
  if lampGood s l ∧ (5 * own < 4 * setting ∨ check = false) then lampOut s l 0x0F06 4 power else s

/-- LAMP_REMOVE (R409). -/
def lampRemove (s : State) (l power : Nat) : State :=
  if getField s (Reg.LAMP_STAT l) 31 1 = 0 then s
  else
    let s := if lampGood s l then lampOut s l 0x0F09 8 power else logEvent (setBits s Reg.PE_ERR 8) 0x0F09
    let s := setReg (setReg s (Reg.LAMP_STAT l) 0) (Reg.LAMP_SER l) 0
    { s with startup := { s.startup with ramps := storeDel s.startup.ramps l } }

/-- LAMP_INSERT (R409). -/
def lampInsert (s : State) (l : Nat) (typeOk : Bool) (serial : W64) : State :=
  if getField s (Reg.LAMP_STAT l) 31 1 = 1 then s
  else
    let s := logEvent (setBits (setReg s (Reg.LAMP_SER l) serial) Reg.PE_ERR 8) 0x0F09
    let s := setReg s (Reg.LAMP_STAT l) (BitVec.ofNat 64 (2 ^ 31 + bit1 (!typeOk) * 2 ^ 28))
    if typeOk then { s with startup := { s.startup with ramps := storePut s.startup.ramps l s.time } } else s

/-- The ports of a Fly die that are OFF and enabled start training once it has light, from step 9 on (Table 9.9, Table 17.1). -/
def lightPorts (s : State) : State :=
  if getField s Reg.HUB_BOOT 28 4 < 9 then s
  else forPorts s fun p s => if getField s (Reg.GL_CTL p.val) 0 1 = 1 then glEnable s p true else s

/-- LAMP_RAMP_DONE (R409): the Lamp shares the load, with its own and its partner's output. -/
def lampRampDone (s : State) (l own other : Nat) : State :=
  if s.startup.ramps.any (fun e => e.1 == l && decide (e.2 + msTime 2000 ≤ s.time)) then
    let s := { s with startup := { s.startup with ramps := storeDel s.startup.ramps l } }
    let s := setField (setField s (Reg.LAMP_STAT l) 30 1 1) (Reg.LAMP_STAT l) 0 16 own
    if lampGood s (partner l) then
      setField (setField s (Reg.LAMP_STAT (partner l)) 29 1 0) (Reg.LAMP_STAT (partner l)) 0 16 other
    else lightPorts (setField s (Reg.LAMP_STAT l) 29 1 1)
  else s

/-- The Fly die that serves a pair of LAMP_OPEN (Table 1.6). -/
def pairFly (q : Nat) : Nat :=
  if q < 40 then portFly (q / 4) else if q < 43 then 1 else if q < 46 then 2 else if q < 50 then 1 else if q < 54 then 2 else 1

/-- FIBRE_OPEN (R410): dark for 100 µs; an open Guyline pair takes its four lanes out of the link. -/
def fibreOpen (s : State) (q us : Nat) : State :=
  if !flyLit s (pairFly q) ∨ getField s Reg.LAMP_OPEN q 1 = 1 ∨ us < 100 then s
  else
    let s := { s with startup := { s.startup with probes := storePut s.startup.probes q (s.time + msTime 100) } }
    let s := logEvent (setBits (setField s Reg.LAMP_OPEN q 1 1) Reg.PE_ERR 16) 0x0F08
    let p : Fin 10 := Fin.ofNat 10 (q / 4)
    if q < 40 ∧ (s.ports[p].live ∨ s.ports[p].mode = .retrain) then removeLanes s p (0xF#16 <<< (4 * (q % 4))) else s

/-- FIBRE_PROBE (R410), every 100 ms: the Compass reference has no transmit partner. -/
def fibreProbe (s : State) (q : Nat) : State :=
  if q < 54 ∧ getField s Reg.LAMP_OPEN q 1 = 1 ∧ storeGet 0 s.startup.probes q ≤ s.time then
    emit { s with startup := { s.startup with probes := storePut s.startup.probes q (s.time + msTime 100) } } (.probe q)
  else s

/-- FIBRE_RESTORED (R410): light for 10 ms. -/
def fibreRestored (s : State) (q us : Nat) : State :=
  if us < 10000 then s
  else { setField s Reg.LAMP_OPEN q 1 0 with startup := { s.startup with probes := storeDel s.startup.probes q } }

/-! ## Bring-up (R379 to R383, R406) -/

/-- Bring-up enters a step: step 4 runs in CAL, step 6 trains the host ports, step 9 trains every enabled Guyline port; at step 10 the module is READY and
the fuses take the image's SVN (R383). -/
def enterStep (s : State) (k : Nat) : State :=
  let s := setField { s with startup := { s.startup with stepFrom := s.time } } Reg.HUB_BOOT 28 4 k
  if k = 4 then enterCal s
  else if k = 6 then trainHost (trainHost s 0) 1
  else if k = 9 then lightPorts s
  else if k = 10 then
    let svn := getField s Reg.SEC_SVN 16 16
    let fused := max svn s.flash.fused
    setField (setField { s with flash := { s.flash with fused := fused } } Reg.SEC_SVN 0 16 fused) Reg.HUB_BOOT 22 2 1
  else s

/-- Step 1 fails with no fault code: the converters stay off. -/
def stayOff (s : State) : State := restart s .off 0

/-- Step 1 (R406). -/
def stepPower (s : State) (mated : Bool) (volt : BitVec 16) (charged : Bool) (pairs : List Pair) (lid leak : Bool)
    (short : Option (Fin 8)) (lamps : List Lamp) : State :=
  let good := classify pairs
  let s := setReg (notePairs { s with startup := { s.startup with pairsFrom := s.time } } pairs) Reg.PE_STAT (BitVec.ofNat 64
    ((List.range 4).foldl (fun n i => n + bit1 (good.getD i false) * 2 ^ (28 + i)) 0 + bit1 mated * 2 ^ 27 + bit1 lid * 2 ^ 26 +
      bit1 leak * 2 ^ 25))
  if !mated then stayOff s
  else if volt.toNat < 4000 then powerFault s 0x3F04
  else if 6000 < volt.toNat then powerFault s 0x3F05
  else if !charged then stayOff s
  else
    let s := (List.range 4).foldl (fun s i =>
      if good.getD i false then s else logEvent (setBits s Reg.PE_ERR 1) 0x0F01) s
    if (goodPairs s).length < 2 then powerFault s 0x3F02
    else if !lid then powerFault s 0x3F0B
    else if leak then powerFault s 0x3F0A
    else match short with
    | some k => railShort s k.val
    | none =>
      let at_ (l : Nat) : Lamp := lamps.getD l { present := false, good := false, typeOk := false, serial := 0, power := 0 }
      let works (l : Nat) : Bool := (at_ l).present && (at_ l).good && (at_ l).typeOk
      let s := (List.range 8).foldl (fun s l =>
        let x := at_ l
        let v := if x.present then 2 ^ 31 + bit1 (works l) * 2 ^ 30 + bit1 (works l && !works (partner l)) * 2 ^ 29 +
          bit1 (!x.typeOk) * 2 ^ 28 + x.power.toNat else 0
        setReg (setReg s (Reg.LAMP_STAT l) (BitVec.ofNat 64 v)) (Reg.LAMP_SER l) (if x.present then x.serial else 0)) s
      if (List.range 4).all (fun f => flyLit s f) then enterStep s 2 else powerFault s 0x3F07

/-- Whether the boot ROM accepts an image (R382). -/
def imageOk (s : State) (img : List Byte) : Bool :=
  Config.imageSigned img && decide (s.flash.fused ≤ (Config.imageSvn img).toNat)

/-- A firmware bank: false is A. -/
def bank (s : State) (b : Bool) : List Byte := if b then s.flash.bankB else s.flash.bankA

/-- The image of a bank runs (R382). -/
def bootImage (s : State) (b : Bool) : State :=
  let img := bank s b
  let s := setRegBytes s Reg.SEC_FW_MEAS (sha256 img)
  let s := setReg s Reg.SEC_FW_VER ((Config.imageVersion img).setWidth 64)
  let s := setReg s Reg.SEC_SVN (BitVec.ofNat 64 ((Config.imageSvn img).toNat * 2 ^ 16 + s.flash.fused))
  setField (setField s Reg.SEC_STAT 29 1 (bit1 b)) Reg.SEC_STAT 27 1 (bit1 (imageOk s (bank s !b)))

/-- Step 2 (R382, R384). -/
def stepFirmware (s : State) (keyOk : Bool) : State :=
  let key := keyOk && decide (Config.certChain ≠ [])
  let s := setField (refreshMap s) Reg.SEC_STAT 30 1 (bit1 key)
  let s := if key then s else logEvent s 0x0E04
  let first := decide (getField s Reg.SEC_STAT 28 1 = 1)
  if imageOk s (bank s first) then enterStep (bootImage s first) 3
  else if imageOk s (bank s !first) then enterStep (logEvent (bootImage s !first) 0x0E02) 3
  else raiseModule s 0x3E01

/-- DIMMs (R173, R174): capacity of the lowest socket that R173 accepts; the reason of every DIMM left out. -/
def fitDimms (s : State) (dimms : List Dimm) : State :=
  let at_ (k : Nat) : Dimm := dimms.getD k { fitted := false, kindOk := false, speed := none, size := 0, trained := false }
  let kind (d : Dimm) : Bool := d.kindOk && [64, 96, 128, 192, 256].contains d.size.toNat
  let accepted (d : Dimm) : Bool := d.fitted && kind d && d.speed.isSome
  let cap := match ((List.range 12).map at_).find? accepted with
    | some d => d.size.toNat
    | none => 0
  let reason (d : Dimm) : Nat :=
    if !d.fitted then 0 else if !kind d then 2 else if d.speed = none then 3 else if d.size.toNat ≠ cap then 1
    else if !d.trained then 4 else 0
  let on (d : Dimm) : Bool := d.fitted && decide (reason d = 0)
  let s := (List.range 12).foldl (fun s k =>
    let d := at_ k
    let s := setReg s (Reg.BR_CHAN k) (BitVec.ofNat 64 (bit1 d.fitted * 2 ^ 31 + bit1 (on d) * 2 ^ 30 + reason d * 2 ^ 16))
    if reason d = 0 then s else logEvent s 0x0801) s
  let used := ((List.range 12).map at_).filter on
  let n := used.length
  let speed := used.foldl (fun m d => min m ((d.speed.map (·.val)).getD 4)) 4
  let s := setReg s Reg.BR_CFG (BitVec.ofNat 64 (if n = 0 then 0 else cap * 2 ^ 12 + speed * 2 ^ 4 + n))
  setReg s Reg.BR_SIZE (BitVec.ofNat 64 (n * cap * 2 ^ 30))

/-- Bits set in a field of a region's map record, failures not yet merged included. -/
def lostUnits (s : State) (r lo len : Nat) : Nat :=
  let v := getReg s (Reg.HUB_MAP r) ||| getReg s (Reg.HUB_MAP_PEND r)
  ((List.range len).filter (fun k => v.getLsbD (lo + k))).length

/-- Step 3. -/
def stepMemory (s : State) (failed : List (BitVec 24)) (dimms : List Dimm) : State :=
  let s := addFailures s ((List.range 32).map (fun r => (r, (failed.getD r 0).toNat * 2 ^ 16)))
  let s := fitDimms s dimms
  if (List.range 32).any (fun r => decide (12 < lostUnits s r 16 24)) then raiseModule s 0x3002 else enterStep s 4

/-- Whether a table set may be loaded: its header, digest and R115 (R116). -/
def tsetOk (t : List Byte) : Bool :=
  let block (f : Nat) : Bool := leField t (64 + 1552 * f) 1 == f && leField t (64 + 1552 * f + 1) 1 == 0 &&
    leField t (64 + 1552 * f + 2) 2 == 128 && leField t (64 + 1552 * f + 4) 12 == 0
  decide (t.length = 7824) && leField t 0 4 == 0x4E564B54 && leField t 4 2 == 1 && leField t 10 1 == 5 && leField t 11 5 == 0 &&
  leField t 48 16 == 0 && decide ((t.drop 16).take 32 = sha256 (t.drop 64)) && (List.range 5).all block &&
  tsetCoef t 0 0 0 == 0x3F800000 && tsetCoef t 1 0 0 == 0 && tsetCoef t 2 0 0 == 0x3F800000 && tsetCoef t 3 0 0 == 0x3F800000 &&
  tsetCoef t 4 0 0 == 0

/-- Whether crossing i arrives in region r; 5 is the Hub attachment (Table 1.4, Table 2.2). -/
def hasCrossing (r i : Nat) : Bool := if i = 5 then hasHub r else (crossSource r i).isSome

/-- Every crossing as region and slot. -/
def crossings : List (Nat × Nat) :=
  (List.range 32).flatMap (fun r => ((List.range 6).filter (hasCrossing r)).map (fun i => (r, i)))

/-- The smallest d that a crossing may have (Table 2.1). -/
def leastStages (i : Nat) : Nat := if i < 4 then 0 else if i = 4 then 4 else 2

/-- The delay measured for a crossing with d stages, in 0.01% of a beat; a value not measured does not qualify. -/
def stageDelay (m : Measure) (r i d : Nat) : Nat :=
  ((((m.delays.getD (6 * r + i) []).map (·.toNat))[d - leastStages i]?).getD 65536)

/-- The d that calibration chooses (R34): the smallest allowed with no stage above 80%. -/
def chooseStages (m : Measure) (r i : Nat) : Option Nat :=
  ((List.range (if i < 4 then 3 else 5)).map (· + leastStages i)).find? (fun d => decide (stageDelay m r i d ≤ 8000))

/-- A crossing's register takes d and the slack of its slowest stage. -/
def setCrossing (s : State) (m : Measure) (r i d : Nat) : State :=
  let v := (getReg s (Reg.RG_XING_STAT r i)) &&& 0xF00
  setReg s (Reg.RG_XING_STAT r i) (v ||| BitVec.ofNat 64
    (2 ^ 31 + 2 ^ 30 + crossLatency i * 2 ^ 20 + d * 2 ^ 16 + (10000 - stageDelay m r i d) / 100))

/-- The records of a calibration as a whole: capabilities, the lowest margin, the count. -/
def noteCalibration (s : State) (m : Measure) : State :=
  let s := forRegions s fun r s => modRegion s r fun g => { g with cap := (m.caps.getD r.val 0).toNat }
  let low := s.regions.toList.foldl (fun n g => min n g.cap) 32767
  let margin := crossings.foldl (fun n x => min n (getField s (Reg.RG_XING_STAT x.1 x.2) 0 8)) 255
  let s := setField (setReg s Reg.PACE_CAP (BitVec.ofNat 64 low)) Reg.HUB_CAL_STAT 0 8 margin
  setReg s Reg.HUB_CAL_T (if s.compass.valid then s.compass.count else 0)

/-- Step 4 (R34, R116, R380). -/
def stepCalibrate (s : State) (m : Measure) (failed : List (BitVec 9)) : State :=
  let t := Config.imageTset (bank s (decide (getField s Reg.SEC_STAT 29 1 = 1)))
  let s := leaveCal s
  let s := crossings.foldl (fun s x => match chooseStages m x.1 x.2 with
    | some d => setCrossing s m x.1 x.2 d
    | none => setReg s (Reg.RG_XING_STAT x.1 x.2) (BitVec.ofNat 64 (2 ^ 31 + crossLatency x.2 * 2 ^ 20))) s
  let s := noteCalibration s m
  if crossings.any (fun x => (chooseStages m x.1 x.2).isNone) then raiseModule s 0x3101
  else if !tsetOk t then raiseModule s 0x3403
  else
    let s := addFailures { s with tset := t } ((List.range 32).map (fun r => (r, (failed.getD r 0).toNat)))
    let s := modRegions s fun g => { g with sacks := [] }
    if (List.range 32).any (fun r => decide (3 ≤ lostUnits s r 0 9)) then raiseModule s 0x3002 else enterStep s 5

/-- Step 5: lanes found bad stay out. -/
def stepLanes (s : State) (bad : List (BitVec 16)) (eth : List (BitVec 4)) : State :=
  let s := forPorts s fun p s =>
    let m := bad.getD p.val 0
    let s := modPort s p fun g => { g with removed := g.removed ||| m }
    (List.range 16).foldl (fun s i => if m.getLsbD i then setField s (Reg.GL_LANE p.val i) 29 1 1 else s) s
  let s := (List.range 2).foldl (fun s e => setField s (Reg.ETH_LINK e) 0 4 (eth.getD e 0).toNat) s
  enterStep s 6

/-- Step 6. -/
def stepPcie (s : State) (ports : List (Option (Fin 3 × Fin 4))) : State :=
  let s := ([0, 1] : List (Fin 2)).foldl (fun s p => match ports.getD p.val none with
    | some (speed, width) => hostTrained s p speed width
    | none => s) s
  enterStep s 7

/-- Step 7: 0x1D01 for a port left down. -/
def stepEthernet (s : State) (up : BitVec 2) : State :=
  let s := ([0, 1] : List (Fin 2)).foldl (fun s e =>
    if up.getLsbD e.val then setField s (Reg.ETH_LINK e.val) 28 4 1
    else if getField s (Reg.ETH_LINK e.val) 28 4 = 1 then s
    else logEvent s 0x1D01) s
  enterStep s 8

/-- Bring-up is under way at a step: the module has power, is BOOTING and is not held in reset by a thermal trip (R318). -/
def booting (s : State) (k : Nat) : Bool :=
  powered s && !s.startup.thermal && decide (getField s Reg.HUB_BOOT 22 2 = 0) && decide (getField s Reg.HUB_BOOT 28 4 = k)

/-- BRING_UP_STEP. -/
def bringUp (s : State) (x : BringUp) : State :=
  match x with
  | .power mated volt charged pairs lid leak short lamps =>
    if booting s 1 then stepPower s mated volt charged pairs lid leak short lamps else s
  | .firmware keyOk => if booting s 2 then stepFirmware s keyOk else s
  | .memory failed dimms => if booting s 3 then stepMemory s failed dimms else s
  | .calibrate m failed => if booting s 4 then stepCalibrate s m failed else s
  | .lanes bad eth => if booting s 5 then stepLanes s bad eth else s
  | .pcie ports => if booting s 6 then stepPcie s ports else s
  | .ethernet up => if booting s 7 then stepEthernet s up else s
  | .compass => if booting s 8 then enterStep s 9 else s
  | .guyline => if booting s 9 then enterStep s 10 else s

/-- Budgets of steps 1 to 9 in ms (Table 17.1). -/
def stepBudget (k : Nat) : Nat := [0, 100, 500, 3000, 500, 300, 200, 3000, 1000, 100].getD k 0

/-- BRING_UP_STEP_TIMEOUT (R379): steps 1 to 4 fail as Table 17.1 states; a later one never fails and the next starts. -/
def bringUpTimeout (s : State) : State :=
  let k := getField s Reg.HUB_BOOT 28 4
  if !booting s k ∨ k = 0 ∨ 9 < k ∨ s.time < s.startup.stepFrom + msTime (stepBudget k) then s
  else match k with
  | 1 => stayOff s
  | 2 => raiseModule s 0x3E01
  | 3 => raiseModule s 0x3002
  | 4 => raiseModule (leaveCal s) 0x3002
  | 7 => stepEthernet s 0
  | k => enterStep s (k + 1)

/-! ## Resets (R395, R399) -/

/-- The level-3 faults of the module (Tables 2.8, 5.10, 7.14, 14.9, 17.10, 17.11 and 18.7). -/
def resetCodes : List Nat :=
  [0x3002, 0x3006, 0x3007, 0x3101, 0x3102, 0x3403, 0x370A, 0x3B06, 0x3E01, 0x3F02, 0x3F03, 0x3F04, 0x3F05, 0x3F07, 0x3F0A, 0x3F0B]

/-- MODULE_RESET (R395): a level-3 fault, by the 12 low bits of its code. -/
def faultReset (s : State) (code : BitVec 12) : State :=
  if powered s && resetCodes.contains (0x3000 + code.toNat) then raiseModule s (0x3000 + code.toNat) else s

/-- RANGER_WATCHDOG (R395). -/
def watchdog (s : State) : State := if powered s then raiseModule s 0x3006 else s

/-! ## The spare sweep (R389) -/

/-- The physical cluster of a logical one (R18). -/
def physOf (p : Pitch) (r c : Nat) : Nat := p.clmap.getD (8 * r + c) c

/-- Whether the applied Pitch uses a physical cluster, mapped or lent. -/
def mapped (s : State) (r k : Nat) : Bool :=
  match s.pitch with
  | none => false
  | some p => (List.range 8).any (fun c => physOf p r c == k) || p.detours.any (fun d => d.lender == r && d.phys == k)

/-- Whether a physical cluster is not known to have failed. -/
def clusterGood (s : State) (r k : Nat) : Bool :=
  !((getReg s (Reg.HUB_MAP r) ||| getReg s (Reg.HUB_MAP_PEND r)).getLsbD k)

/-- SPARE_SWEEP (R389). -/
def spareSweep (s : State) (r : Fin 32) (k : Fin 9) (pass : Bool) : State :=
  if !ready s ∨ !clusterGood s r.val k.val ∨ mapped s r.val k.val ∨ 1 < getField s Reg.FW_STAT 28 2 ∨
      1 < getField s Reg.FW_STAT 30 2 then s
  else
    let s := countField s Reg.HUB_SWEEP 16 16 1
    if pass then s
    else logEvent (addFailures (countField s Reg.HUB_SWEEP 0 16 1) [(r.val, 2 ^ k.val)]) 0x0003

/-! ## The commands -/

/-- POWER_ON. -/
def execPowerOn (s : State) : Host.Outcome State Fault Refusal := .next (powerOn s)

/-- BRING_UP_STEP. -/
def execBringUpStep (x : BringUp) (s : State) : Host.Outcome State Fault Refusal := .next (bringUp s x)

/-- BRING_UP_STEP_TIMEOUT. -/
def execBringUpStepTimeout (s : State) : Host.Outcome State Fault Refusal := .next (bringUpTimeout s)

/-- MODULE_RESET. -/
def execModuleReset (code : BitVec 12) (s : State) : Host.Outcome State Fault Refusal := .next (faultReset s code)

/-- RANGER_WATCHDOG. -/
def execRangerWatchdog (s : State) : Host.Outcome State Fault Refusal := .next (watchdog s)

/-- SPARE_SWEEP. -/
def execSpareSweep (r : Fin 32) (k : Fin 9) (pass : Bool) (s : State) : Host.Outcome State Fault Refusal :=
  .next (spareSweep s r k pass)

/-- INPUT_UNDERVOLTAGE. -/
def execInputUndervoltage (volt : BitVec 16) (us : BitVec 32) (s : State) : Host.Outcome State Fault Refusal :=
  .next (underVoltage s volt.toNat us.toNat)

/-- INPUT_OVERVOLTAGE. -/
def execInputOvervoltage (volt : BitVec 16) (us : BitVec 32) (s : State) : Host.Outcome State Fault Refusal :=
  .next (overVoltage s volt.toNat us.toNat)

/-- INPUT_RESTORED. -/
def execInputRestored (low high : BitVec 16) (ms : BitVec 32) (s : State) : Host.Outcome State Fault Refusal :=
  .next (inputRestored s low.toNat high.toNat ms.toNat)

/-- SENSE_PIN_BREAK. -/
def execSensePinBreak (s : State) : Host.Outcome State Fault Refusal := .next (senseBreak s)

/-- ENTRY_LIMIT_UPDATE. -/
def execEntryLimitUpdate (volt : BitVec 16) (pairs : List Pair) (s : State) : Host.Outcome State Fault Refusal :=
  .next (entryUpdate s volt pairs)

/-- PAIR_LOST. -/
def execPairLost (i : Fin 4) (pairs : List Pair) (s : State) : Host.Outcome State Fault Refusal :=
  .next (pairChange s i.val pairs false)

/-- PAIR_RETURN. -/
def execPairReturn (i : Fin 4) (pairs : List Pair) (s : State) : Host.Outcome State Fault Refusal :=
  .next (pairChange s i.val pairs true)

/-- PAIR_SHORTAGE. -/
def execPairShortage (s : State) : Host.Outcome State Fault Refusal := .next (pairShortage s)

/-- PAIR_RESTORED. -/
def execPairRestored (s : State) : Host.Outcome State Fault Refusal := .next (pairRestored s)

/-- RAIL_SHORT. -/
def execRailShort (k : Fin 8) (s : State) : Host.Outcome State Fault Refusal := .next (railShort s k.val)

/-- LAMP_FAIL. -/
def execLampFail (l : Fin 8) (own setting : BitVec 16) (check : Bool) (power : BitVec 16) (s : State) :
    Host.Outcome State Fault Refusal :=
  .next (lampFail s l.val own.toNat setting.toNat check power.toNat)

/-- LAMP_REMOVE. -/
def execLampRemove (l : Fin 8) (power : BitVec 16) (s : State) : Host.Outcome State Fault Refusal :=
  .next (lampRemove s l.val power.toNat)

/-- LAMP_INSERT. -/
def execLampInsert (l : Fin 8) (typeOk : Bool) (serial : BitVec 64) (s : State) : Host.Outcome State Fault Refusal :=
  .next (lampInsert s l.val typeOk serial)

/-- LAMP_RAMP_DONE. -/
def execLampRampDone (l : Fin 8) (own other : BitVec 16) (s : State) : Host.Outcome State Fault Refusal :=
  .next (lampRampDone s l.val own.toNat other.toNat)

/-- FIBRE_OPEN. -/
def execFibreOpen (q : Fin 55) (us : BitVec 32) (s : State) : Host.Outcome State Fault Refusal := .next (fibreOpen s q.val us.toNat)

/-- FIBRE_PROBE. -/
def execFibreProbe (q : Fin 55) (s : State) : Host.Outcome State Fault Refusal := .next (fibreProbe s q.val)

/-- FIBRE_RESTORED. -/
def execFibreRestored (q : Fin 55) (us : BitVec 32) (s : State) : Host.Outcome State Fault Refusal :=
  .next (fibreRestored s q.val us.toNat)

/-- COOLANT_LEAK. -/
def execCoolantLeak (s : State) : Host.Outcome State Fault Refusal := .next (coolantLeak s)

/-- LID_OPEN. -/
def execLidOpen (s : State) : Host.Outcome State Fault Refusal := .next (lidOpen s)

end Sys2Proof.Machine
end

