-- ==== Sys2Proof/Machine/SelfTest.lean ====
section
/-!
DEFINITION. Machine/SelfTest.lean: self-tests and recalibration (R388 to R393).
-/

namespace Sys2Proof.Machine

/-- Whether the pacer rests at a qualifying rest point for a test of a type (R390). -/
def qualifies (s : State) (kind : Nat) : Bool :=
  s.pacer.mode == .armed && s.trail.mode == .stopped && !s.tarp.struck && compassState s == 2 &&
  (match earliest (launchCounts s) with
  | some t => decide (nowTicks s + restTicks kind + getField s Reg.CMP_WAKE_LEAD 0 24 ≤ t)
  | none => true)

/-- The test that is kept is replaced. -/
def setTest (s : State) (t : Option SelfTest) : State := refreshTest { s with startup := { s.startup with test := t } }

/-- A test starts: the pacer is CAL (Table 2.3). -/
def startTest (s : State) (t : SelfTest) : State :=
  setTest (enterCal s) (some { t with running := true, began := nowTicks s, measured := false, forced := false })

/-- A pending test starts at once where the pacer is OFF, or at a qualifying rest point (R390, R391); a forced one as soon as the pacer is
ARMED. -/
def runTest (s : State) : State :=
  match s.startup.test with
  | some t => if !t.running && (s.pacer.mode == .off || (s.pacer.mode == .armed && t.forced) || (qualifies s t.kind && t.kind != 2)) then startTest s t else s
  | none => s

/-- A SELFTEST request (R391): RESULT, and with RESULT 0 the ticket. -/
def requestTest (s : State) (kind : Nat) (force : Bool) (timeout : Nat) : Nat × Nat × State :=
  if kind < 1 ∨ 3 < kind then (3, 0, s)
  else if s.startup.test.isSome then (1, 0, s)
  else if kind = 2 ∧ s.pitch.isSome then (4, 0, s)
  else
    let ticket := (s.startup.tickets + 1) % 256
    let t : SelfTest := { ticket := ticket, kind := kind, timeout := timeout, since := s.time, running := false, began := 0
                          measured := false, forced := force && pacing s }
    let s := setTest { s with startup := { s.startup with tickets := s.startup.tickets + 1 } } (some t)
    let s := if force && pacing s then
        let s := raiseModule s 0x2005
        if s.pacer.mode = .armed then startTest s t else s
      else runTest s
    (0, ticket, s)

/-- A pending test is given up: result 3, event 0x000A (R391). -/
def cancelTest (s : State) (t : SelfTest) : State := logEvent (setTest (noteTest s t.ticket 3) none) 0x000A

/-- A pending test's timeout has passed (R391). -/
def timeoutTest (s : State) : State :=
  match s.startup.test with
  | some t => if !t.running && decide (t.timeout ≠ 0) && decide (t.since + t.timeout * 40000000 ≤ s.time) then cancelTest s t else s
  | none => s

/-- New measures (R388): a crossing whose d would differ from the applied Pitch keeps it, its new value held. -/
def recalibrate (s : State) (m : Measure) : State :=
  if crossings.any (fun x => (chooseStages m x.1 x.2).isNone) then raiseModule s 0x3101
  else
    let d (x : Nat × Nat) : Nat := (chooseStages m x.1 x.2).getD 0
    let now (x : Nat × Nat) : Nat := getField s (Reg.RG_XING_STAT x.1 x.2) 16 4
    let held := if s.pitch.isSome then crossings.filter (fun x => d x != now x) else []
    let beyond := s.pitch.isSome && crossings.any (fun x => decide (9500 < stageDelay m x.1 x.2 (now x)))
    let s := crossings.foldl (fun s x => setCrossing s m x.1 x.2 (if held.contains x then now x else d x)) s
    let s := noteCalibration { s with startup := { s.startup with heldD := held.map (fun x => (x.1, x.2, d x)) } } m
    let s := setField s Reg.HUB_CAL_STAT 31 1 (bit1 (!held.isEmpty))
    let s := if held.isEmpty then s else logEvent s 0x0008
    if beyond then raiseModule s 0x2009 else s

/-- HUB_CAL_PERIOD has passed since the last calibration (R388). -/
def calibrationDue (s : State) : Bool :=
  decide (getField s Reg.HUB_CAL_PERIOD 0 17 ≠ 0) &&
  decide ((getReg s Reg.HUB_CAL_T).toNat + getField s Reg.HUB_CAL_PERIOD 0 17 * 156250000 ≤ nowTicks s)

/-- RECALIBRATION (R388): the part of a running test of type 1 or 3, or firmware's own at a qualifying rest point once the period
has passed. -/
def recalibration (s : State) (m : Measure) : State :=
  match s.startup.test with
  | some t =>
    if t.running ∧ t.kind ≠ 2 ∧ !t.measured then
      recalibrate { s with startup := { s.startup with test := some { t with measured := true } } } m
    else s
  | none => if qualifies s 3 && calibrationDue s then recalibrate (leaveCal (enterCal s)) m else s

/-- Tracks and clusters that a test found failed, by region, in the layout of HUB_MAP. -/
def foundFailures (clusters : List (BitVec 9)) (tracks : List (BitVec 24)) : List (Nat × Nat) :=
  tab 32 fun r => (r, (clusters.getD r 0).toNat + (tracks.getD r 0).toNat * 2 ^ 16)

/-- A failure in a cluster that the Pitch maps, or on any cluster with no Pitch. -/
def failsMapped (s : State) (clusters : List (BitVec 9)) : Bool :=
  (List.range 32).any fun r => (List.range 9).any fun k => (clusters.getD r 0).getLsbD k && (s.pitch.isNone || mapped s r k)

/-- Clusters that a rest-point test covers: the mapped ones (Table 17.4). -/
def coveredClusters (s : State) (clusters : List (BitVec 9)) : List (BitVec 9) :=
  tab 32 fun r => BitVec.ofNat 9 ((List.range 9).foldl (fun n k =>
    if (clusters.getD r 0).getLsbD k && (s.pitch.isNone || mapped s r k) then n + 2 ^ k else n) 0)

/-- A running test ends (R390, R393, Table 17.4): type 1 leaves Stoves and Kettles at launch values, type 2 leaves HBM and Barrel
zeroed. A failed cluster goes into the map; a mapped one is fault 0x2004. -/
def completeTest (s : State) (clusters : List (BitVec 9)) (tracks : List (BitVec 24)) : State :=
  match s.startup.test with
  | none => s
  | some t =>
    if !t.running || (t.kind != 2 && !t.measured) then s
    else
      let clusters := if t.kind = 1 then coveredClusters s clusters else []
      let tracks := if t.kind = 2 then tracks else []
      let found := foundFailures clusters tracks
      let bad := found.any (fun f => decide (f.2 ≠ 0))
      let lost := failsMapped s clusters
      let s := if t.kind = 1 then
          modRegions s fun g => { g with stoves := Vector.replicate 8 Stove.launch, kettles := Vector.replicate 16 Kettle.launch }
        else s
      let s := if t.kind = 2 then
          let s := { s with hbm := [], barrel := [], flaws := s.flaws.filter (fun f => match f with
            | .hbm _ _ => false
            | .barrel _ _ => false
            | _ => true) }
          setField s Reg.CR_WSTAT 31 1 0
        else s
      let s := leaveCal (setTest (noteTest s t.ticket (bit1 bad)) none)
      let s := if bad then addFailures s found else s
      if lost && s.pitch.isSome then raiseModule s 0x2004 else s

/-! ## The commands -/

/-- SELFTEST_RUN. -/
def execSelftestRun (s : State) : Host.Outcome State Fault Refusal := .next (runTest s)

/-- SELFTEST_COMPLETE. -/
def execSelftestComplete (clusters : List (BitVec 9)) (tracks : List (BitVec 24)) (s : State) : Host.Outcome State Fault Refusal :=
  .next (completeTest s clusters tracks)

/-- SELFTEST_TIMEOUT. -/
def execSelftestTimeout (s : State) : Host.Outcome State Fault Refusal := .next (timeoutTest s)

/-- RECALIBRATION. -/
def execRecalibration (m : Measure) (s : State) : Host.Outcome State Fault Refusal := .next (recalibration s m)

end Sys2Proof.Machine
end

