-- ==== Sys2Proof/Machine/Views.lean ====
section
/-!
DEFINITION. Machine/Views.lean: what every BAR0 register and window reads as. A register whose value follows other state is
computed from it; every other one reads as its stored value.
-/

namespace Sys2Proof.Machine

/-- Bits of a word from conditions by number. -/
def bitSet (n : Nat) (f : Nat → Bool) : Nat := (List.range n).foldl (fun v i => v + bit1 (f i) * 2 ^ i) 0

/-! ## Regions (chapters 02 and 04 to 07) -/

/-- RG_STOVE_STAT (R101). -/
def stoveView (g : Region) (c : Fin 8) : Nat :=
  let t := g.stoves[c]
  let b := lastBeat g
  t.afmt * 2 ^ 28 + t.plane1.wfmt * 2 ^ 24 + t.plane0.wfmt * 2 ^ 20 + bit1 t.act * 2 ^ 19 + bit1 t.plane1.scaleOk * 2 ^ 18 +
  bit1 t.plane1.elemOk * 2 ^ 17 + bit1 t.plane0.scaleOk * 2 ^ 16 + bit1 t.plane0.elemOk * 2 ^ 15 +
  bit1 (decide (b < t.oFree)) * 2 ^ 14 + bit1 (decide (b < t.mFree)) * 2 ^ 13 + bit1 (decide (b < t.lFree)) * 2 ^ 12

/-- RG_WIN_STAT (R149). -/
def windowView (g : Region) (r f : Nat) : Nat :=
  bit1 (faceExists r f) * 2 ^ 31 + bitSet 8 (fun w => (windowOf g f w).drop) * 2 ^ 8 + bitSet 8 (fun w => (windowOf g f w).isOpen)

/-- RG_PEG_WAIT (R149): the wait of the lowest slot. -/
def waitView (g : Region) : Nat :=
  match g.waits.findSome? (fun w => match w.2 with
    | .pwait p rel _ t _ =>
      some (2 ^ 63 + p * 2 ^ 53 + (if rel then ((pegOf g p).mark.toNat + t) % 2 ^ 32 else t))
    | .fqpost q _ _ => some (2 ^ 63 + 2 ^ 62 + q * 2 ^ 47)
    | .thru _ _ _ => none) with
  | some v => v
  | none => 0

/-- A register of region r at offset `o` of its block. -/
def regionView (s : State) (r : Fin 32) (o : Nat) (stored : W64) : W64 :=
  let g := s.regions[r]
  let at_ (base n step : Nat) : Option Nat :=
    if base ≤ o ∧ o < base + n * step ∧ (o - base) % step = 0 then some ((o - base) / step) else none
  if o = 0x100 then BitVec.ofNat 64 (beatsBegun s r)
  else if o = 0x440 then BitVec.ofNat 64 (leField s.tset 6 2 + leField s.tset 8 2 * 2 ^ 16)
  else if o = 0x700 then BitVec.ofNat 64 (waitView g)
  else if o = 0x2008 then
    BitVec.ofNat 64 (bit1 (s.pacer.mode == .run) * 2 ^ 31 + bitSet 24 (fun t => (trackOf g t).hot))
  else match at_ 0x200 6 4, at_ 0x300 8 4, at_ 0x400 16 4, at_ 0x600 7 4, at_ 0x800 512 4, at_ 0x1000 512 4, at_ 0x2020 8 4,
      at_ 0x2060 24 4 with
  | some i, _, _, _, _, _, _, _ => (stored &&& ~~~0xF00#64) ||| BitVec.ofNat 64 (min 15 g.occPeak[Fin.ofNat 6 i] * 2 ^ 8)
  | _, some c, _, _, _, _, _, _ => BitVec.ofNat 64 (stoveView g (Fin.ofNat 8 c))
  | _, _, some u, _, _, _, _, _ =>
    let f := (g.kettles[Fin.ofNat 16 u]).flags
    BitVec.ofNat 64 (bit1 f.nv * 4 + bit1 f.dz * 2 + bit1 f.of)
  | _, _, _, some f, _, _, _, _ => BitVec.ofNat 64 (windowView g r.val f)
  | _, _, _, _, some i, _, _, _ => (pegOf g i).thr.setWidth 64
  | _, _, _, _, _, some i, _, _ => (pegOf g i).mark.setWidth 64
  | _, _, _, _, _, _, some k, _ =>
    let x := g.xregs[Fin.ofNat 8 k]
    BitVec.ofNat 64 (bit1 x.2 * 2 ^ 31 + x.1.toNat)
  | _, _, _, _, _, _, _, some t => BitVec.ofNat 64 (min 65535 (trackOf g t).refAge)
  | _, _, _, _, _, _, _, _ => stored

/-! ## Pacer, Tarp, Pitch and Trail (chapters 02, 03, 10) -/

/-- PACE_STAT.STATE. -/
def PacerMode.code : PacerMode → Nat
  | .off => 0
  | .cal => 1
  | .armed => 2
  | .run => 3
  | .held => 4

/-- A lag with its region in the layout of PACE_LAG. -/
def lagBits (l : Nat × Nat) : Nat := min 2047 l.1 * 2 ^ 16 + l.2

/-- The newest hold: of those outstanding, else the last one. -/
def newestHold (s : State) : Nat × Nat :=
  match s.tarp.holds.getLast? with
  | some h => (h.origin, h.a)
  | none => s.tarp.newest

/-- TARP_STAT (R262). -/
def tarpView (s : State) : Nat :=
  (if s.tarp.struck then 2 else if s.pacer.mode = .held then 1 else 0) * 2 ^ 30 + s.tarp.holds.length * 2 ^ 25 +
  bit1 (s.tarp.holds.any (·.own)) * 2 ^ 15 + (newestHold s).1

/-- A register of the pacer and Tarp block. -/
def pacerView (s : State) (off : Nat) (stored : W64) : W64 :=
  if off = Reg.PACE_N then BitVec.ofNat 64 (paceView s)
  else if off = Reg.PACE_NEXT then BitVec.ofNat 64 (bit1 s.pacer.pend.isSome * 2 ^ 31) ||| stored
  else if off = Reg.PACE_STAT then BitVec.ofNat 64 (s.pacer.mode.code * 2 ^ 16 + bit1 s.pacer.vready)
  else if off = Reg.PACE_LAG then BitVec.ofNat 64 (lagBits (moduleLag s))
  else if off = Reg.PACE_LAG_PEAK then BitVec.ofNat 64 (lagBits s.pacer.lagPeak)
  else if off = Reg.PACE_BEAT then BitVec.ofNat 64 s.pacer.released
  else if off = Reg.PACE_EPOCH then (if 2 ≤ compassState s then BitVec.ofNat 64 (nowEpoch s) else 0)
  else if off = Reg.PACE_VTGT then BitVec.ofNat 64 (voltTarget s)
  else if off = Reg.TARP_STAT then BitVec.ofNat 64 (tarpView s)
  else if off = Reg.TARP_A then BitVec.ofNat 64 (newestHold s).2
  else if off = Reg.TARP_X then BitVec.ofNat 64 s.tarp.x
  else if Reg.TARP_PEND 0 ≤ off ∧ off < Reg.TARP_PEND 16 then
    match s.tarp.holds[(off - Reg.TARP_PEND 0) / 8]? with
    | some h => BitVec.ofNat 64 (2 ^ 63 + h.origin * 2 ^ 48 + h.a % 2 ^ 25)
    | none => 0
  else stored

/-- TR_STAT.STATE. -/
def TrailMode.code : TrailMode → Nat
  | .empty => 0
  | .loading => 1
  | .loaded => 2
  | .running => 3
  | .stopped => 4
  | .fault => 5

/-- A Pitch with a detour (R68). -/
def hasDetour (s : State) : Bool :=
  match s.pitch with
  | some p => !p.detours.isEmpty
  | none => false

/-- PT_STAT's bits but ERR_CAUSE (R77). -/
def pitchFlags (s : State) : Nat :=
  match s.pitch with
  | some p => bit1 (hasDetour s) * 16 + bit1 p.relaxed * 8 + bit1 p.debug * 4 + bit1 p.strict * 2 + 1
  | none => 0

/-- The region of PACE_LAG.LAG_REGION. -/
def lagRegion (s : State) : Region := s.regions[Fin.ofNat 32 (moduleLag s).2]

/-- A register of the Pitch, Trail and launch block. -/
def trailView (s : State) (off : Nat) (stored : W64) : W64 :=
  if off = Reg.PT_STAT then stored ||| BitVec.ofNat 64 (pitchFlags s)
  else if off = Reg.TR_STAT then
    let f := (lagRegion s).fetch
    BitVec.ofNat 64 (s.trail.mode.code * 2 ^ 29 + bit1 (hasDetour s) * 2 ^ 28 + f.seg % 4096 * 2 ^ 16 + f.gear % 4 * 2 ^ 14 +
      s.trail.cause % 256)
  else if off = Reg.TR_ROW then BitVec.ofNat 64 (lagRegion s).rowsBegun
  else stored

/-! ## Guyline ports (chapters 09 and 10) -/

/-- A register of port p at offset `o` of its block. -/
def portView (s : State) (p : Fin 10) (o : Nat) (stored : W64) : W64 :=
  let g := s.ports[p]
  if o = 0x04 then
    BitVec.ofNat 64 (g.mode.code * 2 ^ 28 + g.idstat * 2 ^ 25 + g.width * 2 ^ 20 + bit1 (halfSpeed s p) * 2 ^ 19 +
      min 3 g.failed * 2 ^ 17 + g.good.toNat)
  else if o = 0x10 then g.epoch.setWidth 64
  else if o = 0x18 then
    BitVec.ofNat 64 ((match g.buffer.head? with
      | some k => k.seq
      | none => g.txNext) * 2 ^ 32 + g.txNext)
  else if o = 0x20 then BitVec.ofNat 64 g.rxNext
  else if o = 0x24 then BitVec.ofNat 64 (min 2047 g.buffer.length)
  else if o = 0x60 then
    BitVec.ofNat 64 (match g.hop with
      | some (hi, lo) => min 65535 hi * 2 ^ 16 + min 65535 lo
      | none => 0)
  else if 0x100 ≤ o ∧ o < 0x110 ∧ o % 4 = 0 then
    let c := g.channels[Fin.ofNat 4 ((o - 0x100) / 4)]
    BitVec.ofNat 64 (c.credits * 2 ^ 16 + (if g.width = 0 then 0 else 64 - c.held))
  else if o = 0x414 then
    -- the ns of messages that still wait for credits of this port count too (R263)
    let waits := (List.finRange 10).flatMap fun q => s.ports[q].channels.toList.flatMap fun c =>
      (c.rx.filter (fun m => m.next s == some p.val)).map (fun m => m.waited s)
    BitVec.ofNat 64 (min (2 ^ 32 - 1) (waits.foldl (· + ·) stored.toNat))
  else if o = 0x408 then BitVec.ofNat 64 (g.through.length * 2 ^ 16 + g.landing.length)
  else stored

/-! ## Compass, gear log, host and identity (chapters 12, 13, 15, 17) -/

/-- A register of the Compass block. -/
def compassView (s : State) (off : Nat) (stored : W64) : W64 :=
  let head := s.compass.capture.head?
  if off = Reg.CMP_COUNT then s.compass.count
  else if off = Reg.CMP_HOLD_ERR then BitVec.ofNat 64 (holdError s)
  else if off = Reg.CMP_CAP then (match head with
    | some e => e.2.1
    | none => 0)
  else if off = Reg.CMP_CAP_INFO then (match head with
    | some e => e.2.2
    | none => 0)
  else if off = Reg.CMP_CAP_STAT then stored ||| BitVec.ofNat 64 s.compass.capture.length
  else stored

/-- A register of the Firewatch block: FW_STAT's wishes and FW_VOTE (Table 14.8). -/
def firewatchView (s : State) (off : Nat) (stored : W64) : W64 :=
  let f := s.firewatch
  if off = Reg.FW_STAT then
    stored ||| BitVec.ofNat 64 (f.gwant % 4 * 2 ^ 26 + bit1 f.ehold.isSome * 2 ^ 25 + bit1 (isLookout s) * 2 ^ 24 + f.want % 2 ^ 14)
  else if off = Reg.FW_VOTE then
    let (seg, gear, _) := segmentNow s
    let own := ((votesNow s).find? (fun v => v.who == selfIndex s)).map (·.gear)
    BitVec.ofNat 64 (bndCount s % 2 ^ 11 * 2 ^ 21 + bit1 (holdsVote s seg gear) * 2 ^ 20 + own.getD 0 * 2 ^ 18 +
      voteMax s * 2 ^ 16 + (votesNow s).length % 2 ^ 15)
  else stored

/-- A register of the gear log and script. -/
def replayView (s : State) (off : Nat) (stored : W64) : W64 :=
  let head := s.gearLog.head?
  if off = Reg.CR_GLOG then (match head with
    | some e => e.1
    | none => 0)
  else if off = Reg.CR_GLOG_INFO then (match head with
    | some e => e.2
    | none => 0)
  else if off = Reg.CR_GLOG_STAT then stored ||| BitVec.ofNat 64 s.gearLog.length
  else if off = Reg.CR_GSCRIPT_STAT then stored ||| BitVec.ofNat 64 (s.gearScript.length * 2 ^ 16)
  else stored

/-- Posted BAR2 writes that a port holds. -/
def postedWrites (h : HostPort) : Nat :=
  (h.posted.filter (fun e => match e with
    | .peg _ _ _ _ => false
    | _ => true)).length

/-- Outstanding Vestibule reads of a port, a read in two parts once. -/
def readsOut (h : HostPort) : Nat := (h.reads.map (·.req)).eraseDups.length

/-- A register of the host and Ethernet block. -/
def hostView (s : State) (off : Nat) (stored : W64) : W64 :=
  if off = Reg.HST_LEASE_LEFT then
    (if getField s Reg.HST_LEASE 30 2 = 0 then 0 else BitVec.ofNat 64 ((leaseEnd s - s.time) / 40000))
  else if off = Reg.HST_WLOAD_NT then BitVec.ofNat 64 (presentTracks s).length
  else if off = Reg.ETH_MAC 0 then s.identity.mac0.setWidth 64
  else if off = Reg.ETH_MAC 1 then s.identity.mac1.setWidth 64
  else if off = Reg.HST_VEST_STAT 0 ∨ off = Reg.HST_VEST_STAT 1 then
    let h := s.hosts[(if off = Reg.HST_VEST_STAT 0 then 0 else 1 : Fin 2)]
    BitVec.ofNat 64 (postedWrites h * 2 ^ 16 + readsOut h)
  else stored

/-- A register that holds the part's identity (R397, R398). -/
def identityView (s : State) (off : Nat) (stored : W64) : W64 :=
  let d := s.identity
  if off = Reg.HUB_SERIAL then d.serial
  else if off = Reg.HUB_PART then BitVec.ofNat 64 (d.generation % 256 * 2 ^ 16 + bit1 d.steppingB0 * 2 ^ 8 + bit1 d.gradeS)
  else if Reg.SEC_KEY_ID 0 ≤ off ∧ off < Reg.SEC_KEY_ID 8 then
    BitVec.ofNat 64 (leField (keyDigest s) (off - Reg.SEC_KEY_ID 0) 4)
  else stored

/-! ## Whistle and Lantern (chapter 16) -/

/-- A 32-source word of a Whistle bit set. -/
def sourceWord (v : BitVec 1024) (w : Nat) : W64 := (v >>> (32 * w)).setWidth 32 |>.setWidth 64

/-- A register of the Whistle block at offset `o`. -/
def whistleView (s : State) (o : Nat) (stored : W64) : W64 :=
  let w := s.whistle
  if o = 0 then
    stored ||| BitVec.ofNat 64 (bit1 w.retained * 2 ^ 31 + ((List.range 1024).filter (fun n => w.pend.getLsbD n)).length)
  else if 0x100 ≤ o ∧ o < 0x180 then
    BitVec.ofNat 64 (bitSet 32 (fun i => (stateSource? s (8 * (o - 0x100) + i)).getD false))
  else if 0x200 ≤ o ∧ o < 0x280 then sourceWord w.pend ((o - 0x200) / 4)
  else if 0x300 ≤ o ∧ o < 0x380 then sourceWord w.pend ((o - 0x300) / 4)
  else if 0x400 ≤ o ∧ o < 0x480 then sourceWord w.insv ((o - 0x400) / 4)
  else if 0x3000 ≤ o ∧ o < 0x4000 then
    let n := (o - 0x3000) / 4
    BitVec.ofNat 64 (bit1 (w.timers.any (fun e => e.1 == n)) * 2 ^ 31 + storeGet 0 w.counts n % 256)
  else stored

/-- Offset `o` of a region's counters (R371, Table 16.8), from a bank of counters and wrap bits; none where a stored register
lies. -/
def counterView (counts : Store Nat) (wraps : Store W64) (r o : Nat) : Option W64 :=
  let c (k : Nat) : Option W64 := some (BitVec.ofNat 64 (storeGet 0 counts (64 * r + k)))
  if o = 0 then c 56
  else if o = 8 then c 57
  else if o = 0x10 then some (storeGet 0 wraps r)
  else if 0x100 ≤ o ∧ o < 0x280 ∧ o % 8 = 0 then c ((o - 0x100) / 8)
  else if 0x280 ≤ o ∧ o < 0x2C0 ∧ o % 8 = 0 then c (48 + (o - 0x280) / 8)
  else none

/-- What LN_TIME counts of a beat in progress (R368). -/
def busyNow (s : State) (r : Fin 32) : Nat :=
  let g := s.regions[r]
  if g.completed < g.begun ∧ s.lantern.frozen.getLsbD r.val = false then busyTime s g else 0

/-- A register of the Lantern block at offset `o`. -/
def lanternView (s : State) (o : Nat) (stored : W64) : W64 :=
  let l := s.lantern
  if 0x10000 ≤ o ∧ o < 0x20000 then
    (storeGet [] l.trace ((o - 0x10000) / 32)).getD (o % 32 / 8) 0
  else if 0x80000 ≤ o ∧ o < 0x90000 then
    let r := (o - 0x80000) / 0x800
    let a := o % 0x800
    if a = 8 then BitVec.ofNat 64 (storeGet 0 l.counts (64 * r + 57) + busyNow s (regionFin r))
    else if a < 0x400 then (counterView l.counts l.wraps r a).getD stored
    else (counterView l.snap l.snapWraps r (a - 0x400)).getD 0
  else stored

/-! ## The front (R405) -/

/-- The front status indicator: red while the converters are held off, amber while a pair is lost or a Lamp runs alone. -/
def frontIndicator (s : State) : Indicator :=
  if !powered s then .red
  else if (goodPairs s).length < 4 ∨ (List.range 8).any (fun l => getField s (Reg.LAMP_STAT l) 29 1 == 1) then .amber
  else .green

/-! ## Every register -/

/-- What a register reads as, by the offset it starts at. -/
def regView (s : State) (off : Nat) : W64 :=
  let v := getReg s off
  match off / 0x100000 with
  | 0x0 => identityView s off v
  | 0x1 => compassView s off v
  | 0x2 => pacerView s off v
  | 0x3 => firewatchView s off v
  | 0x4 => whistleView s (off % 0x100000) v
  | 0x5 => lanternView s (off % 0x100000) v
  | 0x6 => portView s (Fin.ofNat 10 (off % 0x100000 / 0x10000)) (off % 0x10000) v
  | 0x8 => hostView s off v
  | 0xA => replayView s off v
  | 0xB => trailView s off v
  | 0xC => identityView s off v
  | b => if b = 0x10 ∨ b = 0x11 then regionView s (Fin.ofNat 32 (off % 0x200000 / 0x10000)) (off % 0x10000) v else v

/-- An entry of the Peg window (Table 6.11): logical id p. A Peg outside ALLOC reads as 0 (R144). -/
def pegEntry (s : State) (p : Nat) : W64 :=
  let inAlloc := match s.pitch with
    | some q => (q.alloc.getD (p / 512) 0).getLsbD (p % 512)
    | none => false
  if inAlloc then
    let g := pegOf s.regions[Fin.ofNat 32 (p / 512)] (p % 512)
    BitVec.ofNat 64 (bit1 g.armed * 2 ^ 33 + bit1 g.err * 2 ^ 32 + g.count.toNat)
  else 0

end Sys2Proof.Machine
end

