-- ==== Sys2Proof/Machine/Commands.lean ====
section
/-!
DEFINITION. Machine/Commands.lean: the firmware command block, its commands, and telemetry (R350 to R356, R385, R394).
-/

namespace Sys2Proof.Machine

/-! ## The block (R350, R356, R381, R382) -/

/-- FC_STAT.BUSY. -/
def fcBusy (s : State) : Bool := decide (getField s Reg.FC_STAT 31 1 = 1)

/-- FC_ARG(i). -/
def fcArg (s : State) (i : Nat) : Nat := (getReg s (Reg.FC_ARG i)).toNat

/-- FC_RET(i) written. -/
def fcRet (s : State) (i v : Nat) : State := setReg s (Reg.FC_RET i) (BitVec.ofNat 64 v)

/-- The first n bytes of FC_DATA. -/
def fcData (s : State) (n : Nat) : List Byte :=
  ((List.range ((n + 7) / 8)).flatMap (fun i => leBytes 8 (getReg s (Reg.FC_DATA i)).toNat)).take n

/-- Bytes put at the start of FC_DATA, at most 4 KiB; the bytes after them stay. -/
def fcPut (s : State) (bs : List Byte) : State :=
  (List.range ((min 4096 bs.length + 7) / 8)).foldl (fun s i =>
    let part := (bs.drop (8 * i)).take 8
    let old := (getReg s (Reg.FC_DATA i)).toNat
    setReg s (Reg.FC_DATA i) (BitVec.ofNat 64 (leNat part + old / 256 ^ part.length * 256 ^ part.length))) s

/-- A command completes: BUSY clears, DONE sets, RESULT is written, and the port's command-done source pulses. -/
def fcFinish (s : State) (p : Fin 2) (seq result : Nat) : State :=
  pulse (setReg s Reg.FC_STAT (BitVec.ofNat 64 (2 ^ 30 + result * 2 ^ 16 + seq % 256 * 2 ^ 8 + p.val))) (193 + 16 * p.val)

/-- Module states before READY in which a command is accepted (R381, R382). -/
def fcEarly (s : State) (op : Nat) : Bool :=
  [0x01, 0x02, 0x09, 0x10, 0x11, 0x12].contains op || (decide (getField s Reg.HUB_BOOT 22 2 = 3) && [0x13, 0x14].contains op)

/-- The result with which a command is refused before it starts, if it is. -/
def fcRefused (s : State) (p : Fin 2) (op : Nat) (classS : Bool) : Option Nat :=
  if !ready s then (if fcEarly s op then none else some 4)
  else if classS && !isSteward s p then some 2
  else none

/-- A write of FC_CMD by a port: dropped while BUSY, refused, or carried out by `f`. -/
def fcStart (s : State) (p : Fin 2) (seq op : Nat) (classS : Bool) (f : State → State) : State :=
  if !powered s then s
  else if fcBusy s then logEvent s 0x0C09
  else match fcRefused s p op classS with
  | some r => fcFinish s p seq r
  | none => f s

/-- A command that completes at once: `f` gives its RESULT. -/
def fcAtOnce (s : State) (p : Fin 2) (seq : BitVec 8) (op : Nat) (classS : Bool) (f : State → Nat × State) : State :=
  fcStart s p seq.toNat op classS fun s => let (r, s) := f s; fcFinish s p seq.toNat r

/-- An opcode that no command has (Table 15.5). -/
def fcUnknown (s : State) (p : Fin 2) (seq : BitVec 8) (op : Nat) : State := fcAtOnce s p seq op false fun s => (7, s)

/-! ## Information -/

/-- INFO. -/
def fcInfo (s : State) : Nat × State :=
  let part := (regView s Reg.HUB_PART).toNat
  let s := fcRet s 0 s.identity.serial.toNat
  let s := fcRet s 1 (fieldN part 0 8 * 2 ^ 8 + fieldN part 8 8)
  let s := fcRet s 2 (getReg s Reg.SEC_FW_VER).toNat
  (0, fcRet s 3 (leField s.tset 6 2 * 2 ^ 48 + leField s.tset 8 2 * 2 ^ 32 + fieldN part 16 8))

/-- An event record as EVENTS returns it (Table 15.6). -/
def eventBytes (e : Event) : List Byte := leBytes 8 (e.code.toNat * 2 ^ 48 + e.data.toNat) ++ leBytes 8 e.count.toNat

/-- EVENTS: records from sequence number ARG0 on, or from the oldest that the log holds. -/
def fcEvents (s : State) : Nat × State :=
  let oldest := s.logSeq - s.log.length
  let first := max oldest (fcArg s 0)
  let es := (s.log.drop (first - oldest)).take 256
  (0, fcRet (fcRet (fcPut s (es.flatMap eventBytes)) 0 es.length) 1 (first + es.length))

/-- COORD. -/
def fcCoord (s : State) : Nat × State :=
  if s.pitch.isSome then (4, s) else (0, selfCoordWrite s (BitVec.ofNat 32 (fcArg s 0)))

/-- ATTEST (R385): the 192 bytes that are signed (Table 17.3). -/
def attestBody (s : State) : List Byte :=
  let mode := getField s Reg.HUB_BOOT 22 2
  leBytes 4 0x4E564154 ++ [1] ++
  leBytes 1 (bit1 s.pitch.isSome + bit1 (mapPending s) * 2 + bit1 (decide (mode = 3)) * 4 + bit1 (decide (mode = 2)) * 8) ++
  leBytes 2 0 ++ leBytes 8 s.identity.serial.toNat ++ leBytes 4 (regView s Reg.HUB_PART).toNat ++
  leBytes 4 (getReg s Reg.SEC_FW_VER).toNat ++ leBytes 8 (if s.compass.valid then s.compass.count.toNat else 0) ++ fcData s 32 ++
  (if mode = 3 then List.replicate 32 0 else regBytes s Reg.SEC_FW_MEAS) ++
  (if s.pitch.isSome then regBytes s Reg.PT_DIGEST else List.replicate 32 0) ++ regBytes s Reg.HUB_MAP_DIGEST ++
  leBytes 2 (leField s.tset 6 2) ++ leBytes 2 (leField s.tset 8 2) ++ List.replicate 28 0

/-- ATTEST. -/
def fcAttest (s : State) : Nat × State :=
  if !keyOk s then (4, s)
  else
    let body := attestBody s
    (0, fcRet (fcPut s (body ++ identitySign s (sha256 body))) 0 256)

/-- CERT. -/
def fcCert (s : State) : Nat × State := (0, fcRet (fcPut s Config.certChain) 0 Config.certChain.length)

/-- MAP. -/
def fcMap (s : State) : Nat × State :=
  (0, fcRet (fcRet (fcPut s (mapBytes s)) 0 (s.startup.mapSeq % 2 ^ 32)) 1 (bit1 (mapPending s)))

/-! ## The network -/

/-- NET_CFG: the addressing of an Ethernet port, as FC_DATA gives it. -/
def fcNetCfg (s : State) : Nat × State :=
  if 1 < fcArg s 0 then (3, s)
  else (0, { s with firmware := { s.firmware with net := listSet s.firmware.net (fcArg s 0) (fcData s 4096) } })

/-- TLM_CFG. -/
def fcTlmCfg (s : State) : Nat × State :=
  let ms := fcArg s 0
  if 10000 < ms then (3, s)
  else (0, { s with firmware := { s.firmware with tlm := if ms = 0 then none else some (ms, fcData s 4096, s.time + msTime ms) } })

/-- A network command starts: BUSY until it completes, its HBM accesses queued on tracks `ts`. -/
def fcLaunch (s : State) (p : Fin 2) (seq op : Nat) (ts : List Nat) : State :=
  let id := s.far.seq
  let run : FcRun := { op := op, id := id, port := p, seq := seq, args := tab 8 (fun i => getReg s (Reg.FC_ARG i)), data := fcData s 4096 }
  let s := queueTracks { s with far := { s.far with seq := id + 1 } } id ts
  setReg { s with firmware := { s.firmware with run := some run } } Reg.FC_STAT
    (BitVec.ofNat 64 (2 ^ 31 + seq % 256 * 2 ^ 8 + p.val))

/-- NET_LOAD: a weight load with SRC 2 opens (R312). -/
def fcNetLoad (p : Fin 2) (seq : Nat) (s : State) : State :=
  if pacing s then fcFinish (openWeights s) p seq 4
  else fcLaunch (setField (openWeights s) Reg.HST_WLOAD 62 2 2) p seq 0x05 []

/-- The range that ARG0 and ARG1 of NET_PUT or NET_GET name: in the Barrel, address, length. -/
def netRange (a0 a1 : Nat) : Bool × Nat × Nat := (decide (2 ^ 63 ≤ a0), a0 % 2 ^ 63, a1)

/-- NET_PUT or NET_GET. -/
def fcTransfer (op : Nat) (p : Fin 2) (seq : Nat) (s : State) : State :=
  let (barrel, a, n) := netRange (fcArg s 0) (fcArg s 1)
  if (if barrel then barrelSize s else 768 * 2 ^ 31) < a + n then fcFinish s p seq 3
  else fcLaunch s p seq op (if barrel then [] else rangeTracks a n)

/-- The running command ends with a result. -/
def fcEnd (s : State) (r : FcRun) (result : Nat) : State :=
  let far := { s.far with waits := s.far.waits.filter (fun w => decide (w.id ≠ r.id)) }
  fcFinish { s with firmware := { s.firmware with run := none }, far := far } r.port r.seq result

/-- A network failure: RESULT 5, event 0x0D02. -/
def fcFail (s : State) (r : FcRun) : State := fcEnd (logEvent s 0x0D02) r 5

/-- A weight load given up: it closes with VALID clear. -/
def abandonLoad (s : State) : State := setField (setField s Reg.CR_WSTAT 30 1 0) Reg.CR_WSTAT 31 1 0

/-- NETWORK_COMMAND_COMPLETE: the running command's transfer ends, with the data that came over the network; `ok` false: it
failed. A transfer with HBM ends only when its tracks have served it (R163 to R165). -/
def networkComplete (s : State) (ok : Bool) (data : List Byte) (e : Fin 2) (frames : BitVec 64) : State :=
  let sent (s : State) : State := countField s (Reg.ETH_TX e.val) 0 64 frames.toNat
  match s.firmware.run with
  | none => s
  | some r =>
    let (barrel, a, n) := netRange ((r.args.getD 0 0).toNat) ((r.args.getD 1 0).toNat)
    if r.op = 0x05 then
      let s := deliverWeights (sent s) 3 0 data
      if ok then fcEnd (fcRet (closeWeights s) 0 data.length) r 0 else fcFail (abandonLoad s) r
    else if !ok then fcFail (sent s) r
    else if !tracksDone s r.id then s
    else if r.op = 0x06 then
      let (bs, good, s) := if barrel then readBarrel (sent s) a n else readHbm (sent s) a n
      if good then fcEnd (emit s (.upload r.data bs)) r 0 else fcFail s r
    else if data.length < n then fcFail (sent s) r
    else
      let bs := data.take n
      let s := sent s
      fcEnd (if barrel then putBarrel s a bs else farPut s a bs) r 0

/-- CANCEL: by the port that issued the running network command; with none running there is nothing to cancel. -/
def fcCancel (s : State) (p : Fin 2) (seq : Nat) : State :=
  if !powered s then s
  else match s.firmware.run with
  | some r =>
    if r.port = p then fcEnd (if r.op = 0x05 then abandonLoad s else s) r 8 else logEvent s 0x0C09
  | none => if fcBusy s then logEvent s 0x0C09 else fcFinish s p seq 4

/-! ## Reset, firmware update and self-test -/

/-- RESET (R351): DONE is reported, then the module resets. -/
def fcReset (p : Fin 2) (seq : Nat) (s : State) : State :=
  if fcArg s 0 = 1 then raiseModule (fcFinish s p seq 0) 0x3007 else fcFinish s p seq 3

/-- Bytes written into a byte string at an offset, which grows with zeros as far as needed. -/
def overwrite (old : List Byte) (off : Nat) (bs : List Byte) : List Byte :=
  old.take off ++ List.replicate (off - old.length) 0 ++ bs ++ old.drop (off + bs.length)

/-- The firmware bank not in use (SEC_STAT.ACTIVE). -/
def otherBank (s : State) : Bool := decide (getField s Reg.SEC_STAT 29 1 = 0)

/-- FW_STAGE: offset 0 starts a new image (log entry 9). -/
def fcStage (s : State) : Nat × State :=
  let off := fcArg s 0
  let n := fcArg s 1
  if 4096 < n then (3, s)
  else
    let b := otherBank s
    let img := overwrite (if off = 0 then [] else bank s b) off (fcData s n)
    let s := { s with flash := if b then { s.flash with bankB := img } else { s.flash with bankA := img } }
    let s := setField (setField s Reg.SEC_STAT 26 1 0) Reg.SEC_STAT 27 1 0
    if fcArg s 2 % 2 = 0 then (0, s)
    else if imageOk s img then (0, setField (setField s Reg.SEC_STAT 26 1 1) Reg.SEC_STAT 27 1 1)
    else (6, logEvent s 0x0E03)

/-- FW_ACTIVATE. -/
def fcActivate (p : Fin 2) (seq : Nat) (s : State) : State :=
  let now := decide (fcArg s 1 % 2 = 1)
  if fcArg s 0 ≠ 1 then fcFinish s p seq 3
  else if getField s Reg.SEC_STAT 26 1 = 0 ∨ (now ∧ pacing s) then fcFinish s p seq 4
  else
    let s := setField (setField s Reg.SEC_STAT 28 1 (bit1 (otherBank s))) Reg.SEC_STAT 26 1 0
    let s := fcFinish s p seq 0
    if now then raiseModule s 0x3007 else s

/-- SELFTEST. -/
def fcSelftest (s : State) : Nat × State :=
  let (r, ticket, s) := requestTest s (fcArg s 0) (decide (fcArg s 1 % 2 = 1)) (fcArg s 2)
  (r, if r = 0 then fcRet s 0 ticket else s)

/-- ST_STATUS: RESULT 3 for a ticket that was never given out. -/
def fcStStatus (s : State) : Nat × State :=
  let k := fcArg s 0
  let live := match s.startup.test with
    | some t => decide (t.ticket = k)
    | none => false
  let past := s.startup.results.find? (fun e => e.1 == k)
  if !live && past.isNone then (3, s)
  else
    let s := fcRet s 0 (if live then (getReg s Reg.HUB_ST_STAT).toNat else k * 2 ^ 16)
    match past with
    | some (_, res, t) => (0, fcRet (fcRet s 1 (k * 2 ^ 24 + res * 2 ^ 16)) 2 t.toNat)
    | none => (0, fcRet (fcRet s 1 0) 2 0)

/-- ST_CANCEL. -/
def fcStCancel (s : State) : Nat × State :=
  match s.startup.test with
  | some t => if t.running then (4, s) else (0, cancelTest s t)
  | none => (4, s)

/-! ## Telemetry (R354) -/

/-- The counters that telemetry carries (R258, Table 9.13): offsets in BAR0, ascending. -/
def telemetryRegs : List Nat :=
  tab 32 Reg.TARP_SLACK ++
  (List.range 10).flatMap (fun p => [Reg.GL_REPLAYS p, Reg.GL_FEC_CORR p, Reg.GL_FEC_UNC p, Reg.GL_RX_DROP p, Reg.GL_HOPB p,
    Reg.GL_LATE p, Reg.GL_INQ_PEAK p, Reg.GL_CSTALL p])

/-- A datagram: header and records. -/
def telemetryBytes (s : State) : List Byte :=
  leBytes 4 0x4E56544D ++ [1, 0, 0, 0] ++ leBytes 8 s.identity.serial.toNat ++ leBytes 8 s.compass.count.toNat ++
  leBytes 4 (s.firmware.tlmSeq % 2 ^ 32) ++ leBytes 4 0 ++
  telemetryRegs.flatMap (fun r => leBytes 4 r ++ leBytes 8 (regView s r).toNat)

/-- TELEMETRY_SEND: a datagram that is due goes out from port 0, or from port 1 while port 0 is down; with both down for a period
it is dropped, counted and logged. -/
def telemetrySend (s : State) : State :=
  match s.firmware.tlm with
  | none => s
  | some (ms, dest, at_) =>
    let next := some (ms, dest, at_ + msTime ms)
    let up (e : Nat) : Bool := decide (getField s (Reg.ETH_LINK e) 28 4 = 1)
    if s.time < at_ then s
    else if up 0 || up 1 then
      let e := if up 0 then 0 else 1
      let s := emit (countField s (Reg.ETH_TX e) 0 64 1) (.datagram e dest (telemetryBytes s))
      { s with firmware := { s.firmware with tlm := next, tlmSeq := s.firmware.tlmSeq + 1 } }
    else if at_ + msTime ms ≤ s.time then
      logEvent { s with firmware := { s.firmware with tlm := next, tlmSeq := s.firmware.tlmSeq + 1, tlmDrop := s.firmware.tlmDrop + 1 } }
        0x0D03
    else s

/-! ## The commands -/

/-- INFO. -/
def execInfo (p : Fin 2) (seq : BitVec 8) (s : State) : Host.Outcome State Fault Refusal := .next (fcAtOnce s p seq 0x01 false fcInfo)

/-- EVENTS. -/
def execEvents (p : Fin 2) (seq : BitVec 8) (s : State) : Host.Outcome State Fault Refusal :=
  .next (fcAtOnce s p seq 0x02 false fcEvents)

/-- COORD. -/
def execCoord (p : Fin 2) (seq : BitVec 8) (s : State) : Host.Outcome State Fault Refusal := .next (fcAtOnce s p seq 0x03 true fcCoord)

/-- NET_CFG. -/
def execNetCfg (p : Fin 2) (seq : BitVec 8) (s : State) : Host.Outcome State Fault Refusal :=
  .next (fcAtOnce s p seq 0x04 true fcNetCfg)

/-- NET_LOAD. -/
def execNetLoad (p : Fin 2) (seq : BitVec 8) (s : State) : Host.Outcome State Fault Refusal :=
  .next (fcStart s p seq.toNat 0x05 true (fcNetLoad p seq.toNat))

/-- NET_PUT. -/
def execNetPut (p : Fin 2) (seq : BitVec 8) (s : State) : Host.Outcome State Fault Refusal :=
  .next (fcStart s p seq.toNat 0x06 true (fcTransfer 0x06 p seq.toNat))

/-- NET_GET. -/
def execNetGet (p : Fin 2) (seq : BitVec 8) (s : State) : Host.Outcome State Fault Refusal :=
  .next (fcStart s p seq.toNat 0x07 true (fcTransfer 0x07 p seq.toNat))

/-- NETWORK_COMMAND_COMPLETE. -/
def execNetworkCommandComplete (ok : Bool) (data : List Byte) (e : Fin 2) (frames : BitVec 64) (s : State) :
    Host.Outcome State Fault Refusal :=
  .next (networkComplete s ok data e frames)

/-- TLM_CFG. -/
def execTlmCfg (p : Fin 2) (seq : BitVec 8) (s : State) : Host.Outcome State Fault Refusal :=
  .next (fcAtOnce s p seq 0x08 true fcTlmCfg)

/-- RESET. -/
def execReset (p : Fin 2) (seq : BitVec 8) (s : State) : Host.Outcome State Fault Refusal :=
  .next (fcStart s p seq.toNat 0x09 true (fcReset p seq.toNat))

/-- CANCEL. -/
def execCancel (p : Fin 2) (seq : BitVec 8) (s : State) : Host.Outcome State Fault Refusal := .next (fcCancel s p seq.toNat)

/-- ATTEST. -/
def execAttest (p : Fin 2) (seq : BitVec 8) (s : State) : Host.Outcome State Fault Refusal :=
  .next (fcAtOnce s p seq 0x10 false fcAttest)

/-- CERT. -/
def execCert (p : Fin 2) (seq : BitVec 8) (s : State) : Host.Outcome State Fault Refusal := .next (fcAtOnce s p seq 0x11 false fcCert)

/-- MAP. -/
def execMap (p : Fin 2) (seq : BitVec 8) (s : State) : Host.Outcome State Fault Refusal := .next (fcAtOnce s p seq 0x12 false fcMap)

/-- FW_STAGE. -/
def execFwStage (p : Fin 2) (seq : BitVec 8) (s : State) : Host.Outcome State Fault Refusal :=
  .next (fcAtOnce s p seq 0x13 true fcStage)

/-- FW_ACTIVATE. -/
def execFwActivate (p : Fin 2) (seq : BitVec 8) (s : State) : Host.Outcome State Fault Refusal :=
  .next (fcStart s p seq.toNat 0x14 true (fcActivate p seq.toNat))

/-- SELFTEST. -/
def execSelftest (p : Fin 2) (seq : BitVec 8) (s : State) : Host.Outcome State Fault Refusal :=
  .next (fcAtOnce s p seq 0x15 true fcSelftest)

/-- ST_STATUS. -/
def execStStatus (p : Fin 2) (seq : BitVec 8) (s : State) : Host.Outcome State Fault Refusal :=
  .next (fcAtOnce s p seq 0x16 false fcStStatus)

/-- ST_CANCEL. -/
def execStCancel (p : Fin 2) (seq : BitVec 8) (s : State) : Host.Outcome State Fault Refusal :=
  .next (fcAtOnce s p seq 0x17 true fcStCancel)

/-- TELEMETRY_SEND. -/
def execTelemetrySend (s : State) : Host.Outcome State Fault Refusal := .next (telemetrySend s)

end Sys2Proof.Machine
end

