-- ==== Sys2Proof/Machine/HostAccess.lean ====
section
/-!
DEFINITION. Machine/HostAccess.lean: the Vestibule, the weight-load path and the Peg window (R140, R143 to R145, R343 to R346).
-/

namespace Sys2Proof.Machine

/-- The bits of LN_PSEL's PRIV and MASTER that a requester's access takes (R370). -/
def privOf (s : State) (q : Requester) : Nat :=
  match q with
  | .ranger => 3
  | .host p => if isSteward s p then 2 else 1
/-- Its MASTER bit: the Vestibule of its port, or the Rangers. -/
def masterOf (q : Requester) : Nat :=
  match q with
  | .ranger => 1
  | .host p => 3 - p.val

/-! ## Landing a write -/

/-- Bunks held in the store that an HBM range touches. -/
def bunksIn (s : State) (a n : Nat) : List Nat :=
  (s.far.bunks.map (·.1)).filter (fun i => decide (bunkAddr s i < a + n) && decide (a < bunkAddr s i + 256))

/-- Cached Topo entries that an HBM range touches are dropped (R188). -/
def dropTopo (s : State) (a n : Nat) : State :=
  match s.pitch with
  | none => s
  | some p => { s with far := { s.far with topo := s.far.topo.filter (fun e =>
      !(decide (p.topoBase + 16 * e.1 < a + n) && decide (a < p.topoBase + 16 * e.1 + 16))) } }

/-- A Vestibule write lands in HBM (R188, R195, R198, R312): dropped with 0x0808 where it touches a listed Bunk or slot; the store
copy of any other Bunk is discarded with 0x0809. -/
def landVestibule (s : State) (p : Fin 2) (priv a : Nat) (bs : List Byte) : State :=
  let hit := bunksIn s a bs.length
  if hit.any (listedSessions s).contains || (slotsIn s a bs.length).any (listedSlots s).contains then logEvent s 0x0808
  else
    let s := hit.foldl (fun s i => logEvent (dropBunk s i) 0x0809) s
    storeHbm (lnHbm (dropTopo s a bs.length) 1 a bs.length priv (3 - p.val)) a bs

/-- A write of the Peg window takes effect (R144): the lower half adds to COUNT, the upper half may set ERR. -/
def landPeg (s : State) (off : BitVec 17) (size : Size) (v : W64) (priv master : Nat) : State :=
  let id := off.toNat / 8
  let r := regionFin (id / 512)
  let upper := decide (off.toNat % 8 = 4)
  let err := if size = .b8 then v.getLsbD 32 else upper && v.getLsbD 0
  let s := if pegHostw s r.val (id % 512) then lnPeg s r.val (id % 512) 5 priv master else s
  let s := if upper && !err && !pegHostw s r.val (id % 512) then logEvent s 0x0602 else s
  let s := if upper then s else hostPeg (if pegHostw s r.val (id % 512) then lnAdd s r.val 40 1 else s) r (id % 512) (v.toNat % 2 ^ 32) false
  if err && (upper || pegHostw s r.val (id % 512)) then hostPeg s r (id % 512) 0 true else s

/-! ## Order (R344, R345) -/

/-- The first write that a port holds takes effect, if its tracks have served it. -/
def drainOne (s : State) (p : Fin 2) : State :=
  match (s.hosts[p]).posted with
  | [] => s
  | .vest id a priv bs :: rest =>
    if tracksDone s id then landVestibule (modHost s p fun h => { h with posted := rest }) p priv a bs else s
  | .barrel a bs :: rest => if awake s then putBarrel (modHost s p fun h => { h with posted := rest }) a bs else s
  | .weight priv w bs :: rest => if awake s then deliverWeights (modHost s p fun h => { h with posted := rest }) priv w bs else s
  | .peg off size v priv :: rest => landPeg (modHost s p fun h => { h with posted := rest }) off size v priv (3 - p.val)

/-- A Vestibule read is answered: with data, or poisoned by an uncorrectable error. -/
def answerRead (s : State) (p : Fin 2) (bs : List Byte) (ok : Bool) : State :=
  let s := lnMoved s (54 + p.val) bs.length 0
  if ok then emit s (.read bs) else emit s (.poisoned p.val)

/-- Whether an outstanding read may be answered: its tracks have served it, and no earlier write of the port is still held. -/
def readReady (s : State) (p : Fin 2) (r : VestRead) : Bool :=
  tracksDone s r.id && (!r.barrel || awake s) && (s.hosts[p]).posted.all (fun e => match e with
    | .vest id _ _ _ => decide (r.id < id)
    | _ => true)

/-- Reads that may be answered are, oldest first. -/
def drainReads (s : State) (p : Fin 2) : State :=
  (s.hosts[p]).reads.foldl (fun s r =>
    if readReady s p r then
      let s := modHost s p fun h => { h with reads := h.reads.erase r }
      if r.barrel then
        let (bs, ok, s) := readBarrel s r.addr r.len
        answerRead s p bs ok
      else
        let s := noteHbmEcc (lnHbm s 0 r.addr r.len r.priv (3 - p.val)) r.addr r.len
        answerRead s p (s.hbm.readBytes r.addr r.len) (!hbmUe s r.addr r.len)
    else s) s

/-- What a port holds takes effect as far as it can. -/
def drainPort (s : State) (p : Fin 2) : State :=
  drainReads ((List.range (s.hosts[p]).posted.length).foldl (fun s _ => drainOne s p) s) p

/-- Both ports. -/
def drainPorts (s : State) : State := drainPort (drainPort s 0) 1

/-! ## BAR2 (R338, R343, R344, R346) -/

/-- Unsupported Request, an AER error of the port; event 0x0C06 where the access is beyond fitted memory. -/
def unsupported (s : State) (p : Fin 2) (event : Bool) : State :=
  let s := pulse (setBits s (Reg.HST_ERR p.val) 0x20) (195 + 16 * p.val)
  if event then logLimited s 0x0C06 p.val else s

/-- HST_VEST(p).KIND: the Barrel. -/
def vestBarrel (s : State) (p : Fin 2) : Bool := decide (getField s (Reg.HST_VEST p.val) 63 1 = 1)

/-- The address of a BAR2 offset. -/
def vestAddr (s : State) (p : Fin 2) (off : Nat) : Nat := getField s (Reg.HST_VEST p.val) 30 12 * 2 ^ 30 + off

/-- An access lies in fitted memory. -/
def vestFits (s : State) (p : Fin 2) (a n : Nat) : Bool :=
  decide (a + n ≤ (if vestBarrel s p then barrelSize s else 768 * 2 ^ 31))

/-- The weight-load source is this port's BAR2 (R346). -/
def weightSource (s : State) (p : Fin 2) : Bool := weightOpen s && decide (getField s Reg.HST_WLOAD 62 2 = p.val)

/-- One more write waits in a port's order. -/
def postWrite (s : State) (p : Fin 2) (w : Posted) : State := modHost s p fun h => { h with posted := h.posted ++ [w] }

/-- A write of the weight-load path, once the module is awake for it (R332). -/
def weightWrite (s : State) (p : Fin 2) (off : Nat) (bs : List Byte) : State :=
  let w := getField s Reg.HST_WPAGE 0 5 * 2 ^ 36 + off
  if (weightAddr s (presentTracks s) (w + bs.length - 1)).isNone then unsupported s p true
  else drainPort (postWrite (wakeTo s 2) p (.weight (privOf s (.host p)) w bs)) p

/-- One mapped part of a Vestibule write. The Barrel takes it at once, if the module is awake for it (R332, R344). -/
def vestPart (s : State) (p : Fin 2) (off : Nat) (bs : List Byte) : State :=
  let a := vestAddr s p off
  if bs = [] then s
  else if !vestFits s p a bs.length then unsupported s p true
  else if vestBarrel s p then
    let s := wakeTo s 1
    if awake s then putBarrel s a bs else postWrite s p (.barrel a bs)
  else
    let id := s.far.seq
    let s := queueTracks (wakeTo { s with far := { s.far with seq := id + 1 } } 2) id (rangeTracks a bs.length)
    postWrite s p (.vest id a (privOf s (.host p)) bs)

/-- Bytes up to the next multiple of 1 GiB. -/
def toGib (a : Nat) : Nat := 2 ^ 30 - a % 2 ^ 30

/-- A BAR2 write. With 256 writes held the port takes no more: the write stays in the host's root port. -/
def bar2Write (s : State) (p : Fin 2) (off : Nat) (bs : List Byte) (poisoned : Bool) : State :=
  if !ready s then s
  else if bs = [] ∨ 256 ≤ postedWrites s.hosts[p] then s
  else
    let s := lnMoved s (54 + p.val) 0 bs.length
    if poisoned then
      logEvent (pulse (setBits s (Reg.HST_ERR p.val) 0x80) (195 + 16 * p.val)) 0x0C07
    else if weightSource s p then weightWrite s p off bs
    else
      let k := toGib off
      vestPart (vestPart s p off (bs.take k)) p (off + k) (bs.drop k)

/-- One mapped part of a Vestibule read, of the read numbered `req`. -/
def readPart (s : State) (p : Fin 2) (req off n : Nat) : State :=
  let a := vestAddr s p off
  let barrel := vestBarrel s p
  if n = 0 then s
  else if !vestFits s p a n then emit (unsupported s p true) (.refuse p.val)
  else
    let id := s.far.seq
    let s := wakeTo { s with far := { s.far with seq := id + 1 } } (if barrel then 1 else 2)
    let s := queueTracks s id (if barrel then [] else rangeTracks a n)
    let r : VestRead := { id := id, req := req, barrel := barrel, priv := privOf s (.host p), addr := a, len := n, since := s.time }
    modHost s p fun h => { h with reads := h.reads ++ [r] }

/-- A BAR2 read. One that crosses a 1 GiB boundary is split (R343). With 768 reads outstanding the host has no tag for another
(R335). -/
def bar2Read (s : State) (p : Fin 2) (off n : Nat) : State :=
  if 768 ≤ readsOut s.hosts[p] then s
  else if !ready s then emit s (.refuse p.val)
  else if weightSource s p then emit (unsupported s p false) (.refuse p.val)
  else
    let k := min n (toGib off)
    let req := s.far.seq
    drainPort (readPart (readPart s p req off k) p req (off + k) (n - k)) p

/-- VESTIBULE_READ_TIMEOUT (R344): the oldest read of the port, once HST_VEST_TMO has passed. -/
def vestTimeout (s : State) (p : Fin 2) : State :=
  match (s.hosts[p]).reads with
  | [] => s
  | r :: rest =>
    if s.time < r.since + getField s (Reg.HST_VEST_TMO p.val) 0 32 * 40000 then s
    else
      let s := modHost s p fun h => { h with reads := rest }
      let s := { s with far := { s.far with waits := s.far.waits.filter (fun w => decide (w.id ≠ r.id)) } }
      let s := pulse (setBits s (Reg.HST_ERR p.val) 0x40) (195 + 16 * p.val)
      emit (pulse (logEvent s 0x0C05) (196 + 16 * p.val)) (.refuse p.val)

/-! ## The Peg window and the wait limit -/

/-- Whether an access of the Peg window is an aligned one of 4 or 8 bytes (R144). -/
def pegAligned (off : BitVec 17) (size : Size) : Bool :=
  match size with
  | .b4 => decide (off.toNat % 4 = 0)
  | .b8 => decide (off.toNat % 8 = 0)
  | _ => false

/-- PEG_WINDOW_WRITE (R144, R345): it takes effect behind the port's earlier BAR2 writes. -/
def pegWrite (s : State) (p : Fin 2) (off : BitVec 17) (size : Size) (v : W64) : State :=
  if !ready s then s
  else
    let s := lnMoved s (54 + p.val) 0 (if size = .b8 then 8 else 4)
    if !pegAligned off size then logEvent s 0x0604
    else
      let id := off.toNat / 8
      let err := if size = .b8 then v.getLsbD 32 else decide (off.toNat % 8 = 4) && v.getLsbD 0
      let s := if pegHostw s (id / 512) (id % 512) then capture s 6 (p.val * 2 ^ 47 + bit1 err * 2 ^ 46 + id) else s
      drainPort (modHost s p fun h => { h with posted := h.posted ++ [.peg off size v (privOf s (.host p))] }) p

/-! ## The commands -/

/-- FAR_ACCESS_SERVE. -/
def execFarAccessServe (r : Fin 32) (t : Fin 24) (s : State) : Host.Outcome State Fault Refusal :=
  .next (drainPorts (serveTrack s r t.val))

/-- PEG_WLIM_WRITE (R140): the limit in force is the register's value. -/
def execPegWlimWrite (q : Requester) (r : Fin 32) (v : BitVec 32) (s : State) : Host.Outcome State Fault Refusal :=
  .next (byWriter s q fun s => lnAccess (setReg s (Reg.RG_PEG_WLIM r.val) (v.setWidth 64)) r.val 3 (Reg.RG_PEG_WLIM r.val) 4
    (privOf s q) (masterOf q))

/-- PEG_WINDOW_WRITE. -/
def execPegWindowWrite (p : Fin 2) (off : BitVec 17) (size : Size) (v : BitVec 64) (s : State) : Host.Outcome State Fault Refusal :=
  .next (pegWrite s p off size v)

/-- VESTIBULE_WRITE. -/
def execVestibuleWrite (p : Fin 2) (off : BitVec 36) (data : List Byte) (poisoned : Bool) (s : State) :
    Host.Outcome State Fault Refusal := .next (bar2Write s p off.toNat data poisoned)

/-- VESTIBULE_READ. -/
def execVestibuleRead (p : Fin 2) (off : BitVec 36) (len : BitVec 13) (s : State) : Host.Outcome State Fault Refusal :=
  .next (bar2Read s p off.toNat len.toNat)

/-- VESTIBULE_READ_TIMEOUT. -/
def execVestibuleReadTimeout (p : Fin 2) (s : State) : Host.Outcome State Fault Refusal := .next (vestTimeout s p)

/-- WEIGHT_LOAD_WRITE. -/
def execWeightLoadWrite (p : Fin 2) (off : BitVec 36) (data : List Byte) (s : State) : Host.Outcome State Fault Refusal :=
  .next (bar2Write s p off.toNat data false)

end Sys2Proof.Machine
end

