-- ==== Sys2Proof/Machine/RegisterAccess.lean ====
section
/-!
DEFINITION. Machine/RegisterAccess.lean: reads and writes of BAR0 by offset: access codes, halves, latches, ranges, observer
filtering (R7 to R10, R340, R381), and the action of every register that has one.
-/

namespace Sys2Proof.Machine

/-! ## Where an access lands -/

/-- The Peg window of BAR0 (Table 15.2). -/
def inPegWindow (off : Nat) : Bool := decide (0x2000000 ≤ off) && decide (off < 0x2020000)

/-- A requester whose accesses of this block are not served: before power-on any; before step 10 a host's, outside the Hub,
Security and firmware command blocks (R381). -/
def notServed (s : State) (q : Requester) (off : Nat) : Bool :=
  !powered s || (match q with
    | .ranger => false
    | .host _ => !ready s && !(decide (off < 0x100000) || (decide (0xC00000 ≤ off) && decide (off < 0x1000000))))

/-- Where an observer may write (R340). -/
def observerMay (p : Fin 2) (off : Nat) : Bool :=
  inPegWindow off || (decide (0x800000 + 0x1000 * p.val ≤ off) && decide (off < 0x801000 + 0x1000 * p.val)) ||
  decide (off = Reg.HST_LEASE_CMD) || (decide (0x808000 ≤ off) && decide (off < 0x810000)) ||
  (decide (0xC08000 ≤ off) && decide (off < 0xC0A000))

/-- A naturally aligned access of 4 or 8 bytes. -/
def accessAligned (off : Nat) (size8 : Bool) : Bool := decide (off % (if size8 then 8 else 4) = 0)

/-- The host port of a requester. -/
def portOf? (q : Requester) : Option (Fin 2) :=
  match q with
  | .host p => some p
  | .ranger => none

/-! ## Reads -/

/-- A latch replaced, or with none ended, for a requester and a register. -/
def setLatch (s : State) (q : Requester) (off : Nat) (v : Option W32) : State :=
  let rest := s.latches.filter (fun h => !(decide (h.1 = q) && decide (h.2.1 = off)))
  { s with latches := rest ++ (match v with
    | some x => [(q, off, x)]
    | none => []) }

/-- The upper half that a requester holds latched. -/
def latched (s : State) (q : Requester) (off : Nat) : Option W32 :=
  (s.latches.find? (fun h => decide (h.1 = q) && decide (h.2.1 = off))).map (·.2.2)

/-- A read of a region's RC register of offset `o` clears what it counts in the region; `hw` is set in the same moment. A peak
since the last read starts again from what is there now (R50). -/
def clearRegion (s : State) (r : Fin 32) (o : Nat) (hw : W64) : State :=
  if 0x200 ≤ o ∧ o < 0x218 then
    let i := (o - 0x200) / 4
    modRegion s r fun g =>
      { g with occPeak := g.occPeak.set (Fin.ofNat 6 i) (max (fieldN hw.toNat 8 4) (min 15 (occupancy s r.val i))) }
  else if 0x2060 ≤ o ∧ o < 0x20C0 then
    setTrack s r ((o - 0x2060) / 4) fun k => { k with refAge := fieldN hw.toNat 0 16 }
  else s

/-- What the messages waiting for credits of port q have waited so far is counted (R263). -/
def countStalls (s : State) (q : Nat) : State :=
  let count (m : Message) : Message := if m.next s = some q then { m with counted := m.counted + 40 * m.waited s } else m
  forPorts s fun p s => modPort s p fun g => { g with channels := g.channels.map fun c => { c with rx := c.rx.map count } }

/-- What a read of the register at `off` clears or takes (R7, R8): RC bits, but for those that the hardware sets in the same
moment. -/
def clearRead (s : State) (sp : RegSpec) (off : Nat) (hw : W64) : State :=
  let rc := BitVec.ofNat 64 sp.rc
  let s := if sp.rc = 0 then s else setReg s off ((getReg s off &&& ~~~rc) ||| (hw &&& rc))
  if off = Reg.CMP_COUNT then setReg s Reg.CMP_FRAC (BitVec.ofNat 64 s.compass.frac)
  else if off = Reg.CMP_CAP_INFO then { s with compass := { s.compass with capture := s.compass.capture.drop 1 } }
  else if off = Reg.CR_GLOG_INFO then { s with gearLog := s.gearLog.drop 1 }
  else if off = Reg.PACE_LAG_PEAK then
    noteLag { s with pacer := { s.pacer with lagPeak := (fieldN hw.toNat 16 11, fieldN hw.toNat 0 5) } }
  else if 0x1000000 ≤ off ∧ off < 0x1200000 then clearRegion s (Fin.ofNat 32 (off % 0x200000 / 0x10000)) (off % 0x10000) hw
  else if 0x600000 ≤ off ∧ off < 0x6A0000 ∧ off % 0x10000 = 0x60 then
    modPort s (Fin.ofNat 10 (off % 0x100000 / 0x10000)) fun g =>
      { g with hop := if hw = 0 then none else some (fieldN hw.toNat 16 16, fieldN hw.toNat 0 16) }
  else if 0x600000 ≤ off ∧ off < 0x6A0000 ∧ off % 0x10000 = 0x414 then countStalls s (off % 0x100000 / 0x10000)
  else s

/-- What a read of the upper half alone clears (R7, R10): the RC fields it reads a part of. FW_ACTS and LN_BW_PEAK hold fields of
their lower half besides; every other 64-bit RC register is one field. CMP_FRAC latches with a lower half only. -/
def clearUpper (s : State) (sp : RegSpec) (off : Nat) (hw : W64) : State :=
  let split := decide (off = Reg.FW_ACTS) || (decide (Reg.LN_BW_PEAK 0 ≤ off) && decide (off < Reg.LN_BW_PEAK 56))
  if sp.rc = 0 then s
  else clearRead s { sp with rc := if split then sp.rc / 2 ^ 32 * 2 ^ 32 else sp.rc } off hw

/-- The value of a whole register as it is read (R7: WO fields read as 0). -/
def readable (s : State) (sp : RegSpec) (off : Nat) : W64 := regView s off &&& ~~~(BitVec.ofNat 64 sp.wo)

/-- Four bytes of what is no register: MSI-X table and pending bits of the reader's own port, the trace buffer (R352, R377). -/
def readTable (s : State) (q : Requester) (off : Nat) : Nat :=
  let own (f : HostPort → Nat) : Nat := match q with
    | .host p => f s.hosts[p]
    | .ranger => 0
  if 0x808000 ≤ off ∧ off < 0x810000 then
    let i := (off - 0x808000) / 4
    own fun h => (storeGet (if i % 4 = 3 then 1 else 0) h.table i).toNat
  else if 0x810000 ≤ off ∧ off < 0x810100 then own fun h => fieldN h.pba.toNat (8 * (off - 0x810000)) 32
  else if 0x510000 ≤ off ∧ off < 0x520000 then fieldN (regView s (off / 8 * 8)).toNat (8 * (off % 8)) 32
  else 0

/-- A 4-byte read (R10). -/
def read4 (s : State) (q : Requester) (off : Nat) (hw : W64) : Nat × State :=
  match regSpec? off with
  | some sp =>
    let v := (readable s sp off).toNat
    if sp.width = 32 then (v % 2 ^ 32, clearRead s sp off hw)
    else
      let s := clearRead s sp off hw
      (v % 2 ^ 32, if off / 0x1000 = 0xC09 then s else setLatch s q off (some (BitVec.ofNat 32 (v / 2 ^ 32))))
  | none =>
    match (if off % 8 = 4 then regSpec? (off - 4) else none) with
    | some sp =>
      if sp.width = 32 then (readTable s q off, s)
      else match latched s q (off - 4) with
      | some v => (v.toNat, setLatch s q (off - 4) none)
      | none => ((readable s sp (off - 4)).toNat / 2 ^ 32, clearUpper s sp (off - 4) hw)
    | none => (readTable s q off, s)

/-- An 8-byte read of two 32-bit words. R10 gives it no meaning: two 4-byte reads, the lower first (DESIGN CHOICE, log entry 78). -/
def readBoth (s : State) (q : Requester) (off : Nat) (hw : W64) : Nat × State :=
  let a := read4 s q off (hw &&& 0xFFFFFFFF)
  let b := read4 a.2 q (off + 4) (hw >>> 32)
  (a.1 + b.1 * 2 ^ 32, b.2)

/-- An 8-byte read: of a 64-bit register, or of two 32-bit ones. -/
def read8 (s : State) (q : Requester) (off : Nat) (hw : W64) : Nat × State :=
  match regSpec? off with
  | some sp => if sp.width = 64 then ((readable s sp off).toNat, clearRead s sp off hw) else readBoth s q off hw
  | none => readBoth s q off hw

/-- What Lantern's programmable counters see of an access to a region's registers (R370): class 2 for a read, 3 for a write. -/
def lnRegister (s : State) (q : Requester) (cls off n : Nat) : State :=
  if 0x1000000 ≤ off ∧ off < 0x1200000 then lnAccess s ((off - 0x1000000) / 0x10000) cls off n (privOf s q) (masterOf q) else s

/-- An aligned read of the Peg window: each half of an entry alone (R144). -/
def readPeg (s : State) (q : Requester) (off : Nat) (size8 : Bool) : Nat × State :=
  let id := (off - 0x2000000) / 8
  let v := (pegEntry s id).toNat
  (if size8 then v else fieldN v (8 * (off % 8)) 32, lnPeg s (id / 512) (id % 512) 4 (privOf s q) (masterOf q))

/-- A read of BAR0 of 4 or 8 bytes, answered. A misaligned one reads as 0, in the Peg window with event 0x0604. -/
def readAccess (s : State) (q : Requester) (off : Nat) (size8 : Bool) (hw : W64) : State :=
  let n := if size8 then 8 else 4
  let s := hostBytes s q n 0
  if notServed s q off then answer s n 0
  else if !accessAligned off size8 then answer (if inPegWindow off then logEvent s 0x0604 else s) n 0
  else
    let (v, s) := if inPegWindow off then readPeg s q off size8
      else if size8 then read8 (lnRegister s q 2 off n) q off hw
      else read4 (lnRegister s q 2 off n) q off hw
    answer s n v

/-! ## Ranges -/

/-- A range that a table states for a field of a register. -/
structure RegRange where
  base : Nat
  n : Nat := 1
  stride : Nat := 1
  lo : Nat := 0
  len : Nat := 32
  least : Nat
  most : Nat

/-- Every stated range (R47, R231, R263, R316, Tables 9.12, 10.5, 12.7, 14.8, 15.4, 16.8, 17.6). -/
def regRanges : List RegRange :=
  [{ base := Reg.PACE_LAG_MAX, least := 16, most := 1024 },
   { base := Reg.PACE_VMARGIN, least := 4, most := 20 },
   { base := Reg.PACE_HANG, least := 156, most := 0xFFFFFF },
   { base := Reg.TARP_REPEAT, least := 16, most := 65535 },
   { base := Reg.GL_RTO 0, n := 10, stride := 0x10000, least := 100, most := 1000000 },
   { base := Reg.GL_ACK_CFG 0, n := 10, stride := 0x10000, lo := 16, len := 8, least := 1, most := 64 },
   { base := Reg.GL_ACK_CFG 0, n := 10, stride := 0x10000, lo := 0, len := 16, least := 16, most := 1024 },
   { base := Reg.GL_LANE_TMO 0, n := 10, stride := 0x10000, least := 100, most := 100000 },
   { base := Reg.GL_LOCK_TMO 0, n := 10, stride := 0x10000, least := 1000, most := 1000000000 },
   { base := Reg.GL_CRED_TMO 0, n := 10, stride := 0x10000, least := 1000, most := 1000000000 },
   { base := Reg.GL_RETRAIN_TMO 0, n := 10, stride := 0x10000, least := 10000, most := 1000000 },
   { base := Reg.GL_DOWN_RETRY 0, n := 10, stride := 0x10000, least := 100000, most := 1000000000 },
   { base := Reg.GL_ESC_TMO, least := 1000, most := 1000000 },
   { base := Reg.CMP_HOLD_PPB, least := 1, most := 1000 },
   { base := Reg.CMP_SKEW_LIM, least := 1, most := 1000 },
   { base := Reg.CMP_CYC_PER 0, n := 4, stride := 0x20, least := 15625, most := 0xFFFFFFFF },
   { base := Reg.FW_PCAP, least := 1500, most := 3500 },
   { base := Reg.FW_TLIM, lo := 8, len := 8, least := 70, most := 105 },
   { base := Reg.FW_TLIM, lo := 0, len := 8, least := 60, most := 95 },
   { base := Reg.FW_PACE_LEAD, least := 4, most := 255 },
   { base := Reg.FW_GEAR_WAIT, least := 16, most := 65535 },
   { base := Reg.FW_EHOLD, least := 4, most := 65535 },
   { base := Reg.FW_VOTE_TMO, least := 15625, most := 0xFFFFFFFF },
   { base := Reg.HST_VEST_TMO 0, n := 2, stride := 0x1000, least := 100, most := 1000000 },
   { base := Reg.HST_LEASE_TERM, least := 10, most := 10000 },
   { base := Reg.HST_LMARGIN, least := 64, most := 65535 },
   { base := Reg.LN_BW_WIN, least := 156, most := 0xFFFFFF }]

/-- Whether a range names the register at `off`. -/
def RegRange.has (g : RegRange) (off : Nat) : Bool :=
  decide (g.base ≤ off) && decide ((off - g.base) % g.stride = 0) && decide ((off - g.base) / g.stride < g.n)

/-- A value that a write would leave is within every range of its register; GL_ESC_TMO also below every port's GL_CRED_TMO
(R257). -/
def rangeOk (s : State) (off : Nat) (v : W64) : Bool :=
  regRanges.all (fun g => !g.has off || (decide (g.least ≤ fieldN v.toNat g.lo g.len) && decide (fieldN v.toNat g.lo g.len ≤ g.most))) &&
  (decide (off ≠ Reg.GL_ESC_TMO) || (List.range 10).all (fun p => decide (v.toNat < getField s (Reg.GL_CRED_TMO p) 0 32))) &&
  (decide (off ≠ Reg.HUB_CAL_PERIOD) || v == 0 || (decide (60 ≤ v.toNat) && decide (v.toNat ≤ 86400)))

/-- What a write outside a range does besides leaving the register: PACE_ERR.RANGE, GL_LINK_ERR.RANGE, event 0x0A09 or 0x0043;
elsewhere nothing. -/
def rangeRefused (s : State) (off : Nat) : State :=
  if off / 0x1000 = 0x200 then setBits s Reg.PACE_ERR 1
  else if 0x600000 ≤ off ∧ off < 0x6A0000 then setBits s (Reg.GL_LINK_ERR (off % 0x100000 / 0x10000)) 0x200
  else if off / 0x100000 = 1 then logEvent s 0x0A09
  else if off / 0x100000 = 5 then logEvent s 0x0043
  else s

/-! ## Writes -/

/-- A write by access codes alone (R7 to R9): what a register's value becomes. `hw`: bits that the hardware sets in the same
moment. -/
def codedValue (s : State) (sp : RegSpec) (old v hw : W64) : W64 :=
  let wr := BitVec.ofNat 64 (sp.rw ||| (if s.pitch.isSome then 0 else sp.rwl))
  let w1c := BitVec.ofNat 64 sp.w1c
  let w1s := BitVec.ofNat 64 sp.w1s
  ((((old &&& ~~~wr) ||| (v &&& wr)) &&& ~~~(v &&& w1c)) ||| (v &&& w1s)) ||| (hw &&& (w1c ||| w1s))

/-- The write itself, if it is within range. -/
def codedWrite (s : State) (sp : RegSpec) (off : Nat) (v hw : W64) : State :=
  let new := codedValue s sp (getReg s off) v hw
  if rangeOk s off new then setReg s off new else rangeRefused s off

/-- W1C fields that a region keeps outside its registers: Kettle flags, DROP bits, OOR bits. -/
def writeRegion (s : State) (r : Fin 32) (o : Nat) (v hw : W64) : State :=
  let set (i : Nat) (old : Bool) : Bool := (old && !v.getLsbD i) || hw.getLsbD i
  if o < 0x440 then
    let u : Fin 16 := Fin.ofNat 16 ((o - 0x400) / 4)
    modRegion s r fun g =>
      let k := g.kettles[u]
      { g with kettles := g.kettles.set u { k with flags := { nv := set 2 k.flags.nv, dz := set 1 k.flags.dz, of := set 0 k.flags.of } } }
  else if o < 0x700 then
    let f := (o - 0x600) / 4
    (List.range 8).foldl (fun s w => modRegion s r fun g =>
      let x := windowOf g f w
      { g with windows := storeSet Window.closed g.windows (8 * f + w) { x with drop := set (8 + w) x.drop } }) s
  else
    let k : Fin 8 := Fin.ofNat 8 ((o - 0x2020) / 4)
    modRegion s r fun g => { g with xregs := g.xregs.set k ((g.xregs[k]).1, set 31 (g.xregs[k]).2) }

/-- Whether a region offset is one that `writeRegion` knows. -/
def regionW1c (o : Nat) : Bool :=
  (decide (0x400 ≤ o) && decide (o < 0x440)) || (decide (0x600 ≤ o) && decide (o < 0x61C)) ||
  (decide (0x2020 ≤ o) && decide (o < 0x2040))

/-- BK_CMD (Table 8.8); an operation that the table does not give is refused. -/
def bunkCommand (s : State) (v : W32) : State :=
  let i := fieldN v.toNat 0 16
  match fieldN v.toNat 28 4 with
  | 1 => stageList s
  | 2 => bunkLoadCmd s i
  | 3 => evictCmd s i
  | 4 => invalCmd s i
  | 5 => flushCmd s
  | _ => refuseBunk s

/-- FC_CMD (R350, Table 15.5). -/
def firmwareCommand (s : State) (p : Fin 2) (seq : BitVec 8) (op : Nat) : State :=
  match op with
  | 0x01 => fcAtOnce s p seq 0x01 false fcInfo
  | 0x02 => fcAtOnce s p seq 0x02 false fcEvents
  | 0x03 => fcAtOnce s p seq 0x03 true fcCoord
  | 0x04 => fcAtOnce s p seq 0x04 true fcNetCfg
  | 0x05 => fcStart s p seq.toNat 0x05 true (fcNetLoad p seq.toNat)
  | 0x06 => fcStart s p seq.toNat 0x06 true (fcTransfer 0x06 p seq.toNat)
  | 0x07 => fcStart s p seq.toNat 0x07 true (fcTransfer 0x07 p seq.toNat)
  | 0x08 => fcAtOnce s p seq 0x08 true fcTlmCfg
  | 0x09 => fcStart s p seq.toNat 0x09 true (fcReset p seq.toNat)
  | 0x10 => fcAtOnce s p seq 0x10 false fcAttest
  | 0x11 => fcAtOnce s p seq 0x11 false fcCert
  | 0x12 => fcAtOnce s p seq 0x12 false fcMap
  | 0x13 => fcAtOnce s p seq 0x13 true fcStage
  | 0x14 => fcStart s p seq.toNat 0x14 true (fcActivate p seq.toNat)
  | 0x15 => fcAtOnce s p seq 0x15 true fcSelftest
  | 0x16 => fcAtOnce s p seq 0x16 false fcStStatus
  | 0x17 => fcAtOnce s p seq 0x17 true fcStCancel
  | 0xFF => fcCancel s p seq.toNat
  | _ => fcUnknown s p seq op

/-- HST_LEASE_CMD by a host (R341). -/
def leaseCommand (s : State) (p : Fin 2) (op : Nat) : State :=
  match op with
  | 1 => acquireLease s p
  | 2 => renewLease s p
  | 3 => releaseLease s p
  | _ => s

/-- A write of a Pitch, Trail or pacer command register, PT_CMD, TR_CMD or PACE_NEXT. -/
def pitchCommand (s : State) (v : W32) : State :=
  if v.getLsbD 0 then pitchApply s
  else if v.getLsbD 1 then (if v.getLsbD 2 then pitchForcedWithdraw s else pitchWithdraw s)
  else s

/-- TR_CMD. -/
def trailCommand (s : State) (v : W32) : State :=
  let s := if v.getLsbD 1 then trailUnload s else s
  if v.getLsbD 0 then trailLoad s else s

/-- PACE_NEXT (R44): N, and CANCEL. -/
def paceNext (s : State) (q : Requester) (v : W32) : State :=
  if paceLocked s q then s
  else
    let s := setReg s Reg.PACE_NEXT ((v &&& 0x3FFF).setWidth 64)
    if v.getLsbD 30 then cancelPace s q else s

/-- FQ_CTL(q) (R181). -/
def queueCommand (s : State) (q : Nat) (v : W32) : State :=
  if v.getLsbD 1 then (if v.getLsbD 2 then forceDisable s q else disableQueue s q)
  else if v.getLsbD 0 then enableQueue s q
  else s

/-- GL_CTL(p) (Table 9.13). -/
def portCommand (s : State) (p : Fin 10) (v : W32) : State :=
  let s := glEnable (glSpeed s p (v.getLsbD 3)) p (v.getLsbD 0)
  if v.getLsbD 2 then glRestore s p
  else if v.getLsbD 1 then startRetrain s p
  else s

/-- Zipper's settings take writes only while no job runs (R294). -/
def zipperLocked (s : State) (off : Nat) : Bool :=
  s.trail.mode == .running &&
  (decide (off = Reg.ZP_CTL) || decide (off = Reg.ZP_TARGET) || decide (off = Reg.ZP_GEAR) ||
   (decide (Reg.ZP_WATCH 0 0 ≤ off) && decide (off < Reg.ZP_WATCH 32 0)))

/-- CMP_CTL, ZP_CTL, CR_WCTL, CR_GSCRIPT_STAT and the Lantern commands, whose bits act besides being stored. -/
def actAfter (s : State) (off : Nat) (v : W32) : State :=
  if off = Reg.CMP_CTL then
    -- a speaker whose Compass is not LOCKED holds OFS_VALID clear (R285)
    let s := if v.getLsbD 2 ∧ compassState s ≠ 2 then { s with compass := { s.compass with ofsValid := false } } else s
    if v.getLsbD 0 then s else unlockCompass s
  else if off = Reg.ZP_CTL then setReg s Reg.ZP_STAT (if v.getLsbD 31 then 0x40000000 else 0)
  else if off = Reg.CR_WCTL then
    let s := if v.getLsbD 1 then closeWeights s else s
    if v.getLsbD 0 then openWeights s else s
  else if off = Reg.CR_GSCRIPT_STAT then gearEnable s (v.getLsbD 31)
  else if off = Reg.LN_CTL then
    let s := if v.getLsbD 0 then lanternClear s else s
    if v.getLsbD 1 then lanternThaw s else s
  else if off = Reg.LN_TRACE_CFG then (if v.getLsbD 1 then traceReset s else s)
  else s

/-- A write of a 32-bit register of the Whistle block at offset `o`, if it has an action. `hw`: R8. -/
def whistleWrite (s : State) (o : Nat) (v hw : W32) : Option State :=
  if 0x200 ≤ o ∧ o < 0x280 then some (pendClear s (Fin.ofNat 32 ((o - 0x200) / 4)) v hw)
  else if 0x300 ≤ o ∧ o < 0x380 then some (pendSet s (Fin.ofNat 32 ((o - 0x300) / 4)) v)
  else if 0x400 ≤ o ∧ o < 0x480 then some (serviceEnd s (Fin.ofNat 32 ((o - 0x400) / 4)) v hw)
  else if 0x1000 ≤ o ∧ o < 0x3000 then some (sourceConfig s (Fin.ofNat 1024 ((o - 0x1000) / 8)) (decide (o % 8 = 4)) v)
  else none

/-- A write of the 32-bit register at `off`. -/
def write32 (s : State) (q : Requester) (sp : RegSpec) (off : Nat) (v : W32) (hw : W64) : State :=
  let generic (s : State) : State := codedWrite s sp off (v.setWidth 64) hw
  match off / 0x100000 with
  | 0x2 => if off = Reg.PACE_NEXT then paceNext s q v else generic s
  | 0x4 => (whistleWrite s (off % 0x100000) v (hw.setWidth 32)).getD (generic s)
  | 0x6 =>
    if off % 0x10000 = 0 then portCommand s (Fin.ofNat 10 (off % 0x100000 / 0x10000)) v
    else if off = Reg.GL_SELF_COORD then selfCoordWrite s v
    else generic s
  | 0x8 =>
    if off = Reg.HST_LEASE_CMD then (match q with
      | .host p => leaseCommand s p (fieldN v.toNat 0 2)
      | .ranger => s)
    else generic s
  | 0x9 => if 0x900100 ≤ off ∧ off < 0x900200 then queueCommand s ((off - 0x900100) / 4) v else generic s
  | 0xA =>
    if off = Reg.BK_CMD then bunkCommand s v
    else if off ≤ Reg.BK_COUNT then writeList s ((off - 0xA00000) / 4) v
    else actAfter (generic s) off v
  | 0xB => if off = Reg.PT_CMD then pitchCommand s v else if off = Reg.TR_CMD then trailCommand s v else generic s
  | 0xC =>
    if off = Reg.FC_CMD then (match q with
      | .host p => firmwareCommand s p (BitVec.ofNat 8 (fieldN v.toNat 8 8)) (fieldN v.toNat 0 8)
      | .ranger => s)
    else generic s
  | 0x1 =>
    if zipperLocked s off then s
    else if 0x100100 ≤ off ∧ off < 0x100180 ∧ off % 0x20 = 0xC then writeCycle s ((off - 0x100100) / 0x20) v
    else actAfter (generic s) off v
  | 0x5 => actAfter (generic s) off v
  | b =>
    if (b = 0x10 ∨ b = 0x11) ∧ regionW1c (off % 0x10000) then
      writeRegion s (Fin.ofNat 32 (off % 0x200000 / 0x10000)) (off % 0x10000) (v.setWidth 64) hw
    else generic s

/-- FC_ARG or FC_DATA while a command runs (R350). -/
def commandHeld (s : State) (off : Nat) : Bool :=
  fcBusy s && ((decide (Reg.FC_ARG 0 ≤ off) && decide (off < Reg.FC_ARG 8)) || decide (off / 0x1000 = 0xC09))

/-- A write of the 64-bit register at `off` that takes effect: whole, or by its upper half. -/
def write64 (s : State) (q : Requester) (sp : RegSpec) (off : Nat) (w : HalfWrite) (hw : W64) : State :=
  if off = Reg.PACE_AT then writePaceAt s q w
  else if off = Reg.TR_LAUNCH_AT then armLaunch s q w
  else if off = Reg.TARP_STOP_BND then stopAtSend s q w
  else if off = Reg.CMP_PTP_OFS then writePtpOffset s q w
  else if off = Reg.CR_GSCRIPT then gearPush s q w
  else if off = Reg.LN_FREEZE then freezeArm s q w
  else if q = .ranger ∧ 0x408000 ≤ off ∧ off < 0x408040 then
    -- the private sources that Ranger firmware has made pending or has serviced (R367, log entry 105)
    let (v, s) := formHalf s q off w
    setReg s off v
  else if q = .ranger ∧ Reg.HUB_MAP_PEND 0 ≤ off ∧ off < Reg.HUB_MAP_PEND 32 then
    -- failures that firmware marks: a unit has failed during work (R393, log entry 110)
    let (v, s) := formHalf s q off w
    addFailures s [((off - Reg.HUB_MAP_PEND 0) / 8, (v &&& 0xFFFFFF01FF).toNat)]
  else
    let (v, s) := formHalf s q off w
    if zipperLocked s off ∨ (off = Reg.HST_WLOAD ∧ weightOpen s) then s
    else match wrapRegion? off with
      | some r =>
        let x := (storeGet 0 s.lantern.wraps r &&& ~~~v) ||| (hw &&& BitVec.ofNat 64 sp.w1c)
        { s with lantern := { s.lantern with wraps := storeSet 0 s.lantern.wraps r x } }
      | none => codedWrite s sp off v hw

/-- The word of the writer's MSI-X table at `off`; a message that becomes unblocked is sent (R352). -/
def writeMsix (s : State) (q : Requester) (off : Nat) (v : W32) : State :=
  match q with
  | .ranger => s
  | .host p =>
    let i := (off - 0x808000) / 4
    msixFlush (modHost s p fun h => { h with table := storeSet (if i % 4 = 3 then 1 else 0) h.table i v }) p

/-- One half of a word of FC_DATA, which is a buffer: each half acts alone. -/
def writeBuffer (s : State) (off : Nat) (v : W32) : State :=
  setField s (off / 8 * 8) (8 * (off % 8)) 32 v.toNat

/-- A 4-byte write (R10). -/
def write4 (s : State) (q : Requester) (off : Nat) (v : W32) (hw : W64) : State :=
  if 0x808000 ≤ off ∧ off < 0x810000 then writeMsix s q off v
  else if commandHeld s off then logEvent s 0x0C09
  else if off / 0x1000 = 0xC09 then writeBuffer s off v
  else match regSpec? off with
  | some sp =>
    if sp.width = 32 then write32 s q sp off v hw
    else { dropHalf s q off with halves := (dropHalf s q off).halves ++ [(q, off, v)] }
  | none =>
    match (if off % 8 = 4 then regSpec? (off - 4) else none) with
    | some sp => if sp.width = 64 then write64 s q sp (off - 4) (.upper v) hw else s
    | none => s

/-- A write of 4 or 8 bytes that is served, aligned and allowed. R10 gives an 8-byte write of two 32-bit registers no meaning: two
4-byte writes, the lower first (DESIGN CHOICE, log entry 78). -/
def writeServed (s : State) (q : Requester) (off : Nat) (size8 : Bool) (v hw : W64) : State :=
  if !size8 then write4 s q off (v.setWidth 32) hw
  else match regSpec? off with
  | some sp =>
    if sp.width = 64 then
      if commandHeld s off then logEvent s 0x0C09 else write64 s q sp off (.whole v) hw
    else write4 (write4 s q off (v.setWidth 32) (hw &&& 0xFFFFFFFF)) q (off + 4) ((v >>> 32).setWidth 32) (hw >>> 32)
  | none => write4 (write4 s q off (v.setWidth 32) (hw &&& 0xFFFFFFFF)) q (off + 4) ((v >>> 32).setWidth 32) (hw >>> 32)

/-- A write of the Peg window of BAR0: a host's in the order of R345, a Ranger's at once. -/
def writePegWindow (s : State) (q : Requester) (off : Nat) (size : Size) (v : W64) : State :=
  let o : BitVec 17 := BitVec.ofNat 17 (off - 0x2000000)
  match q with
  | .host p => pegWrite s p o size v
  | .ranger => if pegAligned o size then landPeg s o size v 3 1 else logEvent s 0x0604

/-- Whether a write gets past R340 and R381, and if not, what happens. -/
def writeBarred (s : State) (q : Requester) (off : Nat) : Option State :=
  if notServed s q off then some s
  else match q with
  | .ranger => none
  | .host p => if isSteward s p || observerMay p off then none else some (dropWrite s p)

/-- A write of BAR0 of 4 or 8 bytes. A misaligned one is ignored, in the Peg window with event 0x0604. -/
def writeAccess (s : State) (q : Requester) (off : Nat) (size8 : Bool) (v hw : W64) : State :=
  if inPegWindow off then
    (if notServed s q off then s else writePegWindow s q off (if size8 then .b8 else .b4) v)
  else
    let n := if size8 then 8 else 4
    let s := hostBytes s q 0 n
    match writeBarred s q off with
    | some t => t
    | none => if accessAligned off size8 then writeServed (lnRegister s q 3 off n) q off size8 v hw else s

/-! ## Accesses of another size or alignment (R10, R144) -/

/-- The number of bytes of an access. -/
def Size.bytes : Size → Nat
  | .b1 => 1
  | .b2 => 2
  | .b4 => 4
  | .b8 => 8

/-- Such an access: a read returns 0 and a write is ignored; in the Peg window event 0x0604 is logged. -/
def oddAccess (s : State) (q : Requester) (off : Nat) (size : Size) (write : Bool) : State :=
  let peg (s : State) : State :=
    if inPegWindow off ∧ !notServed s q off then logEvent s 0x0604 else s
  if write then
    let s := hostBytes s q 0 (Size.bytes size)
    match writeBarred s q off with
    | some t => t
    | none => peg s
  else answer (peg (hostBytes s q (Size.bytes size) 0)) (Size.bytes size) 0

/-- An ordinary access. -/
def ordinary (s : State) (q : Requester) (off : Nat) (size8 write : Bool) (v : W64) : State :=
  if write then writeAccess s q off size8 v 0 else readAccess s q off size8 0

/-! ## The commands -/

/-- REGISTER_WRITE. -/
def execRegisterWrite (q : Requester) (off : BitVec 26) (size8 : Bool) (v hw : BitVec 64) (s : State) :
    Host.Outcome State Fault Refusal :=
  .next (writeAccess s q off.toNat size8 v hw)

/-- REGISTER_READ_CLEAR. -/
def execRegisterReadClear (q : Requester) (off : BitVec 26) (size8 : Bool) (hw : BitVec 64) (s : State) :
    Host.Outcome State Fault Refusal := .next (readAccess s q off.toNat size8 hw)

/-- LOWER_HALF_READ_LATCH. -/
def execLowerHalfReadLatch (q : Requester) (off : BitVec 26) (s : State) : Host.Outcome State Fault Refusal :=
  .next (readAccess s q off.toNat false 0)

/-- BAR0_ODD_ACCESS: an access that turns out naturally aligned and of 4 or 8 bytes is an ordinary one. -/
def execBar0OddAccess (q : Requester) (off : BitVec 26) (size : Size) (write : Bool) (v : BitVec 64) (s : State) :
    Host.Outcome State Fault Refusal :=
  .next (if (size = .b4 ∨ size = .b8) ∧ accessAligned off.toNat (decide (size = .b8)) then
      ordinary s q off.toNat (decide (size = .b8)) write v
    else oddAccess s q off.toNat size write)

end Sys2Proof.Machine
end

