-- ==== Sys2Proof/Machine/Dispatch.lean ====
section
/-!
DEFINITION. Machine/Dispatch.lean: the effect of every command, one arm per row of the table.
-/

namespace Sys2Proof.Machine

def exec (i : Instr) (s : State) : Host.Outcome State Fault Refusal :=
  match i with
  | .registerWrite q off size8 v hw => Sys2Proof.Machine.execRegisterWrite q off size8 v hw s
  | .registerReadClear q off size8 hw => Sys2Proof.Machine.execRegisterReadClear q off size8 hw s
  | .lowerHalfReadLatch q off => Sys2Proof.Machine.execLowerHalfReadLatch q off s
  | .bar0OddAccess q off size write v => Sys2Proof.Machine.execBar0OddAccess q off size write v s
  | .permitRelease => Sys2Proof.Machine.execPermitRelease s
  | .beginBeat r => Sys2Proof.Machine.execBeginBeat r s
  | .unitAcknowledge r slot => Sys2Proof.Machine.execUnitAcknowledge r slot s
  | .crossingArrival r ix flip => Sys2Proof.Machine.execCrossingArrival r ix flip s
  | .paceEpochBoundary cap top mv => Sys2Proof.Machine.execPaceEpochBoundary cap top mv s
  | .paceArm q w => Sys2Proof.Machine.execPaceArm q w s
  | .paceCancel q => Sys2Proof.Machine.execPaceCancel q s
  | .lagCeilingHold => Sys2Proof.Machine.execLagCeilingHold s
  | .beatHang r => Sys2Proof.Machine.execBeatHang r s
  | .pitchApply q => Sys2Proof.Machine.execPitchApply q s
  | .pitchWithdraw q => Sys2Proof.Machine.execPitchWithdraw q s
  | .pitchForcedWithdraw q => Sys2Proof.Machine.execPitchForcedWithdraw q s
  | .trailLoad q => Sys2Proof.Machine.execTrailLoad q s
  | .trailUnload q => Sys2Proof.Machine.execTrailUnload q s
  | .launchArm q w => Sys2Proof.Machine.execLaunchArm q w s
  | .launchStart src => Sys2Proof.Machine.execLaunchStart src s
  | .sloadWeights r c sack line nrows => Sys2Proof.Machine.execSloadWeights r c sack line nrows s
  | .sloadRawAdd r c sack line nrows acc => Sys2Proof.Machine.execSloadRawAdd r c sack line nrows acc s
  | .smxsWeightScales r c sack line => Sys2Proof.Machine.execSmxsWeightScales r c sack line s
  | .smxsAsb r c sack line => Sys2Proof.Machine.execSmxsAsb r c sack line s
  | .sfmt r c wfmt afmt both keyld sack line => Sys2Proof.Machine.execSfmt r c wfmt afmt both keyld sack line s
  | .smac r c sack line acc nvec asb flip => Sys2Proof.Machine.execSmac r c sack line acc nvec asb flip s
  | .sout r c acc sack line ofmt rmode sat clr oscale sline => Sys2Proof.Machine.execSout r c acc sack line ofmt rmode sat clr oscale sline s
  | .sclr r c banks asb planes key => Sys2Proof.Machine.execSclr r c banks asb planes key s
  | .kadd r u o => Sys2Proof.Machine.execKadd r u o s
  | .kmul r u o => Sys2Proof.Machine.execKmul r u o s
  | .kfma r u o => Sys2Proof.Machine.execKfma r u o s
  | .kmax r u o => Sys2Proof.Machine.execKmax r u o s
  | .kmin r u o => Sys2Proof.Machine.execKmin r u o s
  | .ksel r u o => Sys2Proof.Machine.execKsel r u o s
  | .kcmp r u o => Sys2Proof.Machine.execKcmp r u o s
  | .kcvt r u o => Sys2Proof.Machine.execKcvt r u o s
  | .kexp2 r u o => Sys2Proof.Machine.execKexp2 r u o s
  | .klog2 r u o => Sys2Proof.Machine.execKlog2 r u o s
  | .krcp r u o => Sys2Proof.Machine.execKrcp r u o s
  | .krsq r u o => Sys2Proof.Machine.execKrsq r u o s
  | .ktanh r u o => Sys2Proof.Machine.execKtanh r u o s
  | .ksum r u o => Sys2Proof.Machine.execKsum r u o s
  | .kmerge r u o => Sys2Proof.Machine.execKmerge r u o s
  | .kidxArgmax r u o => Sys2Proof.Machine.execKidxArgmax r u o s
  | .kidxCumsel r u o => Sys2Proof.Machine.execKidxCumsel r u o s
  | .krng r u o => Sys2Proof.Machine.execKrng r u o s
  | .ksrSackToRegister r u sack line reg half => Sys2Proof.Machine.execKsrSackToRegister r u sack line reg half s
  | .ksrRegisterToSack r u sack line reg half => Sys2Proof.Machine.execKsrRegisterToSack r u sack line reg half s
  | .ksrRegisterCopy r u dst src bcast lane => Sys2Proof.Machine.execKsrRegisterCopy r u dst src bcast lane s
  | .ksrKeyLoad r u sack line => Sys2Proof.Machine.execKsrKeyLoad r u sack line s
  | .srd r sk dsack line dline nlines => Sys2Proof.Machine.execSrd r sk dsack line dline nlines s
  | .swrFill r sk line nlines imm => Sys2Proof.Machine.execSwrFill r sk line nlines imm s
  | .swrPegSnapshot r sk line peg => Sys2Proof.Machine.execSwrPegSnapshot r sk line peg s
  | .sgath r sk iline dsack dline base wbits nidx => Sys2Proof.Machine.execSgath r sk iline dsack dline base wbits nidx s
  | .pass r f ssack sline dsack dline nlines => Sys2Proof.Machine.execPass r f ssack sline dsack dline nlines s
  | .send r f ssack sline wid seq0 nlines => Sys2Proof.Machine.execSend r f ssack sline wid seq0 nlines s
  | .rwinOpen r f wid dsack base len peg => Sys2Proof.Machine.execRwinOpen r f wid dsack base len peg s
  | .rwinClose r f wid => Sys2Proof.Machine.execRwinClose r f wid s
  | .thru r f inn nbeats dly => Sys2Proof.Machine.execThru r f inn nbeats dly s
  | .thruGuyline r f inn nbeats dly => Sys2Proof.Machine.execThruGuyline r f inn nbeats dly s
  | .pinc r peg amount => Sys2Proof.Machine.execPinc r peg amount s
  | .psetCount r peg value => Sys2Proof.Machine.execPsetCount r peg value s
  | .psetMark r peg value => Sys2Proof.Machine.execPsetMark r peg value s
  | .perrSet r peg => Sys2Proof.Machine.execPerrSet r peg s
  | .perrClear r peg => Sys2Proof.Machine.execPerrClear r peg s
  | .pwait r peg rel adv t => Sys2Proof.Machine.execPwait r peg rel adv t s
  | .pwaitRecheck r => Sys2Proof.Machine.execPwaitRecheck r s
  | .pegWaitLimit r => Sys2Proof.Machine.execPegWaitLimit r s
  | .pegWlimWrite q r v => Sys2Proof.Machine.execPegWlimWrite q r v s
  | .parmArm r peg rel nsrc t => Sys2Proof.Machine.execParmArm r peg rel nsrc t s
  | .parmDisarm r peg => Sys2Proof.Machine.execParmDisarm r peg s
  | .pegWindowWrite p off size v => Sys2Proof.Machine.execPegWindowWrite p off size v s
  | .cidle r count => Sys2Proof.Machine.execCidle r count s
  | .crep r body total => Sys2Proof.Machine.execCrep r body total s
  | .cbnd r peg shift => Sys2Proof.Machine.execCbnd r peg shift s
  | .chlt r setseg gear seg => Sys2Proof.Machine.execChlt r setseg gear seg s
  | .fqpost r queue dsack line => Sys2Proof.Machine.execFqpost r queue dsack line s
  | .tact r track bank row xen x => Sys2Proof.Machine.execTact r track bank row xen x s
  | .trd r track bank col nl sack line ap => Sys2Proof.Machine.execTrd r track bank col nl sack line ap s
  | .twr r track bank col nl sack line ap => Sys2Proof.Machine.execTwr r track bank col nl sack line ap s
  | .tpre r track bank all => Sys2Proof.Machine.execTpre r track bank all s
  | .tslotRefresh r mask pair => Sys2Proof.Machine.execTslotRefresh r mask pair s
  | .tslotFar r mask nbeats => Sys2Proof.Machine.execTslotFar r mask nbeats s
  | .tidxColumn r track bank isack iline nlog dsack dline => Sys2Proof.Machine.execTidxColumn r track bank isack iline nlog dsack dline s
  | .tidxLoadIndex r x isack iline word stride count => Sys2Proof.Machine.execTidxLoadIndex r x isack iline word stride count s
  | .timingGuardSend r => Sys2Proof.Machine.execTimingGuardSend r s
  | .guardRefresh r t bank => Sys2Proof.Machine.execGuardRefresh r t bank s
  | .heldRefresh r t bank => Sys2Proof.Machine.execHeldRefresh r t bank s
  | .bankRestore r t => Sys2Proof.Machine.execBankRestore r t s
  | .idleTrackRefresh r t bank => Sys2Proof.Machine.execIdleTrackRefresh r t bank s
  | .farAccessServe r t => Sys2Proof.Machine.execFarAccessServe r t s
  | .trackLaunchQuiesce r t => Sys2Proof.Machine.execTrackLaunchQuiesce r t s
  | .stackErrorRetry r t kind ok => Sys2Proof.Machine.execStackErrorRetry r t kind ok s
  | .stackTimeout r t => Sys2Proof.Machine.execStackTimeout r t s
  | .patrolScrub => Sys2Proof.Machine.execPatrolScrub s
  | .bread q k => Sys2Proof.Machine.execBread q k s
  | .bwrite q k => Sys2Proof.Machine.execBwrite q k s
  | .hread q k data err => Sys2Proof.Machine.execHread q k data err s
  | .hwrite q k err => Sys2Proof.Machine.execHwrite q k err s
  | .fill q k => Sys2Proof.Machine.execFill q k s
  | .spill q k => Sys2Proof.Machine.execSpill q k s
  | .scrub q k => Sys2Proof.Machine.execScrub q k s
  | .cairn q k => Sys2Proof.Machine.execCairn q k s
  | .farCompletion q k => Sys2Proof.Machine.execFarCompletion q k s
  | .hubWindowArrival a flip => Sys2Proof.Machine.execHubWindowArrival a flip s
  | .fqEnable w q => Sys2Proof.Machine.execFqEnable w q s
  | .fqDisable w q => Sys2Proof.Machine.execFqDisable w q s
  | .fqForceDisable w q => Sys2Proof.Machine.execFqForceDisable w q s
  | .fqDisableEffect q => Sys2Proof.Machine.execFqDisableEffect q s
  | .stage w => Sys2Proof.Machine.execStage w s
  | .stageComplete => Sys2Proof.Machine.execStageComplete s
  | .bunkLoad w ix => Sys2Proof.Machine.execBunkLoad w ix s
  | .evict w ix => Sys2Proof.Machine.execEvict w ix s
  | .inval w ix => Sys2Proof.Machine.execInval w ix s
  | .flush w => Sys2Proof.Machine.execFlush w s
  | .bkListWrite w ix v => Sys2Proof.Machine.execBkListWrite w ix v s
  | .packSlot p => Sys2Proof.Machine.execPackSlot p s
  | .packReceive p units corrected lost => Sys2Proof.Machine.execPackReceive p units corrected lost s
  | .ackSend p => Sys2Proof.Machine.execAckSend p s
  | .ack p v => Sys2Proof.Machine.execAck p v s
  | .replayTimeout p => Sys2Proof.Machine.execReplayTimeout p s
  | .creditSend p c => Sys2Proof.Machine.execCreditSend p c s
  | .credit p v => Sys2Proof.Machine.execCredit p v s
  | .creditTimeout p c => Sys2Proof.Machine.execCreditTimeout p c s
  | .laneBad p lane => Sys2Proof.Machine.execLaneBad p lane s
  | .pauseReq p v => Sys2Proof.Machine.execPauseReq p v s
  | .pauseAck p v => Sys2Proof.Machine.execPauseAck p v s
  | .resume p v => Sys2Proof.Machine.execResume p v s
  | .ident p v => Sys2Proof.Machine.execIdent p v s
  | .linkTrainingComplete p good markers ber rtt => Sys2Proof.Machine.execLinkTrainingComplete p good markers ber rtt s
  | .retrainTimeout p => Sys2Proof.Machine.execRetrainTimeout p s
  | .lockLossTimeout p => Sys2Proof.Machine.execLockLossTimeout p s
  | .downRetry p => Sys2Proof.Machine.execDownRetry p s
  | .glEnable w p en => Sys2Proof.Machine.execGlEnable w p en s
  | .glRetrain w p => Sys2Proof.Machine.execGlRetrain w p s
  | .glRestore w p => Sys2Proof.Machine.execGlRestore w p s
  | .glSpeed w p half => Sys2Proof.Machine.execGlSpeed w p half s
  | .selfCoordWrite w v => Sys2Proof.Machine.execSelfCoordWrite w v s
  | .landingRelease p => Sys2Proof.Machine.execLandingRelease p s
  | .hold p v => Sys2Proof.Machine.execHold p v s
  | .holdRepeat => Sys2Proof.Machine.execHoldRepeat s
  | .releaseRepeat => Sys2Proof.Machine.execReleaseRepeat s
  | .release p v => Sys2Proof.Machine.execRelease p v s
  | .tarpResume => Sys2Proof.Machine.execTarpResume s
  | .bnd p v => Sys2Proof.Machine.execBnd p v s
  | .strike p v => Sys2Proof.Machine.execStrike p v s
  | .stopAtSend w v => Sys2Proof.Machine.execStopAtSend w v s
  | .stopAt p v => Sys2Proof.Machine.execStopAt p v s
  | .portDownLimit p => Sys2Proof.Machine.execPortDownLimit p s
  | .messageForward p c => Sys2Proof.Machine.execMessageForward p c s
  | .escapeTimeout p c => Sys2Proof.Machine.execEscapeTimeout p c s
  | .referenceFrame frame violations => Sys2Proof.Machine.execReferenceFrame frame violations s
  | .symbolLock => Sys2Proof.Machine.execSymbolLock s
  | .symbolLockLoss => Sys2Proof.Machine.execSymbolLockLoss s
  | .holdoverSkewFault => Sys2Proof.Machine.execHoldoverSkewFault s
  | .slewComplete => Sys2Proof.Machine.execSlewComplete s
  | .ptpSyncTimeout => Sys2Proof.Machine.execPtpSyncTimeout s
  | .ptpOffsetWrite q w => Sys2Proof.Machine.execPtpOffsetWrite q w s
  | .cycleConfigWrite q j v => Sys2Proof.Machine.execCycleConfigWrite q j v s
  | .cycleFire j => Sys2Proof.Machine.execCycleFire j s
  | .wakeSignal => Sys2Proof.Machine.execWakeSignal s
  | .capturePop q => Sys2Proof.Machine.execCapturePop q s
  | .zipperWindowDigest r => Sys2Proof.Machine.execZipperWindowDigest r s
  | .zipperBoundaryDigest r => Sys2Proof.Machine.execZipperBoundaryDigest r s
  | .zip p v => Sys2Proof.Machine.execZip p v s
  | .gearLogPop q => Sys2Proof.Machine.execGearLogPop q s
  | .gearScriptPush q w => Sys2Proof.Machine.execGearScriptPush q w s
  | .gearScriptEnable q en => Sys2Proof.Machine.execGearScriptEnable q en s
  | .weightLoadOpen q => Sys2Proof.Machine.execWeightLoadOpen q s
  | .weightLoadClose q => Sys2Proof.Machine.execWeightLoadClose q s
  | .weightLoadWrite p off data => Sys2Proof.Machine.execWeightLoadWrite p off data s
  | .firewatchEpoch x => Sys2Proof.Machine.execFirewatchEpoch x s
  | .emergencyHoldEnd => Sys2Proof.Machine.execEmergencyHoldEnd s
  | .paceAsk => Sys2Proof.Machine.execPaceAsk s
  | .lookoutEpoch => Sys2Proof.Machine.execLookoutEpoch s
  | .paceSet => Sys2Proof.Machine.execPaceSet s
  | .paceAck => Sys2Proof.Machine.execPaceAck s
  | .paceAckDeadline => Sys2Proof.Machine.execPaceAckDeadline s
  | .gearVoteCast => Sys2Proof.Machine.execGearVoteCast s
  | .gear p v => Sys2Proof.Machine.execGear p v s
  | .gearVoteTimeout => Sys2Proof.Machine.execGearVoteTimeout s
  | .thermalTrip junction hbm => Sys2Proof.Machine.execThermalTrip junction hbm s
  | .thermalRecovery junction hbm => Sys2Proof.Machine.execThermalRecovery junction hbm s
  | .unitWake r slot => Sys2Proof.Machine.execUnitWake r slot s
  | .unitIdleEntry r slot depth => Sys2Proof.Machine.execUnitIdleEntry r slot depth s
  | .moduleStateChange => Sys2Proof.Machine.execModuleStateChange s
  | .hostPortReset p flr => Sys2Proof.Machine.execHostPortReset p flr s
  | .hostLinkTrained p speed width => Sys2Proof.Machine.execHostLinkTrained p speed width s
  | .hostLinkDown p => Sys2Proof.Machine.execHostLinkDown p s
  | .acquire p => Sys2Proof.Machine.execAcquire p s
  | .renew p => Sys2Proof.Machine.execRenew p s
  | .releaseLease p => Sys2Proof.Machine.execReleaseLease p s
  | .leaseExpiry => Sys2Proof.Machine.execLeaseExpiry s
  | .vestibuleWrite p off data poisoned => Sys2Proof.Machine.execVestibuleWrite p off data poisoned s
  | .vestibuleRead p off len => Sys2Proof.Machine.execVestibuleRead p off len s
  | .vestibuleReadTimeout p => Sys2Proof.Machine.execVestibuleReadTimeout p s
  | .info p seq => Sys2Proof.Machine.execInfo p seq s
  | .events p seq => Sys2Proof.Machine.execEvents p seq s
  | .coord p seq => Sys2Proof.Machine.execCoord p seq s
  | .netCfg p seq => Sys2Proof.Machine.execNetCfg p seq s
  | .netLoad p seq => Sys2Proof.Machine.execNetLoad p seq s
  | .netPut p seq => Sys2Proof.Machine.execNetPut p seq s
  | .netGet p seq => Sys2Proof.Machine.execNetGet p seq s
  | .networkCommandComplete ok data e frames => Sys2Proof.Machine.execNetworkCommandComplete ok data e frames s
  | .tlmCfg p seq => Sys2Proof.Machine.execTlmCfg p seq s
  | .reset p seq => Sys2Proof.Machine.execReset p seq s
  | .cancel p seq => Sys2Proof.Machine.execCancel p seq s
  | .attest p seq => Sys2Proof.Machine.execAttest p seq s
  | .cert p seq => Sys2Proof.Machine.execCert p seq s
  | .map p seq => Sys2Proof.Machine.execMap p seq s
  | .fwStage p seq => Sys2Proof.Machine.execFwStage p seq s
  | .fwActivate p seq => Sys2Proof.Machine.execFwActivate p seq s
  | .selftest p seq => Sys2Proof.Machine.execSelftest p seq s
  | .stStatus p seq => Sys2Proof.Machine.execStStatus p seq s
  | .stCancel p seq => Sys2Proof.Machine.execStCancel p seq s
  | .telemetrySend => Sys2Proof.Machine.execTelemetrySend s
  | .ethernetFrame e frame check => Sys2Proof.Machine.execEthernetFrame e frame check s
  | .ethernetLinkDown e lanes => Sys2Proof.Machine.execEthernetLinkDown e lanes s
  | .msixUnblock p gate => Sys2Proof.Machine.execMsixUnblock p gate s
  | .whistleTimer n => Sys2Proof.Machine.execWhistleTimer n s
  | .whistleDeliver n => Sys2Proof.Machine.execWhistleDeliver n s
  | .whistleServiceEnd q w v => Sys2Proof.Machine.execWhistleServiceEnd q w v s
  | .whistlePendSet q w v => Sys2Proof.Machine.execWhistlePendSet q w v s
  | .whistlePendClear q w v => Sys2Proof.Machine.execWhistlePendClear q w v s
  | .whistleSourceConfig q n time v => Sys2Proof.Machine.execWhistleSourceConfig q n time v s
  | .whistleRetentionWake ok => Sys2Proof.Machine.execWhistleRetentionWake ok s
  | .lanternClear q => Sys2Proof.Machine.execLanternClear q s
  | .lanternThaw q => Sys2Proof.Machine.execLanternThaw q s
  | .lanternFreezeArm q w => Sys2Proof.Machine.execLanternFreezeArm q w s
  | .lanternSnapshot => Sys2Proof.Machine.execLanternSnapshot s
  | .bandwidthWindow => Sys2Proof.Machine.execBandwidthWindow s
  | .traceRecord r => Sys2Proof.Machine.execTraceRecord r s
  | .traceReset q => Sys2Proof.Machine.execTraceReset q s
  | .powerOn => Sys2Proof.Machine.execPowerOn s
  | .bringUpStep x => Sys2Proof.Machine.execBringUpStep x s
  | .bringUpStepTimeout => Sys2Proof.Machine.execBringUpStepTimeout s
  | .moduleReset code => Sys2Proof.Machine.execModuleReset code s
  | .rangerWatchdog => Sys2Proof.Machine.execRangerWatchdog s
  | .spareSweep r k pass => Sys2Proof.Machine.execSpareSweep r k pass s
  | .selftestRun => Sys2Proof.Machine.execSelftestRun s
  | .selftestComplete clusters tracks => Sys2Proof.Machine.execSelftestComplete clusters tracks s
  | .selftestTimeout => Sys2Proof.Machine.execSelftestTimeout s
  | .recalibration m => Sys2Proof.Machine.execRecalibration m s
  | .inputUndervoltage volt us => Sys2Proof.Machine.execInputUndervoltage volt us s
  | .inputOvervoltage volt us => Sys2Proof.Machine.execInputOvervoltage volt us s
  | .inputRestored low high ms => Sys2Proof.Machine.execInputRestored low high ms s
  | .sensePinBreak => Sys2Proof.Machine.execSensePinBreak s
  | .entryLimitUpdate volt pairs => Sys2Proof.Machine.execEntryLimitUpdate volt pairs s
  | .pairLost ix pairs => Sys2Proof.Machine.execPairLost ix pairs s
  | .pairReturn ix pairs => Sys2Proof.Machine.execPairReturn ix pairs s
  | .pairShortage => Sys2Proof.Machine.execPairShortage s
  | .pairRestored => Sys2Proof.Machine.execPairRestored s
  | .railShort k => Sys2Proof.Machine.execRailShort k s
  | .lampFail l own setting check power => Sys2Proof.Machine.execLampFail l own setting check power s
  | .lampRemove l power => Sys2Proof.Machine.execLampRemove l power s
  | .lampInsert l typeOk serial => Sys2Proof.Machine.execLampInsert l typeOk serial s
  | .lampRampDone l own other => Sys2Proof.Machine.execLampRampDone l own other s
  | .fibreOpen q us => Sys2Proof.Machine.execFibreOpen q us s
  | .fibreProbe q => Sys2Proof.Machine.execFibreProbe q s
  | .fibreRestored q us => Sys2Proof.Machine.execFibreRestored q us s
  | .coolantLeak => Sys2Proof.Machine.execCoolantLeak s
  | .lidOpen => Sys2Proof.Machine.execLidOpen s
  | .trailLoadComplete => Sys2Proof.Machine.execTrailLoadComplete s
  | .ethernetLinkUp e lanes => Sys2Proof.Machine.execEthernetLinkUp e lanes s
  | .linkLockReturn p => Sys2Proof.Machine.execLinkLockReturn p s

end Sys2Proof.Machine
end

