-- ==== Sys2Proof/Machine/Idle.lean ====
section
/-!
DEFINITION. Machine/Idle.lean: what passes with no command waiting (log entry 3): 1/256 of a Compass tick.
-/

namespace Sys2Proof.Machine

/-- Ticks spent HELD are counted (Table 10.5). -/
def countHeld (s : State) : State :=
  if s.pacer.mode = .held ∧ s.time % 256 = 0 then countField s Reg.TARP_HELD_T 0 64 1 else s

/-- The block with an empty queue: time moves on, the Compass with it, and Whistle senses its state sources. -/
def idle (s : State) : State := noteQuiet (sense (countHeld (tickCompass { s with time := s.time + 1 })))

/-- The command at the front of the queue, and the state with the queue's rest. -/
def takeCommand (s : State) : Option (Instr × State) :=
  match s.pending with
  | [] => none
  | c :: rest => some (c, { s with pending := rest })

end Sys2Proof.Machine
end

