-- ==== Sys2Proof/Safety.lean ====
section
/-!
DEFINITION. Safety.lean: the terms in which claims speak of runs: outcomes that go on, canonical storage, queues that carry only
well-formed commands, and what a read finds.
-/

namespace Sys2Proof

open Machine

/-- An outcome that goes on. -/
def goesOn (o : Host.Outcome State Fault Refusal) : Bool :=
  match o with
  | .next _ => true
  | .fault _ => false
  | .refused _ => false

/-- A run of n steps that meets no fault and no refusal. -/
def safeRun : Nat → State → Bool
  | 0, _ => true
  | n + 1, s =>
    match step s with
    | .next t => safeRun n t
    | .fault _ => false
    | .refused _ => false

/-- Every waiting command is well formed. -/
def queueWf (s : State) : Bool := s.pending.all Instr.wf

/-- HBM and the Barrel are in their one canonical form: equal contents are equal data. -/
def memoryWf (s : State) : Bool := s.hbm.wf && s.barrel.wf

/-- One byte of HBM, and one of the Barrel. -/
def hbmByte (s : State) (a : Nat) : Byte := s.hbm.read a
/-- One byte of the Barrel. -/
def barrelByte (s : State) (a : Nat) : Byte := s.barrel.read a

/-- A command as the only thing waiting. -/
def State.withCommand (s : State) (c : Instr) : State := { s with pending := c :: s.pending }

/-! ## Actions of a beat -/

/-- Region r is in beat b, and its arrivals are in: here an action command issues (R28, log entry 11). -/
def beatOpen (s : State) (r : Fin 32) (b : Nat) : Prop :=
  s.regions[r].begun = b + 1 ∧ s.regions[r].completed ≤ b ∧ s.regions[r].rowWait = false

/-- Effects of region r due as late as beat b take place: the job is not struck (R260), and its segment does not end before (R55). -/
def roomTo (s : State) (r : Fin 32) (b : Nat) : Prop :=
  s.tarp.struck = false ∧ ∀ e, s.regions[r].bndBeat = some e → b ≤ e

/-- A read of a Sack line that command c makes in beat b finds the port free (R123), no write of the line under way (R75), and no
latent error (R125). -/
def readsClean (s : State) (r : Fin 32) (b : Nat) (c : Instr) (k line : Nat) : Prop :=
  (∀ u ∈ s.regions[r].readers, u.1 ≠ k) ∧
  pendingWrite { r := r, beat := b, issue := b, slot := actionSlot c } s (.sack r.val k line) = false ∧
  ∀ w ue, Flaw.sack r.val k line w ue ∉ s.flaws

/-- From s to t, command c of region r has issued in beat b: the region is changed by f, the read ports of c are taken, and the
effects l are queued, each with the beat it is due. Lantern counts the issue; nothing else changes. -/
def issued (s t : State) (r : Fin 32) (c : Instr) (b : Nat) (f : Region → Region) (l : List (Nat × Micro)) : Prop :=
  ∃ n w, t = { s with lantern := n, whistle := w, regions := s.regions.set r (f { s.regions[r] with
    readers := s.regions[r].readers ++ (actionReads c).map (fun k => (k, actionSlot c))
    due := s.regions[r].due ++ l.map (fun e => { beat := e.1, issue := b, slot := actionSlot c, op := e.2 }) }) }

/-- A Stove of a region replaced. -/
def withStove (c : Fin 8) (f : Stove → Stove) (g : Region) : Region := { g with stoves := g.stoves.set c (f g.stoves[c]) }

/-- A Kettle of a region replaced. -/
def withKettle (u : Fin 16) (f : Kettle → Kettle) (g : Region) : Region := { g with kettles := g.kettles.set u (f g.kettles[u]) }

/-- The Kettle commands of the common layout: region, unit, operation, operands. -/
def kettleForm (c : Instr) : Option (Fin 32 × Fin 16 × KOp × KOps) :=
  match c with
  | .kadd r u o => some (r, u, .kadd, o)
  | .kmul r u o => some (r, u, .kmul, o)
  | .kfma r u o => some (r, u, .kfma, o)
  | .kmax r u o => some (r, u, .kmax, o)
  | .kmin r u o => some (r, u, .kmin, o)
  | .ksel r u o => some (r, u, .ksel, o)
  | .kcmp r u o => some (r, u, .kcmp, o)
  | .kcvt r u o => some (r, u, .kcvt, o)
  | .kexp2 r u o => some (r, u, .kexp2, o)
  | .klog2 r u o => some (r, u, .klog2, o)
  | .krcp r u o => some (r, u, .krcp, o)
  | .krsq r u o => some (r, u, .krsq, o)
  | .ktanh r u o => some (r, u, .ktanh, o)
  | .ksum r u o => some (r, u, .ksum, o)
  | .kmerge r u o => some (r, u, .kmerge, o)
  | .kidxArgmax r u o => some (r, u, .kidx, o)
  | .kidxCumsel r u o => some (r, u, .kidx, o)
  | .krng r u o => some (r, u, .krng, o)
  | _ => none

/-- The Sack lines a Kettle command reads as operand A: none, one for an unpacking KCVT, else the pair (R104, R105). -/
def kettleLines (u : Fin 16) (op : KOp) (o : KOps) : List (Nat × Nat) :=
  if !o.am then []
  else if op = .kcvt && 0xC ≤ o.func.toNat % 16 then [(pairSack u o.ap (o.func.toNat / 16 % 2 = 1), o.a.toNat)]
  else [(pairSack u o.ap false, o.a.toNat), (pairSack u o.ap true, o.a.toNat)]

/-- Operand A as those lines give it, the first line in lanes 0 to 31. -/
def kettleOperand (g : Region) (u : Fin 16) (op : KOp) (o : KOps) : Option Vec :=
  match kettleLines u op o with
  | [] => none
  | [x] => some (vecOfLines (sackLine g x.1 x.2) 0)
  | x :: y :: _ => some (vecOfLines (sackLine g x.1 x.2) (sackLine g y.1 y.2))

/-- Face f of region r leads to crossing slot j of region n, and in beat b neither is taken: no other use of the face (R36), no entry
made for this beat, and the neighbour's segment does not end before the entry is due (R55). -/
def crossingFree (s : State) (r : Fin 32) (b : Nat) (f : Nat) (n : Fin 32) (j : Fin 6) : Prop :=
  f ≠ 5 ∧ faceTarget r.val f = some (n.val, j.val) ∧ (∀ u ∈ s.regions[r].faces, u.1 ≠ f) ∧
  (∀ e ∈ s.regions[n].xings[j], e.made ≠ b) ∧ roomTo s n (b + crossLatency f)

/-- The entry that command c makes in beat b of a line sent by face f (R32, R129): the sideband with its TAG and its parity bits. -/
def entryOf (side : W64) (v : Line) (b f : Nat) (c : Instr) : Entry :=
  { data := v, side := sealSide (sideTag side b) v, made := b, slot := actionSlot c, issue := b, due := b + crossLatency f, alt := none }

/-- From s to t, command c of region r has issued in beat b as `issued` says, its first line having left by face f into crossing j of
region n at once (R32). -/
def crossed (s t : State) (r : Fin 32) (c : Instr) (b f : Nat) (n : Fin 32) (j : Fin 6) (e : Entry) (l : List (Nat × Micro)) : Prop :=
  ∃ u, issued s u r c b (fun g => { g with faces := g.faces ++ [(f, actionSlot c)] }) l ∧
    t = { u with regions := u.regions.set n { u.regions[n] with xings := u.regions[n].xings.set j (u.regions[n].xings[j] ++ [e]) } }

/-- A region with window `wid` of face f set but for its DROP (R133). -/
def withWindow (f wid : Nat) (w : Window) (g : Region) : Region :=
  { g with windows := storeSet Window.closed g.windows (8 * f + wid) { w with drop := (windowOf g f wid).drop } }

/-- A Peg of a region replaced. -/
def withPeg (p : Nat) (f : Peg → Peg) (g : Region) : Region := { g with pegs := storeSet Peg.zero g.pegs p (f (pegOf g p)) }

/-! ## Faults -/

/-- No strike has ended the job, and no fault is latched since launch. -/
def unstruck (s : State) : Prop := s.tarp.struck = false ∧ getReg s Reg.TR_FAULT = 0

/-- From s to t, a level-2 fault of this module has struck (R260, R264, Table 3.14): the job has ended, no hold is left, a running or held
pacer is ARMED once every region has completed its beat, TR_FAULT and TR_FAULT_BEAT say what struck and where, TARP_STRIKE carries the
code and this module's index. -/
def struckBy (s t : State) (code region slot kind beat : Nat) : Prop :=
  t.tarp = { s.tarp with struck := true, holds := [], best := none, resume := none, released := [] } ∧
  t.pacer = { s.pacer with mode := if pacing s = true ∧ (∀ r : Fin 32, s.regions[r].completed = s.regions[r].begun) then .armed
    else s.pacer.mode } ∧
  t.trail = { s.trail with mode := .fault, crossroad := none } ∧
  getReg t Reg.TR_FAULT = BitVec.ofNat 64 (code * 2 ^ 48 + region * 2 ^ 43 + slot * 2 ^ 37 + kind * 2 ^ 33) ∧
  getReg t Reg.TR_FAULT_BEAT = BitVec.ofNat 64 beat ∧
  getReg t Reg.TARP_STRIKE = BitVec.ofNat 64 (code * 2 ^ 16 + 2 ^ 15 + selfIndex s % 2 ^ 15)

end Sys2Proof

namespace Sys2Proof.Machine

/-! ## Frames -/

/-- Which fields of State an operation may change. -/
structure Mask where
  time : Bool := false
  free : Bool := false
  regs : Bool := false
  halves : Bool := false
  latches : Bool := false
  pacer : Bool := false
  pitch : Bool := false
  trail : Bool := false
  tarp : Bool := false
  compass : Bool := false
  identity : Bool := false
  regions : Bool := false
  pegTouched : Bool := false
  hubIn : Bool := false
  ports : Bool := false
  sinks : Bool := false
  hbm : Bool := false
  barrel : Bool := false
  far : Bool := false
  tset : Bool := false
  flaws : Bool := false
  zipper : Bool := false
  gearLog : Bool := false
  gearScript : Bool := false
  firewatch : Bool := false
  hosts : Bool := false
  firmware : Bool := false
  whistle : Bool := false
  lantern : Bool := false
  flash : Bool := false
  startup : Bool := false
  log : Bool := false
  logSeq : Bool := false
  logged : Bool := false
  out : Bool := false
  pending : Bool := false

/-- From a to s nothing outside the mask has changed. -/
structure Same (m : Mask) (a s : State) : Prop where
  time : m.time = false → s.time = a.time
  free : m.free = false → s.free = a.free
  regs : m.regs = false → s.regs = a.regs
  halves : m.halves = false → s.halves = a.halves
  latches : m.latches = false → s.latches = a.latches
  pacer : m.pacer = false → s.pacer = a.pacer
  pitch : m.pitch = false → s.pitch = a.pitch
  trail : m.trail = false → s.trail = a.trail
  tarp : m.tarp = false → s.tarp = a.tarp
  compass : m.compass = false → s.compass = a.compass
  identity : m.identity = false → s.identity = a.identity
  regions : m.regions = false → s.regions = a.regions
  pegTouched : m.pegTouched = false → s.pegTouched = a.pegTouched
  hubIn : m.hubIn = false → s.hubIn = a.hubIn
  ports : m.ports = false → s.ports = a.ports
  sinks : m.sinks = false → s.sinks = a.sinks
  hbm : m.hbm = false → s.hbm = a.hbm
  barrel : m.barrel = false → s.barrel = a.barrel
  far : m.far = false → s.far = a.far
  tset : m.tset = false → s.tset = a.tset
  flaws : m.flaws = false → s.flaws = a.flaws
  zipper : m.zipper = false → s.zipper = a.zipper
  gearLog : m.gearLog = false → s.gearLog = a.gearLog
  gearScript : m.gearScript = false → s.gearScript = a.gearScript
  firewatch : m.firewatch = false → s.firewatch = a.firewatch
  hosts : m.hosts = false → s.hosts = a.hosts
  firmware : m.firmware = false → s.firmware = a.firmware
  whistle : m.whistle = false → s.whistle = a.whistle
  lantern : m.lantern = false → s.lantern = a.lantern
  flash : m.flash = false → s.flash = a.flash
  startup : m.startup = false → s.startup = a.startup
  log : m.log = false → s.log = a.log
  logSeq : m.logSeq = false → s.logSeq = a.logSeq
  logged : m.logged = false → s.logged = a.logged
  out : m.out = false → s.out = a.out
  pending : m.pending = false → s.pending = a.pending

end Sys2Proof.Machine

namespace Sys2Proof

open Machine

/-- From s to t, a level-3 fault of a module that is ready for a Pitch has reset it (R395, R396): it begins bring-up again at step 2, with
no Pitch, no Trail and every region as after reset; HUB_RESET names the code; the factory identity, the flash and the queue stand. -/
def resetBy (s t : State) (code : Nat) : Prop :=
  t.regions = State.reset.regions ∧ t.pitch = none ∧ t.trail = State.reset.trail ∧
  t.pacer = { State.reset.pacer with localFrom := s.time, voltAt := s.time } ∧ t.hbm = State.reset.hbm ∧ t.barrel = State.reset.barrel ∧ t.identity = s.identity ∧ t.flash = s.flash ∧ t.pending = s.pending ∧
  getField t Reg.HUB_BOOT 28 4 = 2 ∧ getField t Reg.HUB_RESET 48 16 = code

/-- Effect m of region x.r changes Peg p by f and, but for the beat of its last change and Lantern's counts, nothing else. -/
def pegChange (x : Ctx) (s : State) (p : Nat) (m : Micro) (f : Peg → Peg) : Prop :=
  Same { regions := true, pegTouched := true, whistle := true, lantern := true } s (runMicro x s m) ∧
  (runMicro x s m).regions = s.regions.set x.r (withPeg p f s.regions[x.r])

/-! ## Register writes -/

/-- The requester of a command that is a register write only the steward or firmware may make (R340). -/
def writerOf (c : Instr) : Option Requester :=
  match c with
  | .paceArm q _ => some q
  | .paceCancel q => some q
  | .pitchApply q => some q
  | .pitchWithdraw q => some q
  | .pitchForcedWithdraw q => some q
  | .trailLoad q => some q
  | .trailUnload q => some q
  | .launchArm q _ => some q
  | .pegWlimWrite q _ _ => some q
  | .fqEnable q _ => some q
  | .fqDisable q _ => some q
  | .fqForceDisable q _ => some q
  | .stage q => some q
  | .bunkLoad q _ => some q
  | .evict q _ => some q
  | .inval q _ => some q
  | .flush q => some q
  | .bkListWrite q _ _ => some q
  | .glEnable q _ _ => some q
  | .glRetrain q _ => some q
  | .glRestore q _ => some q
  | .glSpeed q _ _ => some q
  | .selfCoordWrite q _ => some q
  | .stopAtSend q _ => some q
  | .ptpOffsetWrite q _ => some q
  | .cycleConfigWrite q _ _ => some q
  | .gearScriptPush q _ => some q
  | .gearScriptEnable q _ => some q
  | .weightLoadOpen q => some q
  | .weightLoadClose q => some q
  | .whistleServiceEnd q _ _ => some q
  | .whistlePendSet q _ _ => some q
  | .whistlePendClear q _ _ => some q
  | .whistleSourceConfig q _ _ _ => some q
  | .lanternClear q => some q
  | .lanternThaw q => some q
  | .lanternFreezeArm q _ => some q
  | .traceReset q => some q
  | _ => none

/-- Such a command as firmware makes it; none where what it does depends on its requester (R10, R44, R144). -/
def asFirmware (c : Instr) : Option Instr :=
  match c with
  | .pitchApply _ => some (.pitchApply .ranger)
  | .pitchWithdraw _ => some (.pitchWithdraw .ranger)
  | .pitchForcedWithdraw _ => some (.pitchForcedWithdraw .ranger)
  | .trailLoad _ => some (.trailLoad .ranger)
  | .trailUnload _ => some (.trailUnload .ranger)
  | .fqEnable _ n => some (.fqEnable .ranger n)
  | .fqDisable _ n => some (.fqDisable .ranger n)
  | .fqForceDisable _ n => some (.fqForceDisable .ranger n)
  | .stage _ => some (.stage .ranger)
  | .bunkLoad _ i => some (.bunkLoad .ranger i)
  | .evict _ i => some (.evict .ranger i)
  | .inval _ i => some (.inval .ranger i)
  | .flush _ => some (.flush .ranger)
  | .bkListWrite _ i v => some (.bkListWrite .ranger i v)
  | .glEnable _ p en => some (.glEnable .ranger p en)
  | .glRetrain _ p => some (.glRetrain .ranger p)
  | .glRestore _ p => some (.glRestore .ranger p)
  | .glSpeed _ p half => some (.glSpeed .ranger p half)
  | .selfCoordWrite _ v => some (.selfCoordWrite .ranger v)
  | .cycleConfigWrite _ j v => some (.cycleConfigWrite .ranger j v)
  | .gearScriptEnable _ en => some (.gearScriptEnable .ranger en)
  | .weightLoadOpen _ => some (.weightLoadOpen .ranger)
  | .weightLoadClose _ => some (.weightLoadClose .ranger)
  | .whistleServiceEnd _ w v => some (.whistleServiceEnd .ranger w v)
  | .whistlePendSet _ w v => some (.whistlePendSet .ranger w v)
  | .whistlePendClear _ w v => some (.whistlePendClear .ranger w v)
  | .whistleSourceConfig _ n time v => some (.whistleSourceConfig .ranger n time v)
  | .lanternClear _ => some (.lanternClear .ranger)
  | .lanternThaw _ => some (.lanternThaw .ranger)
  | .traceReset _ => some (.traceReset .ranger)
  | _ => none

/-- A register that lies in no block with actions of its own, of a width in bits: a plain register of Firewatch and power entry. -/
def plainReg (off width : Nat) (sp : RegSpec) : Prop :=
  off / 0x100000 = 3 ∧ regSpec? off = some sp ∧ sp.width = width ∧ off ≠ Reg.FW_STAT ∧ off ≠ Reg.FW_VOTE

/-! ## Far requests -/

/-- Request number k of a queue is q, of operation `op`, and no other request has its number; nothing of it has been carried out, its turn
has come (R181), the module is awake (R332), and no memory holds a latent error. -/
def farDue (s : State) (queue : Fin 64) (k : Fin 32) (op : Nat) (q : FarReq) : Prop :=
  (s.far.reqs.filter (fun r => r.queue == queue.val))[k.val]? = some q ∧ (∀ r ∈ s.far.reqs, r.id = q.id → r = q) ∧ q.op = op ∧
  q.done = false ∧ q.moved = [] ∧ q.pages = 0 ∧ mustWait s q = false ∧ awake s = true ∧ getField s Reg.FW_STAT 28 2 = 0 ∧ s.flaws = []

/-- Every track of a list serves request q now (R163 to R165, R180). -/
def tracksServe (s : State) (q : FarReq) (ts : List Nat) : Prop := ts.all (inForce s q) = true

/-- From s to t, far request q has been carried out, or poisoned with a cause; the other requests are as they were. -/
def farEnded (s t : State) (q : FarReq) (cause : Option Nat) : Prop :=
  ∃ m n, t.far.reqs = s.far.reqs.map (fun r => if r.id = q.id then
    (match cause with
     | none => { r with done := true, moved := m, pages := n }
     | some c => { r with done := true, poison := some (r.poison.getD c), win := r.win.map (fun w => { w with isOpen := false }) }) else r)

/-- What a far request may change while it is carried out. -/
def farMask : Mask := { regs := true, free := true, lantern := true, whistle := true, log := true, logSeq := true, flaws := true,
                        far := true, hbm := true, barrel := true, out := true }

/-- Far request q is a FILL, SPILL or SCRUB of one page of its session, whose Bunk is in the store with a good look-up of the page's
entry `i` (R186): STATE Present or Absent, at `here`. -/
def pageDue (s : State) (p : Pitch) (q : FarReq) (i : Nat) (e : BitVec 128) : Prop :=
  s.pitch = some p ∧ q.session < p.bunkCount ∧ s.far.bunks.any (fun b => b.1 == q.session) = true ∧ q.retire = false ∧ q.npages = 1 ∧
  q.page < leField (bunkBytes s q.session) 76 4 ∧ i = leField (bunkBytes s q.session) 72 4 + q.page ∧ i < p.topoCount ∧
  e = peekTopo s i ∧ topoUsable e q.session (leField (bunkBytes s q.session) 68 1 % 16) q.page = true

/-! ## Guyline ports -/

/-- A good copy of a control symbol arrives at port p, on a link that takes it, next in serial order: its payload is pl (R216, R217). -/
def heard (s : State) (p : Fin 10) (type : Nat) (v : W64) (pl : BitVec 40) : Prop :=
  (if type = 3 ∨ type = 4 then s.ports[p].mode ≠ .off ∧ s.ports[p].mode ≠ .down else s.ports[p].live = true) ∧
  fieldN v.toNat 58 6 = type ∧ symbolCheck (symbolEpoch s.ports[p] type) (v.toNat / 2 ^ 12) = v.toNat % 2 ^ 12 ∧
  (∀ last, s.ports[p].rxSer = some last → fieldN v.toNat 52 4 = (last + 1) % 16) ∧ pl = BitVec.ofNat 40 (v.toNat / 2 ^ 12)

/-- The same of a camp symbol, on a port that camp symbols may use (R235). -/
def heardCamp (s : State) (p : Fin 10) (type : Nat) (v : W64) (pl : BitVec 40) : Prop := heard s p type v pl ∧ campPort s p = true

/-- The state with the serial of a symbol noted. -/
def hearing (s : State) (p : Fin 10) (v : W64) : State := modPort s p fun g => { g with rxSer := some (fieldN v.toNat 52 4) }

/-- The three copies of a symbol sent on port p now, each on a lane of its own (R217). -/
def sent3 (s : State) (p : Fin 10) (type : Nat) (pl : BitVec 40) : List Output :=
  (List.range 3).map fun c => .symbol p.val (copyLane s.ports[p] c) (symbolWord s.ports[p] type c s.ports[p].txSer pl)

/-- A pack as port p puts it on the link now: header and payload `b` under sequence number `seq` with CHECK (R206), spread over the active
lanes (R204). -/
def packOut (s : State) (p : Fin 10) (seq : Nat) (b : List Byte) : Output :=
  .pack p.val (spread s.ports[p].lanes s.ports[p].txLane (b ++ leBytes 8 (packCheck s.ports[p].epoch seq b)))

/-- From s to t no port but p has changed. -/
def onlyPort (s t : State) (p : Fin 10) : Prop := ∀ q : Fin 10, q ≠ p → t.ports[q] = s.ports[q]

/-- What a link event may change. -/
def linkMask : Mask := { regs := true, free := true, lantern := true, whistle := true, log := true, logSeq := true, ports := true,
                         out := true }

/-- From s to t the link of port p has begun a retrain (R223). -/
def retrained (s t : State) (p : Fin 10) : Prop :=
  Same linkMask s t ∧ onlyPort s t p ∧ t.ports[p].mode = .retrain ∧ t.ports[p].ident = [] ∧ t.ports[p].phaseAt = s.time

/-! ## Launches -/

/-- A launch is due at count `ta`: armed by TR_LAUNCH_AT, by cycle timer j alone, or by Peg write (R78, R287, R288, R348). -/
def launchDue (s : State) (src : LaunchSource) (ta : Nat) : Prop :=
  compassState s ≠ 0 ∧ ta ≤ nowTicks s ∧ (match src with
    | .register => s.trail.launchArm.map (·.toNat) = some ta
    | .cycle j => s.compass.cycles.getD j.val none = some ta ∧ getField s (Reg.CMP_CYC_CFG j.val) 30 1 = 0
    | .peg => s.trail.pegArm = some ta ∧ ta ≠ 0)

/-! ## Tracks -/

/-- No refresh slot and no far slot keeps track t from a command at beat b (R159, R163). -/
def trackFree (g : Region) (t b : Nat) : Prop := (trackOf g t).slotFree ≤ b ∧ (trackOf g t).farEnd ≤ b

/-- A column command at beat b meets an open row, its contract beats past and the bus free (R152, R153, R156). -/
def columnReady (s : State) (r : Fin 32) (b t bank row : Nat) (write : Bool) : Prop :=
  let k := trackOf s.regions[r] t; let q := bankOf s.regions[r] t bank
  q.mode b (tkRp s r.val) = .opened row ∧ q.actAt + tkRcd s r.val ≤ b ∧ k.busFree ≤ b ∧ trackFree s.regions[r] t b ∧
  (if write then k.writeFree ≤ b else k.readFree ≤ b)

/-- The n lines from column `col` on lie in windows that permit the access (R76). -/
def linesAllowed (s : State) (r : Fin 32) (t bank row col n : Nat) (write : Bool) : Prop :=
  ∀ i, i < n → inBounds s r.val 1 write 0 (hbmAddr r.val t row bank (col + i)) 128 = true

/-- What an action on a track may change. -/
def trackMask : Mask := { regions := true, lantern := true, whistle := true }

/-- Outside one bank of one track the banks of a region are the same. -/
def otherBanks (g h : Region) (t bank : Nat) : Prop :=
  ∀ u k, k < 16 → ¬(u = t ∧ k = bank) → bankOf h u k = bankOf g u k

/-! ## Firewatch -/

/-- The oldest UFM message of a type in this module's sink, with its sender and body (R255, Table 14.4). -/
def ufmHead (s : State) (type : Nat) (e : Nat × List (List Byte)) (src : List Nat) (body : List Byte) : Prop :=
  s.sinks.find? (fun e => e.1 == 2 && fieldN (leField e.2.flatten 0 16) 69 8 == type) = some e ∧
  src = coordOf (fieldN (leField e.2.flatten 0 16) 98 15) ∧ body = e.2.flatten.drop 16

/-! ## Hosts, firmware, power -/

/-- With gate c cleared nothing blocks the message of vector v at port p (R352). -/
def msixOpen (s : State) (p : Fin 2) (c : MsixGate) (v : Nat) : Bool :=
  (decide (c = .function) || s.hosts[p].msix) &&
  ((match c with
    | .vector u => decide (u.toNat = v)
    | _ => false) || !(storeGet 1 s.hosts[p].table (4 * v + 3)).getLsbD 0) &&
  (decide (c = .busMaster) || decide (getField s (Reg.HST_LINK p.val) 18 1 = 1)) && hostUp s p.val

/-- The firmware block accepts opcode `op` from port p, class S or not (R350, R381, R382). -/
def fcAccepts (s : State) (p : Fin 2) (op : Nat) (classS : Bool) : Prop :=
  powered s = true ∧ fcBusy s = false ∧
  (if ready s then classS = true → isSteward s p = true else fcEarly s op = true)

/-- A firmware command of port p has completed with a result (R350). -/
def fcDone (t : State) (p : Fin 2) (seq : BitVec 8) (result : Nat) : Prop :=
  getReg t Reg.FC_STAT = BitVec.ofNat 64 (2 ^ 30 + result * 2 ^ 16 + seq.toNat * 2 ^ 8 + p.val)

/-- The firmware commands that the block may turn away: port, sequence, opcode, class S (Table 15.5). -/
def fcCommand (c : Instr) : Option (Fin 2 × BitVec 8 × Nat × Bool) :=
  match c with
  | .info p q => some (p, q, 0x01, false)
  | .events p q => some (p, q, 0x02, false)
  | .coord p q => some (p, q, 0x03, true)
  | .netCfg p q => some (p, q, 0x04, true)
  | .netLoad p q => some (p, q, 0x05, true)
  | .netPut p q => some (p, q, 0x06, true)
  | .netGet p q => some (p, q, 0x07, true)
  | .tlmCfg p q => some (p, q, 0x08, true)
  | .reset p q => some (p, q, 0x09, true)
  | .attest p q => some (p, q, 0x10, false)
  | .cert p q => some (p, q, 0x11, false)
  | .map p q => some (p, q, 0x12, false)
  | .fwStage p q => some (p, q, 0x13, true)
  | .fwActivate p q => some (p, q, 0x14, true)
  | .selftest p q => some (p, q, 0x15, true)
  | .stStatus p q => some (p, q, 0x16, false)
  | .stCancel p q => some (p, q, 0x17, true)
  | _ => none

/-- What an event that is logged, a count or a register may change. -/
def noteMask : Mask := { regs := true, free := true, whistle := true, log := true, logSeq := true }

/-- From s to t the converters have turned off by a fault of block 15 (R399, R400, R403, R404): the module is as after reset, without step;
PE_LAST and HUB_RESET tell the code, and `power` what turns the converters on again. -/
def poweredDown (s t : State) (code : Nat) (power : PowerState) : Prop :=
  t.startup.power = power ∧ getField t Reg.PE_LAST 48 16 = code ∧ getField t Reg.HUB_RESET 48 16 = code ∧
  getField t Reg.HUB_BOOT 28 4 = 0 ∧ t.pitch = none ∧ t.regions = State.reset.regions ∧ t.hbm = State.reset.hbm ∧
  t.identity = s.identity ∧ t.flash = s.flash ∧ t.pending = s.pending

end Sys2Proof
end

