-- ==== Sys2Proof/Certificates/Slice0/Obligations.lean ====
section
/-!
DEFINITION. Certificates/Slice0/Obligations.lean: what is claimed of the model, family by family of the commands.
-/

open Sys2Proof Sys2Proof.Machine

/-! ## The machine -/

/-- A step takes the command at the front of the queue and runs it on the rest; with no command waiting, time passes: 1/256 of a Compass
tick, in which only the Compass, the held time, Whistle's pending bits and Firewatch's quiet time can change (log entry 3). -/
def Obligations.StepRunsCommand : Prop :=
  (∀ s c rest, s.pending = c :: rest → step s = exec c { s with pending := rest }) ∧
  (∀ s, s.pending = [] → ∃ t, step s = .next t ∧
    Same { regs := true, compass := true, whistle := true, firewatch := true } { s with time := s.time + 1 } t)

/-- What the invariant of `StepKeeps` says of the state after reset, and that nothing waits, no Pitch is applied, the pacer is OFF and no
beat has begun (R28, R37). -/
def Obligations.ResetState : Prop :=
  memoryWf State.reset = true ∧ State.reset.pending = [] ∧ State.reset.pitch = none ∧ State.reset.pacer.mode = .off ∧
  State.reset.pacer.released = 0 ∧ ∀ r : Fin 32, State.reset.regions[r].begun = 0 ∧ State.reset.regions[r].completed = 0

/-- An invariant that every step keeps: HBM and the Barrel stay in their one canonical form, so that equal contents are equal data. What
a step never does: it takes no command but the first, adds none, gives no free value twice, and never changes the factory identity. -/
def Obligations.StepKeeps : Prop :=
  ∀ s t, memoryWf s = true → step s = .next t → memoryWf t = true ∧ t.pending = s.pending.tail ∧ t.identity = s.identity ∧ s.free ≤ t.free

/-- Every action word round trips (Table 3.1, R56): the word of an action that validation accepts is read back as that action, in its
region, with every operand. -/
def Obligations.ActionsRoundTrip : Prop :=
  ∀ i, encodeAction i ≠ 0 → actionCause i = none → ∃ r, decodeAction r (encodeAction i) = some i

/-- No word is read as an action whose coding it is not: reserved bits must be 0 (R56). -/
def Obligations.ReservedBits : Prop :=
  ∀ r w i, decodeAction r w = some i → encodeAction i = w

/-- An action that validation refuses is refused by name with the cause validation gives it, and no state changes (R56, R73). -/
def Obligations.RefusedActions : Prop :=
  ∀ s i c, encodeAction i ≠ 0 → actionCause i = some c → exec i s = .refused (.invalidAction c)

/-- Reading a byte after writing bytes: inside it is the byte written, outside what stood there; in HBM and the Barrel alike. -/
def Obligations.MemoryLaws : Prop :=
  ∀ (m : Memory) a bs b, (m.writeBytes a bs).read b = if a ≤ b ∧ b < a + bs.length then bs.getD (b - a) 0 else m.read b

/-! ## Stoves -/

/-- SLOAD and SMXS (R94, R95): in an open beat, with pipe L free, the plane not in use and the lines within the Sack, the command takes
pipe L for one beat a line, reads line i at beat b + i, and the lines land: weights and weight scales two beats after their read, the
raw values added to an accumulator bank four, the ASB line at b + 5. The plane's OK bit falls at once and rises at b + n + 2. -/
def Obligations.StoveLoads : Prop :=
  (∀ s r b (c : Fin 8) sack line (nrows : BitVec 7), let n := nrows.toNat + 1; let k := clusterSack c.val sack
    let i := Instr.sloadWeights r c sack line nrows; let q := s.regions[r].stoves[c]; let p := !q.act
    beatOpen s r b → actionCause i = none → roomTo s r (b + n + 2) → q.lFree ≤ b → q.inUse p b = false → line.toNat + n ≤ 8192 →
    readsClean s r b i k line.toNat →
    ∃ t, exec i s = .next t ∧ issued s t r i b
      (withStove c fun q => { q.setPlane p (fun w => { w with elemOk := false, rows := w.rows.filter (fun e => decide (e.1 < n)) }) with
        lFree := b + n, landing := max q.landing (b + n + 2) })
      ((b + 2, .planePut c p 0 (sackLine s.regions[r] k line.toNat)) ::
        ((List.range nrows.toNat).map (fun j => (b + (j + 1), Micro.planeRead c p (j + 1) k (line.toNat + (j + 1)))) ++
          [(b + n + 2, .elemOk c p)]))) ∧
  (∀ s r b (c : Fin 8) sack line (nrows : BitVec 7) (acc : BitVec 4), let n := nrows.toNat + 1; let k := clusterSack c.val sack
    let i := Instr.sloadRawAdd r c sack line nrows acc; let q := s.regions[r].stoves[c]
    beatOpen s r b → actionCause i = none → roomTo s r (b + n + 3) → q.lFree ≤ b → line.toNat + n ≤ 8192 →
    readsClean s r b i k line.toNat →
    ∃ t, exec i s = .next t ∧ issued s t r i b (withStove c fun q => { q with lFree := b + n })
      ((b + 4, .accAdd c acc.toNat 0 [accOfRaw (sackLine s.regions[r] k line.toNat)]) ::
        (List.range nrows.toNat).map (fun j => (b + (j + 1), Micro.rawRead c acc.toNat (j + 1) k (line.toNat + (j + 1)))))) ∧
  (∀ s r b (c : Fin 8) sack line, let k := clusterSack c.val sack
    let i := Instr.smxsWeightScales r c sack line; let q := s.regions[r].stoves[c]; let p := !q.act; let w := (q.plane p).wfmt
    let n := scaleLines w
    beatOpen s r b → actionCause i = none → roomTo s r (b + n + 2) → q.lFree ≤ b → q.inUse p b = false → fmtMx w = true →
    line.toNat + n ≤ 8192 → readsClean s r b i k line.toNat →
    ∃ t, exec i s = .next t ∧ issued s t r i b
      (withStove c fun q => { q.setPlane p (fun w => { w with scaleOk := false }) with lFree := b + n, landing := max q.landing (b + n + 2) })
      ((b + 2, .scalePut c p 0 (sackLine s.regions[r] k line.toNat)) ::
        ((List.range (n - 1)).map (fun j => (b + (j + 1), Micro.scaleRead c p (j + 1) k (line.toNat + (j + 1)))) ++
          [(b + n + 2, .scaleOk c p)]))) ∧
  (∀ s r b (c : Fin 8) sack line, let k := clusterSack c.val sack; let i := Instr.smxsAsb r c sack line
    let q := s.regions[r].stoves[c]
    beatOpen s r b → actionCause i = none → roomTo s r (b + 5) → q.lFree ≤ b → readsClean s r b i k line.toNat →
    ∃ t, exec i s = .next t ∧ issued s t r i b (withStove c fun q => { q with lFree := b + 1 })
      [(b + 5, .asbPut c (sackLine s.regions[r] k line.toNat))])

/-- SFMT (R96): the formats are set at b + 1; with KEYLD the rounding key and counter are loaded at b + 3 from the line read at b. SMAC
(R97): the n vectors are read one a beat, in class C one every second beat; FLIP swaps the planes first; the array is taken until the last
vector has entered it, and the plane two beats longer. Vector v goes to bank (ACC + v) mod 16. -/
def Obligations.StoveFormatsAndMultiplies : Prop :=
  (∀ s r b (c : Fin 8) wfmt afmt both keyld sack line, let k := clusterSack c.val sack
     let i := Instr.sfmt r c wfmt afmt both keyld sack line; let q := s.regions[r].stoves[c]
     let set : Nat × Micro := (b + 1, .stoveFmt c wfmt.toNat afmt.toNat both)
     let v := sackLine s.regions[r] k line.toNat
     beatOpen s r b → actionCause i = none → roomTo s r (b + 3) → (wfmt ≠ 0 → q.lFree ≤ b ∧ q.landing ≤ b) →
     (keyld = true → readsClean s r b i k line.toNat) →
     ∃ t, exec i s = .next t ∧ issued s t r i b (fun g => g) (if keyld then
       [set, (b + 3, .stoveKey c (v.extractLsb' 0 32) (v.extractLsb' 32 32) (v.extractLsb' 64 32) (v.extractLsb' 128 64))] else [set])) ∧
  (∀ s r b (c : Fin 8) sack line acc nvec asb flip cls, let n := nvec.toNat + 1; let k := clusterSack c.val sack
     let i := Instr.smac r c sack line acc nvec asb flip; let q := s.regions[r].stoves[c]; let p := if flip then !q.act else q.act
     let w := (q.plane p).wfmt
     let step := FmtClass.bpv cls
     beatOpen s r b → actionCause i = none → roomTo s r (b + 2 + n * step) → q.mFree ≤ b → (q.plane p).elemOk = true →
     (q.plane p).scaleOk = true → fmtClass q.afmt = some cls → fmtClass w = some cls → line.toNat + n ≤ 8192 →
     readsClean s r b i k line.toNat →
     ∃ t, exec i s = .next t ∧ issued s t r i b
       (withStove c fun q => { q with
         act := p, mFree := b + n * step
         useEnd0 := if p then q.useEnd0 else max q.useEnd0 (b + 2 + n * step)
         useEnd1 := if p then max q.useEnd1 (b + 2 + n * step) else q.useEnd1 })
       ((b + 2, .macArrive c p w q.afmt (acc.toNat % 16) asb.toNat (3 + step) (sackLine s.regions[r] k line.toNat)) ::
         (List.range nvec.toNat).map (fun j => (b + (j + 1) * step, Micro.macRead c p w q.afmt ((acc.toNat + (j + 1)) % 16)
           (asb.toNat + (j + 1) * (cls.kt / 32)) k (line.toNat + (j + 1))))))

/-- SOUT (R98): bank ACC is rounded into OFMT, exactly or with one draw a row (R90); element line i is written at b + 5 + i and the
scale bytes one beat before the pipe is free at b + 5 + W; with CLR the bank is cleared, and with draws the counter moves on by 128.
SCLR (R99): banks, ASB, planes and key are cleared at once. -/
def Obligations.StoveResults : Prop :=
  (∀ s r b (c : Fin 8) acc sack line ofmt rmode sat clr oscale sline o, let k := clusterSack c.val sack
    let i := Instr.sout r c acc sack line ofmt rmode sat clr oscale sline; let q := s.regions[r].stoves[c]
    let rows := tab 128 fun j => (storeGet Acc.zero q.acc (128 * acc.toNat + j),
      if rmode then RMode.draw (kindling (indexCtr (q.eidx + BitVec.ofNat 64 j) q.tid 0xFFFFFFFF) q.k0 q.k1).c0 else .rne)
    let out := soutLines o sat oscale.toInt rows
    beatOpen s r b → actionCause i = none → roomTo s r (b + 5 + out.1.length + o.width) → q.oFree ≤ b → ofmtOf ofmt.toNat = some o →
    line.toNat + o.lines ≤ 8192 →
    ∃ t, exec i s = .next t ∧ issued s t r i b
      (withStove c fun q => { q with
        oFree := b + o.width
        acc := if clr then q.acc.filter (fun e => decide (e.1 / 128 ≠ acc.toNat)) else q.acc
        eidx := if rmode && o != .raw then q.eidx + 128 else q.eidx })
      (out.1.mapIdx (fun j v => (b + 5 + j, Micro.sackPut k (line.toNat + j) v fullMask)) ++
        if o.mx then [(b + 4 + o.width, .sackPut k sline.toNat (BitVec.ofNat 1024 out.2) 15)] else [])) ∧
  (∀ s r b (c : Fin 8) banks asb planes key, let i := Instr.sclr r c banks asb planes key; let q := s.regions[r].stoves[c]
    beatOpen s r b → actionCause i = none →
    (planes = true → q.lFree ≤ b ∧ q.landing ≤ b ∧ q.inUse false b = false ∧ q.inUse true b = false) →
    ∃ t u, exec i s = .next t ∧ issued s t r i b (withStove c u) [] ∧
      ((u q).acc = q.acc.filter (fun e => !banks.getLsbD (e.1 / 128))) ∧ ((u q).asb = if asb then [] else q.asb) ∧
      ((planes = true → ∀ p, (u q).plane p = { q.plane p with rows := [], scales := [], elemOk := false, scaleOk := false }) ∧
        (planes = false → ∀ p, (u q).plane p = q.plane p)) ∧
      ((u q).k0, (u q).k1, (u q).tid, (u q).eidx) = (if key then (0, 0, 0, 0) else (q.k0, q.k1, q.tid, q.eidx)) ∧
      ((u q).act, (u q).afmt, (u q).lFree, (u q).mFree, (u q).oFree) = (q.act, q.afmt, q.lFree, q.mFree, q.oFree))

/-! ## Kettles -/

/-- The Kettle commands of the common layout (R105): operand A, where it is in Sacks, is read at beat b; the operation reads its registers
at b + 2. KRNG takes its counter and key at b, and with ADV moves EIDX on by 64 (R118). KSR (R119): mode 0 puts a Sack line in a register
half, mode 1 a register half in a Sack line, mode 2 copies a register, each at b + 2; mode 3 loads the random key at b + 3. -/
def Obligations.KettleCommands : Prop :=
  (∀ s r b u op o i, kettleForm i = some (r, u, op, o) → beatOpen s r b → actionCause i = none → roomTo s r (b + 2) →
     (∀ e ∈ kettleLines u op o, readsClean s r b i e.1 e.2) →
     let k := s.regions[r].kettles[u]
     let key := if op = .krng then some (indexCtr k.eidx k.stream k.step, k.k0, k.k1) else none
     let adv : Bool := op = .krng && o.func.toNat / 8 % 2 = 1
     ∃ t, exec i s = .next t ∧ issued s t r i b (withKettle u fun k => if adv then { k with eidx := k.eidx + 64 } else k)
       [(b + 2, .kexec u op o (kettleOperand s.regions[r] u op o) key)]) ∧
  ((∀ s r b (u : Fin 16) sack line reg half, let k := clusterSack (u.val / 2) sack; let i := Instr.ksrSackToRegister r u sack line reg half
     beatOpen s r b → actionCause i = none → roomTo s r (b + 2) → readsClean s r b i k line.toNat →
     ∃ t, exec i s = .next t ∧ issued s t r i b (fun g => g)
       [(b + 2, .khalfPut u reg.toNat half (sackLine s.regions[r] k line.toNat))]) ∧
   (∀ s r b (u : Fin 16) sack line reg half, let k := clusterSack (u.val / 2) sack; let i := Instr.ksrRegisterToSack r u sack line reg half
     beatOpen s r b → actionCause i = none → roomTo s r (b + 2) →
     ∃ t, exec i s = .next t ∧ issued s t r i b (fun g => g) [(b + 2, .ksrStore u reg.toNat half k line.toNat)]) ∧
   (∀ s r b (u : Fin 16) dst src bcast lane, let i := Instr.ksrRegisterCopy r u dst src bcast lane
     beatOpen s r b → actionCause i = none → roomTo s r (b + 2) →
     ∃ t, exec i s = .next t ∧ issued s t r i b (fun g => g)
       [(b + 2, .kcopy u dst.toNat src.toNat (if bcast then some lane.toNat else none))]) ∧
   (∀ s r b (u : Fin 16) sack line, let k := clusterSack (u.val / 2) sack; let i := Instr.ksrKeyLoad r u sack line
     let v := sackLine s.regions[r] k line.toNat
     beatOpen s r b → actionCause i = none → roomTo s r (b + 3) → readsClean s r b i k line.toNat →
     ∃ t, exec i s = .next t ∧ issued s t r i b (fun g => g)
       [(b + 3, .kkeyPut u (v.extractLsb' 0 32) (v.extractLsb' 32 32) (v.extractLsb' 64 32) (v.extractLsb' 96 32) (v.extractLsb' 128 64))]))

/-! ## Sacks and faces -/

/-- SWR (R127): mode 0 writes IMM into every 16-bit unit of n lines; mode 1 writes one line with COUNT, MARK and ERR of a Peg as they are
at b; each line is written a beat on, a snapshot 12 beats later to a detoured cluster (R67). Modes 2 and 3, and mode 1 with more than one
line, are refused. -/
def Obligations.SwrWrites : Prop :=
  (∀ s r b (k : Fin 32) line nlines imm, let n := nlines.toNat + 1; let i := Instr.swrFill r k line nlines imm
    beatOpen s r b → actionCause i = none → roomTo s r (b + n) → line.toNat + n ≤ 8192 →
    ∃ t, exec i s = .next t ∧ issued s t r i b (fun g => g) ((List.range n).map fun j => (b + 1 + j,
      .sackPut k.val (line.toNat + j) (BitVec.ofNat 1024 (packBits 16 (List.replicate 64 imm.toNat))) fullMask))) ∧
  (∀ s r b (k : Fin 32) line peg, let i := Instr.swrPegSnapshot r k line peg
    let delay := 1 + detourBeats s r none (sackCluster k.val); let q := pegOf s.regions[r] peg.toNat
    beatOpen s r b → actionCause i = none → roomTo s r (b + delay) →
    ∃ t, exec i s = .next t ∧ issued s t r i b (fun g => g) [(b + delay, .sackPut k.val line.toNat
      (BitVec.ofNat 1024 (q.count.toNat + q.mark.toNat * 2 ^ 32 + bit1 q.err * 2 ^ 64)) fullMask)]) ∧
  (∀ r (w : BitVec 64), let unit := (wordField w 58 6).toNat; let mode := (wordField w 22 2).toNat
    24 ≤ unit → unit < 56 → wordField w 50 8 = 2 → 2 ≤ mode ∨ (mode = 1 ∧ wordField w 24 13 ≠ 0) →
    decodeAction r w = none ∧ wordCause r w = some 0x17)

/-- SRD (R126) and SGATH (R128): lines read one a beat are written four beats on, those of a gather from two beats after its index line is
read; a path with one end in a detoured cluster takes 12 beats more (R67). -/
def Obligations.SackMoves : Prop :=
  (∀ s r b (k : Fin 32) dsack line dline nlines, let n := nlines.toNat + 1; let i := Instr.srd r k dsack line dline nlines
    let delay := 4 + detourBeats s r (sackCluster k.val) (sackCluster dsack.toNat)
    beatOpen s r b → actionCause i = none → roomTo s r (b + n + delay) → line.toNat + n ≤ 8192 → dline.toNat + n ≤ 8192 →
    readsClean s r b i k.val line.toNat →
    ∃ t, exec i s = .next t ∧ issued s t r i b (fun g => g)
      ((b + delay, .sackPut dsack.toNat dline.toNat (sackLine s.regions[r] k.val line.toNat) fullMask) ::
        (List.range nlines.toNat).map (fun j => (b + (j + 1),
          Micro.move k.val (some (line.toNat + (j + 1))) (.sack dsack.toNat (dline.toNat + (j + 1)) delay))))) ∧
  (∀ s r b (k : Fin 32) iline dsack dline base wbits nidx, let n := nidx.toNat + 1
    let i := Instr.sgath r k iline dsack dline base wbits nidx
    let delay := 4 + detourBeats s r (sackCluster k.val) (sackCluster dsack.toNat); let v := sackLine s.regions[r] k.val iline.toNat
    beatOpen s r b → actionCause i = none → roomTo s r (b + 2 + n + delay) → dline.toNat + n ≤ 8192 →
    readsClean s r b i k.val iline.toNat →
    ∃ t, exec i s = .next t ∧ issued s t r i b (fun g => g) ((List.range n).map fun j => (b + 2 + j, .move k.val
      (if lineField v (4 * j) 4 < 2 ^ wbits.toNat then some (32 * base.toNat + lineField v (4 * j) 4) else none)
      (.sack dsack.toNat (dline.toNat + j) delay))))

/-- PASS (R131) and SEND (R132) through a Pole or Ridge face: the line read at b leaves at once as an entry due L beats on (R32), or 12
beats later from a detoured cluster (R67); the others follow one a beat. SEND at the home port enters it eight beats on. -/
def Obligations.FaceSends : Prop :=
  (∀ s r b (f : Fin 7) n j ssack sline dsack dline nlines, let m := nlines.toNat + 1
    let i := Instr.pass r f ssack sline dsack dline nlines; let extra := detourBeats s r (sackCluster ssack.toNat) none
    let v := sackLine s.regions[r] ssack.toNat sline.toNat
    let rest := (List.range nlines.toNat).map (fun j => (b + (j + 1), Micro.move ssack.toNat (some (sline.toNat + (j + 1)))
      (.face f.val (sideLine dsack.toNat (dline.toNat + (j + 1))) extra)))
    beatOpen s r b → actionCause i = none → roomTo s r (b + m + extra) → sline.toNat + m ≤ 8192 → dline.toNat + m ≤ 8192 →
    readsClean s r b i ssack.toNat sline.toNat →
    (extra = 0 → crossingFree s r b f.val n j → ∃ t, exec i s = .next t ∧ crossed s t r i b f.val n j
      (entryOf (sideLine dsack.toNat dline.toNat) v b f.val i) rest) ∧
    (extra ≠ 0 → (∀ u ∈ s.regions[r].faces, u.1 ≠ f.val) →
      ∃ t, exec i s = .next t ∧ issued s t r i b (fun g => { g with faces := g.faces ++ [(f.val, actionSlot i)] })
        ((b + extra, .facePut f.val (sideLine dsack.toNat dline.toNat) (some b) v) :: rest))) ∧
  (∀ s r b (f : Fin 7) n j ssack sline wid seq0 nlines, let m := nlines.toNat + 1
    let i := Instr.send r f ssack sline wid seq0 nlines; let extra := detourBeats s r (sackCluster ssack.toNat) none
    let v := sackLine s.regions[r] ssack.toNat sline.toNat
    let seq (j : Nat) := (seq0.toNat + j) % 2 ^ 16
    let rest (d : Nat → Dest) := (List.range nlines.toNat).map (fun j => (b + (j + 1),
      Micro.move ssack.toNat (some (sline.toNat + (j + 1))) (d (j + 1))))
    beatOpen s r b → actionCause i = none → roomTo s r (b + m + extra + 8) → sline.toNat + m ≤ 8192 →
    readsClean s r b i ssack.toNat sline.toNat →
    (f ≠ 6 → extra = 0 → crossingFree s r b f.val n j → ∃ t, exec i s = .next t ∧ crossed s t r i b f.val n j
      (entryOf (sideWin wid.toNat (seq 0)) v b f.val i) (rest fun j => .face f.val (sideWin wid.toNat (seq j)) extra)) ∧
    (f ≠ 6 → extra ≠ 0 → (∀ u ∈ s.regions[r].faces, u.1 ≠ f.val) →
      ∃ t, exec i s = .next t ∧ issued s t r i b (fun g => { g with faces := g.faces ++ [(f.val, actionSlot i)] })
        ((b + extra, .facePut f.val (sideWin wid.toNat (seq 0)) (some b) v) ::
          rest fun j => .face f.val (sideWin wid.toNat (seq j)) extra)) ∧
    (f = 6 → (∀ u ∈ s.regions[r].faces, u.1 ≠ 6) →
      ∃ t, exec i s = .next t ∧ issued s t r i b (fun g => { g with faces := g.faces ++ [(6, actionSlot i)] })
        ((b + (8 + extra), .portPut wid.toNat (seq 0) b v) :: rest fun j => .guyline wid.toNat (seq j) (8 + extra))))

/-- RWIN (R133): a window opens or closes at the end of the beat and keeps DROP. THRU (R134): in force for n beats from b. -/
def Obligations.WindowsAndThru : Prop :=
  (∀ s r b (f : Fin 7) wid dsack base len peg, let i := Instr.rwinOpen r f wid dsack base len peg
    beatOpen s r b → actionCause i = none → s.tarp.struck = false → base.toNat + len.toNat + 1 ≤ 8192 →
    ∃ t, exec i s = .next t ∧ issued s t r i b (withWindow f.val wid.toNat
      { isOpen := true, dsack := dsack.toNat, base := base.toNat, len := len.toNat + 1, peg := peg.toNat, drop := false }) []) ∧
  (∀ s r b (f : Fin 7) wid, let i := Instr.rwinClose r f wid
    beatOpen s r b → actionCause i = none →
    ∃ t, exec i s = .next t ∧ issued s t r i b (withWindow f.val wid.toNat Window.closed) []) ∧
  (∀ s r b (f : Fin 7) inn nbeats dly, let i := Instr.thru r f inn nbeats dly
    let h : Thru := { out := f.val, inn := inn.toNat, first := b, last := b + nbeats.toNat, dly := dly.toNat }
    beatOpen s r b → actionCause i = none →
    ∃ t, exec i s = .next t ∧ issued s t r i b
      (fun g => { g with thrus := g.thrus.filter (fun u => decide (b ≤ u.last) && decide (u ≠ h)) ++ [h] }) [])

/-! ## Pegs -/

/-- PINC, PSET, PERR and PARM (R136, R137, R142) act at the end of their beat, b + 1: COUNT gains the amount, or on a HOSTW Peg
is what the hazard of R137 leaves; COUNT or MARK takes the value; ERR is set or cleared; the Peg arms with THR, past MARK with REL, or
disarms. What a Peg effect does when it takes place (R136, R137, R142): outside HOSTW an increment is added modulo 2^32, the others set
their field; nothing else of the region, and no memory, changes. -/
def Obligations.PegActionsAndEffects : Prop :=
  ((∀ s r b (peg : BitVec 9) amount, let i := Instr.pinc r peg amount
     beatOpen s r b → actionCause i = none → roomTo s r (b + 1) →
     ∃ t, exec i s = .next t ∧ issued s t r i b (fun g => g)
       [(b + 1, if pegHostw s r.val peg.toNat then .pegCount peg.toNat 0 else .pegInc peg.toNat amount.toNat)]) ∧
   (∀ s r b (peg : BitVec 9) value, let i := Instr.psetCount r peg value
     beatOpen s r b → actionCause i = none → roomTo s r (b + 1) →
     ∃ t, exec i s = .next t ∧ issued s t r i b (fun g => g) [(b + 1, .pegCount peg.toNat value)]) ∧
   (∀ s r b (peg : BitVec 9) value, let i := Instr.psetMark r peg value
     beatOpen s r b → actionCause i = none → roomTo s r (b + 1) →
     ∃ t, exec i s = .next t ∧ issued s t r i b (fun g => g) [(b + 1, .pegMark peg.toNat value)]) ∧
   (∀ s r b (peg : BitVec 9), let i := Instr.perrSet r peg
     beatOpen s r b → actionCause i = none → roomTo s r (b + 1) →
     ∃ t, exec i s = .next t ∧ issued s t r i b (fun g => g) [(b + 1, .pegErr peg.toNat true)]) ∧
   (∀ s r b (peg : BitVec 9), let i := Instr.perrClear r peg
     beatOpen s r b → actionCause i = none → roomTo s r (b + 1) →
     ∃ t, exec i s = .next t ∧ issued s t r i b (fun g => g) [(b + 1, .pegErr peg.toNat false)]) ∧
   (∀ s r b (peg : BitVec 9) rel nsrc thr, let i := Instr.parmArm r peg rel nsrc thr
     beatOpen s r b → actionCause i = none → roomTo s r (b + 1) →
     ∃ t, exec i s = .next t ∧ issued s t r i b (fun g => g) [(b + 1, .pegArm peg.toNat nsrc.toNat
       (if rel then (pegOf s.regions[r] peg.toNat).mark.toNat + thr.toNat else thr.toNat))]) ∧
   (∀ s r b (peg : BitVec 9), let i := Instr.parmDisarm r peg
     beatOpen s r b → actionCause i = none → roomTo s r (b + 1) →
     ∃ t, exec i s = .next t ∧ issued s t r i b (fun g => g) [(b + 1, .pegDisarm peg.toNat)])) ∧
  (∀ x s p,
     (∀ n, (pegOf s.regions[x.r] p).count.toNat + n < 2 ^ 32 ∨ pegHostw s x.r.val p = true →
       pegChange x s p (.pegInc p n) fun q => { q with count := q.count + BitVec.ofNat 32 n }) ∧
     (pegHostw s x.r.val p = false → ∀ v, pegChange x s p (.pegCount p v) (fun q => { q with count := v }) ∧
       pegChange x s p (.pegMark p v) fun q => { q with mark := v }) ∧
     (pegHostw s x.r.val p = false → ∀ on, pegChange x s p (.pegErr p on) fun q => { q with err := on }) ∧
     (∀ n thr, pegChange x s p (.pegArm p n thr) fun q => { q with armed := true, nsrc := n, thr := BitVec.ofNat 32 thr }) ∧
     pegChange x s p (.pegDisarm p) fun q => { q with armed := false })

/-- PWAIT (R138 to R141). Satisfied, it changes at most its Peg's MARK, moved on by T with ADV. Unsatisfied, it withholds its slot's
acknowledgement and raises the hold of its beat: a running pacer is HELD at once, x the last permit released. On a Peg with ERR set it is
fault 0x2601. A recheck that finds it satisfied ends the wait, and the slot acknowledges; a wait that has lasted RG_PEG_WLIM ticks is
fault 0x2603 (R140). -/
def Obligations.PegWaits : Prop :=
  (∀ s r b (peg : BitVec 9) rel adv thr, let i := Instr.pwait r peg rel adv thr; let p := peg.toNat; let q := pegOf s.regions[r] p
    beatOpen s r b → actionCause i = none → pegAlloc s r.val p = true →
    (q.err = false → waitOk q rel thr.toNat = true →
      ∃ t, exec i s = .next t ∧ Same { regs := true, regions := true, zipper := true, whistle := true, lantern := true } s t ∧
        t.regions = s.regions.set r (if adv then withPeg p (fun q => { q with mark := q.mark + BitVec.ofNat 32 thr.toNat }) s.regions[r]
          else s.regions[r])) ∧
    (q.err = false → waitOk q rel thr.toNat = false → s.tarp.struck = false → (∀ h ∈ s.tarp.holds, h.own = true → h.a ≠ b) →
      s.tarp.holds.length < 16 →
      ∃ t, exec i s = .next t ∧
        t.regions = s.regions.set r { s.regions[r] with waits := s.regions[r].waits ++ [(61, .pwait p rel adv thr.toNat s.time)] } ∧
        t.tarp.holds = s.tarp.holds ++ [{ origin := selfIndex s, a := b, own := true, causes := [.wait r] }] ∧
        (s.pacer.mode = .run → t.pacer = { s.pacer with mode := .held } ∧ t.tarp.x = s.pacer.released - 1)) ∧
    (q.err = true → unstruck s → ∃ t, exec i s = .next t ∧ struckBy s t 0x2601 r.val 61 0 b)) ∧
  (∀ s r p rel adv thr since k, let q := pegOf s.regions[r] p
    s.regions[r].waits = [(61, .pwait p rel adv thr since)] → s.tarp.struck = false → q.err = false → waitOk q rel thr = true →
    s.regions[r].rowWait = false → s.regions[r].held.getLsbD 61 = false → s.regions[r].asleep.getLsbD 61 = false →
    k < 64 → k ≠ 61 → s.regions[r].acked.getLsbD k = false →
    ∃ t h, exec (.pwaitRecheck r) s = .next t ∧ t.regions = s.regions.set r
      { (if adv then withPeg p (fun q => { q with mark := q.mark + BitVec.ofNat 32 thr }) s.regions[r] else s.regions[r]) with
        waits := [], hangFrom := h, acked := s.regions[r].acked ||| (1#64 <<< 61) }) ∧
  (∀ s r slot w, s.regions[r].waits = [(slot, w)] → getField s (Reg.RG_PEG_WLIM r.val) 0 32 ≠ 0 →
    getField s (Reg.RG_PEG_WLIM r.val) 0 32 * 256 ≤ s.time - w.since → unstruck s →
    ∃ t, exec (.pegWaitLimit r) s = .next t ∧ struckBy s t 0x2603 r.val slot 0 (lastBeat s.regions[r]))

/-! ## Pacer and beats -/

/-- The pacer (R37 to R40, R44 to R47). A permit that is due is released, in RUN and in CAL. At the first tick of an epoch the ending
epoch's permits are made up to exactly PACE_N, PACE_CAP takes the capability, the core voltage follows, and the pace armed for the epoch
comes into force; a raise that the capability does not meet does so too, and is late (VLATE). PACE_ARM takes a pace within the grade and
the design pace, far enough ahead, and else sets PACE_ERR; PACE_CANCEL drops what is armed. -/
def Obligations.PacerRuns : Prop :=
  (∀ s u, (s.pacer.mode = .run ∧ s.tarp.struck = false ∨ s.pacer.mode = .cal) → s.pacer.stopAt = none → s.pacer.resuming = false →
    permitTime s = some u → u ≤ pacerNow s →
    ∃ l, exec .permitRelease s = .next { s with pacer := { s.pacer with released := s.pacer.released + 1, lagPeak := l } }) ∧
  (∀ s cap top mv e0 b0 n, let e := nowUnits s / 262144
    nowUnits s % 262144 < 256 → s.pacer.epochSeen ≠ some e → s.compass.valid = true → s.pacer.mode = .run → s.tarp.struck = false →
    s.pacer.stopAt = none → s.pacer.resuming = false → s.pacer.base = some (e0, b0) → s.pacer.released ≤ b0 + s.pacer.n →
    s.pitch.isSome = true → s.pacer.pend = some (n, e) → s.pacer.n ≤ cap.toNat →
    let ready := decide (capNeeded s ≤ cap.toNat)
    (n ≤ s.pacer.n ∨ ready = true → ∃ l, exec (.paceEpochBoundary cap top mv) s =
      .next { setReg s Reg.PACE_CAP (BitVec.ofNat 64 cap.toNat) with pacer := { s.pacer with
        epochSeen := some e, onLocal := false, vready := ready, released := b0 + s.pacer.n, base := some (e, b0 + s.pacer.n), pend := none
        n := n, volt := (followVolt s mv.toNat).pacer.volt, voltAt := s.time, lagPeak := l } }) ∧
    (s.pacer.n < n → ready = false → ∃ t, exec (.paceEpochBoundary cap top mv) s = .next t ∧ t.pacer.n = n ∧ t.pacer.pend = none ∧
      getReg t Reg.PACE_ERR = getReg s Reg.PACE_ERR ||| 0x8)) ∧
  (∀ s v, let n := getField s Reg.PACE_NEXT 0 14; let e := fieldN v.toNat 0 54
    s.pitch = none → 1311 ≤ n → n ≤ gradeMax s → nowEpoch s + 4 ≤ e →
    ∃ t, exec (.paceArm .ranger (.whole v)) s = .next t ∧ Same { regs := true, pacer := true } s t ∧
      t.pacer = { s.pacer with pend := some (n, e) } ∧ getReg t Reg.PACE_AT = v &&& 0x003FFFFFFFFFFFFF) ∧
  (∀ s v, let n := getField s Reg.PACE_NEXT 0 14
    s.pitch = none → n < 1311 ∨ gradeMax s < n →
    ∃ t, exec (.paceArm .ranger (.whole v)) s = .next t ∧ t.pacer = s.pacer ∧
      getReg t Reg.PACE_ERR = getReg s Reg.PACE_ERR ||| 1) ∧
  (∀ s, exec (.paceCancel .ranger) s = .next { s with pacer := { s.pacer with pend := none } })

/-- A lag past PACE_LAG_MAX raises a hold: the pacer is HELD at once (R42). A beat not completed within PACE_HANG ticks, outside a declared
wait, is fault 0x3102, of level 3: the module resets (R43). -/
def Obligations.LagAndHang : Prop :=
  (∀ s, s.pacer.mode = .run → s.tarp.struck = false → getField s Reg.PACE_LAG_MAX 0 11 < (moduleLag s).1 →
    (∀ h ∈ s.tarp.holds, h.own = true → h.a ≠ s.pacer.released - 1) → s.tarp.holds.length < 16 →
    ∃ t, exec .lagCeilingHold s = .next t ∧ t.regions = s.regions ∧ t.pacer = { s.pacer with mode := .held } ∧
      t.tarp.x = s.pacer.released - 1 ∧ t.tarp.holds =
        s.tarp.holds ++ [{ origin := selfIndex s, a := s.pacer.released - 1, own := true, causes := [.lag] }]) ∧
  (∀ s r, s.regions[r].completed < s.regions[r].begun → s.regions[r].waits = [] → s.regions[r].held = 0 →
    s.regions[r].asleep = 0 →
    getField s Reg.PACE_HANG 0 24 * 256 ≤ s.time - s.regions[r].hangFrom → getField s Reg.HUB_BOOT 22 2 = 1 →
    ∃ t, exec (.beatHang r) s = .next t ∧ resetBy s t 0x3102)

/-- A region begins no beat before its permit, before every neighbour has completed the fourth beat before it, where it is barred, or
before its last beat has completed (R28, R63, R165, R193, R260, R327, R328). It completes a beat when its last slot has acknowledged it,
and not before (R28). -/
def Obligations.BeatGuards : Prop :=
  (∀ s r t, exec (.beginBeat r) s = .next t → t.regions[r].begun ≠ s.regions[r].begun →
    let n := s.regions[r].begun
    n ≤ s.regions[r].completed ∧ n < s.pacer.released ∧ beatBarred s s.regions[r] n = false ∧
      ∀ k ∈ neighbours r.val, n ≤ s.regions[regionFin k].completed + 3) ∧
  (∀ s r (slot : Fin 64) k, let g := s.regions[r]; let a := g.acked ||| (1#64 <<< slot.val)
    g.completed < g.begun → g.rowWait = false → (withheld g).getLsbD slot.val = false → (∀ e ∈ g.waking, e.1 ≠ slot.val) →
    (k < 64 → a.getLsbD k = false → exec (.unitAcknowledge r slot) s =
      .next { s with regions := s.regions.set r { g with acked := a } }) ∧
    (a = BitVec.allOnes 64 → s.pacer.stopAt = none → s.tarp.holds = [] → s.trail.crossroad = none → s.trail.logDue = none →
      zipWindows s = false → ∃ t, exec (.unitAcknowledge r slot) s = .next t ∧ t.regions[r].begun = g.begun ∧ t.regions[r].completed = g.begun))

/-- A beat (R28, R29, R32, R330). Begun with no row to issue and nothing due, it takes its number and, where no arrival is due either,
completes at once; with an arrival due it waits for it. An arrival is taken from its crossing, and its line is stored. A unit whose next action is far enough goes idle. -/
def Obligations.BeatsRun : Prop :=
  (∀ s r, let g := s.regions[r]; let n := g.begun
    g.completed = n → g.rowWait = false → beatBarred s g n = false → n < s.pacer.released →
    slackOk s r n = true → (∀ d ∈ g.due, d.beat ≠ n) → (∀ e ∈ g.banks, e.2.pre ≠ some n) → g.waits = [] → g.pegLater = [] →
    g.fetch.active = false → s.trail.nexts = [] →
    (arrivalDue g n = true → ∃ t, exec (.beginBeat r) s = .next t ∧
      Same { regions := true, pacer := true, lantern := true, whistle := true } s t ∧
      t.regions[r].begun = n + 1 ∧ t.regions[r].completed = n ∧ t.regions[r].rowWait = true) ∧
    (arrivalDue g n = false → s.pacer.stopAt = none → s.tarp.holds = [] → s.trail.crossroad = none → s.trail.logDue = none →
      zipWindows s = false → ∃ t, exec (.beginBeat r) s = .next t ∧ t.regions[r].begun = n + 1 ∧ t.regions[r].completed = n + 1)) ∧
  (∀ s r (i : Fin 6) e rest, let g := s.regions[r]; let k := fieldN e.side.toNat 51 5; let line := fieldN e.side.toNat 38 13
    g.rowWait = true → g.xings[i] = e :: rest → e.due = lastBeat g → e.alt = none → parityHolds e.side e.data = true →
    sideKind e.side = 1 → g.thrus = [] →
    detourBeats s r (sackCluster k) none = 0 → g.writers = [] → guylineOwned g k = false →
    arrivalDue { g with xings := g.xings.set i rest } (lastBeat g) = true →
    ∃ t, exec (.crossingArrival r i none) s = .next t ∧
      Same { regions := true, flaws := true, zipper := true, lantern := true, whistle := true } s t ∧ t.regions[r].xings[i] = rest ∧
      sackLine t.regions[r] k line = e.data) ∧
  (∀ s r (slot : Fin 64), gapClear s r [slot.val] 8 = true → exec (.unitIdleEntry r slot 1) s =
    .next { s with regions := s.regions.set r { s.regions[r] with
      idleOf := storePut s.regions[r].idleOf slot.val 1, waking := storeDel s.regions[r].waking slot.val } })

/-! ## Region control -/

/-- Region control (R58, R146). CIDLE makes the next rows empty; CREP runs the next k stored rows m times; CHLT ends the region's segment
and stops the pacer after its beat, and with SETSEG names the segment and gear of the next launch. -/
def Obligations.RegionControl : Prop :=
  (∀ s r b count, let i := Instr.cidle r count
    beatOpen s r b → actionCause i = none →
    ∃ t, exec i s = .next t ∧ issued s t r i b (fun g => { g with fetch := { g.fetch with idle := count.toNat } }) []) ∧
  (∀ s r b body total, let i := Instr.crep r body total; let f := s.regions[r].fetch
    beatOpen s r b → actionCause i = none →
    ∃ t, exec i s = .next t ∧ issued s t r i b (fun g => { g with fetch := { g.fetch with loops :=
      { first := f.pos, stop := skipRows (rowWords s r.val f) body.toNat f.pos, left := total.toNat - 1 } :: f.loops } }) []) ∧
  (∀ s r b setseg gear seg, let i := Instr.chlt r setseg gear seg
    beatOpen s r b → actionCause i = none → (∀ p, homePort r.val = some p → s.ports[Fin.ofNat 10 p].through = []) →
    ∃ t, exec i s = .next t ∧ Same { regs := true, pacer := true, regions := true, lantern := true, whistle := true } s t ∧
      t.pacer = { s.pacer with stopAt := some b, stopCloses := false } ∧
      t.regions = s.regions.set r { s.regions[r] with fetch := { s.regions[r].fetch with active := false } } ∧
      ∀ k, getReg t k = if setseg = true ∧ k = Reg.TR_LAUNCH_SEG then BitVec.ofNat 64 (gear.toNat * 2 ^ 12 + seg.toNat) else getReg s k)

/-- A boundary (R62, R63), with nothing left due in the region and no record waiting for a THRU of it. It ends the region's segment. In the region of its Peg the Peg is read:
ERR set is fault 0x2226, no such successor 0x2220, a reserved kind 0x2225; else, where no vote is needed, the successor is taken, its gear
no more than the segment has, and TR_BND counts the boundary; a STOP entry stops the pacer after this beat and names the next launch. -/
def Obligations.BoundaryTaken : Prop :=
  ∀ s r b (peg : BitVec 14) (shift : BitVec 5), let i := Instr.cbnd r peg shift; let g := s.regions[r]; let f := g.fetch
    let q := pegOf g (peg.toNat % 512); let k := (q.count >>> shift.toNat).toNat % 16; let sg := segOf s f.seg
    let e := sg.succ.getD k 0; let kind := fieldN e.toNat 62 2; let at_ := fieldN e.toNat 56 4
    let gear := min (if at_ ≤ 3 then at_ else f.gear) (gearsOf s (fieldN e.toNat 44 12) - 1)
    beatOpen s r b → actionCause i = none → g.due = [] → (∀ j : Fin 6, g.xings[j] = []) → hubEntries s r = [] →
    (∀ p, homePort r.val = some p → s.ports[Fin.ofNat 10 p].through = []) →
    (peg.toNat / 512 ≠ r.val → (∀ n ∈ s.trail.nexts, n.beat ≠ b) →
      ∃ t, exec i s = .next t ∧ Same { regions := true, lantern := true, whistle := true } s t ∧
        t.regions = s.regions.set r { g with bndBeat := some b, fetch := { f with active := false } }) ∧
    (peg.toNat / 512 = r.val → q.err = true → unstruck s → ∃ t, exec i s = .next t ∧ struckBy s t 0x2226 r.val 63 0 b) ∧
    (peg.toNat / 512 = r.val → q.err = false → sg.succ.length ≤ k → unstruck s →
      ∃ t, exec i s = .next t ∧ struckBy s t 0x2220 r.val 63 0 b) ∧
    (peg.toNat / 512 = r.val → q.err = false → k < sg.succ.length → kind = 2 → unstruck s →
      ∃ t, exec i s = .next t ∧ struckBy s t 0x2225 r.val 63 0 b) ∧
    (peg.toNat / 512 = r.val → q.err = false → k < sg.succ.length → kind ≠ 2 → strictOn s = false → holdsVote s f.seg f.gear = false →
      zipWindows s = false → s.tarp.stopAt = none →
      ∃ t, exec i s = .next t ∧ getReg t Reg.TR_BND = getReg s Reg.TR_BND + 1 ∧
        t.trail.nexts.head? = some { seg := fieldN e.toNat 44 12, gear := gear, beat := b, bnd := bndCount s, index := k, kind := kind,
                                     stop := decide (kind = 1) } ∧
        t.regions = s.regions.set r { g with bndBeat := some b, fetch := { f with active := false } } ∧
        (kind = 1 → t.pacer = { s.pacer with stopAt := some b, stopCloses := true } ∧
          getReg t Reg.TR_LAUNCH_SEG = BitVec.ofNat 64 (gear * 2 ^ 12 + fieldN e.toNat 44 12)) ∧
        (kind ≠ 1 → t.pacer = s.pacer))

/-! ## Registers -/

/-- Who may write (R340, R381): a host's write of a register that only the steward or firmware may write is ignored before step 10,
dropped and logged where the host is not the steward, and else acts as firmware's does. -/
def Obligations.StewardWrites : Prop :=
  ∀ s c p, writerOf c = some (.host p) →
    (ready s = false → exec c s = .next (hostBytes s (.host p) 0 4)) ∧
    (ready s = true → isSteward s p = false → exec c s = .next (dropWrite (hostBytes s (.host p) 0 4) p)) ∧
    (ready s = true → isSteward s p = true → ∀ d, asFirmware c = some d → exec c s = exec d (hostBytes s (.host p) 0 4))

/-- Access codes (R7, R8, R9). Firmware writes a plain register: within its ranges RW bits take what is written, RWL bits only with no
Pitch applied, W1C bits are cleared and W1S bits set by ones, bits that the hardware sets in that moment stay set, every other bit keeps
its value; out of range the register stays. A read returns the register but for its WO bits and clears its RC bits. Halves of a 64-bit
register (R10): a read of the lower half returns it and latches the upper; the next read of the upper half by the same requester returns
what was latched and ends the latch. A misaligned access, or one of 1 or 2 bytes, outside the Peg window changes nothing and reads as 0.
-/
def Obligations.RegisterAccessRules : Prop :=
  ((∀ s off sp v hw, plainReg off.toNat 32 sp → off.toNat % 4 = 0 → powered s = true →
     ∃ t new, exec (.registerWrite .ranger off false v hw) s = .next t ∧ Same { regs := true } s t ∧
       (∀ k, k ≠ off.toNat → getReg t k = getReg s k) ∧
       getReg t off.toNat = (if rangeOk s off.toNat new then new else getReg s off.toNat) ∧
       ∀ i, i < 32 → new.getLsbD i =
         ((if sp.rw.testBit i || (sp.rwl.testBit i && s.pitch.isNone) then v.getLsbD i else (getReg s off.toNat).getLsbD i) &&
           !(sp.w1c.testBit i && v.getLsbD i) || (sp.w1s.testBit i && v.getLsbD i) ||
           ((sp.w1c.testBit i || sp.w1s.testBit i) && hw.getLsbD i))) ∧
   (∀ s off sp hw, plainReg off.toNat 32 sp → off.toNat % 4 = 0 → powered s = true →
     let v := (getReg s off.toNat &&& ~~~(BitVec.ofNat 64 sp.wo)).toNat
     ∃ t, exec (.registerReadClear .ranger off false hw) s = .next t ∧ Same { regs := true, out := true } s t ∧
       t.out = s.out ++ [.read (leBytes 4 (v % 2 ^ 32))] ∧ (∀ k, k ≠ off.toNat → getReg t k = getReg s k) ∧
       ∀ i, i < 64 → (getReg t off.toNat).getLsbD i = (if sp.rc.testBit i then hw.getLsbD i else (getReg s off.toNat).getLsbD i))) ∧
  ((∀ s q off sp, plainReg off.toNat 64 sp → off.toNat % 8 = 0 → sp.rc = 0 → notServed s q off.toNat = false →
     let v := (getReg s off.toNat &&& ~~~(BitVec.ofNat 64 sp.wo)).toNat
     (∃ t, exec (.lowerHalfReadLatch q off) s = .next t ∧ Same { latches := true, out := true, lantern := true } s t ∧
       t.out = s.out ++ [.read (leBytes 4 (v % 2 ^ 32))] ∧ latched t q off.toNat = some (BitVec.ofNat 32 (v / 2 ^ 32)) ∧
       ∀ p k, p ≠ q ∨ k ≠ off.toNat → latched t p k = latched s p k) ∧
     ∀ u, latched s q off.toNat = some u → regSpec? (off.toNat + 4) = none → off.toNat + 4 < 2 ^ 26 →
       ∃ t, exec (.lowerHalfReadLatch q (off + 4)) s = .next t ∧ t.out = s.out ++ [.read (leBytes 4 u.toNat)] ∧
         latched t q off.toNat = none) ∧
   (∀ s off size v, powered s = true → inPegWindow off.toNat = false →
     (size = .b1 ∨ size = .b2 ∨ accessAligned off.toNat (decide (size = .b8)) = false) →
     exec (.bar0OddAccess .ranger off size true v) s = .next s ∧
     exec (.bar0OddAccess .ranger off size false v) s = .next { s with out := s.out ++ [.read (leBytes (Size.bytes size) 0)] }))

/-! ## Far requests and the Bunk store -/

/-- BREAD, BWRITE, HREAD and HWRITE (R177, R179, R182). Each moves LEN bytes from SRC to DST, between HBM, the Barrel and host memory, and
is then done; nothing is written elsewhere. A host write leaves in parts, one for each track read. A slot load leaves its slot READY with
the adapter's number, length and digest (R197); a request with a full Hub window sends the window's lines (R184). With no Barrel
fitted, or with the host port's link down, the request is poisoned with cause 4. -/
def Obligations.FarTransfers : Prop :=
  (∀ s Q k q, farDue s Q k 1 q → q.slotLoad = false → tracksServe s q (rangeTracks q.dst q.len) →
    (slotsIn s q.dst q.len).any (fun n => (listedSlots s).contains n) = false → barrelSize s ≠ 0 →
    ∃ t, exec (.bread Q k) s = .next t ∧ Same farMask s t ∧ farEnded s t q none ∧
      t.hbm = s.hbm.writeBytes q.dst (s.barrel.readBytes q.src q.len) ∧ t.barrel = s.barrel ∧ t.out = s.out) ∧
  (∀ s Q k q, farDue s Q k 2 q → q.win = none → tracksServe s q (rangeTracks q.src q.len) → barrelSize s ≠ 0 →
    ∃ t, exec (.bwrite Q k) s = .next t ∧ Same farMask s t ∧ farEnded s t q none ∧
      t.barrel = s.barrel.writeBytes q.dst (s.hbm.readBytes q.src q.len) ∧ t.hbm = s.hbm ∧ t.out = s.out) ∧
  (∀ s Q k q (data : List Byte), farDue s Q k 3 q → q.slotLoad = false → tracksServe s q (rangeTracks q.dst q.len) →
    (slotsIn s q.dst q.len).any (fun n => (listedSlots s).contains n) = false → hostUp s q.hport = true → q.len ≤ data.length →
    ∃ t, exec (.hread Q k data false) s = .next t ∧ Same farMask s t ∧ farEnded s t q none ∧
      t.hbm = s.hbm.writeBytes q.dst (data.take q.len) ∧ t.barrel = s.barrel ∧ t.out = s.out) ∧
  (∀ s Q k q, farDue s Q k 4 q → q.win = none → tracksServe s q (rangeTracks q.src q.len) → hostUp s q.hport = true →
    ∃ t, exec (.hwrite Q k false) s = .next t ∧ Same farMask s t ∧ farEnded s t q none ∧ t.hbm = s.hbm ∧ t.barrel = s.barrel ∧
      t.out = s.out ++ (rangeParts q.src q.len).map fun w =>
        .hostWrite q.hport (q.dst + (w.at_ - q.src)) (s.hbm.readBytes w.at_ w.len)) ∧
  (∀ s Q k q p data, s.pitch = some p → q.slotLoad = true → tracksServe s q (enabledTracks p) →
    (listedSlots s).contains q.aslot = false →
    let ready (t : State) : Prop := Same farMask s t ∧ farEnded s t q none ∧
      getReg t (Reg.AD_SLOT (8 * q.aslot)) = BitVec.ofNat 64 (2 * 2 ^ 62 + q.adapter) ∧
      getReg t (Reg.AD_SLOT (8 * q.aslot + 1)) = BitVec.ofNat 64 q.len ∧
      ∀ j, j < 4 → getReg t (Reg.AD_SLOT (8 * q.aslot + 2 + j)) =
        BitVec.ofNat 64 (leField (sha256 (slotBytes t p q.aslot q.len)) (8 * j) 8)
    (farDue s Q k 1 q → barrelSize s ≠ 0 → ∃ t, exec (.bread Q k) s = .next t ∧ ready t) ∧
    (farDue s Q k 3 q → hostUp s q.hport = true → q.len ≤ data.length → ∃ t, exec (.hread Q k data false) s = .next t ∧ ready t)) ∧
  (∀ s Q k q w, q.win = some w → w.isOpen = false → w.undef = false →
    let bs := (List.range w.len).flatMap fun i => lineBytes (storeGet 0 w.lines i)
    (farDue s Q k 2 q → barrelSize s ≠ 0 → ∃ t, exec (.bwrite Q k) s = .next t ∧ Same farMask s t ∧ farEnded s t q none ∧
      t.barrel = s.barrel.writeBytes q.dst bs ∧ t.hbm = s.hbm ∧ t.out = s.out) ∧
    (farDue s Q k 4 q → hostUp s q.hport = true → ∃ t, exec (.hwrite Q k false) s = .next t ∧ Same farMask s t ∧
      farEnded s t q none ∧ t.hbm = s.hbm ∧ t.barrel = s.barrel ∧ t.out = s.out ++ [.hostWrite q.hport q.dst bs])) ∧
  (∀ s Q k q data err, (farDue s Q k 1 q → barrelSize s = 0 → ∃ t, exec (.bread Q k) s = .next t ∧ farEnded s t q (some 4) ∧ t.hbm = s.hbm) ∧
    (farDue s Q k 2 q → barrelSize s = 0 → ∃ t, exec (.bwrite Q k) s = .next t ∧ farEnded s t q (some 4) ∧ t.barrel = s.barrel) ∧
    (farDue s Q k 3 q → hostUp s q.hport = false →
      ∃ t, exec (.hread Q k data err) s = .next t ∧ farEnded s t q (some 4) ∧ t.hbm = s.hbm) ∧
    (farDue s Q k 4 q → hostUp s q.hport = false →
      ∃ t, exec (.hwrite Q k err) s = .next t ∧ farEnded s t q (some 4) ∧ t.out = s.out))

/-- FILL, SPILL and SCRUB of one page (R186, R187, Table 8.6), in bounds, on tracks that serve it. The page's entry is written as Moving; a
FILL then copies the page from the Barrel to its place in HBM, a SPILL from HBM to the Barrel, a SCRUB of a page in HBM writes zeros over
it; at last the entry says where the page is, or that it is no longer present. A FILL whose page lies out of bounds is a fault and poisoned
with cause 9 (R76, R178). -/
def Obligations.PagesMove : Prop :=
  ∀ s Q k q p i e, pageDue s p q i e → let here := pageAt (topoField e 64 64); let gen := leField (bunkBytes s q.session) 68 1 % 16
    let T := p.topoBase + 16 * i
    let moving := leBytes 16 (topoEntry (topoField e 64 64) gen q.session q.page 2).toNat
    let last (l : PageAt) (st : Nat) := leBytes 16 (topoEntry l.bits gen q.session q.page st).toNat
    let dst (b : Bool) : PageAt := { barrel := b, addr := q.dst }
    topoField e 16 8 = 1 →
    (farDue s Q k 5 q → tracksServe s q (dst false).tracks → here.barrel = true → pageInBounds s q false here = true →
      pageInUse s (dst false) = false → barrelSize s ≠ 0 →
      ∃ t, exec (.fill Q k) s = .next t ∧ Same farMask s t ∧ farEnded s t q none ∧ t.barrel = s.barrel ∧
        t.hbm = ((s.hbm.writeBytes T moving).writeBytes q.dst (s.barrel.readBytes here.addr (2 ^ 20))).writeBytes T (last (dst false) 1)) ∧
    (farDue s Q k 6 q → tracksServe s q here.tracks → here.barrel = false → pageInBounds s q false here = true → barrelSize s ≠ 0 →
      ∃ t, exec (.spill Q k) s = .next t ∧ Same farMask s t ∧ farEnded s t q none ∧
        t.barrel = s.barrel.writeBytes q.dst ((s.hbm.writeBytes T moving).readBytes here.addr (2 ^ 20)) ∧
        t.hbm = (s.hbm.writeBytes T moving).writeBytes T (last (dst true) 1)) ∧
    (farDue s Q k 7 q → tracksServe s q here.tracks → here.barrel = false → pageInBounds s q true here = true →
      pageInUse s here = false →
      ∃ t, exec (.scrub Q k) s = .next t ∧ Same farMask s t ∧ farEnded s t q none ∧ t.barrel = s.barrel ∧
        t.hbm = ((s.hbm.writeBytes T moving).writeBytes here.addr (List.replicate (2 ^ 20) 0)).writeBytes T (last here 0)) ∧
    (farDue s Q k 5 q → tracksServe s q (dst false).tracks → here.barrel = true → pageInBounds s q false here = false →
      s.tarp.struck = false → ∃ t, exec (.fill Q k) s = .next t ∧ t.tarp.struck = true ∧
        ∃ r ∈ t.far.reqs, r.id = q.id ∧ r.done = true ∧ r.poison = some (q.poison.getD 9))

/-- CAIRN without EMIT (R194) advances STEP and TOKENS of its session's Bunk, and the Hub writes STREAM with them (Table 8.7; that it
does so at each of its writes is log entry 96). A completion counts the request's Peg (R180), with ERR if the request is poisoned
(R182): the request leaves its queue, and a running region's Peg gains 1. PATROL_SCRUB mends what corrected errors the Barrel holds
(R176). An entry due at a Hub attachment lands in the window it names (R184). -/
def Obligations.FarEnds : Prop :=
  (∀ s Q k q, farDue s Q k 8 q → q.emit = false → s.far.running.contains q.session = true →
    s.far.bunks.any (fun b => b.1 == q.session) = true → (∀ e ∈ s.far.bunks, e.1 = q.session → e.2.bytes.length = 256) →
    let b := bunkBytes s q.session
    ∃ t, exec (.cairn Q k) s = .next t ∧ Same { far := true } s t ∧ farEnded s t q none ∧
      t.far.bunks = s.far.bunks.map (fun e => if e.1 = q.session then (q.session,
        { bytes := e.2.bytes.take 8 ++ (leBytes 4 q.session ++ (leBytes 4 (leField b 12 4 + 1) ++ leBytes 8 (leField b 16 8 + q.ntok))) ++
            e.2.bytes.drop 24, changed := true }) else e)) ∧
  (∀ s (Q : Fin 64) (k : Fin 32) q, (s.far.reqs.filter (fun r => r.queue == Q.val))[k.val]? = some q → q.done = true →
    (∀ r : Fin 32, s.regions[r].waits = []) → s.pacer.mode = .run → s.tarp.struck = false →
    let r := regionFin (q.peg / 512)
    ∃ t, exec (.farCompletion Q k) s = .next t ∧
      Same { noteMask with far := true, regions := true, lantern := true } s t ∧
      t.far.reqs = s.far.reqs.filter (fun r => decide (r.id ≠ q.id)) ∧
      t.regions = s.regions.set r { s.regions[r] with pegLater := s.regions[r].pegLater ++ [(q.peg % 512, 1, q.poison.isSome)] }) ∧
  (∀ s, ∃ t, exec .patrolScrub s = .next t ∧
    Same { regs := true, free := true, whistle := true, log := true, logSeq := true, flaws := true } s t ∧
    t.flaws = s.flaws.filter (fun f => match f with
      | .barrel sec ue => ue || decide (barrelSize s ≤ sec)
      | _ => true)) ∧
  (∀ s (a : Fin 2) e rest q w, s.hubIn.getD a.val [] = e :: rest → e.due < (s.regions[hubRegion a.val]).begun → sideKind e.side = 2 →
    e.alt = none → parityHolds e.side e.data = true → let seq := fieldN e.side.toNat 19 16
    s.far.reqs = [q] → q.win = some w → w.isOpen = true → w.hub = a.val → w.wid = fieldN e.side.toNat 35 3 → w.opens < e.due →
    seq < w.len → w.lines.any (fun l => l.1 == seq) = false →
    let u : HubWin := { w with lines := storePut w.lines seq e.data, count := w.count + 1, isOpen := decide (w.count + 1 < w.len) }
    exec (.hubWindowArrival a none) s = .next { s with hubIn := listSet s.hubIn a.val rest, far := { s.far with reqs := [{ q with win := some u }] } })

/-- Far queues (R181, R183). A queue that FARQ enables is enabled; a disable waits until the queue is empty and no job runs, and then
takes effect; with FORCE every outstanding request of the queue is stopped and the queue disabled at once. FQPOST (R147, R178, R181): a
good descriptor, read from the Sack, joins its queue as the request it spells; with 32 outstanding the region waits and a hold is raised;
a descriptor with a field set that its operation does not use is fault 0x2804. -/
def Obligations.FarQueueing : Prop :=
  ((∀ s (n : Fin 64), (getReg s (Reg.FQ_CFG n.val)).getLsbD 31 = true →
     exec (.fqEnable .ranger n) s = .next (setField s (Reg.FQ_STAT n.val) 30 2 0)) ∧
   (∀ s (n : Fin 64), getField s (Reg.FQ_STAT n.val) 30 2 = 0 →
     (outstanding s n.val ≠ 0 ∨ s.pacer.mode = .run ∨ s.pacer.mode = .held → ∃ t, exec (.fqDisable .ranger n) s = .next t ∧
       Same { regs := true } s t ∧ getField t (Reg.FQ_STAT n.val) 30 2 = 1) ∧
     (outstanding s n.val = 0 → s.pacer.mode ≠ .run → s.pacer.mode ≠ .held → ∃ t, exec (.fqDisable .ranger n) s = .next t ∧
       Same { regs := true } s t ∧ getField t (Reg.FQ_STAT n.val) 30 2 = 2)) ∧
   (∀ s (n : Fin 64), getField s (Reg.FQ_STAT n.val) 30 2 = 1 → outstanding s n.val = 0 → s.pacer.mode ≠ .run → s.pacer.mode ≠ .held →
     exec (.fqDisableEffect n) s = .next (setField s (Reg.FQ_STAT n.val) 30 2 2)) ∧
   (∀ s (n : Fin 64), (∀ r : Fin 32, s.regions[r].waits = []) → ∃ t, exec (.fqForceDisable .ranger n) s = .next t ∧
     getField t (Reg.FQ_STAT n.val) 30 2 = 2 ∧ t.far.reqs.filter (fun r => r.queue == n.val) = [])) ∧
  (∀ s r b queue dsack line, let i := Instr.fqpost r queue dsack line; let v := sackLine s.regions[r] dsack.toNat line.toNat
     let q : FarReq := { id := s.far.seq, queue := queue.toNat, owner := r.val, beat := b, desc := v, win := none, done := false, poison := none }
     beatOpen s r b → actionCause i = none → readsClean s r b i dsack.toNat line.toNat →
     (outstanding s queue.toNat < 32 → descClean q = true → descPegOk s q = true → descShapeOk s q = true → q.srcw = false →
       (getReg s (Reg.FQ_CFG queue.toNat)).getLsbD 31 = true → (getReg s (Reg.FQ_CFG queue.toNat)).getLsbD (26 - q.op) = true →
       getField s (Reg.FQ_STAT queue.toNat) 30 2 ≠ 2 → descBoundsOk s q = true →
       ∃ t, exec i s = .next t ∧ Same { regs := true, far := true, regions := true, lantern := true, whistle := true } s t ∧
         t.far.reqs = s.far.reqs ++ [q] ∧ t.far.bunks = s.far.bunks ∧
         getField t (Reg.FQ_STAT queue.toNat) 0 6 = outstanding s queue.toNat + 1 ∧
         t.regions = s.regions.set r { s.regions[r] with readers := s.regions[r].readers ++ [(dsack.toNat, actionSlot i)] }) ∧
     (32 ≤ outstanding s queue.toNat → s.tarp.struck = false → s.tarp.holds = [] →
       ∃ t, exec i s = .next t ∧ t.far = s.far ∧
         t.regions[r].waits = s.regions[r].waits ++ [(actionSlot i, .fqpost queue.toNat v s.time)] ∧
         t.tarp.holds = [{ origin := selfIndex s, a := b, own := true, causes := [.wait r] }]) ∧
     (outstanding s queue.toNat < 32 → unstruck s → descClean q = false →
       ∃ t, exec i s = .next t ∧ struckBy s t 0x2804 r.val (actionSlot i) 0 b ∧
         t.far.reqs.map (fun o => o.id) = s.far.reqs.map (fun o => o.id)))

/-- The Bunk store (R190, R191, R193). STAGE takes the launch list where every position passes its checks, else says which fails and why;
staging done, the entries stand in the store and the list is staged. LOAD reads an entry of the table into the store, EVICT writes a changed
one back and drops it, INVAL drops it, FLUSH writes back all that changed. A write of BK_LIST or BK_COUNT ends what is staged. -/
def Obligations.BunkStore : Prop :=
  (∀ s p, s.pitch = some p → s.far.loading = none → s.pacer.mode ≠ .run → s.pacer.mode ≠ .held → let list := launchList s
    (∀ i ∈ list, Flaw.bunk i ∉ s.flaws) →
    ((∀ i ∈ list, listCause s p list i = none) → ∃ t, exec (.stage .ranger) s = .next t ∧ Same { regs := true, far := true } s t ∧
      t.far = { s.far with loading := some list, staged := [] } ∧ getField t Reg.BK_STAT 30 1 = 1 ∧ getField t Reg.BK_STAT 31 1 = 0) ∧
    (∀ j c, j < list.length → listCause s p list (list.getD j 0) = some c → (∀ n, n < j → listCause s p list (list.getD n 0) = none) →
      ∃ t, exec (.stage .ranger) s = .next t ∧ t.far = { s.far with staged := [] } ∧ getField t Reg.BK_STAT 16 8 = c % 256 ∧
        getReg t Reg.BK_ERR_POS = BitVec.ofNat 64 (j * 2 ^ 16 + list.getD j 0))) ∧
  (∀ s list, s.far.loading = some list → s.far.bunkWait = false → ∃ t, exec .stageComplete s = .next t ∧ t.far.staged = list ∧
    t.far.loading = none ∧ getField t Reg.BK_STAT 31 1 = 1 ∧ getField t Reg.BK_STAT 30 1 = 0 ∧
    (s.far.bunks.length + list.length ≤ 4096 → t.regions = s.regions ∧ t.hbm = s.hbm ∧
      ∀ i ∈ list, t.far.bunks.any (fun b => b.1 == i) = true)) ∧
  (∀ s (i : BitVec 16), bunkRefused s i.toNat = false →
    (s.far.bunks.any (fun b => b.1 == i.toNat) = false → s.far.bunks.length < 4096 →
      let b : BunkEntry := { bytes := s.hbm.readBytes (bunkAddr s i.toNat) 256, changed := false }
      ∃ t, exec (.bunkLoad .ranger i) s = .next t ∧ Same { regs := true, far := true } s t ∧
        t.far = { s.far with bunks := storePut s.far.bunks i.toNat b }) ∧
    (∀ b, s.far.bunks.find? (fun e => e.1 == i.toNat) = some b → Flaw.bunk i.toNat ∉ s.flaws →
      ∃ t, exec (.evict .ranger i) s = .next t ∧ Same { noteMask with far := true, hbm := true, flaws := true } s t ∧
      t.hbm = (if b.2.changed then s.hbm.writeBytes (bunkAddr s i.toNat) b.2.bytes else s.hbm) ∧
      t.far.bunks.any (fun e => e.1 == i.toNat) = false) ∧
    (∃ t, exec (.inval .ranger i) s = .next t ∧ Same { regs := true, far := true, flaws := true } s t ∧
      t.far.bunks = storeDel s.far.bunks i.toNat)) ∧
  (∀ s i b, s.pitch.isSome = true → s.far.loading = none → s.far.bunks = [(i, b)] → Flaw.bunk i ∉ s.flaws →
    ∃ t, exec (.flush .ranger) s = .next t ∧ Same { noteMask with far := true, hbm := true, flaws := true } s t ∧
    t.hbm = (if b.changed then s.hbm.writeBytes (bunkAddr s i) b.bytes else s.hbm) ∧ t.far.bunks = [(i, { b with changed := false })]) ∧
  (∀ s (i : Fin 33) v, s.pacer.mode ≠ .run → s.pacer.mode ≠ .held → ∃ t, exec (.bkListWrite .ranger i v) s = .next t ∧
    Same { regs := true, far := true } s t ∧ t.far = { s.far with staged := [] } ∧ getField t Reg.BK_STAT 31 1 = 0 ∧
    (i.val < 32 → getReg t (Reg.BK_LIST i.val) = v.setWidth 64) ∧
    (i.val = 32 → 1 ≤ v.toNat % 128 → v.toNat % 128 ≤ 64 → getReg t Reg.BK_COUNT = (v &&& 0x7F).setWidth 64))

/-! ## Guyline links -/

/-- Packs (R204 to R206, R208, R210, R211, R213). A pack slot sends the oldest pack due for replay again, else, on a VERIFIED link, a new
pack with the next bytes of the egress queue, else the next pack of a channel that has credits, and with nothing to send nothing; its
units go over the active lanes in turn. A received pack whose units come on the lanes in turn and whose check is good is accepted in order,
a message pack into its channel's buffer; one with a codeword lost or a check that fails is dropped and counted. -/
def Obligations.PacksMove : Prop :=
  (∀ s p pre k post, let g := s.ports[p]
    g.live = true → g.buffer = pre ++ k :: post → (∀ o ∈ pre, g.replay.contains o.seq = false) → g.replay.contains k.seq = true →
    (k.chan = 1 → g.idstat = 1) →
    ∃ t, exec (.packSlot p) s = .next t ∧ Same { ports := true, lantern := true, out := true } s t ∧ onlyPort s t p ∧
      t.out = s.out ++ [packOut s p k.seq k.bytes] ∧ t.ports[p].replay = g.replay.erase k.seq ∧ t.ports[p].txNext = g.txNext) ∧
  (∀ s p, let g := s.ports[p]; let b := leBytes 8 (2 ^ 60 + (schedPayload g).2 * 2 ^ 54) ++ (schedPayload g).1
    g.live = true → g.replay = [] → g.buffer.length < 2048 → g.egress ≠ [] → g.idstat = 1 → g.blocked = [] →
    ∃ t, exec (.packSlot p) s = .next t ∧ Same { ports := true, lantern := true, out := true } s t ∧ onlyPort s t p ∧
      t.out = s.out ++ [packOut s p g.txNext b] ∧
      t.ports[p].buffer = g.buffer ++ [{ seq := g.txNext, chan := 1, bytes := b, sentAt := s.time }] ∧
      t.ports[p].txNext = (g.txNext + 1) % 2 ^ 32 ∧
      t.ports[p].egress = g.egress.drop ((g.cut + min 240 (132 * g.egress.length - g.cut)) / 132)) ∧
  (∀ s p (c : Fin 4) b rest, let g := s.ports[p]
    g.live = true → g.replay = [] → g.buffer.length < 2048 → g.egress = [] → readyChannel g = some c → g.channels[c].tx = b :: rest →
    ∃ t, exec (.packSlot p) s = .next t ∧ Same { ports := true, lantern := true, out := true } s t ∧ onlyPort s t p ∧
      t.out = s.out ++ [packOut s p g.txNext b] ∧ t.ports[p].channels[c].tx = rest ∧
      t.ports[p].channels[c].sent = (g.channels[c].sent + 1) % 2 ^ 16) ∧
  (∀ s p, let g := s.ports[p]
    g.live = true → g.replay = [] → g.egress = [] → readyChannel g = none → exec (.packSlot p) s = .next s) ∧
  (∀ s p (units : List (Fin 16 × List Byte)) corrected, let g := s.ports[p]; let bytes := units.flatMap (fun u => u.2)
    let h := leField bytes 0 8; let c : Fin 4 := Fin.ofNat 4 (fieldN h 60 4 - 2)
    let m : Message := { packs := [((bytes.take 248).drop 8).take (fieldN h 50 8 + 1)], complete := decide (fieldN h 58 1 = 1),
                         esc := decide (c.val = 3), since := s.time, counted := s.time }
    g.live = true → onLanes g.lanes units = true → bytes.length = 256 →
    packCheck g.epoch g.rxNext (bytes.take 248) = leField bytes 248 8 → packHeaderOk h = true →
    2 ≤ fieldN h 60 4 → fieldN h 60 4 ≤ 5 → g.channels[c].held < 64 → fieldN h 59 1 = 1 →
    ∃ t, exec (.packReceive p units corrected 0) s = .next t ∧ Same { regs := true, ports := true, lantern := true } s t ∧
      onlyPort s t p ∧ t.ports[p].rxNext = (g.rxNext + 1) % 2 ^ 32 ∧ t.ports[p].unacked = g.unacked + 1 ∧
      t.ports[p].channels[c].rx = g.channels[c].rx ++ [m] ∧
      getField t (Reg.GL_FEC_CORR p.val) 0 64 = min (2 ^ 64 - 1) (getField s (Reg.GL_FEC_CORR p.val) 0 64 + corrected.toNat)) ∧
  (∀ s p (units : List (Fin 16 × List Byte)) corrected lost, let g := s.ports[p]; let bytes := units.flatMap (fun u => u.2)
    g.live = true → lost ≠ 0 ∨ packCheck g.epoch g.rxNext (bytes.take 248) ≠ leField bytes 248 8 →
    ∃ t, exec (.packReceive p units corrected lost) s = .next t ∧ Same linkMask s t ∧ onlyPort s t p ∧ t.ports[p].rxNext = g.rxNext ∧
      t.ports[p].channels = g.channels ∧ t.ports[p].landing = g.landing ∧ t.out = s.out ∧
      getField t (Reg.GL_RX_DROP p.val) 0 32 = min (2 ^ 32 - 1) (getField s (Reg.GL_RX_DROP p.val) 0 32 + 1) ∧
      getField t (Reg.GL_FEC_UNC p.val) 0 32 = min (2 ^ 32 - 1) (getField s (Reg.GL_FEC_UNC p.val) 0 32 + lost.toNat))

/-- Acknowledgement, replay and credits (R210, R211, R212, R219 to R221). A due ACK names the next pack expected; an ACK received frees the
packs below it; a pack unacknowledged for the timeout is due again with all behind it. A due CREDIT tells FREED; a CREDIT received sets the
count, one with INIT the capacity anew; a stall of GL_CRED_TMO starts a retrain. -/
def Obligations.AcksAndCredits : Prop :=
  (∀ s p, let g := s.ports[p]
    g.live = true → getField s (Reg.GL_ACK_CFG p.val) 16 8 ≤ g.unacked ∨ g.ackAt + nsTime 1000 ≤ s.time →
    ∃ t, exec (.ackSend p) s = .next t ∧ Same { ports := true, out := true } s t ∧ onlyPort s t p ∧
      t.out = s.out ++ sent3 s p 1 (BitVec.ofNat 40 (g.rxNext * 2 ^ 8)) ∧ t.ports[p].unacked = 0 ∧ t.ports[p].ackAt = s.time ∧
      t.ports[p].txSer = (g.txSer + 1) % 16) ∧
  (∀ s p v pl, heard s p 1 v pl → let g := s.ports[p]
    let n := (pl.toNat / 2 ^ 8 + 2 ^ 32 - (g.txNext + 2 ^ 32 - g.buffer.length) % 2 ^ 32) % 2 ^ 32
    n ≤ g.buffer.length → g.blocked = [] →
    ∃ t, exec (.ack p v) s = .next t ∧ Same { ports := true } s t ∧ onlyPort s t p ∧ t.ports[p].buffer = g.buffer.drop n ∧
      t.ports[p].replay = g.replay.filter (fun q => !((g.buffer.take n).map (·.seq)).contains q)) ∧
  (∀ s p k rest, let g := s.ports[p]
    g.live = true → g.replay = [] → g.buffer = k :: rest → k.sentAt + replayTimeout s p ≤ s.time →
    ∃ t, exec (.replayTimeout p) s = .next t ∧ Same linkMask s t ∧ onlyPort s t p ∧ t.ports[p].replay = g.buffer.map (·.seq) ∧
      t.ports[p].buffer = g.buffer ∧ getField t (Reg.GL_REPLAYS p.val) 0 32 = min (2 ^ 32 - 1) (getField s (Reg.GL_REPLAYS p.val) 0 32 + 1)) ∧
  (∀ s p (c : Fin 4), let h := s.ports[p].channels[c]
    s.ports[p].live = true → h.freed ≠ h.freedTold ∨ h.toldAt + nsTime 1000 ≤ s.time →
    ∃ t, exec (.creditSend p c) s = .next t ∧ Same { ports := true, out := true } s t ∧ onlyPort s t p ∧
      t.out = s.out ++ sent3 s p 2 (BitVec.ofNat 40 (c.val * 2 ^ 38 + h.freed * 2 ^ 21)) ∧
      t.ports[p].channels[c].freedTold = h.freed ∧ t.ports[p].channels[c].toldAt = s.time) ∧
  (∀ s p v pl, heard s p 2 v pl → let c : Fin 4 := Fin.ofNat 4 (fieldN pl.toNat 38 2); let n := fieldN pl.toNat 21 16
    ∃ t, exec (.credit p v) s = .next t ∧ Same { ports := true } s t ∧ onlyPort s t p ∧ t.ports[p].channels[c].freedSeen =
        (if fieldN pl.toNat 37 1 = 1 then 0 else n) ∧
      t.ports[p].channels[c].cap = (if fieldN pl.toNat 37 1 = 1 then n else s.ports[p].channels[c].cap) ∧
      t.ports[p].channels[c].sent = (if fieldN pl.toNat 37 1 = 1 then 0 else s.ports[p].channels[c].sent) ∧
      t.ports[p].channels[c].rx = s.ports[p].channels[c].rx) ∧
  (∀ s p (c : Fin 4) a, s.ports[p].live = true → s.ports[p].channels[c].stallSince = some a →
    a + nsTime (getField s (Reg.GL_CRED_TMO p.val) 0 32) ≤ s.time →
    ∃ t, exec (.creditTimeout p c) s = .next t ∧ retrained s t p ∧ (getReg t (Reg.GL_LINK_ERR p.val)).getLsbD 4 = true)

/-- Retrains and link states (R203, R222 to R225, R231, Table 9.9). A lane found bad leaves the lanes, and the link retrains on what is
left; a retrain not done in time begins again, the third failure takes the link DOWN, as a lost lock does; a DOWN link trains again after
its interval, or retrains when lock returns. GL_CTL turns a port off or on, retrains it, restores its lanes, changes its speed. The
exchange of a retrain (R223, R224, R227, R228), in the order of Table 9.10. PAUSE_REQ takes a running link into RETRAIN and is answered;
PAUSE_ACK lets this side's training end; an IDENT word is kept, and the seventh sets IDSTAT by R228: a first training then runs under the
larger of the two epoch proposals, a retrain whose lanes have passed sends RESUME; the partner's RESUME stands until then, and then the
link runs on the lanes both name, with what was queued sent (R218) and every unacknowledged pack due again. A write of GL_SELF_COORD is
locked under a Pitch. -/
def Obligations.LinkStatesAndExchange : Prop :=
  ((∀ s p (lane : Fin 16), let g := s.ports[p]; let good := g.good &&& ~~~(1#16 <<< lane.val)
     g.live = true → g.good.getLsbD lane.val = true → activeWidth (laneCount good) ≠ 0 →
     ∃ t, exec (.laneBad p lane) s = .next t ∧ retrained s t p ∧ t.ports[p].good = good ∧
       t.ports[p].removed = g.removed ||| (1#16 <<< lane.val)) ∧
   (∀ s p, let g := s.ports[p]
     g.mode = .retrain → g.phaseAt + nsTime (getField s (Reg.GL_RETRAIN_TMO p.val) 0 32) ≤ s.time →
     (g.failed < 2 → ∃ t, exec (.retrainTimeout p) s = .next t ∧ retrained s t p ∧ t.ports[p].failed = g.failed + 1) ∧
     (2 ≤ g.failed → ∃ t, exec (.retrainTimeout p) s = .next t ∧ Same linkMask s t ∧ onlyPort s t p ∧ t.ports[p].mode = .down)) ∧
   (∀ s p, s.ports[p].mode ≠ .off → s.ports[p].mode ≠ .down →
     ∃ t, exec (.lockLossTimeout p) s = .next t ∧ Same linkMask s t ∧ onlyPort s t p ∧ t.ports[p].mode = .down ∧
       (getReg t (Reg.GL_LINK_ERR p.val)).getLsbD 3 = true) ∧
   (∀ s p, s.ports[p].mode = .down → s.ports[p].phaseAt + nsTime (getField s (Reg.GL_DOWN_RETRY p.val) 0 32) ≤ s.time →
     ∃ t, exec (.downRetry p) s = .next t ∧ Same { ports := true } s t ∧ onlyPort s t p ∧ t.ports[p].mode = .training) ∧
   (∀ s p, s.ports[p].mode = .down → ∃ t, exec (.linkLockReturn p) s = .next t ∧ retrained s t p) ∧
   (∀ s p, (∃ t, exec (.glEnable .ranger p false) s = .next t ∧ Same { regs := true, ports := true } s t ∧ onlyPort s t p ∧
       t.ports[p].mode = .off ∧ getField t (Reg.GL_CTL p.val) 0 1 = 0) ∧
     (s.ports[p].mode = .off → flyLit s (portFly p.val) = true → ∃ t, exec (.glEnable .ranger p true) s = .next t ∧
       Same { regs := true, ports := true } s t ∧ onlyPort s t p ∧ t.ports[p].mode = .training ∧ getField t (Reg.GL_CTL p.val) 0 1 = 1)) ∧
   (∀ s p, s.ports[p].live = true →
     (∃ t, exec (.glRetrain .ranger p) s = .next t ∧ retrained s t p) ∧
     (∃ t, exec (.glRestore .ranger p) s = .next t ∧ retrained s t p ∧ t.ports[p].removed = 0) ∧
     (∀ half, halfSpeed s p ≠ half → ∃ t, exec (.glSpeed .ranger p half) s = .next t ∧ retrained s t p ∧ halfSpeed t p = half)) ∧
   (∀ s p good markers ber rtt, let g := s.ports[p]; let lanes := good &&& ~~~g.removed; let w := activeWidth (laneCount lanes)
     g.mode = .training → g.training.passed = false → g.identified = false → w ≠ 0 →
     ∃ t, exec (.linkTrainingComplete p good markers ber rtt) s = .next t ∧ Same linkMask s t ∧
       onlyPort s t p ∧ t.ports[p].mode = .ident ∧ t.ports[p].good = lanes ∧ t.ports[p].width = w ∧
       t.ports[p].removed = g.removed ||| (~~~good &&& ~~~g.removed) ∧
       t.ports[p].proposal = nextEpoch g.epoch ∧ getReg t (Reg.GL_RTT p.val) = rtt.setWidth 64 ∧
       t.ports[p].crossed = (List.range 16).any (fun i => lanes.getLsbD i && decide (fieldN markers.toNat (4 * i) 4 ≠ i)))) ∧
  ((∀ s p v pl, heard s p 3 v pl → s.ports[p].live = true → fieldN pl.toNat 36 4 = 0 →
     ∃ t, exec (.pauseReq p v) s = .next t ∧ retrained s t p ∧ t.out = s.out ++ sent3 s p 3 (BitVec.ofNat 40 (2 ^ 36))) ∧
   (∀ s p v pl, heard s p 3 v pl → s.ports[p].mode = .retrain → fieldN pl.toNat 36 4 = 1 →
     exec (.pauseAck p v) s = .next (modPort (hearing s p v) p fun g => { g with training := { g.training with paused := true } })) ∧
   (∀ s p v pl, heard s p 3 v pl → s.ports[p].mode = .retrain → fieldN pl.toNat 36 4 = 2 → let named := BitVec.ofNat 16 (fieldN pl.toNat 20 16)
     (s.ports[p].training.agreed = false → exec (.resume p v) s =
       .next (modPort (hearing s p v) p fun g => { g with training := { g.training with resume := some named } })) ∧
     let lanes := s.ports[p].good &&& named; let w := activeWidth (laneCount lanes)
     (s.ports[p].training.agreed = true → w ≠ 0 → ∃ t, exec (.resume p v) s = .next t ∧ Same { ports := true, out := true } s t ∧
       onlyPort s t p ∧ t.ports[p].mode = runMode s p w ∧ t.ports[p].good = lanes ∧ t.ports[p].width = w ∧
       t.ports[p].epoch = s.ports[p].proposal ∧ t.ports[p].failed = 0 ∧ t.ports[p].queue = [] ∧
       t.ports[p].replay = s.ports[p].buffer.map (·.seq))) ∧
   (∀ s p v pl, heard s p 4 v pl → let g := s.ports[p]; let w := fieldN pl.toNat 36 4
     let ident := storePut g.ident w (BitVec.ofNat 32 pl.toNat); let word (i : Nat) := (storeGet (0 : W32) ident i).toNat
     w ≤ 6 →
     ((List.range 7).all (fun i => ident.any (fun e => e.1 == i)) = false → exec (.ident p v) s =
       .next (modPort (hearing s p v) p fun g => { g with ident := ident })) ∧
     ((List.range 7).all (fun i => ident.any (fun e => e.1 == i)) = true →
       let known (t : State) : Prop := Same linkMask s t ∧ onlyPort s t p ∧ t.ports[p].idstat = idStatus s p word ∧
         t.ports[p].ident = [] ∧ getReg t (Reg.GL_NBR_SERIAL p.val) = BitVec.ofNat 64 (word 1 * 2 ^ 32 + word 0)
       let larger := if g.proposal.toNat < (BitVec.ofNat 32 (word 6)).toNat then BitVec.ofNat 32 (word 6) else g.proposal
       (g.live = true → ∃ t, exec (.ident p v) s = .next t ∧ known t ∧ t.ports[p].mode = g.mode ∧ t.ports[p].asked = false ∧
         (g.asked = true → t.out = s.out)) ∧
       (g.mode = .ident → g.training.passed = true → g.training.agreed = false → ∃ t, exec (.ident p v) s = .next t ∧ known t ∧
         t.ports[p].mode = runMode s p g.width ∧ t.ports[p].epoch = larger) ∧
       (g.mode = .retrain → g.training.passed = true → g.training.agreed = false → g.training.resume = none →
         ∃ t, exec (.ident p v) s = .next t ∧ known t ∧ t.ports[p].mode = .retrain ∧ t.ports[p].training.agreed = true ∧
           t.ports[p].proposal = larger ∧
           t.out = s.out ++ sent3 s p 3 (BitVec.ofNat 40 (2 * 2 ^ 36 + g.laneMask.toNat * 2 ^ 20))))) ∧
   (∀ s (v : W32), s.pitch = none → ∃ t, exec (.selfCoordWrite .ranger v) s = .next t ∧ Same { regs := true, ports := true, out := true } s t ∧
     getReg t Reg.GL_SELF_COORD = (v &&& 0xFFFF).setWidth 64) ∧
   (∀ s v, s.pitch.isSome = true → exec (.selfCoordWrite .ranger v) s = .next s))

/-- Records land (R238). In a stopped region any record of the landing queue lands at once: its line is stored in the window that it names
and the window's Peg gains 1; in a region that runs, one in each beat, stored eight beats on and counted nine, 12 beats later where the
window lies in a detoured cluster (R67). A THRU with a Guyline face takes one record in each of its beats, the oldest if it entered eight
beats before, and waits, with a hold, where the port has none (R241). -/
def Obligations.RecordsLand : Prop :=
  (∀ s p q rest, let r := regionFin (portHome p.val); let w := windowOf s.regions[r] 6 q.wid
    s.ports[p].landing = q :: rest → regionStopped s r = true → w.isOpen = true → q.seq < w.len → s.tarp.struck = false →
    pegHostw s r.val w.peg = false → (pegOf s.regions[r] w.peg).count.toNat + 1 < 2 ^ 32 →
    ∃ t, exec (.landingRelease p) s = .next t ∧
      Same { ports := true, regions := true, pegTouched := true, flaws := true, lantern := true, whistle := true, zipper := true } s t ∧
      t.ports = (modPort s p fun g => { g with landing := rest }).ports ∧ sackLine t.regions[r] w.dsack (w.base + q.seq) = q.data ∧
      (pegOf t.regions[r] w.peg).count = (pegOf s.regions[r] w.peg).count + 1) ∧
  (∀ s p q rest y, let r := regionFin (portHome p.val); let w := windowOf s.regions[r] 6 q.wid
    let e := y + 8 + detourBeats s r (sackCluster w.dsack) none
    s.ports[p].landing = q :: rest → regionStopped s r = false → beatOf s.regions[r] = some y → q.since ≤ y →
    s.ports[p].landBeat ≠ some y → w.isOpen = true → q.seq < w.len → roomTo s r (e + 1) →
    exec (.landingRelease p) s = .next { s with
      ports := s.ports.set p { s.ports[p] with landing := rest, landBeat := some y }
      regions := s.regions.set r { s.regions[r] with due := s.regions[r].due ++
        [{ beat := e, issue := y, slot := 62, op := .landPut w.dsack (w.base + q.seq) q.data },
         { beat := e + 1, issue := y, slot := 62, op := .landInc w.peg }] } }) ∧
  (∀ s r b (f : Fin 7) inn nbeats dly, let i := Instr.thruGuyline r f inn nbeats dly
    let h : Thru := { out := f.val, inn := inn.toNat, first := b, last := b + nbeats.toNat, dly := dly.toNat }
    beatOpen s r b → actionCause i = none → inn ≠ 6 →
    ∃ t, exec i s = .next t ∧ issued s t r i b
      (fun g => { g with thrus := g.thrus.filter (fun u => decide (b ≤ u.last) && decide (u ≠ h)) ++ [h] }) []) ∧
  (∀ s r b (f : Fin 7) (nbeats : BitVec 8) dly p, let i := Instr.thruGuyline r f 6 nbeats dly
    beatOpen s r b → actionCause i = none → roomTo s r (b + nbeats.toNat) → s.tarp.holds = [] → homePort r.val = some p →
    s.ports[Fin.ofNat 10 p].through = [] →
    ∃ t, exec i s = .next t ∧ t.regions[r].waits = s.regions[r].waits ++ [(actionSlot i, .thru f.val dly.toNat s.time)] ∧
      t.tarp.holds = [{ origin := selfIndex s, a := b, own := true, causes := [.wait r] }] ∧
      ∀ j, 1 ≤ j → j ≤ nbeats.toNat →
        ({ beat := b + j, issue := b, slot := actionSlot i, op := .thruTake f.val dly.toNat } : Due) ∈ t.regions[r].due) ∧
  (∀ s r b (f : Fin 7) (nbeats : BitVec 8) p q rest n j, let i := Instr.thruGuyline r f 6 nbeats 0
    beatOpen s r b → actionCause i = none → roomTo s r (b + nbeats.toNat) → homePort r.val = some p →
    s.ports[Fin.ofNat 10 p].through = q :: rest → q.since + 8 ≤ b → f ≠ 6 → crossingFree s r b f.val n j →
    ∃ t, exec i s = .next t ∧ t.ports[Fin.ofNat 10 p].through = rest ∧
      t.regions[n].xings[j] = s.regions[n].xings[j] ++ [entryOf (sideWin q.wid q.seq) q.data b f.val i])

/-! ## Pitch, Trail and launch -/

/-- APPLY and WITHDRAW (R71, R72). With no Pitch and the pacer OFF the bit-stream at PT_ADDR is checked: the first check it fails is told
in PT_STAT and nothing else changes, or the Pitch is applied, its Sacks and Pegs clear and the pacer ARMED at its pace. WITHDRAW in ARMED
takes Pitch and Trail away and the pacer OFF; with FORCE it first strikes a job that runs, with 0x2224. Elsewhere both are refused. LOAD
and UNLOAD of a Trail (R73, Table 3.14). LOAD with a Pitch applied and no Trail reads the image at TR_ADDR and checks it; loading done,
the Trail is LOADED with TR_LAUNCH_SEG as its Pitch says, or the state is EMPTY with the cause of the first check failed. UNLOAD empties
it, but not while it runs. -/
def Obligations.PitchAndTrail : Prop :=
  ((∀ s, s.pitch = none → s.pacer.mode = .off → let a := getField s Reg.PT_ADDR 12 52 * 4096; let h := firmwareRead s a 64
     let n := leField h.1 8 8; let w := firmwareRead h.2 (a + 64) (if n ≤ 2 ^ 20 then n - 64 else 0)
     ∃ t, exec (.pitchApply .ranger) s = .next t ∧ t.hbm = s.hbm ∧ t.trail.segs = s.trail.segs ∧
       match checkPitch s (h.1 ++ w.1) with
       | .inl cause => Same { regs := true, free := true, log := true, logSeq := true, whistle := true } s t ∧ t.pitch = none ∧
           getField t Reg.PT_STAT 8 8 = cause % 256
       | .inr p => t.pitch = some p ∧ t.pacer.mode = .armed ∧ t.pacer.n = p.paceN ∧ t.pacer.released = 0 ∧ t.firewatch.want = max p.paceN (paceFloor t) ∧
           ∀ r : Fin 32, t.regions[r].sacks = [] ∧ t.regions[r].pegs = []) ∧
   (∀ s, s.pitch.isSome = true ∨ s.pacer.mode ≠ .off → ∃ t, exec (.pitchApply .ranger) s = .next t ∧
     Same { regs := true, free := true, log := true, logSeq := true, whistle := true } s t ∧ getField t Reg.PT_STAT 8 8 = 0x0A) ∧
   (∀ s, s.pitch.isSome = true → s.pacer.mode = .armed → s.far.bunks = [] → ∃ t, exec (.pitchWithdraw .ranger) s = .next t ∧
     t.pitch = none ∧ t.pacer.mode = .off ∧ t.pacer.n = 0 ∧ t.trail.mode = .empty ∧ t.trail.segs = [] ∧ t.far.staged = [] ∧
     t.hbm = s.hbm ∧ t.regions = s.regions) ∧
   (∀ s, s.pitch = none ∨ s.pacer.mode ≠ .armed → ∃ t, exec (.pitchWithdraw .ranger) s = .next t ∧
     Same { regs := true, free := true, log := true, logSeq := true, whistle := true } s t ∧ getField t Reg.PT_STAT 8 8 = 0x0A) ∧
   (∀ s, s.pitch.isSome = true → s.pacer.mode = .run ∨ s.pacer.mode = .held → unstruck s →
     ∃ t, exec (.pitchForcedWithdraw .ranger) s = .next t ∧ t.pitch = none ∧ t.pacer.mode = .off ∧ t.trail.mode = .empty ∧
       t.tarp.struck = true ∧ getField t Reg.TR_FAULT 48 16 = 0x2224) ∧
   (∀ s, s.pacer.mode ≠ .run → s.pacer.mode ≠ .held → exec (.pitchForcedWithdraw .ranger) s = exec (.pitchWithdraw .ranger) s)) ∧
  ((∀ s p, s.pitch = some p → s.trail.mode = .empty →
     let w := firmwareRead s (getField s Reg.TR_ADDR 12 52 * 4096) (getField s Reg.TR_LEN 0 29)
     exec (.trailLoad .ranger) s = .next { w.2 with trail := { s.trail with
       mode := .loading
       loadResult := some (match checkTrail s p w.1 with
         | .inl c => (c, [], 0)
         | .inr segs => (0, segs, segs.length)) } }) ∧
   (∀ s p segs n, s.pitch = some p → s.trail.loadResult = some (0, segs, n) → ∃ t, exec .trailLoadComplete s = .next t ∧
     Same { regs := true, trail := true, whistle := true } s t ∧ t.trail.mode = .loaded ∧ t.trail.segs = segs ∧ t.trail.nseg = n ∧
     t.trail.loadResult = none ∧ getReg t Reg.TR_LAUNCH_SEG = BitVec.ofNat 64 (p.entryGear * 2 ^ 12 + p.entrySeg) ∧
     ∀ k, k ≠ Reg.TR_LAUNCH_SEG → getReg t k = getReg s k) ∧
   (∀ s cause segs n, s.trail.loadResult = some (cause, segs, n) → cause ≠ 0 → ∃ t, exec .trailLoadComplete s = .next t ∧
     Same { free := true, trail := true, whistle := true, log := true, logSeq := true } s t ∧ t.trail.mode = .empty ∧ t.trail.cause = cause ∧
     t.trail.loadResult = none) ∧
   (∀ s, s.trail.mode ≠ .running → ∃ t, exec (.trailUnload .ranger) s = .next t ∧ Same { trail := true, whistle := true } s t ∧
     t.trail.mode = .empty ∧ t.trail.segs = [] ∧ t.trail.nseg = 0 ∧ t.trail.loadResult = none) ∧
   (∀ s, s.trail.mode = .running → exec (.trailUnload .ranger) s = .next s))

/-- Launches (R78, R193, R230, R286 to R288, R348). An arm is kept for a count not yet passed. At its count, with Trail, Bunks and ports
ready, the job starts: every region at beat 0 of the launch segment, the pacer RUN with its anchor at the count; so for a launch by cycle
timer and by Peg write. A cycle timer also counts its firing, and one with a Peg action raises that Peg by 1. -/
def Obligations.Launches : Prop :=
  (∀ s w, let v := (formHalf s .ranger Reg.TR_LAUNCH_AT w).1; let u := (formHalf s .ranger Reg.TR_LAUNCH_AT w).2
    s.startup.test = none → compassState s ≠ 0 → nowUnits s ≤ v.toNat * 256 → exec (.launchArm .ranger w) s =
      .next { setReg u Reg.TR_LAUNCH_AT v with trail := { s.trail with launchArm := some v } }) ∧
  (∀ s w, compassState s = 0 → ∃ t, exec (.launchArm .ranger w) s = .next t ∧ t.trail = s.trail) ∧
  (∀ s p src ta, launchDue s src ta → s.pitch = some p → canLaunch s = true → s.far.loading = none → getField s Reg.BK_STAT 31 1 = 1 →
    (∀ i ∈ s.far.staged, Flaw.bunk i ∉ s.flaws) → (∀ q, portReady s q = true) → s.startup.test = none → let seg := getField s Reg.TR_LAUNCH_SEG 0 12
    ∃ t, exec (.launchStart src) s = .next t ∧ t.pacer.mode = .run ∧ t.pacer.anchorAt = ta * 256 ∧ t.pacer.anchorBeat = 0 ∧
      t.trail.mode = .running ∧ t.tarp.struck = false ∧ t.tarp.holds = [] ∧ getReg t Reg.TR_FAULT = 0 ∧ getReg t Reg.TR_BND = 0 ∧
      t.far.running = s.far.staged ∧ t.hbm = s.hbm ∧ t.barrel = s.barrel ∧
      ∀ r : Fin 32, t.regions[r].begun = 0 ∧ t.regions[r].completed = 0 ∧ t.regions[r].sacks = s.regions[r].sacks ∧
        t.regions[r].fetch.active = true ∧ t.regions[r].fetch.seg = seg) ∧
  (∀ s (j : Fin 4), getField s (Reg.CMP_CYC_CFG j.val) 30 1 = 0 → exec (.launchStart (.cycle j)) s = exec (.cycleFire j) s) ∧
  (∀ s (j : Fin 4) ta, s.compass.cycles[j.val]? = some (some ta) → compassState s ≠ 0 → ta ≤ nowTicks s → s.tarp.struck = false →
    getField s (Reg.CMP_CYC_CFG j.val) 30 1 = 1 → let id := getField s (Reg.CMP_CYC_CFG j.val) 16 14; let r := regionFin (id / 512)
    pegHostw s r.val (id % 512) = true → s.pacer.mode = .run → s.regions[r].waits = [] →
    ∃ t, exec (.cycleFire j) s = .next t ∧
      t.regions = s.regions.set r { s.regions[r] with pegLater := s.regions[r].pegLater ++ [(id % 512, 1, false)] } ∧
      getField t (Reg.CMP_CYC_CNT j.val) 16 16 = min 65535 (getField s (Reg.CMP_CYC_CNT j.val) 16 16 + 1) ∧
      t.compass.cycles[j.val]? = some (some (ta + max 1 (getField s (Reg.CMP_CYC_PER j.val) 0 32))))

/-! ## The Tarp, messages, posting to far queues -/

/-- Holds of the Tarp (R248, R250, R251). A HOLD of another module holds the pacer and is kept, or is fault 0x2121 where its beat lies
beyond the horizon; this module's own are sent again when a repeat is due. A RELEASE ends its hold; with the last the resume is due, and
at T_r, or at the time of the next permit where that is earlier, the pacer runs with its anchor at T_r; a release too late is fault 0x2122. Boundary digests, strikes and stops (R254, R259 to R261).
A neighbour's digest of a boundary is noted where it is this module's, fault 0x2221 where it is not, and kept where this module has none
yet. A STRIKE ends the job here too, once the beats begun are completed, and a later one is counted; a STOP_AT is kept, or is fault 0x2126 where a rest point of its count is past; so is one that this
module sends. A neighbour's link bad too long is fault 0x2127. -/
def Obligations.TarpHoldsAndSymbols : Prop :=
  ((∀ s p v pl, heardCamp s p 8 v pl → running s = true → let origin := fieldN pl.toNat 25 15
     let a := recover (fieldN pl.toNat 0 25) 25 s.pacer.released
     let x := if s.pacer.mode = .run then s.pacer.released - 1 else s.tarp.x
     s.tarp.holds.any (fun h => h.origin == origin && h.a == a) = false → s.tarp.holds.length < 16 →
     (x ≤ a + getField s Reg.TARP_H 0 15 → ∃ t, exec (.hold p v) s = .next t ∧ t.pacer = { s.pacer with mode := .held } ∧
       t.tarp.holds = s.tarp.holds ++ [{ origin := origin, a := a, own := false, causes := [] }] ∧ t.tarp.x = x ∧
       t.tarp.struck = s.tarp.struck ∧ t.regions = s.regions ∧ t.hbm = s.hbm) ∧
     (a + getField s Reg.TARP_H 0 15 < x → unstruck s → ∃ t, exec (.hold p v) s = .next t ∧ t.tarp.struck = true ∧ t.tarp.holds = [] ∧
       ((∀ r : Fin 32, s.regions[r].completed = s.regions[r].begun) → t.pacer.mode = .armed) ∧ getField t Reg.TR_FAULT 48 16 = 0x2121 ∧ getReg t Reg.TR_FAULT_BEAT = BitVec.ofNat 64 x)) ∧
   (∀ s h, s.tarp.holds = [h] → h.own = true → s.tarp.repeatAt ≤ nowTicks s → ∃ t, exec .holdRepeat s = .next t ∧
     Same { linkMask with tarp := true } s t ∧
     t.tarp = { s.tarp with repeatAt := nowTicks s + getField s Reg.TARP_REPEAT 0 16 } ∧
     ∀ q : Fin 10, campPort s q = true → s.ports[q].live = true → ∀ o ∈ sent3 s q 8 (holdPayload h.origin h.a), o ∈ t.out) ∧
   (∀ s p v pl h, heardCamp s p 9 v pl → running s = true → s.tarp.best = none →
     s.tarp.holds.find? (fun h => h.origin == fieldN pl.toNat 25 15 && h.a % 256 == fieldN pl.toNat 17 8 && !h.own) = some h →
     let tr := recover (fieldN pl.toNat 0 17) 17 (nowTicks s)
     let left := s.tarp.holds.filter (fun k => !(decide (k.origin = fieldN pl.toNat 25 15) && decide (k.a = h.a)))
     ∃ t, exec (.release p v) s = .next t ∧ t.tarp.holds = left ∧ t.pacer = s.pacer ∧ t.regions = s.regions ∧
       t.tarp.resume = (if left = [] ∧ s.pacer.mode = .held then some (h.a, tr, nowUnits s) else s.tarp.resume) ∧
       (left = [] → s.pacer.mode = .held → getReg t Reg.TARP_TR = BitVec.ofNat 64 tr)) ∧
   (∀ s a tr d, s.tarp.released = [(a, tr, d)] → (d ≤ nowTicks s → nowTicks s < tr → ∃ t, exec .releaseRepeat s = .next t ∧
       Same { linkMask with tarp := true } s t ∧
       t.tarp = { s.tarp with released := [(a, tr, nowTicks s + getField s Reg.TARP_REPEAT 0 16)] } ∧
       ∀ q : Fin 10, campPort s q = true → s.ports[q].live = true →
         ∀ o ∈ sent3 s q 9 (releasePayload (selfIndex s) a tr), o ∈ t.out) ∧
     (tr ≤ nowTicks s → exec .releaseRepeat s = .next { s with tarp := { s.tarp with released := [] } })) ∧
   (∀ s a tr (at_ : Nat), s.tarp.resume = some (a, tr, at_) → s.pacer.mode = .held → s.tarp.holds = [] →
     let next := resumeTime a tr (max 1 s.pacer.n) (s.tarp.x + 1)
     ((at_ : Int) < next → tr ≤ nowTicks s ∨ next ≤ nowUnits s → s.pacer.stopAt = none →
       ∃ t, exec .tarpResume s = .next t ∧ t.pacer = { s.pacer with mode := .run, anchorAt := tr * 256, anchorBeat := a, base := none
                                                                    resuming := true
                                                                    anchorEnd := (min (tr * 256) next.toNat / 262144 + 1) * 262144 } ∧
         t.tarp = { s.tarp with resume := none, best := none } ∧ t.regions = s.regions ∧ t.hbm = s.hbm) ∧
     (next ≤ (at_ : Int) → unstruck s →
       ∃ t, exec .tarpResume s = .next t ∧ struckBy s t 0x2122 0 63 0 s.tarp.x))) ∧
  ((∀ s p v pl, heardCamp s p 11 v pl → strictOn s = true → role1 s p = true → let c := fieldN pl.toNat 32 8
     let d : W32 := BitVec.ofNat 32 pl.toNat
     (∀ n own seen, s.tarp.own.find? (fun e => e.1 % 256 == c) = some (n, own, seen) →
       (own = d → ∃ t, exec (.bnd p v) s = .next t ∧ Same { ports := true, tarp := true } s t ∧ t.tarp = { s.tarp with
         own := s.tarp.own.map (fun e => if e.1 = n then (e.1, e.2.1, e.2.2 ||| (1#10 <<< p.val)) else e) }) ∧
       (own ≠ d → unstruck s → ∃ t, exec (.bnd p v) s = .next t ∧ t.tarp.struck = true ∧ getField t Reg.TR_FAULT 48 16 = 0x2221)) ∧
     (s.tarp.own.find? (fun e => e.1 % 256 == c) = none → (s.tarp.received.filter (fun e => e.1 == p.val)).length < 16 →
       ∃ t, exec (.bnd p v) s = .next t ∧ Same { ports := true, tarp := true } s t ∧
         t.tarp.received = s.tarp.received.filter (fun e => e.1 != p.val) ++
           (s.tarp.received.filter (fun e => e.1 == p.val) ++ [(p.val, c, d)]))) ∧
   (∀ s p v pl, heardCamp s p 16 v pl → fieldN pl.toNat 32 8 = 2 → unstruck s → ∃ t, exec (.strike p v) s = .next t ∧
     t.tarp.struck = true ∧ t.tarp.holds = [] ∧
     ((∀ r : Fin 32, s.regions[r].completed = s.regions[r].begun) → t.pacer.mode ≠ .run ∧ t.pacer.mode ≠ .held) ∧
     t.trail.mode = (if s.trail.mode = .running then .stopped else s.trail.mode) ∧ getField t Reg.TR_FAULT 48 16 = 0x2124 ∧
     getReg t Reg.TARP_STRIKE = BitVec.ofNat 64 (fieldN pl.toNat 16 16 * 2 ^ 16 + 2 ^ 15 + fieldN pl.toNat 0 15)) ∧
   (∀ s p v pl, heardCamp s p 16 v pl → fieldN pl.toNat 32 8 = 2 → s.tarp.struck = true →
     exec (.strike p v) s = .next { hearing s p v with tarp := { s.tarp with strikes := s.tarp.strikes + 1 } }) ∧
   (∀ s p v pl, heardCamp s p 16 v pl → fieldN pl.toNat 32 8 = 1 → unstruck s →
     let n := recover (fieldN pl.toNat 0 32) 32 (getReg s Reg.TR_BND).toNat
     s.tarp.stopSeen ≠ some n →
     ((∀ k, s.tarp.lastRest = some k → k < n) → ∃ t, exec (.stopAt p v) s = .next t ∧ Same { linkMask with tarp := true } s t ∧
       t.tarp = { s.tarp with stopAt := some n, stopSeen := some n }) ∧
     (∀ k, s.tarp.lastRest = some k → n ≤ k → ∃ t, exec (.stopAt p v) s = .next t ∧ t.tarp.struck = true ∧
       getField t Reg.TR_FAULT 48 16 = 0x2126)) ∧
   (∀ s w, s.pitch.isSome = true → let v := (formHalf s .ranger Reg.TARP_STOP_BND w).1
     let n := recover (v.toNat % 2 ^ 32) 32 (getReg s Reg.TR_BND).toNat
     (∀ k, s.tarp.lastRest = some k → k < n) → ∃ t, exec (.stopAtSend .ranger w) s = .next t ∧
       Same { linkMask with tarp := true, halves := true } s t ∧
       t.tarp = { s.tarp with stopAt := some n, stopSeen := some n } ∧
       getReg t Reg.TARP_STOP_BND = v ∧ ∀ q : Fin 10, campPort s q = true → s.ports[q].live = true →
         ∀ o ∈ sent3 s q 16 (fmPayload 1 (v.toNat % 2 ^ 32)), o ∈ t.out) ∧
   (∀ s p a, s.ports[p].badSince = some a → running s = true → role1 s p = true → getField s Reg.TARP_DOWN_LIM 0 32 ≠ 0 →
     a + getField s Reg.TARP_DOWN_LIM 0 32 * 256 ≤ s.time → unstruck s →
     ∃ t, exec (.portDownLimit p) s = .next t ∧ struckBy s t 0x2127 0 63 0 (s.pacer.released - 1)))

/-- Unscheduled messages (R255 to R257, R263). A complete message moves on to the channel of the port that leads to its destination where
that has credits for it, and the ns that it waited are counted there; at its destination it goes into its sink; one that has waited too
long for its next link escapes to the escape channel. -/
def Obligations.MessagesMove : Prop :=
  (∀ s p (c : Fin 4) m rest out, s.ports[p].channels[c].rx = m :: rest → m.complete = true →
    routePort (selfCoord s) (coordOf (m.field 113 15)) m.esc = some out → let q : Fin 10 := Fin.ofNat 10 out
    let oc : Fin 4 := if m.esc then 3 else c; let h := s.ports[q].channels[oc]
    m.field 89 6 < 62 → h.tx.length + m.packs.length ≤ h.credits →
    ∃ t, exec (.messageForward p c) s = .next t ∧ Same { regs := true, ports := true } s t ∧ t.ports[p].channels[c].rx = rest ∧
      t.ports[q].channels[oc].tx = h.tx ++ messagePacks m oc.val (m.field 89 6 + 1) m.esc ∧
      getField t (Reg.GL_CSTALL q.val) 0 32 = min (2 ^ 32 - 1) (getField s (Reg.GL_CSTALL q.val) 0 32 + (s.time - m.counted) / 40)) ∧
  (∀ s p (c : Fin 4) m rest, s.ports[p].channels[c].rx = m :: rest → m.complete = true →
    routePort (selfCoord s) (coordOf (m.field 113 15)) m.esc = none → s.sinks = [] → m.packs.length ≤ Config.sinkPacks →
    ∃ t, exec (.messageForward p c) s = .next t ∧ Same { regs := true, ports := true, sinks := true } s t ∧
      t.ports[p].channels[c].rx = rest ∧ t.sinks = [(m.field 96 2, m.packs)]) ∧
  (∀ s p (c : Fin 4) m rest out, s.ports[p].channels[c].rx = m :: rest → m.complete = true → m.esc = false →
    routePort (selfCoord s) (coordOf (m.field 113 15)) false = some out →
    m.since + nsTime (getField s Reg.GL_ESC_TMO 0 32) ≤ s.time →
    (∀ o ∈ rest, o.complete = false ∨ o.esc = true ∨ s.time < o.since + nsTime (getField s Reg.GL_ESC_TMO 0 32)) →
    ∃ t, exec (.escapeTimeout p c) s = .next t ∧ Same linkMask s t ∧
      t.ports[p].channels[c].rx = { m with esc := true, counted := m.counted + 40 * ((s.time - m.counted) / 40) } :: rest ∧
      (∀ (k : Fin 10) (i : Fin 4), ¬(k = p ∧ i = c) → t.ports[k].channels[i].rx = s.ports[k].channels[i].rx) ∧
      (∀ (k : Fin 10) (i : Fin 4), t.ports[k].channels[i].tx = s.ports[k].channels[i].tx) ∧
      getField t (Reg.GL_ESC p.val) 16 16 = min 65535 (getField s (Reg.GL_ESC p.val) 16 16 + 1))

/-! ## Tracks -/

/-- TACT and TPRE (R153 to R155, R157). TACT opens the row, or row plus index register, in a closed bank whose contract beats are past, and
is fault 0x2703 on one that is open; TPRE starts the precharge of the open bank, or of every open bank, and leaves closed ones as they
are. TRD and TWR (R152 to R154, R156). TRD delivers the lines of the open row to the Sack, line i at b + RDL + D(i), 12 beats later to a
detoured cluster; TWR writes line i of the Sack to the open row at b + D(i), the first at once, 12 beats later from a detoured cluster. The
bus is taken for D(n) beats; AP adds the precharge. A command that the stack cannot take in real time is sent once it can, and the track
group withholds its acknowledgement until then. -/
def Obligations.TrackCommands : Prop :=
  ((∀ s r b track bank row xen x, let i := Instr.tact r track bank row xen x; let g := s.regions[r]; let q := bankOf g track.toNat bank.toNat
     let k := trackOf g track.toNat; let rw := if xen then (row + (g.xregs[Fin.ofNat 8 x.toNat]).1).toNat else row.toNat
     let sent := activateTime s k q bank.toNat
     beatOpen s r b → actionCause i = none →
     (q.mode b (tkRp s r.val) = .closed → trackFree g track.toNat b → q.refAt ≤ b →
       (∀ a n rest, k.acts = (a, n) :: rest → n = bank.toNat ∨ a + tkRrd s r.val ≤ b) →
       (∀ u v w a n rest, k.acts = u :: v :: w :: (a, n) :: rest → a + tkFaw s r.val ≤ b) →
       ∃ t, exec i s = .next t ∧ Same trackMask s t ∧ bankOf t.regions[r] track.toNat bank.toNat = { q with
           row := some rw, actAt := b, pre := none, wrEnd := 0, colReady := sent + nsUnits 14, preReady := sent + nsUnits 30 } ∧
         otherBanks g t.regions[r] track.toNat bank.toNat ∧
         trackOf t.regions[r] track.toNat = { k with acts := ((b, bank.toNat) :: k.acts).take 4
                                                     sent := ((sent, bank.toNat) :: k.sent).take 4 } ∧
         t.regions[r].due = g.due ∧
         (s.time < sent → t.regions[r].held.getLsbD 60 = true ∧ t.regions[r].guard = max g.guard sent)) ∧
     (∀ o, q.mode b (tkRp s r.val) = .opened o → unstruck s →
       ∃ t, exec i s = .next t ∧ struckBy s t 0x2703 r.val (actionSlot i) 0 b)) ∧
   (∀ s r b track bank all, let i := Instr.tpre r track bank all; let g := s.regions[r]
     beatOpen s r b → actionCause i = none → trackFree g track.toNat b →
     (∀ k o, k < 16 → (bankOf g track.toNat k).mode b (tkRp s r.val) = .opened o → (bankOf g track.toNat k).actAt + tkRas s r.val ≤ b ∧
       (bankOf g track.toNat k).wrEnd ≤ b) →
     ∃ t sent, exec i s = .next t ∧ Same trackMask s t ∧ max s.time (trackOf g track.toNat).cmdReady ≤ sent ∧
       (s.time < sent → t.regions[r].held.getLsbD 60 = true ∧ t.regions[r].guard = max g.guard sent) ∧
       ∀ k, k < 16 → let q := bankOf g track.toNat k
       (∀ o, (all = true ∨ k = bank.toNat) → q.mode b (tkRp s r.val) = .opened o → q.preReady ≤ sent ∧
         bankOf t.regions[r] track.toNat k = { q with pre := some b, actReady := max q.actReady (sent + nsUnits 14) }) ∧
       (q.mode b (tkRp s r.val) = .closed ∨ (all = false ∧ k ≠ bank.toNat) → bankOf t.regions[r] track.toNat k = q))) ∧
  ((∀ s r b track bank col nl sack line ap row, let i := Instr.trd r track bank col nl sack line ap; let t := track.toNat
     let n := nl.toNat + 1; let k := trackOf s.regions[r] t; let q := bankOf s.regions[r] t bank.toNat
     let last := b + tkRdl s r.val + busBeats s n + 12; let far := detourBeats s r none (sackCluster sack.toNat)
     let sent := columnTime s k q false
     let op (j : Nat) : Micro := .trackPut sack.toNat (line.toNat + j)
       (lineOf (s.hbm.readBytes (hbmAddr r.val t row bank.toNat (col.toNat + j)) 128)) false (sent + nsUnits 40 + lineUnits j)
     beatOpen s r b → actionCause i = none → columnReady s r b t bank.toNat row false → linesAllowed s r t bank.toNat row col.toNat n false →
     line.toNat + n ≤ 8192 → s.flaws = [] → roomTo s r last →
     ∃ u, exec i s = .next u ∧ Same trackMask s u ∧
       trackOf u.regions[r] t = { k with busFree := b + busBeats s n, busReady := sent + lineUnits n
                                         writeFree := max k.writeFree (b + busBeats s n + tkRtw s r.val)
                                         writeReady := max k.writeReady (sent + lineUnits n + nsUnits 6) } ∧
       bankOf u.regions[r] t bank.toNat = { q with
         preReady := max q.preReady (sent + lineUnits n)
         pre := if ap then some (max (q.actAt + tkRas s r.val) (b + busBeats s n)) else q.pre } ∧
       (s.time < sent → u.regions[r].held.getLsbD 60 = true ∧ u.regions[r].guard = max s.regions[r].guard sent) ∧
       ∀ j, j < n → ({ beat := b + tkRdl s r.val + busBeats s j + far, issue := b, slot := actionSlot i, op := op j } : Due) ∈
         u.regions[r].due) ∧
   (∀ s r b track bank col nl sack line ap row, let i := Instr.twr r track bank col nl sack line ap; let t := track.toNat
     let n := nl.toNat + 1; let k := trackOf s.regions[r] t; let q := bankOf s.regions[r] t bank.toNat
     let far := detourBeats s r (sackCluster sack.toNat) none; let sent := columnTime s k q true
     let addr (j : Nat) : Nat := hbmAddr r.val t row bank.toNat (col.toNat + j); let v := sackLine s.regions[r] sack.toNat line.toNat
     beatOpen s r b → actionCause i = none → columnReady s r b t bank.toNat row true → linesAllowed s r t bank.toNat row col.toNat n true →
     line.toNat + n ≤ 8192 → readsClean s r b i sack.toNat line.toNat → roomTo s r (b + busBeats s n + 12) → s.far.weights.pages = [] →
     ∃ u, exec i s = .next u ∧ Same { trackMask with hbm := true, flaws := true, regs := true } s u ∧
       (far = 0 → u.hbm = s.hbm.writeBytes (addr 0) (lineBytes v)) ∧
       (far ≠ 0 → u.hbm = s.hbm ∧
         ({ beat := b + far, issue := b, slot := actionSlot i, op := .hbmPut (addr 0) v } : Due) ∈ u.regions[r].due) ∧
       trackOf u.regions[r] t = { k with busFree := b + busBeats s n, busReady := sent + lineUnits n
                                         readFree := max k.readFree (b + busBeats s n + tkWtr s r.val)
                                         readReady := max k.readReady (sent + lineUnits n + nsUnits 8) } ∧
       bankOf u.regions[r] t bank.toNat = { q with
         wrEnd := max q.wrEnd (b + busBeats s n + tkWr s r.val)
         preReady := max q.preReady (sent + lineUnits n + nsUnits 16)
         pre := if ap then some (max (q.actAt + tkRas s r.val) (b + busBeats s n + tkWr s r.val)) else q.pre } ∧
       (s.time < sent → u.regions[r].held.getLsbD 60 = true ∧ u.regions[r].guard = max s.regions[r].guard sent) ∧
       ∀ j, 1 ≤ j → j < n → ({ beat := b + busBeats s j, issue := b, slot := actionSlot i
                               op := .twrRead sack.toNat (line.toNat + j) (addr j) } : Due) ∈ u.regions[r].due))

/-- TSLOT and TIDX (R154, R159, R163, R167, R168). A refresh slot takes the tracks of its mask for S beats and refreshes the bank pair of each
whose interval runs out before the next slot, at the time at which the stack takes the command; a far slot lends them to the far engine.
TIDX reads an index from a Sack line and issues the column command it names two beats on, or loads an index register, due at b + 3; each
12 beats later where the line lies in a detoured cluster (R67). -/
def Obligations.SlotsAndIndices : Prop :=
  (∀ s r b mask pair, let i := Instr.tslotRefresh r mask pair; let g := s.regions[r]
    let sent (k : Nat) : Nat := slotTime s (trackOf g k) [bankOf g k pair.toNat, bankOf g k (pair.toNat + 8)]
    beatOpen s r b → actionCause i = none → (∀ p, s.pitch = some p → maskEnabled p r.val mask = true) →
    (∀ k, k < 24 → mask.getLsbD k = true → trackFree g k b ∧ (trackOf g k).busFree ≤ b ∧
      ∀ j ∈ [pair.toNat, pair.toNat + 8], (bankOf g k j).mode b (tkRp s r.val) = .closed) →
    ∃ t, exec i s = .next t ∧ Same trackMask s t ∧ (∀ k, k < 24 → mask.getLsbD k = true →
      (trackOf t.regions[r] k).busFree = b + tkS s r.val ∧ (trackOf t.regions[r] k).slotFree = b + tkS s r.val ∧
      (trackOf t.regions[r] k).cmdReady = sent k + nsUnits 5 / 2 ∧
      ∀ j ∈ [pair.toNat, pair.toNat + 8], (bankOf t.regions[r] k j).refAt = b + tkRfc s r.val ∧
        (bankOf t.regions[r] k j).refreshed = (if refreshInterval (trackOf g k) ≤ s.time - (bankOf g k j).refreshed + slotReserve s r.val
          then sent k else (bankOf g k j).refreshed))) ∧
  (∀ s r b mask nbeats, let i := Instr.tslotFar r mask nbeats; let g := s.regions[r]
    beatOpen s r b → actionCause i = none → (∀ p, s.pitch = some p → maskEnabled p r.val mask = true) →
    (∀ k, k < 24 → mask.getLsbD k = true → trackFree g k b ∧ (trackOf g k).busFree ≤ b ∧
      ∀ j, j < 16 → (bankOf g k j).mode b (tkRp s r.val) = .closed) →
    ∃ t, exec i s = .next t ∧ Same trackMask s t ∧ ∀ k, k < 24 → trackOf t.regions[r] k =
      (if mask.getLsbD k = true then { trackOf g k with farEnd := b + nbeats.toNat + 1 } else trackOf g k)) ∧
  (∀ s r b track bank isack iline nlog dsack dline row, let i := Instr.tidxColumn r track bank isack iline nlog dsack dline
    let n := 2 ^ nlog.toNat; let idx := lineField (sackLine s.regions[r] isack.toNat iline.toNat) 0 4
    let c := b + 2 + detourBeats s r none (sackCluster isack.toNat)
    beatOpen s r b → actionCause i = none → columnReady s r c track.toNat bank.toNat row false → dline.toNat + n ≤ 8192 →
    readsClean s r b i isack.toNat iline.toNat → roomTo s r c →
    ∃ t, exec i s = .next t ∧ issued s t r i b
      (fun g => { g with tracks := storeSet Track.idle g.tracks track.toNat { trackOf g track.toNat with busFree := c + busBeats s n } })
      [(c, .tidxColumn track.toNat bank.toNat (if idx < 16 / n then some idx else none) n dsack.toNat dline.toNat)]) ∧
  (∀ s r b x isack iline word stride count, let i := Instr.tidxLoadIndex r x isack iline word stride count
    let idx := lineField (sackLine s.regions[r] isack.toNat iline.toNat) (4 * word.toNat) 4
    let c := b + 3 + detourBeats s r none (sackCluster isack.toNat)
    beatOpen s r b → actionCause i = none → readsClean s r b i isack.toNat iline.toNat → roomTo s r c →
    ∃ t, exec i s = .next t ∧ issued s t r i b (fun g => g)
      [(c, .xregPut x.toNat (if idx ≤ count.toNat then some (idx * stride.toNat) else none))])

/-- Refresh outside slots, far service and stack errors (R154, R161, R163 to R165, R170). A bank overdue in RUN or held, and any idle one, is
refreshed now, an open one closed before and opened again after; a hold's far service closes the banks that the Trail left open, which are
restored before the resume; a launch near closes a track's banks; the oldest far access of a track is served where it may be. A stack error
is retried and logged, a failed retry is fault 0x2709, a silent stack 0x370A. -/
def Obligations.TracksInTime : Prop :=
  (∀ s r (k : Fin 24) (j : Fin 16), let q := bankOf s.regions[r] k.val j.val
    let done (u : Bank) (t : State) : Prop := bankOf t.regions[r] k.val j.val = u ∧ otherBanks s.regions[r] t.regions[r] k.val j.val
    let again := q.refresh (bankMode s r k.val j.val) s.time
    let due := refreshInterval (trackOf s.regions[r] k.val) ≤ s.time - q.refreshed
    again.refreshed = s.time ∧
    (s.pacer.mode = .run → due →
      (strictOn s = false → ∃ t, exec (.guardRefresh r k j) s = .next t ∧
        Same { trackMask with regs := true, free := true, log := true, logSeq := true } s t ∧ done again t ∧
        getField t (Reg.RG_TK_GUARD r.val) 16 16 = min 65535 (getField s (Reg.RG_TK_GUARD r.val) 16 16 + 1)) ∧
      (strictOn s = true → unstruck s → ∃ t, exec (.guardRefresh r k j) s = .next t ∧ struckBy s t 0x2706 r.val 60 0 (lastBeat s.regions[r]))) ∧
    (s.pacer.mode = .held → due → ∃ t, exec (.heldRefresh r k j) s = .next t ∧ Same { regions := true } s t ∧ done again t) ∧
    (s.pacer.mode = .off ∨ s.pacer.mode = .cal ∨ s.pacer.mode = .armed → ∃ t, exec (.idleTrackRefresh r k j) s = .next t ∧
      Same { regions := true } s t ∧
      done { q with row := none, pre := none, refreshed := s.time, actReady := max s.time q.actReady + nsUnits 160 } t)) ∧
  (∀ s r (k : Fin 24) j o, (trackOf s.regions[r] k.val).saved = [(j, o)] → j < 16 → let q := bankOf s.regions[r] k.val j
    let again := max s.time q.actReady
    ∃ t, exec (.bankRestore r k) s = .next t ∧ Same { regions := true } s t ∧ (trackOf t.regions[r] k.val).saved = [] ∧
      bankOf t.regions[r] k.val j = { o with colReady := again + nsUnits 14, preReady := again + nsUnits 30
                                             refreshed := q.refreshed, actReady := q.actReady }) ∧
  (∀ s r (k : Fin 24) c, armedCount s = some c → c ≤ nowTicks s + 512 → s.pacer.mode ≠ .run → s.pacer.mode ≠ .held →
    ∃ t, exec (.trackLaunchQuiesce r k) s = .next t ∧
    Same { regions := true } s t ∧ trackOf t.regions[r] k.val = trackOf s.regions[r] k.val ∧
    ∀ j, j < 16 → bankOf t.regions[r] k.val j = { bankOf s.regions[r] k.val j with row := none, pre := none }) ∧
  (∀ s r (k : Fin 24) w rest, s.far.waits = w :: rest → w.track = 24 * r.val + k.val → trackServes s r k.val = true →
    awake s = true → getField s Reg.FW_STAT 28 2 = 0 → (∀ p : Fin 2, s.hosts[p].posted = [] ∧ s.hosts[p].reads = []) →
    let stop := if s.pacer.mode = .run then some (trackOf s.regions[r] k.val).farEnd else none
    ∃ t, exec (.farAccessServe r k) s = .next t ∧ Same { trackMask with regs := true, far := true } s t ∧
      t.far = { s.far with
        waits := rest
        reqs := s.far.reqs.map (fun q => if q.id = w.id then { q with served := q.served ++ [(24 * r.val + k.val, stop)] } else q) } ∧
      getField t (Reg.RG_TK_FAR r.val) 0 32 = min (2 ^ 32 - 1) (getField s (Reg.RG_TK_FAR r.val) 0 32 + 1) ∧
      (s.pacer.mode ≠ .held → t.regions = s.regions) ∧
      (s.pacer.mode = .held → ∀ j, j < 16 → (∃ o, bankMode s r k.val j = .opened o) ∨ bankMode s r k.val j = .pending →
        (bankOf t.regions[r] k.val j).row = none ∧ (j, bankOf s.regions[r] k.val j) ∈ (trackOf t.regions[r] k.val).saved)) ∧
  (∀ s r (k : Fin 24) kind, let lo := if kind = .parity then 16 else 0
    (∃ t, exec (.stackErrorRetry r k kind true) s = .next t ∧
      Same { regs := true, free := true, whistle := true, log := true, logSeq := true } s t ∧
      getField t (Reg.RG_TK_RETRY r.val) lo 16 = min 65535 (getField s (Reg.RG_TK_RETRY r.val) lo 16 + 1)) ∧
    (unstruck s → ∃ t, exec (.stackErrorRetry r k kind false) s = .next t ∧ struckBy s t 0x2709 r.val 60 0 (lastBeat s.regions[r])) ∧
    (ready s = true → ∃ t, exec (.stackTimeout r k) s = .next t ∧ resetBy s t 0x370A)) ∧
  (∀ s r, s.regions[r].held.getLsbD 60 = true → s.regions[r].acked.getLsbD 63 = false → s.regions[r].guard ≤ s.time →
    ∃ t, exec (.timingGuardSend r) s = .next t ∧ Same { trackMask with regs := true } s t ∧
      t.regions[r].held = s.regions[r].held &&& ~~~(1#64 <<< 60) ∧ t.regions[r].guard = 0 ∧ t.regions[r].completed = s.regions[r].completed ∧
      (s.regions[r].rowWait = false → s.regions[r].waits = [] → s.regions[r].asleep.getLsbD 60 = false →
        t.regions[r].acked = s.regions[r].acked ||| (1#64 <<< 60)) ∧
      getField t (Reg.RG_TK_GUARD r.val) 0 16 = min 65535 (getField s (Reg.RG_TK_GUARD r.val) 0 16 + 1))

/-! ## The Compass and Zipper -/

/-- Reference frames (R281, R282, R284, Table 12.3), with no echo asked for. While ACQUIRING a good frame loads the count, or while a
job runs slews it (R280), and one 65,536 above it locks. While LOCKED a good frame that agrees keeps the lock; one that does not, or a second bad one in a row, gives HOLDOVER.
There, with no job, the second good frame in a row locks again, and a count behind it goes to the reference. Lock, skew, offset and cycle
timers (R283, R285, R287, R289, R290, Table 12.3). Symbol lock starts ACQUIRING; its loss ends that, or gives HOLDOVER. A held error above
its limit while a job runs is fault 0x2A04. A timer that is enabled next fires at the first count of its form that lies 64 ticks on; the
wake signal comes its lead before the next launch or firing; a read of the capture FIFO takes its head. -/
def Obligations.CompassMoves : Prop :=
  (∀ s (frame : List Byte) (v : BitVec 16), getField s Reg.CMP_CTL 1 1 = 0 → let c := leField frame 0 8
     (compassState s ≠ 0 → frameBad frame v.toNat = true → ∃ t, exec (.referenceFrame frame v) s = .next t ∧ t.hbm = s.hbm ∧
       t.regions = s.regions ∧ t.compass.bad = s.compass.bad + 1 ∧ t.compass.count = s.compass.count ∧
       getField t Reg.CMP_FRAME_ERR 16 16 = min 65535 (getField s Reg.CMP_FRAME_ERR 16 16 + 1) ∧
       compassState t = (if compassState s = 2 ∧ 1 ≤ s.compass.bad then 3 else compassState s)) ∧
     (compassState s = 1 → frameBad frame v.toNat = false → s.compass.valid = false → ∃ t, exec (.referenceFrame frame v) s = .next t ∧
       compassState t = 1 ∧ t.compass.valid = true ∧ t.compass.first = some c ∧
       (pacing s = false → nowUnits s ≤ c * 256 → t.compass.count = BitVec.ofNat 64 c ∧ t.compass.frac = 0) ∧
       (pacing s = true → t.compass.count = s.compass.count ∧ t.compass.diff = (c : Int) * 256 - (nowUnits s : Int))) ∧
     (compassState s = 1 → frameBad frame v.toNat = false → s.compass.valid = true → s.compass.first = some (c - 65536) → 65536 ≤ c →
       ∃ t, exec (.referenceFrame frame v) s = .next t ∧ compassState t = 2 ∧ t.compass.count = s.compass.count ∧ t.compass.first = none) ∧
     (compassState s = 2 → frameBad frame v.toNat = false → ∃ t, exec (.referenceFrame frame v) s = .next t ∧
       t.compass.count = s.compass.count ∧ t.regions = s.regions ∧ compassState t = (if s.compass.count.toNat = c then 2 else 3)) ∧
     (compassState s = 3 → frameBad frame v.toNat = false → 1 ≤ s.compass.good → pacing s = false → nowUnits s ≤ c * 256 →
       ∃ t, exec (.referenceFrame frame v) s = .next t ∧ compassState t = 2 ∧ t.compass.count = BitVec.ofNat 64 c ∧ t.compass.frac = 0)) ∧
  ((∀ s, compassState s = 0 → getField s Reg.CMP_CTL 0 1 = 1 → exec .symbolLock s = .next (setField s Reg.CMP_STAT 30 2 1)) ∧
   (∀ s, (compassState s = 1 → ∃ t, exec .symbolLockLoss s = .next t ∧
       Same { regs := true, compass := true, pacer := true } s t ∧
       getReg t Reg.CMP_STAT = 0 ∧ t.compass.valid = (s.compass.valid && pacing s) ∧ t.compass.ofsValid = false) ∧
     (compassState s = 2 → ∃ t, exec .symbolLockLoss s = .next t ∧ compassState t = 3 ∧ t.compass.holdFrom = s.time ∧
       t.compass.ofsValid = false ∧ t.compass.count = s.compass.count ∧ t.regions = s.regions)) ∧
   (∀ s, s.trail.mode = .running → getField s Reg.CMP_SKEW_LIM 0 10 < holdError s → unstruck s →
     ∃ t, exec .holdoverSkewFault s = .next t ∧ struckBy s t 0x2A04 0 63 0 (s.pacer.released - 1)) ∧
   (∀ s, s.compass.diff = 0 → exec .slewComplete s = .next (setField s Reg.CMP_STAT 27 1 0)) ∧
   (∀ s, getField s Reg.CMP_CTL 2 1 = 1 → exec .ptpSyncTimeout s = .next { s with compass := { s.compass with ofsValid := false } }) ∧
   (∀ s w, ∃ t, exec (.ptpOffsetWrite .ranger w) s = .next t ∧ Same { regs := true, compass := true, halves := true } s t ∧
     getReg t Reg.CMP_PTP_OFS = (formHalf s .ranger Reg.CMP_PTP_OFS w).1 ∧
     t.compass = { s.compass with ofsValid := decide (getField s Reg.CMP_CTL 2 1 = 0) || decide (compassState s = 2) }) ∧
   (∀ s (j : Fin 4) (v : W32), j.val < s.compass.cycles.length → ∃ t, exec (.cycleConfigWrite .ranger j v) s = .next t ∧
     Same { regs := true, compass := true } s t ∧ getReg t (Reg.CMP_CYC_CFG j.val) = (v.setWidth 64) &&& 0xFFFF0000 ∧
     (v.getLsbD 31 = false → t.compass.cycles[j.val]? = some none) ∧
     (v.getLsbD 31 = true → ∃ f n, t.compass.cycles[j.val]? = some (some f) ∧ nowTicks s + 64 ≤ f ∧
       f = (getReg s (Reg.CMP_CYC_BASE j.val)).toNat + n * max 1 (getField s (Reg.CMP_CYC_PER j.val) 0 32) ∧
       (n = 0 ∨ f < nowTicks s + 64 + max 1 (getField s (Reg.CMP_CYC_PER j.val) 0 32))) ∧
     ∀ k, k ≠ j.val → t.compass.cycles[k]? = s.compass.cycles[k]?) ∧
   (∀ s c, earliest (wakeCounts s) = some c → c ≤ nowTicks s + getField s Reg.CMP_WAKE_LEAD 0 24 → s.compass.wokeFor ≠ some c →
     ∃ t, exec .wakeSignal s = .next t ∧ t.compass = { s.compass with wokeFor := some c } ∧ getField t Reg.FW_STAT 28 2 = 0 ∧
       t.firewatch.low = false ∧ ∀ r : Fin 32, ∀ k, k < 24 → storeGet 0 t.regions[r].idleOf k = 1) ∧
   (∀ s e rest, s.compass.capture = e :: rest → exec (.capturePop .ranger) s = .next { s with
     compass := { s.compass with capture := rest }, out := s.out ++ [.read (leBytes 8 e.2.2.toNat)] }) ∧
   (∀ s, s.compass.capture = [] → exec (.capturePop .ranger) s = .next { s with out := s.out ++ [.read (leBytes 8 0)] }))

/-- Zipper's digests (R291 to R293). A window of 64 beats whose outcome is known gives the digest of its records, a boundary that of the
watched lines; each is kept until the peer's comes. A ZIP from the peer is compared with this module's digest of that window, and counted,
or kept; the first two that differ are told in ZP_FIRST and end in the state DIVERGED. -/
def Obligations.ZipperCompares : Prop :=
  (∀ s (r : Fin 32), let w := storeGet 0 s.zipper.done r.val
    zipWindows s = true → boundaryOpen s s.regions[r] = false → 64 * (w + 1) ≤ s.regions[r].completed → r.val < s.zipper.crcs.length →
    s.zipper.peer = [] → ∃ t, exec (.zipperWindowDigest r) s = .next t ∧ t.regions = s.regions ∧ storeGet 0 t.zipper.done r.val = w + 1 ∧
      t.zipper.crcs[r.val]? = some (BitVec.allOnes 64) ∧
      ({ region := r.val, window := w, digest := zipDigest (s.zipper.crcs.getD r.val 0).toNat } : WinDigest) ∈ t.zipper.own) ∧
  (∀ s (r : Fin 32) n, zipBoundaries s = true → boundaryTaken s s.regions[r] = some n → n.beat + 2 < s.regions[r].begun →
    s.regions[r].begun ≤ n.beat + 128 →
    storeGet 0 s.zipper.done r.val ≤ n.bnd → s.regions[r].windows = [] → s.zipper.peer = [] →
    ∃ t, exec (.zipperBoundaryDigest r) s = .next t ∧ t.regions = s.regions ∧ storeGet 0 t.zipper.done r.val = n.bnd + 1 ∧
      ({ region := r.val, window := n.bnd, digest := zipDigest (crc64 (2 ^ 64 - 1) (((watchedLines s r.val).take 120).flatMap
          (fun l => lineBytes (sackLine s.regions[r] l.1 l.2)))) } : WinDigest) ∈ t.zipper.own) ∧
  (∀ s p v pl, heard s p 12 v pl → zipAllowed s p = true → getField s Reg.ZP_CTL 31 1 = 1 → p = zipPort s →
    let r := fieldN pl.toNat 35 5; let d := fieldN pl.toNat 0 24
    let near := if zipBoundaries s then (getReg s Reg.TR_BND).toNat else (s.regions[regionFin r]).completed / 64
    let w := recover (fieldN pl.toNat 24 11) 11 near; let mine := s.zipper.own.find? (fun e => e.region == r && e.window == w)
    (mine = none → s.zipper.peer = [] → ∃ t, exec (.zip p v) s = .next t ∧ Same { ports := true, zipper := true } s t ∧
      t.zipper = { s.zipper with peer := [{ region := r, window := w, digest := d }] }) ∧
    (∀ e, mine = some e → e.digest = d → ∃ t, exec (.zip p v) s = .next t ∧ Same { ports := true, zipper := true, regs := true } s t ∧
      t.zipper = { s.zipper with own := s.zipper.own.filter (fun e => !(e.region == r && e.window == w)) } ∧
      getField t Reg.ZP_COUNT 16 16 = min 65535 (getField s Reg.ZP_COUNT 16 16 + 1)) ∧
    (∀ e, mine = some e → e.digest ≠ d → getField s Reg.ZP_STAT 30 2 ≠ 2 → getField s Reg.ZP_CTL 29 1 = 0 →
      ∃ t, exec (.zip p v) s = .next t ∧
        Same { ports := true, zipper := true, regs := true, free := true, log := true, logSeq := true, whistle := true } s t ∧
        getField t Reg.ZP_STAT 30 2 = 2 ∧ getReg t Reg.ZP_FIRST = BitVec.ofNat 64 w ∧
        getReg t Reg.ZP_FIRST_DIG = BitVec.ofNat 64 (r * 2 ^ 59 + e.digest * 2 ^ 24 + d)))

/-! ## Gears, weights, host memory -/

/-- The gear log, the gear script and the weight load (R306, R307, R312, R313, R346). A read of the log takes its head; a push to the
script joins it, or is counted where it is full; clearing EN empties it. OPEN starts a weight load where no job runs; bytes delivered at an
image offset are hashed and written to HBM where the layout puts them; CLOSE gives the digest, VALID where no gap was left. -/
def Obligations.WeightsAndGears : Prop :=
  (∀ s e rest, s.gearLog = e :: rest → exec (.gearLogPop .ranger) s =
    .next { s with gearLog := rest, out := s.out ++ [.read (leBytes 8 e.2.toNat)] }) ∧
  (∀ s, s.gearLog = [] → exec (.gearLogPop .ranger) s = .next { s with out := s.out ++ [.read (leBytes 8 0)] }) ∧
  (∀ s w, let v := (formHalf s .ranger Reg.CR_GSCRIPT w).1
    (s.gearScript.length < 1024 → ∃ t, exec (.gearScriptPush .ranger w) s = .next t ∧ Same { halves := true, gearScript := true } s t ∧
      t.gearScript = s.gearScript ++ [(fieldN v.toNat 32 32, fieldN v.toNat 0 2)]) ∧
    (1024 ≤ s.gearScript.length → ∃ t, exec (.gearScriptPush .ranger w) s = .next t ∧ Same { halves := true, regs := true } s t ∧
      getField t Reg.CR_GSCRIPT_STAT 0 16 = min 65535 (getField s Reg.CR_GSCRIPT_STAT 0 16 + 1))) ∧
  (∀ s en, ∃ t, exec (.gearScriptEnable .ranger en) s = .next t ∧ Same { regs := true, gearScript := true } s t ∧
    getField t Reg.CR_GSCRIPT_STAT 31 1 = bit1 en ∧ t.gearScript = (if en then s.gearScript else [])) ∧
  (∀ s, (pacing s = false → ∃ t, exec (.weightLoadOpen .ranger) s = .next t ∧ Same { regs := true, far := true } s t ∧
      getReg t Reg.CR_WSTAT = BitVec.ofNat 64 (2 ^ 30) ∧ getReg t Reg.CR_WLEN = 0 ∧
      t.far = { s.far with weights := { bytes := [], next := 0, pages := [] } }) ∧
    (pacing s = true → ∃ t, exec (.weightLoadOpen .ranger) s = .next t ∧
      Same { free := true, whistle := true, log := true, logSeq := true } s t)) ∧
  (∀ s, weightOpen s = true → ∃ t, exec (.weightLoadClose .ranger) s = .next t ∧ Same { regs := true } s t ∧ weightOpen t = false ∧
    getField t Reg.CR_WSTAT 31 1 = 1 - getField s Reg.CR_WSTAT 29 1 ∧
    ∀ i, i < 8 → getReg t (Reg.CR_WDIGEST i) = BitVec.ofNat 64 (leField (sha256 s.far.weights.bytes) (4 * i) 4)) ∧
  (∀ s p (off : BitVec 36) data, let w := getField s Reg.HST_WPAGE 0 5 * 2 ^ 36 + off.toNat
    ready s = true → weightSource s p = true → data ≠ [] → s.hosts[p].posted = [] → s.hosts[p].reads = [] → awake s = true →
    getField s Reg.FW_STAT 28 2 ≤ 2 → (weightAddr s (presentTracks s) (w + data.length - 1)).isSome = true →
    ∃ t, exec (.weightLoadWrite p off data) s = .next t ∧ t.regions = s.regions ∧ t.barrel = s.barrel ∧ t.hosts = s.hosts ∧
      t.far.weights.bytes = s.far.weights.bytes ++ data ∧ t.far.weights.next = w + data.length ∧
      getReg t Reg.CR_WLEN = getReg s Reg.CR_WLEN + BitVec.ofNat 64 data.length ∧
      (w ≠ s.far.weights.next → getField t Reg.CR_WSTAT 29 1 = 1) ∧
      (∀ x a, data = [x] → weightAddr s (presentTracks s) w = some a → t.hbm = s.hbm.writeBytes a [x]))

/-- The Vestibule (R343, R344). A host's write within its window is held behind the accesses before it, with its tracks queued, or goes
to the Barrel at once; a poisoned one is dropped. A read of the Barrel is answered with its data, one of HBM waits for its tracks; one that
has waited for its timeout is refused. -/
def Obligations.VestibuleMoves : Prop :=
  (∀ s p (off : BitVec 36) data, let a := vestAddr s p off.toNat
    ready s = true → weightSource s p = false → data ≠ [] → data.length ≤ toGib off.toNat → postedWrites s.hosts[p] < 256 →
    vestFits s p a data.length = true →
    (vestBarrel s p = false → getField s Reg.FW_STAT 28 2 ≤ 2 → ∃ t, exec (.vestibuleWrite p off data false) s = .next t ∧
      Same { lantern := true, far := true, hosts := true } s t ∧
      t.far = { s.far with seq := s.far.seq + 1
                           waits := s.far.waits ++ (rangeTracks a data.length).map (fun k => { track := k, id := s.far.seq }) } ∧
      t.hosts = s.hosts.set p { s.hosts[p] with posted := s.hosts[p].posted ++ [.vest s.far.seq a (privOf s (.host p)) data] }) ∧
    (vestBarrel s p = true → getField s Reg.FW_STAT 28 2 ≤ 1 → awake s = true → ∃ t, exec (.vestibuleWrite p off data false) s = .next t ∧
      Same { lantern := true, barrel := true, flaws := true } s t ∧ t.barrel = s.barrel.writeBytes a data) ∧
    ∃ t, exec (.vestibuleWrite p off data true) s = .next t ∧
      Same { lantern := true, regs := true, free := true, whistle := true, log := true, logSeq := true } s t ∧
      (getReg t (Reg.HST_ERR p.val)).getLsbD 7 = true) ∧
  (∀ s p (off : BitVec 36) (len : BitVec 13), let a := vestAddr s p off.toNat
    ready s = true → weightSource s p = false → vestFits s p a len.toNat = true → 0 < len.toNat → len.toNat ≤ toGib off.toNat →
    s.hosts[p].posted = [] → s.hosts[p].reads = [] →
    (vestBarrel s p = true → getField s Reg.FW_STAT 28 2 ≤ 1 → awake s = true → s.flaws = [] → (∀ w ∈ s.far.waits, w.id < s.far.seq) →
      ∃ t, exec (.vestibuleRead p off len) s = .next t ∧ Same { lantern := true, out := true, far := true } s t ∧
      t.far = { s.far with seq := s.far.seq + 1 } ∧ t.out = s.out ++ [.read (s.barrel.readBytes a len.toNat)]) ∧
    (vestBarrel s p = false → getField s Reg.FW_STAT 28 2 ≤ 2 →
      ∃ t, exec (.vestibuleRead p off len) s = .next t ∧ Same { far := true, hosts := true } s t ∧
      t.hosts = s.hosts.set p { s.hosts[p] with
        reads := [{ id := s.far.seq, req := s.far.seq, barrel := false, priv := privOf s (.host p), addr := a, len := len.toNat
                    since := s.time }] } ∧
      t.far.waits = s.far.waits ++ (rangeTracks a len.toNat).map (fun k => { track := k, id := s.far.seq }))) ∧
  (∀ s p r rest, s.hosts[p].reads = r :: rest → r.since + getField s (Reg.HST_VEST_TMO p.val) 0 32 * 40000 ≤ s.time →
    ∃ t, exec (.vestibuleReadTimeout p) s = .next t ∧ t.hbm = s.hbm ∧ t.regions = s.regions ∧
      t.hosts = s.hosts.set p { s.hosts[p] with reads := rest } ∧ t.out = s.out ++ [.refuse p.val] ∧
      (getReg t (Reg.HST_ERR p.val)).getLsbD 6 = true)

/-- The Peg window and the wait limit (R140, R144, R145). A host's aligned write raises COUNT of a Peg that the Pitch gives to hosts, in
the next beat of its region, and a 64-bit one may set ERR; any other Peg stays, and so it does for a misaligned write. RG_PEG_WLIM holds
what is written. -/
def Obligations.PegWindow : Prop :=
  (∀ s p (off : BitVec 17) (v : W64), let id := off.toNat / 8; let r := regionFin (id / 512); let g := s.regions[r]
    ready s = true → s.hosts[p].posted = [] → s.hosts[p].reads = [] →
    (pegHostw s r.val (id % 512) = true → s.pacer.mode = .run → g.waits = [] → s.tarp.struck = false →
      (off.toNat % 8 = 0 → ∃ t, exec (.pegWindowWrite p off .b4 v) s = .next t ∧ t.hbm = s.hbm ∧
        t.regions = s.regions.set r { g with pegLater := g.pegLater ++ [(id % 512, v.toNat % 2 ^ 32, false)] }) ∧
      (off.toNat % 8 = 0 → ∃ t, exec (.pegWindowWrite p off .b8 v) s = .next t ∧ t.hbm = s.hbm ∧
        t.regions = s.regions.set r { g with pegLater := g.pegLater ++ [(id % 512, v.toNat % 2 ^ 32, false)] ++
          (if v.getLsbD 32 then [(id % 512, 0, true)] else []) }) ∧
      (off.toNat % 8 = 4 → ∃ t, exec (.pegWindowWrite p off .b4 v) s = .next t ∧ t.hbm = s.hbm ∧
        t.regions = s.regions.set r { g with pegLater := g.pegLater ++ (if v.getLsbD 0 then [(id % 512, 0, true)] else []) })) ∧
    (pegHostw s r.val (id % 512) = false → ∀ size, pegAligned off size = true → ∃ t, exec (.pegWindowWrite p off size v) s = .next t ∧
      Same { lantern := true, free := true, whistle := true, log := true, logSeq := true, hosts := true } s t) ∧
    ∀ size, pegAligned off size = false → ∃ t, exec (.pegWindowWrite p off size v) s = .next t ∧
      Same { lantern := true, free := true, whistle := true, log := true, logSeq := true } s t) ∧
  (∀ s (r : Fin 32) (v : W32), ∃ t, exec (.pegWlimWrite .ranger r v) s = .next t ∧
    Same { regs := true, lantern := true, whistle := true } s t ∧ getReg t (Reg.RG_PEG_WLIM r.val) = v.setWidth 64 ∧
    ∀ k, k ≠ Reg.RG_PEG_WLIM r.val → getReg t k = getReg s k)

/-! ## Firewatch -/

/-- Power and heat (R315, R317, R318, R328, Table 14.2). An epoch takes its sensors' readings: the input's power is kept for the averages,
and an average over the last 1 µs above 3,400 W is CRITICAL, which begins an emergency of a job that runs. The emergency is over once the
zone is better and, while a job runs, FW_EHOLD epochs have passed since the hold and, for a power cause, a pace at or below the lowered
WANT is in force or WANT was at the floor. A junction at 115 °C or an HBM case at 100 °C resets the module with 0x3B06, held until every
reading is 20 °C lower. Wakes and module states (R330, R331, Table 14.6). The gate starts the wake of a unit, or of the units gated with
it, and they are awake 2, 40 or 2,000 beats later; a unit that wakes late acknowledges the beat it withheld; a module with a job stays in
M0; one without a job, launch or timer goes as deep as FW_MCFG lets it at once. -/
def Obligations.FirewatchRuns : Prop :=
  ((∀ s (x : Sensors), tripAt x.junction (x.hbm.map (·.setWidth 8)) = false →
     ∃ t, exec (.firewatchEpoch x) s = .next t ∧ t.hbm = s.hbm ∧ t.barrel = s.barrel ∧ t.pacer = s.pacer ∧
       t.firewatch.hist = (inputSum x.input :: s.firewatch.hist).take 1024 ∧
       (let last := x.input.getLastD (0, 0); getReg t Reg.FW_INPUT = BitVec.ofNat 64 (last.1.toNat * 2 ^ 16 + last.2.toNat)) ∧
       (∀ r, r < 32 → getReg t (Reg.FW_RTEMP r) = (x.junction.getD r 0).setWidth 64) ∧
       (let i := inputSum (x.input.drop (x.input.length - 10)); 34000000 * i.2 < i.1 →
         getField t Reg.FW_STAT 30 2 = 3 ∧ (s.pitch.isSome = true → running s = true → t.firewatch.ehold.isSome = true))) ∧
   (∀ s (x : Sensors), ready s = true → tripAt x.junction (x.hbm.map (·.setWidth 8)) = true →
     ∃ t, exec (.firewatchEpoch x) s = .next t ∧ resetBy s t 0x3B06 ∧ t.startup.thermal = true) ∧
   (∀ s (e : Emergency), s.firewatch.ehold = some e → getField s Reg.FW_STAT 30 2 ≠ 3 →
     (running s = false ∨ ∃ n, e.raised = some n ∧ n + getField s Reg.FW_EHOLD 0 16 ≤ nowEpoch s ∧
       (e.power = false ∨ s.pacer.n ≤ e.want ∨ e.atFloor = true)) →
     ∃ t, exec .emergencyHoldEnd s = .next t ∧ t.firewatch.ehold = none ∧
       (s.tarp.holds = [] → Same { firewatch := true, regions := true } s t ∧
         t.firewatch = { s.firewatch with ehold := none, low := false } ∧
         ∀ r : Fin 32, t.regions[r].idleOf = s.regions[r].idleOf.filter (fun e => decide (24 ≤ e.1))) ∧
       (∀ a, s.tarp.holds = [{ origin := selfIndex s, a := a, own := true, causes := [.lag] }] → allCompleted s a = true →
         t.tarp.holds = [])) ∧
   (∀ s e n, s.firewatch.ehold = some e → e.raised = some n →
     (getField s Reg.FW_STAT 30 2 = 3 ∨ running s = true ∧ (nowEpoch s < n + getField s Reg.FW_EHOLD 0 16 ∨
       e.power = true ∧ e.want < s.pacer.n ∧ e.atFloor = false)) → exec .emergencyHoldEnd s = .next s) ∧
   (∀ s j h, ready s = true → tripAt j h = true → ∃ t, exec (.thermalTrip j h) s = .next t ∧ resetBy s t 0x3B06 ∧
     t.startup.thermal = true) ∧
   (∀ s j h, (∀ v ∈ j, v.toNat ≤ 380) → (∀ v ∈ h, v.toNat ≤ 80) → exec (.thermalRecovery j h) s =
     .next { s with startup := { s.startup with thermal := false, stepFrom := s.time } }) ∧
   (∀ s j h, ((∃ v ∈ j, 380 < v.toNat) ∨ ∃ v ∈ h, 80 < v.toNat) → exec (.thermalRecovery j h) s = .next s)) ∧
  ((∀ s r (k : Fin 64) i at_, s.regions[r].waking.find? (fun e => e.1 == k.val) = some (i, at_) → at_ ≤ s.time →
     s.regions[r].asleep.getLsbD k.val = false → exec (.unitWake r k) s = .next { s with regions := s.regions.set r { s.regions[r] with
       idleOf := storeDel s.regions[r].idleOf k.val, waking := storeDel s.regions[r].waking k.val
       asleep := s.regions[r].asleep &&& ~~~(1#64 <<< k.val) } }) ∧
   (∀ s r (k : Fin 64) i at_, s.regions[r].waking.find? (fun e => e.1 == k.val) = some (i, at_) → at_ ≤ s.time →
     s.regions[r].asleep.getLsbD k.val = true → s.regions[r].held.getLsbD k.val = false → k.val ≠ 63 →
     s.regions[r].acked.getLsbD 63 = false → s.regions[r].rowWait = false → s.regions[r].waits = [] →
     ∃ t, exec (.unitWake r k) s = .next t ∧
       Same { regions := true, free := true, lantern := true, whistle := true, log := true, logSeq := true } s t ∧
       t.regions[r].asleep = s.regions[r].asleep &&& ~~~(1#64 <<< k.val) ∧
       t.regions[r].acked = s.regions[r].acked ||| (1#64 <<< k.val) ∧
       t.regions[r].idleOf = storeDel s.regions[r].idleOf k.val ∧ t.regions[r].completed = s.regions[r].completed) ∧
   (∀ s r (k : Fin 64) d beats, (d, beats) ∈ [(1, 2), (2, 40), (3, 2000)] → storeGet 0 s.regions[r].idleOf k.val = d →
     s.regions[r].waking.find? (fun e => e.1 == k.val) = none →
     (running s = false ∧ getField s Reg.FW_STAT 28 2 = 0 ∨
       running s = true ∧ ∃ i ∈ idleGroup k.val d, s.regions[r].asleep.getLsbD i = true) →
     exec (.unitWake r k) s = .next { s with regions := s.regions.set r { s.regions[r] with
       waking := (idleGroup k.val d).foldl (fun m i => storePut m i (s.time + ceilDiv (beats * 262144) (max 1 s.pacer.n)))
         s.regions[r].waking } }) ∧
   (∀ s, pacing s = true → ∃ t, exec .moduleStateChange s = .next t ∧ t.pacer = s.pacer ∧ t.hbm = s.hbm ∧ getField t Reg.FW_STAT 28 2 = 0) ∧
   (∀ s, pacing s = false → wakeCounts s = [] → getField s Reg.FW_MCFG 0 2 = 1 → ∃ t, exec .moduleStateChange s = .next t ∧
     t.pacer = s.pacer ∧ t.hbm = s.hbm ∧ getField t Reg.FW_STAT 28 2 = 1))

/-- A pace agreed (R321 to R324). The lookout keeps each module's ask; at an epoch with no change pending it sets the least WANT known,
where that is not the pace in force; a module that receives it arms it, or is struck with 0x2B04 where it cannot; the lookout notes each
acknowledgement, and is struck with 0x2B03 where one is missing at the deadline. Votes for a gear (R326, R327). Once beat B − 8,192 of a
segment that holds a vote has begun, a module casts its own and sends it; a vote received for the boundary to come or the one after it is
kept and sent on; a boundary that waits too long for votes is fault 0x2B05. -/
def Obligations.PaceAndGearVotes : Prop :=
  ((∀ s p e src body, s.pitch = some p → ufmHead s 0x21 e src body → isLookout s = true → ∃ t, exec .paceAsk s = .next t ∧
     Same { regs := true, sinks := true, firewatch := true } s t ∧ t.sinks = s.sinks.erase e ∧ t.firewatch = { s.firewatch with
       asks := storePut s.firewatch.asks (indexOfCoord p src) (leField body 0 2, leField body 4 4, leField body 8 8) }) ∧
   (∀ s p l, s.pitch = some p → isLookout s = true → s.firewatch.pend = none → l ≤ getField s Reg.PACE_DESIGN 0 14 →
     (∀ i, i < campSize p → l ≤ knownWant s i) →
     (l = getField s Reg.PACE_DESIGN 0 14 ∨ ∃ i, i < campSize p ∧ l = knownWant s i) →
     (l = s.pacer.n → exec .lookoutEpoch s = .next s) ∧
     (l ≠ s.pacer.n → ∃ t, exec .lookoutEpoch s = .next t ∧ Same { firewatch := true, sinks := true, ports := true } s t ∧
       t.firewatch = { s.firewatch with
         serSent := s.firewatch.serSent + 1, pend := some (s.firewatch.serSent + 1, l, nowEpoch s + getField s Reg.FW_PACE_LEAD 0 8)
         acks := [] })) ∧
   (∀ s p e src body, s.pitch = some p → ufmHead s 0x22 e src body → let n := leField body 0 2; let ser := leField body 4 4
     s.firewatch.serSeen < ser →
     (1311 ≤ n → n ≤ gradeMax s → n ≤ getField s Reg.PACE_DESIGN 0 14 → nowEpoch s + 4 ≤ leField body 8 8 →
       ∃ t, exec .paceSet s = .next t ∧ Same { regs := true, sinks := true, ports := true, firewatch := true, pacer := true } s t ∧
       t.pacer = { s.pacer with pend := some (n, leField body 8 8) } ∧ t.firewatch = { s.firewatch with serSeen := ser } ∧
       getReg t Reg.PACE_NEXT = BitVec.ofNat 64 n ∧ getReg t Reg.FW_SET = BitVec.ofNat 64 (ser * 2 ^ 32 + n)) ∧
     (n < 1311 → unstruck s → ∃ t, exec .paceSet s = .next t ∧ t.tarp.struck = true ∧ getField t Reg.TR_FAULT 48 16 = 0x2B04 ∧
       t.pacer.pend = s.pacer.pend)) ∧
   (∀ s p e src body ser n d, s.pitch = some p → ufmHead s 0x23 e src body → s.firewatch.pend = some (ser, n, d) → leField body 0 4 = ser →
     leField body 4 1 = 0 → ∃ t, exec .paceAck s = .next t ∧ Same { regs := true, sinks := true, firewatch := true } s t ∧
       t.firewatch = { s.firewatch with
         acks := s.firewatch.acks.filter (· ≠ indexOfCoord p src) ++ [indexOfCoord p src] }) ∧
   (∀ s p ser n d, s.pitch = some p → isLookout s = true → s.firewatch.pend = some (ser, n, d) → nowEpoch s < d →
     d ≤ nowEpoch s + ceilDiv (getField s Reg.FW_PACE_LEAD 0 8) 2 → s.firewatch.acks.length < campSize p → unstruck s →
     ∃ t, exec .paceAckDeadline s = .next t ∧ struckBy s t 0x2B03 0 63 0 (s.pacer.released - 1))) ∧
  ((∀ s seg gear b, segmentNow s = (seg, gear, b) → running s = true → s.regions[(0 : Fin 32)].fetch.active = true →
     s.firewatch.voteCast = false → strictOn s = false → holdsVote s seg gear = true → b < s.regions[(0 : Fin 32)].begun + 8192 →
     s.gearScript = [] → let g := min s.firewatch.gwant (gearMax s)
     ∃ t, exec .gearVoteCast s = .next t ∧ Same { linkMask with firewatch := true } s t ∧ t.firewatch.voteCast = true ∧
       t.firewatch.votes = s.firewatch.votes ++ [{ bnd := bndCount s, seg := seg, who := selfIndex s, gear := g }] ∧
       ∀ q : Fin 10, campPort s q = true → s.ports[q].live = true →
         ∀ o ∈ sent3 s q 10 (gearPayload (selfIndex s) g seg (bndCount s)), o ∈ t.out) ∧
   (∀ s p v pl, heardCamp s p 10 v pl → let u : Vote := {
       who := fieldN pl.toNat 25 15, gear := fieldN pl.toNat 23 2, seg := fieldN pl.toNat 11 12,
       bnd := recover (fieldN pl.toNat 0 11) 11 (bndCount s) }
     running s = true → strictOn s = false →
     s.firewatch.votes.any (fun o => o.who == u.who && o.bnd == u.bnd && o.seg == u.seg) = false →
     (u.bnd = bndCount s ∧ u.seg = votingSeg s) ∨ u.bnd = bndCount s + 1 → s.trail.crossroad = none →
     ∃ t, exec (.gear p v) s = .next t ∧ Same { linkMask with firewatch := true } s t ∧
       t.firewatch = { s.firewatch with votes := s.firewatch.votes ++ [u] } ∧
       ∀ q : Fin 10, q ≠ p → campPort s q = true → s.ports[q].live = true → ∀ o ∈ sent3 s q 10 pl, o ∈ t.out) ∧
   (∀ s a, s.firewatch.voteWait = some a → a + getField s Reg.FW_VOTE_TMO 0 32 * 256 ≤ s.time → unstruck s →
     ∃ t, exec .gearVoteTimeout s = .next t ∧ struckBy s t 0x2B05 0 63 0 (s.pacer.released - 1)))

/-! ## Hosts -/

/-- Host links (R336, R337, R352, R357). A trained link is UP with its speed and width; a link that goes down, and a port reset, end its
reads, and stop the far requests that read or write through it; a reset ends its MSI-X state and lease too, and from bring-up step 6 on
leaves the link TRAINING (the model's choice, log entry 108). Where a condition that blocked messages clears, every pending message it
frees is sent. -/
def Obligations.HostLinks : Prop :=
  (∀ s p (speed : Fin 3) (width : Fin 4), reached s 6 = true → ∃ t, exec (.hostLinkTrained p speed width) s = .next t ∧ Same noteMask s t ∧
    getField t (Reg.HST_LINK p.val) 28 4 = 2 ∧ getField t (Reg.HST_LINK p.val) 24 4 = 4 + speed.val ∧
    getField t (Reg.HST_LINK p.val) 20 4 = 2 ^ width.val ∧
    (width.val < 3 ∨ speed.val < 2 → (getReg t (Reg.HST_ERR p.val)).getLsbD 1 = true)) ∧
  (∀ s p, (getField s (Reg.HST_LINK p.val) 28 4 ≠ 2 → exec (.hostLinkDown p) s = .next s) ∧
    (getField s (Reg.HST_LINK p.val) 28 4 = 2 → ∃ t, exec (.hostLinkDown p) s = .next t ∧
      getField t (Reg.HST_LINK p.val) 28 4 = 0 ∧ (getReg t (Reg.HST_ERR p.val)).getLsbD 0 = true ∧
      t.hosts[p].reads = [] ∧ ((∀ r : Fin 32, s.regions[r].waits = []) → t.hosts = s.hosts.set p { s.hosts[p] with reads := [] } ∧
        (∀ q ∈ t.far.reqs, q.op = 3 ∨ q.op = 4 → q.hport ≠ p.val) ∧
        ((∀ q ∈ s.far.reqs, q.op = 3 ∨ q.op = 4 → q.hport ≠ p.val) → Same { noteMask with hosts := true } s t)))) ∧
  (∀ s p flr, ∃ t, exec (.hostPortReset p flr) s = .next t ∧
    getField t (Reg.HST_LINK p.val) 28 4 = (if reached s 6 then 1 else 0) ∧ getField t (Reg.HST_LINK p.val) 18 1 = 0 ∧
    (getReg t (Reg.HST_ERR p.val)).getLsbD (if flr then 3 else 2) = true ∧ isSteward t p = false ∧
    t.hosts[p].table = [] ∧ t.hosts[p].msix = false ∧ t.hosts[p].reads = [] ∧ ((∀ r : Fin 32, s.regions[r].waits = []) →
      t.hosts = s.hosts.set p { s.hosts[p] with table := [], pba := 0, msix := false, reads := [] } ∧
      (∀ q ∈ t.far.reqs, q.op = 3 ∨ q.op = 4 → q.hport ≠ p.val) ∧
      ((∀ q ∈ s.far.reqs, q.op = 3 ∨ q.op = 4 → q.hport ≠ p.val) → Same { noteMask with hosts := true } s t))) ∧
  (∀ s p c, ∃ t, exec (.msixUnblock p c) s = .next t ∧ Same { regs := true, lantern := true, hosts := true, out := true } s t ∧
    ∀ v, v < 2048 → t.hosts[p].pba.getLsbD v = (s.hosts[p].pba.getLsbD v && !msixOpen s p c v) ∧
      (s.hosts[p].pba.getLsbD v = true → msixOpen s p c v = true → .msix p.val v ∈ t.out))

/-- The steward lease (R341). ACQUIRE of a free lease makes its port the steward, raises the generation and starts the term; RENEW by the
steward starts it anew; RELEASE by the steward, and the end of the term, free it; no other command of these changes it. The Ethernet links
(R353). A link comes up with its locked lanes, from step 7 on, and goes down with an event; a good frame is counted, a bad one is dropped
and counted by its kind; a Sync that comes in on a speaker makes it ask for the delay (the model's choice, log entry 101). -/
def Obligations.LeaseAndEthernet : Prop :=
  ((∀ s p, ready s = true → getField s Reg.HST_LEASE 30 2 = 0 → ∃ t, exec (.acquire p) s = .next t ∧
     Same { noteMask with firmware := true } s t ∧ isSteward t p = true ∧ t.firmware = { s.firmware with leaseFrom := s.time } ∧
     getField t Reg.HST_LEASE 0 16 = (getField s Reg.HST_LEASE 0 16 + 1) % 2 ^ 16) ∧
   (∀ s p, getField s Reg.HST_LEASE 30 2 ≠ 0 → exec (.acquire p) s = .next s) ∧
   (∀ s p, ready s = true → (isSteward s p = true →
       exec (.renew p) s = .next { s with firmware := { s.firmware with leaseFrom := s.time } } ∧
       ∃ t, exec (.releaseLease p) s = .next t ∧ Same noteMask s t ∧ getField t Reg.HST_LEASE 30 2 = 0) ∧
     (isSteward s p = false → exec (.renew p) s = .next s ∧ exec (.releaseLease p) s = .next s)) ∧
   (∀ s, getField s Reg.HST_LEASE 30 2 ≠ 0 → (leaseEnd s ≤ s.time → ∃ t, exec .leaseExpiry s = .next t ∧ Same noteMask s t ∧
       getField t Reg.HST_LEASE 30 2 = 0) ∧
     (s.time < leaseEnd s → exec .leaseExpiry s = .next s))) ∧
  ((∀ s e (lanes : BitVec 4), reached s 7 = true → ∃ t, exec (.ethernetLinkUp e lanes) s = .next t ∧ Same { regs := true } s t ∧
     getField t (Reg.ETH_LINK e.val) 28 4 = 1 ∧ getField t (Reg.ETH_LINK e.val) 0 4 = lanes.toNat) ∧
   (∀ s e (lanes : BitVec 4), getField s (Reg.ETH_LINK e.val) 28 4 ≠ 0 → ∃ t, exec (.ethernetLinkDown e lanes) s = .next t ∧
     Same noteMask s t ∧ getField t (Reg.ETH_LINK e.val) 28 4 = 0 ∧ getField t (Reg.ETH_LINK e.val) 0 4 = lanes.toNat) ∧
   (∀ s e (frame : List Byte), getField s (Reg.ETH_LINK e.val) 28 4 ≠ 0 → frame.length ≤ 9216 →
     (ptpMessage frame = none → ∃ t, exec (.ethernetFrame e frame .good) s = .next t ∧ Same { regs := true } s t ∧
       getField t (Reg.ETH_RX e.val) 0 64 = min (2 ^ 64 - 1) (getField s (Reg.ETH_RX e.val) 0 64 + 1)) ∧
     (∀ m, ptpMessage frame = some m → beField m 0 1 % 16 = 0 → getField s Reg.CMP_CTL 2 1 = 1 →
       ∃ t, exec (.ethernetFrame e frame .good) s = .next t ∧ .delayReq e.val s.compass.ptpSeq ∈ t.out ∧
       t.compass.ptpSeq = (s.compass.ptpSeq + 1) % 65536 ∧
       getField t (Reg.ETH_RX e.val) 0 64 = min (2 ^ 64 - 1) (getField s (Reg.ETH_RX e.val) 0 64 + 1) ∧
       getField t (Reg.ETH_TX e.val) 0 64 = min (2 ^ 64 - 1) (getField s (Reg.ETH_TX e.val) 0 64 + 1)) ∧
     (∃ t, exec (.ethernetFrame e frame .fcs) s = .next t ∧ Same { noteMask with logged := true } s t ∧
       getField t (Reg.ETH_DROP e.val) 16 16 = min 65535 (getField s (Reg.ETH_DROP e.val) 16 16 + 1)) ∧
     (∃ t, exec (.ethernetFrame e frame .codeword) s = .next t ∧ Same { noteMask with logged := true } s t ∧
       getField t (Reg.ETH_DROP e.val) 0 16 = min 65535 (getField s (Reg.ETH_DROP e.val) 0 16 + 1))))

/-! ## Whistle and Lantern -/

/-- Whistle (R358 to R364, R366). Firmware sets and clears pending bits, a source that becomes pending in the same moment staying so, and
routes a source, whose count and timer start anew with it; a coalescing timer that runs out makes its source pending; a pending source not in
service is delivered, to a Ranger's line or as one message of its vector; the end of service clears its in-service bit, and delivers it again
where it is pending. A routed event wakes Whistle out of retention; a bad retained copy leaves it at its reset state, with WH_STAT told. -/
def Obligations.WhistleDelivers : Prop :=
  (∀ s (w : Fin 32) (v : W32), ∃ t u, exec (.whistlePendSet .ranger w v) s = .next t ∧ exec (.whistlePendClear .ranger w v) s = .next u ∧
    Same { whistle := true } s t ∧ Same { whistle := true } s u ∧ t.whistle.insv = s.whistle.insv ∧ u.whistle.insv = s.whistle.insv ∧
    ∀ n, n < 1024 → let named := decide (n / 32 = w.val) && v.getLsbD (n % 32)
      let now := (settleSources s).whistle.pend.getLsbD n
      t.whistle.pend.getLsbD n = (now || (named && !reservedSource n)) ∧
      u.whistle.pend.getLsbD n = (now && (!named || !s.whistle.pend.getLsbD n))) ∧
  (∀ s (n : Fin 1024) (v : W32),
    (∃ t, exec (.whistleSourceConfig .ranger n true v) s = .next t ∧ Same { regs := true, whistle := true } s t ∧
      getReg t (Reg.WH_SRC_CTIME n.val) = v.setWidth 64) ∧
    (fieldN v.toNat 8 8 ≠ 0 → (fieldN v.toNat 28 2 = 1 → fieldN v.toNat 16 11 ≤ 3) → ∃ t,
      exec (.whistleSourceConfig .ranger n false v) s = .next t ∧ Same { regs := true, whistle := true } s t ∧
      getReg t (Reg.WH_SRC_CFG n.val) = (v &&& 0xF7FFFF00).setWidth 64 ∧
      (stateSource? s n.val = none → let u := (sense s).whistle
        t.whistle = { u with counts := storeDel u.counts n.val, timers := storeDel u.timers n.val }) ∧
      (stateSource? s n.val = some true → fieldN v.toNat 30 2 = 0 → srcTime s n.val = 0 → s.whistle.retained = false →
        t.whistle.pend.getLsbD n.val = true)) ∧
    (fieldN v.toNat 8 8 = 0 ∨ fieldN v.toNat 28 2 = 1 ∧ 3 < fieldN v.toNat 16 11 → ∃ t,
      exec (.whistleSourceConfig .ranger n false v) s = .next t ∧
      Same { free := true, whistle := true, log := true, logSeq := true } s t ∧
      (256 ≤ n.val → storeGet 0 t.whistle.counts n.val = 0 ∧ t.whistle.timers.find? (fun e => e.1 == n.val) = none))) ∧
  (∀ s (n : Fin 1024) a, stateSource? s n.val = none → s.whistle.timers.find? (fun e => e.1 == n.val) = some (n.val, a) →
    reservedSource n.val = false → srcTime s n.val ≠ 0 → a + srcTime s n.val * 256 ≤ s.time → ∃ t, exec (.whistleTimer n) s = .next t ∧
    Same { whistle := true } s t ∧ t.whistle.pend.getLsbD n.val = true) ∧
  (∀ s (n : Fin 1024), s.whistle.pend.getLsbD n.val = true → s.whistle.insv.getLsbD n.val = false → s.whistle.retained = false →
    let cfg := srcCfg s n.val; let p : Fin 2 := Fin.ofNat 2 (fieldN cfg 28 2 - 2)
    (fieldN cfg 28 2 = 1 → ∃ t, exec (.whistleDeliver n) s = .next t ∧ Same { whistle := true } s t ∧
      t.whistle.pend.getLsbD n.val = false ∧ t.whistle.insv.getLsbD n.val = true) ∧
    (2 ≤ fieldN cfg 28 2 → msixBlocked s p (fieldN cfg 16 11) = false → ∃ t, exec (.whistleDeliver n) s = .next t ∧
      Same { whistle := true, lantern := true, out := true } s t ∧ t.whistle.pend.getLsbD n.val = false ∧
      t.whistle.insv.getLsbD n.val = true ∧ t.out = s.out ++ [.msix p.val (fieldN cfg 16 11)])) ∧
  (∀ s (w : Fin 32) (v : W32), ∃ t, exec (.whistleServiceEnd .ranger w v) s = .next t ∧
    Same { whistle := true, lantern := true, hosts := true, out := true } s t ∧
    ∀ n, n < 1024 → stateSource? s n = none → let named := decide (n / 32 = w.val) && v.getLsbD (n % 32)
      let now := (settleSources s).whistle.pend.getLsbD n
      (now = false → t.whistle.insv.getLsbD n = (s.whistle.insv.getLsbD n && !named)) ∧
      (now = true → named = true → s.whistle.insv.getLsbD n = true → fieldN (srcCfg s n) 28 2 = 1 → s.whistle.retained = false →
        t.whistle.pend.getLsbD n = false ∧ t.whistle.insv.getLsbD n = true)) ∧
  (∀ s n, n < 1024 → s.whistle.retained = true → s.whistle.latched.getLsbD n = true → fieldN (srcCfg s n) 28 2 ≠ 0 →
    (∃ t, exec (.whistleRetentionWake true) s = .next t ∧ t.whistle.retained = false ∧ t.whistle.latched = 0 ∧ t.regions = s.regions) ∧
    ∃ t, exec (.whistleRetentionWake false) s = .next t ∧ Same noteMask s t ∧ getField t Reg.WH_STAT 30 1 = 1 ∧
      t.whistle.insv = 0 ∧ t.whistle.retained = false)

/-- Lantern (R371 to R374, R376). Counters are cleared, thawed and frozen at a beat; a snapshot is complete when every region has given its
part, at once where no job runs; a bandwidth window's counts go into its registers; a tagged row's record goes into the trace, and is
counted as skipped where the trace is full. -/
def Obligations.LanternCounts : Prop :=
  (∀ s, ∃ t, exec (.lanternClear .ranger) s = .next t ∧ Same { regs := true, lantern := true } s t ∧
    t.lantern = { s.lantern with counts := [], wraps := [], bw := [], cleared := s.time } ∧
    ∀ i, i < 56 → getReg t (Reg.LN_BW i) = 0 ∧ getReg t (Reg.LN_BW_PEAK i) = 0) ∧
  (∀ s, ∃ t, exec (.lanternThaw .ranger) s = .next t ∧ Same { regs := true, lantern := true } s t ∧
    t.lantern = { s.lantern with thawing := s.lantern.frozen } ∧ getField t Reg.LN_STAT 30 2 = (if s.lantern.arm.isSome then 1 else 0)) ∧
  (∀ s w, let v := (formHalf s .ranger Reg.LN_FREEZE w).1
    (v.getLsbD 63 = true → pacing s = false → ∃ t, exec (.lanternFreezeArm .ranger w) s = .next t ∧
      Same { regs := true, halves := true, lantern := true, whistle := true } s t ∧ t.lantern.arm = none ∧
      t.lantern.frozen = (if v.getLsbD 62 then BitVec.allOnes 32 else s.lantern.frozen) ∧
      getReg t Reg.LN_SNAP_BEAT = BitVec.ofNat 64 (s.pacer.released + 256) ∧ getReg t Reg.LN_SNAP_COUNT = s.compass.count ∧
      getField t Reg.LN_STAT 29 1 = 1) ∧
    (v.getLsbD 63 = true → pacing s = true → ∃ t, exec (.lanternFreezeArm .ranger w) s = .next t ∧
      Same { regs := true, halves := true, lantern := true } s t ∧ getField t Reg.LN_STAT 30 2 = 1 ∧
      t.lantern = { s.lantern with arm := some (s.pacer.released + 256, v.getLsbD 62), snapped := 0 }) ∧
    (v.getLsbD 63 = false → s.pacer.mode = .armed ∨ s.pacer.released + 256 ≤ fieldN v.toNat 0 48 →
      ∃ t, exec (.lanternFreezeArm .ranger w) s = .next t ∧ Same { regs := true, halves := true, lantern := true } s t ∧
      t.lantern = { s.lantern with arm := some (fieldN v.toNat 0 48, v.getLsbD 62), snapped := 0 } ∧ getField t Reg.LN_STAT 30 2 = 1) ∧
    (v.getLsbD 63 = false → s.pacer.mode ≠ .armed → fieldN v.toNat 0 48 < s.pacer.released + 256 →
      ∃ t, exec (.lanternFreezeArm .ranger w) s = .next t ∧ Same { noteMask with halves := true } s t)) ∧
  (∀ s b freeze, s.lantern.arm = some (b, freeze) → s.lantern.snapped = BitVec.allOnes 32 → ∃ t, exec .lanternSnapshot s = .next t ∧
    Same { regs := true, lantern := true, whistle := true } s t ∧ t.lantern = { s.lantern with arm := none, snapped := 0 } ∧
    getReg t Reg.LN_SNAP_BEAT = BitVec.ofNat 64 b ∧ getReg t Reg.LN_SNAP_COUNT = s.lantern.endedAt ∧ getField t Reg.LN_STAT 29 1 = 1) ∧
  (∀ s, let n := max 1 (getField s Reg.LN_BW_WIN 0 24); let w := nowTicks s / n * n
    s.lantern.bwWin < w → ∃ t, exec .bandwidthWindow s = .next t ∧ Same { regs := true, lantern := true } s t ∧
      t.lantern = { s.lantern with bw := [], bwWin := w } ∧ ∀ i, i < 56 → let m := storeGet (0, 0) s.lantern.bw i
        getReg t (Reg.LN_BW i) = BitVec.ofNat 64 (min (2 ^ 32 - 1) (m.1 / 64) * 2 ^ 32 + min (2 ^ 32 - 1) (m.2 / 64))) ∧
  (∀ s (r : Fin 32) k, nextRecord s = some k → k.region = r.val →
    let n := getField s Reg.LN_TRACE_STAT 16 11
    (getField s Reg.LN_TRACE_STAT 31 1 = 0 → n < 2047 → ∃ t, exec (.traceRecord r) s = .next t ∧ Same { regs := true, lantern := true } s t ∧
      t.lantern = { s.lantern with tagged := s.lantern.tagged.erase k, trace := storePut s.lantern.trace n (tagRecord s k) } ∧
      getField t Reg.LN_TRACE_STAT 16 11 = n + 1) ∧
    (getField s Reg.LN_TRACE_STAT 31 1 = 1 → ∃ t, exec (.traceRecord r) s = .next t ∧ Same { regs := true, lantern := true } s t ∧
      t.lantern = { s.lantern with tagged := s.lantern.tagged.erase k } ∧
      getField t Reg.LN_TRACE_SKIP 0 16 = min 65535 (getField s Reg.LN_TRACE_SKIP 0 16 + 1))) ∧
  (∀ s, exec (.traceReset .ranger) s = .next { setReg s Reg.LN_TRACE_STAT 0 with lantern := { s.lantern with trace := [] } })

/-! ## Firmware commands -/

/-- Firmware commands turned away (R350, R381, R382, Table 15.5) and those that only answer (R351, R385, R394). Without power nothing happens;
while BUSY a command is dropped with an event; before READY only some are taken, the others end with RESULT 4; a class S command of a port
that is not the steward ends with RESULT 2. INFO, EVENTS, CERT, MAP, ATTEST and ST_STATUS give what the module holds; COORD, NET_CFG and
TLM_CFG set it, RESULT 3 for an argument out of range. -/
def Obligations.FirmwareAnswers : Prop :=
  (∀ s c p q op classS, fcCommand c = some (p, q, op, classS) →
    (powered s = false → exec c s = .next s) ∧
    (powered s = true → fcBusy s = true → ∃ t, exec c s = .next t ∧ Same { free := true, whistle := true, log := true, logSeq := true } s t) ∧
    (powered s = true → fcBusy s = false → ready s = false → fcEarly s op = false →
      ∃ t, exec c s = .next t ∧ Same { regs := true, whistle := true } s t ∧ fcDone t p q 4) ∧
    (powered s = true → fcBusy s = false → ready s = true → classS = true → isSteward s p = false →
      ∃ t, exec c s = .next t ∧ Same { regs := true, whistle := true } s t ∧ fcDone t p q 2)) ∧
  (∀ s p q, fcAccepts s p 0x01 false → ∃ t, exec (.info p q) s = .next t ∧ Same { regs := true, whistle := true } s t ∧ fcDone t p q 0 ∧
    getReg t (Reg.FC_RET 0) = s.identity.serial.setWidth 64 ∧ getReg t (Reg.FC_RET 2) = getReg s Reg.SEC_FW_VER) ∧
  (∀ s p q, fcAccepts s p 0x02 false → let from_ := max (s.logSeq - s.log.length) (fcArg s 0) - (s.logSeq - s.log.length)
    ∃ t, exec (.events p q) s = .next t ∧ Same { regs := true, whistle := true } s t ∧ fcDone t p q 0 ∧
    getReg t (Reg.FC_RET 0) = BitVec.ofNat 64 (min 256 (s.log.length - from_)) ∧
    ∀ i e, i < 256 → s.log[from_ + i]? = some e →
      getReg t (Reg.FC_DATA (2 * i)) = BitVec.ofNat 64 (e.code.toNat * 2 ^ 48 + e.data.toNat) ∧
      getReg t (Reg.FC_DATA (2 * i + 1)) = e.count) ∧
  (∀ s p q, fcAccepts s p 0x03 true →
    (s.pitch = none → ∃ t, exec (.coord p q) s = .next t ∧ Same linkMask s t ∧ fcDone t p q 0 ∧
      getReg t Reg.GL_SELF_COORD = BitVec.ofNat 64 (fcArg s 0 % 2 ^ 16)) ∧
    (s.pitch.isSome = true → ∃ t, exec (.coord p q) s = .next t ∧ Same { regs := true, whistle := true } s t ∧ fcDone t p q 4)) ∧
  (∀ s p q, fcAccepts s p 0x04 true →
    (fcArg s 0 ≤ 1 → ∃ t, exec (.netCfg p q) s = .next t ∧ Same { regs := true, whistle := true, firmware := true } s t ∧ fcDone t p q 0 ∧
      t.firmware = { s.firmware with net := listSet s.firmware.net (fcArg s 0) (fcData s 4096) }) ∧
    (1 < fcArg s 0 → ∃ t, exec (.netCfg p q) s = .next t ∧ Same { regs := true, whistle := true } s t ∧ fcDone t p q 3)) ∧
  (∀ s p q, fcAccepts s p 0x08 true →
    (fcArg s 0 ≤ 10000 → ∃ t, exec (.tlmCfg p q) s = .next t ∧ Same { regs := true, whistle := true, firmware := true } s t ∧
      fcDone t p q 0 ∧ t.firmware = { s.firmware with
        tlm := if fcArg s 0 = 0 then none else some (fcArg s 0, fcData s 4096, s.time + msTime (fcArg s 0)) }) ∧
    (10000 < fcArg s 0 → ∃ t, exec (.tlmCfg p q) s = .next t ∧ Same { regs := true, whistle := true } s t ∧ fcDone t p q 3)) ∧
  (∀ s p q, fcAccepts s p 0x10 false →
    (keyOk s = true → ∃ t, exec (.attest p q) s = .next t ∧ Same { regs := true, whistle := true } s t ∧ fcDone t p q 0 ∧
      getReg t (Reg.FC_RET 0) = 256 ∧ ∀ i, i < 24 → getReg t (Reg.FC_DATA i) = BitVec.ofNat 64 (leField (attestBody s) (8 * i) 8)) ∧
    (keyOk s = false → ∃ t, exec (.attest p q) s = .next t ∧ Same { regs := true, whistle := true } s t ∧ fcDone t p q 4)) ∧
  (∀ s p q, fcAccepts s p 0x11 false → ∃ t, exec (.cert p q) s = .next t ∧ Same { regs := true, whistle := true } s t ∧ fcDone t p q 0 ∧
    getReg t (Reg.FC_RET 0) = BitVec.ofNat 64 Config.certChain.length ∧
    ∀ i, 8 * i + 8 ≤ min 4096 Config.certChain.length →
      getReg t (Reg.FC_DATA i) = BitVec.ofNat 64 (leField Config.certChain (8 * i) 8)) ∧
  (∀ s p q, fcAccepts s p 0x12 false → ∃ t, exec (.map p q) s = .next t ∧ Same { regs := true, whistle := true } s t ∧ fcDone t p q 0 ∧
    (getReg t (Reg.FC_RET 1) = if mapPending s then 1 else 0) ∧
    ∀ i, i < 36 → getReg t (Reg.FC_DATA i) = BitVec.ofNat 64 (leField (mapBytes s) (8 * i) 8)) ∧
  (∀ s p q, fcAccepts s p 0x16 false → let past := s.startup.results.find? (fun e => e.1 == fcArg s 0)
    (∀ x, s.startup.test = some x → x.ticket = fcArg s 0 → ∃ t, exec (.stStatus p q) s = .next t ∧
      Same { regs := true, whistle := true } s t ∧ fcDone t p q 0 ∧ getReg t (Reg.FC_RET 0) = getReg s Reg.HUB_ST_STAT) ∧
    (∀ k res at_, past = some (k, res, at_) → ∃ t, exec (.stStatus p q) s = .next t ∧ Same { regs := true, whistle := true } s t ∧
      fcDone t p q 0 ∧ getReg t (Reg.FC_RET 1) = BitVec.ofNat 64 (fcArg s 0 * 2 ^ 24 + res * 2 ^ 16) ∧ getReg t (Reg.FC_RET 2) = at_) ∧
    (past = none → (∀ x, s.startup.test = some x → x.ticket ≠ fcArg s 0) → ∃ t, exec (.stStatus p q) s = .next t ∧
      Same { regs := true, whistle := true } s t ∧ fcDone t p q 3))

/-- Network commands (R350, R351, Table 15.6). NET_LOAD opens a weight load and stays BUSY, RESULT 4 while a job runs; NET_PUT and NET_GET of
a range that exists stay BUSY with their accesses queued on the range's tracks, RESULT 3 for any other; the running command ends with
its data moved, or with RESULT 5 where the network fails; CANCEL of the issuing port ends it with RESULT 8, of the other port is dropped. -/
def Obligations.FirmwareTransfers : Prop :=
  (∀ s p q, fcAccepts s p 0x05 true →
    (pacing s = false → ∃ t, exec (.netLoad p q) s = .next t ∧ Same { regs := true, firmware := true, far := true } s t ∧
      fcBusy t = true ∧ getField t Reg.HST_WLOAD 62 2 = 2 ∧ weightOpen t = true ∧ getReg t Reg.CR_WLEN = 0 ∧ t.far = { s.far with
        seq := s.far.seq + 1
        weights := { bytes := [], next := 0, pages := [] } }) ∧
    (pacing s = true → ∃ t, exec (.netLoad p q) s = .next t ∧ Same noteMask s t ∧ fcDone t p q 4)) ∧
  (∀ s c p q op barrel a n, c = .netPut p q ∧ op = 0x06 ∨ c = .netGet p q ∧ op = 0x07 → fcAccepts s p op true →
    netRange (fcArg s 0) (fcArg s 1) = (barrel, a, n) →
    (a + n ≤ (if barrel then barrelSize s else 768 * 2 ^ 31) → ∃ t, exec c s = .next t ∧
      Same { regs := true, firmware := true, far := true } s t ∧ fcBusy t = true ∧
      t.firmware = { s.firmware with run := some {
        op := op, id := s.far.seq, port := p, seq := q.toNat, data := fcData s 4096
        args := tab 8 (fun i => getReg s (Reg.FC_ARG i)) } } ∧
      t.far = { s.far with
        seq := s.far.seq + 1
        waits := s.far.waits ++ (if barrel then [] else rangeTracks a n).map (fun k => { track := k, id := s.far.seq }) }) ∧
    ((if barrel then barrelSize s else 768 * 2 ^ 31) < a + n →
      ∃ t, exec c s = .next t ∧ Same { regs := true, whistle := true } s t ∧ fcDone t p q 3)) ∧
  (∀ s r data e frames barrel a n, s.firmware.run = some r → netRange (r.args.getD 0 0).toNat (r.args.getD 1 0).toNat = (barrel, a, n) →
    let mask : Mask := { farMask with firmware := true }
    let moved : Instr := .networkCommandComplete true data e frames
    let failed : Instr := .networkCommandComplete false data e frames
    let ended (t : State) (res : Nat) : Prop := t.firmware = { s.firmware with run := none } ∧
      getReg t Reg.FC_STAT = BitVec.ofNat 64 (2 ^ 30 + res * 2 ^ 16 + r.seq % 256 * 2 ^ 8 + r.port.val) ∧
      getField t (Reg.ETH_TX e.val) 0 64 = min (2 ^ 64 - 1) (getField s (Reg.ETH_TX e.val) 0 64 + frames.toNat)
    (r.op = 0x05 → (∃ t, exec moved s = .next t ∧ Same mask s t ∧ ended t 0 ∧
        getReg t (Reg.FC_RET 0) = BitVec.ofNat 64 data.length ∧ weightOpen t = false) ∧
      ∃ t, exec failed s = .next t ∧ Same mask s t ∧ ended t 5 ∧ getField t Reg.CR_WSTAT 30 2 = 0) ∧
    (r.op = 0x06 ∨ r.op = 0x07 → (∃ t, exec failed s = .next t ∧ Same mask s t ∧ ended t 5 ∧
        t.hbm = s.hbm ∧ t.barrel = s.barrel) ∧
      (tracksDone s r.id = false → exec moved s = .next s)) ∧
    (r.op = 0x06 → tracksDone s r.id = true → s.flaws = [] → ∃ t, exec moved s = .next t ∧ Same mask s t ∧
      ended t 0 ∧ t.out = s.out ++ [.upload r.data (if barrel then s.barrel.readBytes a n else s.hbm.readBytes a n)] ∧
      t.hbm = s.hbm ∧ t.barrel = s.barrel) ∧
    (r.op = 0x07 → tracksDone s r.id = true → n ≤ data.length → ∃ t, exec moved s = .next t ∧
      Same mask s t ∧ ended t 0 ∧
      ∀ b, barrelByte t b = (if barrel = true ∧ a ≤ b ∧ b < a + n then data.getD (b - a) 0 else barrelByte s b) ∧
        hbmByte t b = (if barrel = false ∧ a ≤ b ∧ b < a + n then data.getD (b - a) 0 else hbmByte s b))) ∧
  (∀ s p q r, powered s = true → s.firmware.run = some r →
    (r.port = p → ∃ t, exec (.cancel p q) s = .next t ∧ Same { regs := true, whistle := true, firmware := true, far := true } s t ∧
      t.firmware = { s.firmware with run := none } ∧ t.far.waits = s.far.waits.filter (fun w => decide (w.id ≠ r.id)) ∧
      getReg t Reg.FC_STAT = BitVec.ofNat 64 (2 ^ 30 + 8 * 2 ^ 16 + r.seq % 256 * 2 ^ 8 + p.val)) ∧
    (r.port ≠ p → ∃ t, exec (.cancel p q) s = .next t ∧ Same { free := true, whistle := true, log := true, logSeq := true } s t)) ∧
  (∀ s p q, powered s = true → s.firmware.run = none → fcBusy s = false → ∃ t, exec (.cancel p q) s = .next t ∧
    Same { regs := true, whistle := true } s t ∧ fcDone t p q 4)

/-- Reset, update, self-test and telemetry (R351, R354, R382, R391, R394). RESET with ARG0 1 resets the module; FW_STAGE writes the bank not in use
and with LAST verifies it, RESULT 6 where it fails; FW_ACTIVATE makes a staged bank the next to boot, at once where asked; SELFTEST gives
a ticket, its test pending while a job runs and running with the pacer OFF; ST_CANCEL gives up a pending test; a datagram that is due goes
out from an Ethernet port that is up, and is dropped and counted once both have been down for a period. -/
def Obligations.FirmwareUpdates : Prop :=
  (∀ s p q, fcAccepts s p 0x09 true → ready s = true →
    (fcArg s 0 = 1 → ∃ t, exec (.reset p q) s = .next t ∧ resetBy s t 0x3007) ∧
    (fcArg s 0 ≠ 1 → ∃ t, exec (.reset p q) s = .next t ∧ Same { regs := true, whistle := true } s t ∧ fcDone t p q 3)) ∧
  (∀ s p q, fcAccepts s p 0x13 true → let off := fcArg s 0; let n := fcArg s 1; let b := otherBank s
    let img := overwrite (if off = 0 then [] else bank s b) off (fcData s n)
    let staged (t : State) : Prop := t.flash.fused = s.flash.fused ∧ bank t b = img ∧ bank t (!b) = bank s (!b)
    (4096 < n → ∃ t, exec (.fwStage p q) s = .next t ∧ Same { regs := true, whistle := true } s t ∧ fcDone t p q 3) ∧
    (n ≤ 4096 → fcArg s 2 % 2 = 0 → ∃ t, exec (.fwStage p q) s = .next t ∧ Same { regs := true, whistle := true, flash := true } s t ∧
      fcDone t p q 0 ∧ staged t ∧ getField t Reg.SEC_STAT 26 2 = 0) ∧
    (n ≤ 4096 → fcArg s 2 % 2 = 1 → imageOk s img = true → ∃ t, exec (.fwStage p q) s = .next t ∧
      Same { regs := true, whistle := true, flash := true } s t ∧ fcDone t p q 0 ∧ staged t ∧ getField t Reg.SEC_STAT 26 2 = 3) ∧
    (n ≤ 4096 → fcArg s 2 % 2 = 1 → imageOk s img = false → ∃ t, exec (.fwStage p q) s = .next t ∧ Same { noteMask with flash := true } s t ∧
      fcDone t p q 6 ∧ staged t ∧ getField t Reg.SEC_STAT 26 2 = 0)) ∧
  (∀ s p q, fcAccepts s p 0x14 true → fcArg s 0 = 1 →
    (getField s Reg.SEC_STAT 26 1 = 0 → ∃ t, exec (.fwActivate p q) s = .next t ∧ Same { regs := true, whistle := true } s t ∧
      fcDone t p q 4) ∧
    (getField s Reg.SEC_STAT 26 1 = 1 → fcArg s 1 % 2 = 0 → ∃ t, exec (.fwActivate p q) s = .next t ∧
      Same { regs := true, whistle := true } s t ∧ fcDone t p q 0 ∧ getField t Reg.SEC_STAT 26 1 = 0 ∧
      (getField t Reg.SEC_STAT 28 1 = 1 ↔ otherBank s = true)) ∧
    (getField s Reg.SEC_STAT 26 1 = 1 → fcArg s 1 % 2 = 1 → pacing s = false → ready s = true →
      ∃ t, exec (.fwActivate p q) s = .next t ∧ resetBy s t 0x3007 ∧ (getField t Reg.SEC_STAT 28 1 = 1 ↔ otherBank s = true))) ∧
  (∀ s p q, fcAccepts s p 0x15 true → let kind := fcArg s 0; let k := (s.startup.tickets + 1) % 256
    let away (res : Nat) : Prop := ∃ t, exec (.selftest p q) s = .next t ∧ Same { regs := true, whistle := true } s t ∧ fcDone t p q res
    (kind < 1 ∨ 3 < kind → away 3) ∧
    (1 ≤ kind → kind ≤ 3 → s.startup.test.isSome = true → away 1) ∧
    (kind = 2 → s.startup.test = none → s.pitch.isSome = true → away 4) ∧
    (1 ≤ kind → kind ≤ 3 → s.startup.test = none → ¬(kind = 2 ∧ s.pitch.isSome = true) →
      (pacing s = true → fcArg s 1 % 2 = 0 → ∃ t, exec (.selftest p q) s = .next t ∧
        Same { regs := true, whistle := true, startup := true } s t ∧ fcDone t p q 0 ∧ getReg t (Reg.FC_RET 0) = BitVec.ofNat 64 k ∧
        t.startup.test = some {
          ticket := k, kind := kind, timeout := fcArg s 2, since := s.time, running := false, began := 0, measured := false
          forced := false }) ∧
      (s.pacer.mode = .off → ∃ t, exec (.selftest p q) s = .next t ∧
        Same { regs := true, whistle := true, startup := true, pacer := true } s t ∧ fcDone t p q 0 ∧ t.pacer.mode = .cal ∧
        t.startup.test.map (fun x => (x.ticket, x.kind, x.running)) = some (k, kind, true)))) ∧
  (∀ s p q, fcAccepts s p 0x17 true →
    (∀ x, s.startup.test = some x → x.running = false → ∃ t, exec (.stCancel p q) s = .next t ∧ Same { noteMask with startup := true } s t ∧
      fcDone t p q 0 ∧ t.startup.test = none ∧ (x.ticket, 3, s.compass.count) ∈ t.startup.results) ∧
    ((∀ x, s.startup.test = some x → x.running = true) → ∃ t, exec (.stCancel p q) s = .next t ∧
      Same { regs := true, whistle := true } s t ∧ fcDone t p q 4)) ∧
  (∀ s ms dest at_, s.firmware.tlm = some (ms, dest, at_) →
    let up (e : Fin 2) : Prop := getField s (Reg.ETH_LINK e.val) 28 4 = 1
    (s.time < at_ → exec .telemetrySend s = .next s) ∧
    (∀ e : Fin 2, at_ ≤ s.time → up e → (e = 1 → ¬up 0) → ∃ t, exec .telemetrySend s = .next t ∧
      Same { regs := true, firmware := true, out := true } s t ∧ t.out = s.out ++ [.datagram e.val dest (telemetryBytes s)] ∧
      t.firmware = { s.firmware with tlm := some (ms, dest, at_ + msTime ms), tlmSeq := s.firmware.tlmSeq + 1 }) ∧
    (at_ + msTime ms ≤ s.time → ¬up 0 → ¬up 1 → ∃ t, exec .telemetrySend s = .next t ∧ Same { noteMask with firmware := true } s t ∧
      t.firmware.tlmDrop = s.firmware.tlmDrop + 1))

/-! ## Startup and power -/

/-- Power and resets (R379, R395, R396, R400 to R404, R411, R412, Table 18.7). POWER_ON begins bring-up at step 1 with nothing kept but
the flash and the identity; a block-15 fault of a powered module turns its converters off, its code kept in PE_LAST: 100 µs below 38 V or
above 62 V, 1 ms with fewer than two good pairs; the input or the pairs restored for 1 s turn them on where that is what they wait for; any other level-3 fault of a ready module, the watchdog's too, resets it.
The conductor pairs (R402). A good pair lost and a lost pair good again are noted and logged, and the entry limit follows the good pairs;
an epoch's samples go into the registers, the lowest input of the last 1,024 into PE_VMIN, each pair good as its sample shows. -/
def Obligations.PowerAndPairs : Prop :=
  ((∀ s, ∃ t, exec .powerOn s = .next t ∧ t.startup.power = .on ∧ getField t Reg.HUB_BOOT 28 4 = 1 ∧ getReg t Reg.HUB_RESET = 0 ∧
     t.log = [] ∧ t.logSeq = 0 ∧ t.pitch = none ∧ t.regions = State.reset.regions ∧ t.hbm = State.reset.hbm ∧
     t.barrel = State.reset.barrel ∧ t.identity = s.identity ∧ t.flash = s.flash ∧ t.pending = s.pending) ∧
   (∀ s v us, powered s = false → ∀ c ∈ [Instr.inputUndervoltage v us, .inputOvervoltage v us, .pairShortage, .rangerWatchdog],
     exec c s = .next s) ∧
   (∀ s (v : BitVec 16) (us : BitVec 32), (us.toNat < 100 ∨ 3800 ≤ v.toNat → exec (.inputUndervoltage v us) s = .next s) ∧
     (us.toNat < 100 ∨ v.toNat ≤ 6200 → exec (.inputOvervoltage v us) s = .next s)) ∧
   (∀ s (v : BitVec 16) (us : BitVec 32), powered s = true → 100 ≤ us.toNat →
     (v.toNat < 3800 → ∃ t, exec (.inputUndervoltage v us) s = .next t ∧ poweredDown s t 0x3F04 .input) ∧
     (6200 < v.toNat → ∃ t, exec (.inputOvervoltage v us) s = .next t ∧ poweredDown s t 0x3F05 .input)) ∧
   (∀ s, powered s = true →
     (∃ t, exec .coolantLeak s = .next t ∧ poweredDown s t 0x3F0A .dead ∧ getField t Reg.PE_STAT 25 1 = 1) ∧
     (∃ t, exec .lidOpen s = .next t ∧ poweredDown s t 0x3F0B .dead ∧ getField t Reg.PE_STAT 26 1 = 0) ∧
     (∀ k, ∃ t, exec (.railShort k) s = .next t ∧ poweredDown s t 0x3F03 .dead ∧ getField t Reg.PE_LAST 32 3 = k.val) ∧
     ((goodPairs s).length < 2 → s.startup.pairsFrom + msTime 1 ≤ s.time →
       ∃ t, exec .pairShortage s = .next t ∧ poweredDown s t 0x3F02 .pairs)) ∧
   (∀ s, 2 ≤ (goodPairs s).length ∨ s.time < s.startup.pairsFrom + msTime 1 → exec .pairShortage s = .next s) ∧
   (∀ s c (low high : BitVec 16) (ms : BitVec 32),
     c = .inputRestored low high ms ∧ s.startup.power = .input ∧ 1000 ≤ ms.toNat ∧
       (getField s Reg.PE_LAST 48 16 = 0x3F04 ∧ 4000 ≤ low.toNat ∨ getField s Reg.PE_LAST 48 16 = 0x3F05 ∧ high.toNat ≤ 6000) ∨
     c = .pairRestored ∧ s.startup.power = .pairs ∧ 2 ≤ (goodPairs s).length ∧ s.startup.pairsFrom + msTime 1000 ≤ s.time →
     ∃ t, exec c s = .next t ∧ Same { regs := true, startup := true } s t ∧
       t.startup = { s.startup with power := .on, stepFrom := s.time } ∧ getField t Reg.HUB_BOOT 28 4 = 1) ∧
   (∀ s (low high : BitVec 16) (ms : BitVec 32), (s.startup.power ≠ .input ∨ ms.toNat < 1000 ∨
       getField s Reg.PE_LAST 48 16 = 0x3F04 ∧ low.toNat < 4000 ∨ getField s Reg.PE_LAST 48 16 = 0x3F05 ∧ 6000 < high.toNat →
       exec (.inputRestored low high ms) s = .next s) ∧
     ((goodPairs s).length < 2 ∨ s.time < s.startup.pairsFrom + msTime 1000 → exec .pairRestored s = .next s)) ∧
   (∀ s, ∃ t, exec .sensePinBreak s = .next t ∧ t.startup.power = .off ∧ getField t Reg.PE_STAT 27 1 = 0 ∧
     getField t Reg.HUB_BOOT 28 4 = 0 ∧ t.pitch = none ∧ t.regions = State.reset.regions ∧ t.hbm = State.reset.hbm ∧ t.flash = s.flash) ∧
   (∀ s (code : BitVec 12), powered s = true → ready s = true →
     (0x3000 + code.toNat ∈ resetCodes → code.toNat / 256 ≠ 15 → ∃ t, exec (.moduleReset code) s = .next t ∧ resetBy s t (0x3000 + code.toNat)) ∧
     (0x3000 + code.toNat ∉ resetCodes → exec (.moduleReset code) s = .next s) ∧
     ∃ t, exec .rangerWatchdog s = .next t ∧ resetBy s t 0x3006)) ∧
  (let limited (t : State) : Prop := getReg t Reg.PE_LIMIT =
     BitVec.ofNat 64 (min 3500 ((goodPairs t).length * 22 * getField t Reg.PE_VMIN 0 16 / 100))
   (∀ s i pairs, (getField s Reg.PE_STAT (28 + i.val) 1 = 1 → (classify pairs)[i.val]? = some false →
     ∃ t, exec (.pairLost i pairs) s = .next t ∧ Same { noteMask with startup := true } s t ∧
       getField t Reg.PE_STAT (28 + i.val) 1 = 0 ∧ (getReg t Reg.PE_ERR).getLsbD 0 = true ∧ limited t ∧
       ∀ j, j < 4 → j ≠ i.val → getField t Reg.PE_STAT (28 + j) 1 = getField s Reg.PE_STAT (28 + j) 1) ∧
     ((classify pairs)[i.val]? ≠ some false → exec (.pairLost i pairs) s = .next s)) ∧
   (∀ s i pairs, (getField s Reg.PE_STAT (28 + i.val) 1 = 0 → (classify pairs)[i.val]? = some true →
     ∃ t, exec (.pairReturn i pairs) s = .next t ∧ Same { noteMask with startup := true } s t ∧
       getField t Reg.PE_STAT (28 + i.val) 1 = 1 ∧ (getReg t Reg.PE_ERR).getLsbD 1 = true ∧ limited t ∧
       ∀ j, j < 4 → j ≠ i.val → getField t Reg.PE_STAT (28 + j) 1 = getField s Reg.PE_STAT (28 + j) 1) ∧
     ((classify pairs)[i.val]? ≠ some true → exec (.pairReturn i pairs) s = .next s)) ∧
   (∀ s (volt : BitVec 16) pairs, ∃ t, exec (.entryLimitUpdate volt pairs) s = .next t ∧
     Same { noteMask with firewatch := true, startup := true } s t ∧
     limited t ∧ t.firewatch = { s.firewatch with volts := (volt.toNat :: s.firewatch.volts).take 1024 } ∧
     (∀ v ∈ t.firewatch.volts, getField t Reg.PE_VMIN 0 64 ≤ v) ∧
     ∀ i q, i < 4 → pairs[i]? = some q → getReg t (Reg.PE_PAIR i) = BitVec.ofNat 64 (q.volt.toNat * 2 ^ 16 + q.amp.toNat) ∧
       (getField t Reg.PE_STAT (28 + i) 1 = 1 ↔ (classify pairs).getD i false = true)))

/-- Lamps and fibres (R408 to R410). A good Lamp that fails or is removed leaves its die to its partner, where that is good; a Lamp put in ramps
up, where its type is right, and shares the load two seconds on; with both Lamps of a die out, the links that it carries are down (Table
1.6; at once: log entry 111). A fibre dark for 100 µs takes the lanes of its pair out of a link, is probed every 100 ms while open, and is
noted good after 10 ms of light. -/
def Obligations.LampsAndFibres : Prop :=
  let dark (s t : State) (l : Nat) : Prop := (∀ p : Fin 10, portFly p.val = l / 2 → t.ports[p].mode = .off ∨ t.ports[p].mode = .down) ∧
    (∀ p : Fin 10, portFly p.val ≠ l / 2 → t.ports[p].mode = s.ports[p].mode) ∧
    (∀ p : Fin 2, l / 2 = 1 + p.val → getField t (Reg.HST_LINK p.val) 28 4 ≠ 2 ∧ getField t (Reg.ETH_LINK p.val) 28 4 = 0) ∧
    (l / 2 = 0 ∨ l / 2 = 3 → Same { noteMask with ports := true, startup := true } s t)
  (∀ s (l : Fin 8) (own setting : BitVec 16) check power, lampGood s l.val = true → 5 * own.toNat < 4 * setting.toNat ∨ check = false →
    ∃ t, exec (.lampFail l own setting check power) s = .next t ∧
    lampGood t l.val = false ∧ getField t (Reg.LAMP_STAT l.val) 0 16 = 0 ∧ (getReg t Reg.PE_ERR).getLsbD 2 = true ∧
    (lampGood s (partner l.val) = true → Same noteMask s t ∧ getField t (Reg.LAMP_STAT (partner l.val)) 29 3 = 7 ∧
      getField t (Reg.LAMP_STAT (partner l.val)) 0 16 = power.toNat) ∧
    (lampGood s (partner l.val) = false → dark s t l.val)) ∧
  (∀ s (l : Fin 8) (own setting : BitVec 16) check power, lampGood s l.val = false ∨ 4 * setting.toNat ≤ 5 * own.toNat ∧ check = true →
    exec (.lampFail l own setting check power) s = .next s) ∧
  (∀ s (l : Fin 8) power, (getField s (Reg.LAMP_STAT l.val) 31 1 = 1 → ∃ t, exec (.lampRemove l power) s = .next t ∧
      getReg t (Reg.LAMP_STAT l.val) = 0 ∧ getReg t (Reg.LAMP_SER l.val) = 0 ∧
      t.startup = { s.startup with ramps := storeDel s.startup.ramps l.val } ∧
      (lampGood s l.val = false ∨ lampGood s (partner l.val) = true → Same { noteMask with startup := true } s t) ∧
      (lampGood s l.val = true → lampGood s (partner l.val) = false → dark s t l.val) ∧
      (lampGood s l.val = true → lampGood s (partner l.val) = true → getField t (Reg.LAMP_STAT (partner l.val)) 29 3 = 7 ∧
        getField t (Reg.LAMP_STAT (partner l.val)) 0 16 = power.toNat ∧ (getReg t Reg.PE_ERR).getLsbD 3 = true)) ∧
    (getField s (Reg.LAMP_STAT l.val) 31 1 = 0 → exec (.lampRemove l power) s = .next s)) ∧
  (∀ s (l : Fin 8) typeOk serial, (getField s (Reg.LAMP_STAT l.val) 31 1 = 0 → ∃ t, exec (.lampInsert l typeOk serial) s = .next t ∧
      Same { noteMask with startup := true } s t ∧ getReg t (Reg.LAMP_SER l.val) = serial ∧ (getReg t Reg.PE_ERR).getLsbD 3 = true ∧
      getReg t (Reg.LAMP_STAT l.val) = BitVec.ofNat 64 (2 ^ 31 + if typeOk then 0 else 2 ^ 28) ∧
      t.startup = (if typeOk then { s.startup with ramps := storePut s.startup.ramps l.val s.time } else s.startup)) ∧
    (getField s (Reg.LAMP_STAT l.val) 31 1 = 1 → exec (.lampInsert l typeOk serial) s = .next s)) ∧
  (∀ s (l : Fin 8) own other, let due := s.startup.ramps.any (fun e => e.1 == l.val && decide (e.2 + msTime 2000 ≤ s.time))
    (due = false → exec (.lampRampDone l own other) s = .next s) ∧
    (due = true → ∃ t, exec (.lampRampDone l own other) s = .next t ∧ Same { linkMask with startup := true } s t ∧
      t.startup = { s.startup with ramps := storeDel s.startup.ramps l.val } ∧ getField t (Reg.LAMP_STAT l.val) 30 1 = 1 ∧
      getField t (Reg.LAMP_STAT l.val) 0 16 = own.toNat ∧
      (lampGood s (partner l.val) = true → t.ports = s.ports ∧ getField t (Reg.LAMP_STAT (partner l.val)) 29 1 = 0 ∧
        getField t (Reg.LAMP_STAT (partner l.val)) 0 16 = other.toNat) ∧
      (lampGood s (partner l.val) = false → getField t (Reg.LAMP_STAT l.val) 29 1 = 1))) ∧
  (∀ s (q : Fin 55) (us : BitVec 32), (flyLit s (pairFly q.val) = true → getField s Reg.LAMP_OPEN q.val 1 = 0 → 100 ≤ us.toNat →
      ∃ t, exec (.fibreOpen q us) s = .next t ∧ Same { linkMask with startup := true } s t ∧
      t.startup = { s.startup with probes := storePut s.startup.probes q.val (s.time + msTime 100) } ∧ getField t Reg.LAMP_OPEN q.val 1 = 1 ∧ (getReg t Reg.PE_ERR).getLsbD 4 = true ∧
      (40 ≤ q.val → t.ports = s.ports) ∧
      ∀ p : Fin 10, q.val / 4 = p.val → s.ports[p].live = true → t.ports[p].good = s.ports[p].good &&& ~~~(0xF#16 <<< (4 * (q.val % 4)))) ∧
    (flyLit s (pairFly q.val) = false ∨ getField s Reg.LAMP_OPEN q.val 1 = 1 ∨ us.toNat < 100 → exec (.fibreOpen q us) s = .next s)) ∧
  (∀ s (q : Fin 55), let at_ := storeGet 0 s.startup.probes q.val
    (q.val < 54 → getField s Reg.LAMP_OPEN q.val 1 = 1 → at_ ≤ s.time → exec (.fibreProbe q) s = .next { s with
      out := s.out ++ [.probe q.val]
      startup := { s.startup with probes := storePut s.startup.probes q.val (s.time + msTime 100) } }) ∧
    (q.val = 54 ∨ getField s Reg.LAMP_OPEN q.val 1 = 0 ∨ s.time < at_ → exec (.fibreProbe q) s = .next s)) ∧
  (∀ s (q : Fin 55) (us : BitVec 32), us.toNat < 10000 → exec (.fibreRestored q us) s = .next s) ∧
  (∀ s (q : Fin 55) (us : BitVec 32), 10000 ≤ us.toNat → ∃ t, exec (.fibreRestored q us) s = .next t ∧
    Same { regs := true, startup := true } s t ∧ t.startup = { s.startup with probes := storeDel s.startup.probes q.val } ∧
    ∀ k, k < 64 → (getReg t Reg.LAMP_OPEN).getLsbD k = ((getReg s Reg.LAMP_OPEN).getLsbD k && decide (k ≠ q.val)))

/-- Bring-up and the spare sweep (R379 to R383, R389, R406, Table 17.1). A step that completes starts the next; the first good image in the order
SEC_STAT.NEXT gives boots, and none leaves the module in RECOVERY; past its budget a step after the fourth gives way to the next, an
earlier one fails; step 10 makes the module READY and the fuses take the image's version. A sweep of an idle spare is counted, a failure
goes into the map, or waits for the Pitch's end. -/
def Obligations.BringUpRuns : Prop :=
  (∀ s volt charged pairs lid leak short lamps, booting s 1 = true →
    (∃ t, exec (.bringUpStep (.power false volt charged pairs lid leak short lamps)) s = .next t ∧ t.startup.power = .off ∧
      getField t Reg.HUB_BOOT 28 4 = 0) ∧
    (volt.toNat < 4000 → ∃ t, exec (.bringUpStep (.power true volt charged pairs lid leak short lamps)) s = .next t ∧
      poweredDown s t 0x3F04 .input) ∧
    (6000 < volt.toNat → ∃ t, exec (.bringUpStep (.power true volt charged pairs lid leak short lamps)) s = .next t ∧
      poweredDown s t 0x3F05 .input)) ∧
  (∀ s k, booting s 2 = true → let next := decide (getField s Reg.SEC_STAT 28 1 = 1)
    let boots (b : Bool) : Prop := ∃ t, exec (.bringUpStep (.firmware k)) s = .next t ∧ Same { noteMask with startup := true } s t ∧
      getField t Reg.HUB_BOOT 28 4 = 3 ∧ (getField t Reg.SEC_STAT 29 1 = 1 ↔ b = true) ∧
      getReg t Reg.SEC_FW_VER = (Config.imageVersion (bank s b)).setWidth 64
    (imageOk s (bank s next) = true → boots next) ∧
    (imageOk s (bank s next) = false → imageOk s (bank s !next) = true → boots (!next)) ∧
    (imageOk s (bank s next) = false → imageOk s (bank s !next) = false → ∃ t, exec (.bringUpStep (.firmware k)) s = .next t ∧
      Same noteMask s t ∧ getField t Reg.HUB_BOOT 22 2 = 3 ∧ getField t Reg.HUB_BOOT 28 4 = 2 ∧ getField t Reg.SEC_STAT 31 1 = 1)) ∧
  (∀ s bad eth, booting s 5 = true → ∃ t, exec (.bringUpStep (.lanes bad eth)) s = .next t ∧
    Same { regs := true, ports := true, startup := true, whistle := true } s t ∧ getField t Reg.HUB_BOOT 28 4 = 6 ∧
    ∀ p : Fin 10, t.ports[p].removed = s.ports[p].removed ||| bad.getD p.val 0) ∧
  (∀ s ports, booting s 6 = true → ∃ t, exec (.bringUpStep (.pcie ports)) s = .next t ∧ Same { noteMask with startup := true } s t ∧
    getField t Reg.HUB_BOOT 28 4 = 7) ∧
  (∀ s up, booting s 7 = true → ∃ t, exec (.bringUpStep (.ethernet up)) s = .next t ∧ Same { noteMask with startup := true } s t ∧
    getField t Reg.HUB_BOOT 28 4 = 8 ∧ ∀ e : Fin 2, up.getLsbD e.val = true → getField t (Reg.ETH_LINK e.val) 28 4 = 1) ∧
  (∀ s, booting s 8 = true → ∃ t, exec (.bringUpStep .compass) s = .next t ∧ Same { linkMask with startup := true } s t ∧
    getField t Reg.HUB_BOOT 28 4 = 9) ∧
  (∀ s, booting s 9 = true → ∃ t, exec (.bringUpStep .guyline) s = .next t ∧ Same { regs := true, flash := true, startup := true } s t ∧
    getField t Reg.HUB_BOOT 28 4 = 10 ∧ ready t = true ∧
    t.flash = { s.flash with fused := max (getField s Reg.SEC_SVN 16 16) s.flash.fused }) ∧
  (∀ s k, 1 ≤ k → k ≤ 9 → booting s k = true →
    (s.time < s.startup.stepFrom + msTime (stepBudget k) → exec .bringUpStepTimeout s = .next s) ∧
    (s.startup.stepFrom + msTime (stepBudget k) ≤ s.time → ∃ t, exec .bringUpStepTimeout s = .next t ∧
      (k = 1 → t.startup.power = .off) ∧ (k = 2 → getField t Reg.HUB_BOOT 22 2 = 3) ∧
      (k = 3 ∨ k = 4 → getField t Reg.HUB_BOOT 22 2 = 2 ∧ getField t Reg.HUB_BOOT 24 4 = k) ∧
      (5 ≤ k → Same { linkMask with startup := true, flash := true } s t ∧ getField t Reg.HUB_BOOT 28 4 = k + 1))) ∧
  (∀ s (r : Fin 32) (k : Fin 9) pass, ready s = true → clusterGood s r.val k.val = true → mapped s r.val k.val = false →
    getField s Reg.FW_STAT 28 2 ≤ 1 → getField s Reg.FW_STAT 30 2 ≤ 1 → ∃ t, exec (.spareSweep r k pass) s = .next t ∧
    Same { noteMask with startup := true } s t ∧
    getField t Reg.HUB_SWEEP 16 16 = min 65535 (getField s Reg.HUB_SWEEP 16 16 + 1) ∧
    getField t Reg.HUB_SWEEP 0 16 = (if pass then getField s Reg.HUB_SWEEP 0 16 else min 65535 (getField s Reg.HUB_SWEEP 0 16 + 1)) ∧
    clusterGood t r.val k.val = pass ∧ (pass = false → s.pitch = none → getField t (Reg.HUB_MAP r.val) k.val 1 = 1) ∧
    (s.pitch.isSome = true → getReg t (Reg.HUB_MAP r.val) = getReg s (Reg.HUB_MAP r.val)))

/-- The fuses (R383). Reaching step 10 on an image of a higher SVN than the fused one advances the fuses to it, and else leaves them; an image
of a lower SVN than the fused one is refused: step 2 never passes with one. -/
def Obligations.FusesAdvance : Prop :=
  (∀ s, booting s 9 = true → let svn := getField s Reg.SEC_SVN 16 16
    ∃ t, exec (.bringUpStep .guyline) s = .next t ∧ getField t Reg.HUB_BOOT 28 4 = 10 ∧ (s.flash.fused < svn → t.flash.fused = svn) ∧
      (svn ≤ s.flash.fused → t.flash.fused = s.flash.fused) ∧
      ∀ img, (Config.imageSvn img).toNat < t.flash.fused → imageOk t img = false) ∧
  (∀ s k, booting s 2 = true → ∃ t, exec (.bringUpStep (.firmware k)) s = .next t ∧
    (getField t Reg.HUB_BOOT 28 4 = 3 → s.flash.fused ≤ getField t Reg.SEC_SVN 16 16) ∧
    ((∀ b, (Config.imageSvn (bank s b)).toNat < s.flash.fused) → getField t Reg.HUB_BOOT 28 4 = 2 ∧ getField t Reg.HUB_BOOT 22 2 = 3))

/-! ## Self-tests -/

/-- Self-tests and recalibration (R34, R388, R390, R391, R393). A pending test starts where the pacer is OFF, and waits while a job runs; once its
time is over it is cancelled with result 3; a test that ends reports its result, one of type 2 leaving memory zeroed, one of type 1 the
units at launch values; a recalibration gives each crossing the least d that its measures allow, and one that no d fits is fault 0x3101. -/
def Obligations.SelfTests : Prop :=
  (∀ s, s.startup.test = none → exec .selftestRun s = .next s ∧ exec .selftestTimeout s = .next s ∧
    ∀ c k, exec (.selftestComplete c k) s = .next s) ∧
  (∀ s x, s.startup.test = some x → x.running = false →
    (s.pacer.mode = .off ∨ s.pacer.mode = .armed ∧ x.forced = true → x.kind ≤ 3 → x.ticket < 256 → ∃ t, exec .selftestRun s = .next t ∧ Same { regs := true, pacer := true, startup := true } s t ∧
      t.pacer.mode = .cal ∧ getField t Reg.HUB_ST_STAT 30 2 = 2 ∧ t.startup = { s.startup with
        test := some { x with running := true, began := nowTicks s, measured := false, forced := false } }) ∧
    (pacing s = true → exec .selftestRun s = .next s)) ∧
  (∀ s x, s.startup.test = some x → x.running = false → let due := x.timeout ≠ 0 ∧ x.since + x.timeout * 40000000 ≤ s.time
    (due → ∃ t, exec .selftestTimeout s = .next t ∧ Same { noteMask with startup := true } s t ∧ getReg t Reg.HUB_ST_STAT = 0 ∧
      t.startup.test = none ∧ (x.ticket, 3, s.compass.count) ∈ t.startup.results) ∧
    (¬due → exec .selftestTimeout s = .next s)) ∧
  (∀ s x, s.startup.test = some x → x.running = true → exec .selftestTimeout s = .next s) ∧
  (∀ s x clusters tracks, s.startup.test = some x → x.running = true → x.kind = 2 → ∃ t,
    exec (.selftestComplete clusters tracks) s = .next t ∧ t.startup.test = none ∧ t.hbm = [] ∧ t.barrel = [] ∧
    getField t Reg.CR_WSTAT 31 1 = 0 ∧ t.tarp.struck = s.tarp.struck ∧ t.pacer.mode ≠ .cal ∧
    (x.ticket, (if (List.range 32).any (fun r => tracks.getD r 0 != 0) then 1 else 0), s.compass.count) ∈ t.startup.results) ∧
  (∀ s x, s.startup.test = some x → x.running = true → x.kind = 1 → x.measured = true → ∃ t, exec (.selftestComplete [] []) s = .next t ∧
    t.startup.test = none ∧ t.pacer.mode ≠ .cal ∧ (x.ticket, 0, s.compass.count) ∈ t.startup.results ∧ t.hbm = s.hbm ∧
    ∀ r : Fin 32, t.regions[r] = { s.regions[r] with stoves := Vector.replicate 8 Stove.launch, kettles := Vector.replicate 16 Kettle.launch }) ∧
  (∀ s x clusters, s.startup.test = some x → x.running = true → x.kind = 1 → x.measured = true → s.pitch.isSome = true → unstruck s →
    failsMapped s clusters = true → ∃ t, exec (.selftestComplete clusters []) s = .next t ∧ t.tarp.struck = true ∧
      getField t Reg.TR_FAULT 48 16 = 0x2004 ∧ (x.ticket, 1, s.compass.count) ∈ t.startup.results) ∧
  (∀ s x m, s.startup.test = some x → x.running = true → x.kind ≠ 2 → x.measured = false →
    ((∀ c ∈ crossings, (chooseStages m c.1 c.2).isSome = true) → s.pitch = none → ∃ t, exec (.recalibration m) s = .next t ∧
      Same { regs := true, regions := true, startup := true } s t ∧ t.startup = { s.startup with
        test := some { x with measured := true }
        heldD := [] } ∧
      getField t Reg.HUB_CAL_STAT 31 1 = 0 ∧
      ∀ c d, c ∈ crossings → chooseStages m c.1 c.2 = some d → getField t (Reg.RG_XING_STAT c.1 c.2) 16 4 = d) ∧
    ((∃ c ∈ crossings, chooseStages m c.1 c.2 = none) → ready s = true → ∃ t, exec (.recalibration m) s = .next t ∧ resetBy s t 0x3101)) ∧
  (∀ s m, s.startup.test = none → calibrationDue s = false → exec (.recalibration m) s = .next s)
end

