-- ==== Sys2Proof/Laws/Coding.lean ====
section
/-!
SUPPORT. Laws/Coding.lean: fields of action words (Table 3.1).
-/

namespace Sys2Proof.Machine

set_option Elab.async false

theorem wordField_toNat (w : BitVec 64) (lo len : Nat) : (wordField w lo len).toNat = w.toNat / 2 ^ lo % 2 ^ len := by
  rw [wordField, BitVec.extractLsb'_toNat, Nat.shiftRight_eq_div_pow]

theorem actionWord_toNat (u op f : Nat) :
    (actionWord u op f).toNat = (u % 64 * 288230376151711744 + op % 256 * 1125899906842624 + f) % 18446744073709551616 := by
  simp only [actionWord, BitVec.toNat_ofNat, placeBits] <;> omega

/-- The unit of an action word. -/
theorem actionWord_unit (u op f : Nat) (hu : u < 64) (hf : f < 1125899906842624) : (wordField (actionWord u op f) 58 6).toNat = u := by
  rw [wordField_toNat, actionWord_toNat]
  omega

/-- The opcode of an action word. -/
theorem actionWord_op (u op f : Nat) (ho : op < 256) (hf : f < 1125899906842624) : (wordField (actionWord u op f) 50 8).toNat = op := by
  rw [wordField_toNat, actionWord_toNat]
  omega

/-- A field of the operands. -/
theorem actionWord_field (u op f lo len : Nat) (h : lo + len ≤ 50) :
    (wordField (actionWord u op f) lo len).toNat = f / 2 ^ lo % 2 ^ len := by
  rw [wordField_toNat, actionWord_toNat]
  have e1 : (1125899906842624 : Nat) = 2 ^ lo * (2 ^ len * 2 ^ (50 - lo - len)) := by
    rw [← Nat.pow_add, ← Nat.pow_add, show lo + (len + (50 - lo - len)) = 50 by omega]
  have e2 : (18446744073709551616 : Nat) = 2 ^ lo * (2 ^ len * 2 ^ (64 - lo - len)) := by
    rw [← Nat.pow_add, ← Nat.pow_add, show lo + (len + (64 - lo - len)) = 64 by omega]
  rw [e2, Nat.mod_mul_right_div_self, Nat.mod_mul_right_mod]
  have e3 : u % 64 * 288230376151711744 + op % 256 * 1125899906842624 + f =
      2 ^ lo * (2 ^ len * (2 ^ (50 - lo - len) * (u % 64 * 256 + op % 256))) + f := by
    have : 2 ^ lo * (2 ^ len * (2 ^ (50 - lo - len) * (u % 64 * 256 + op % 256))) = 1125899906842624 * (u % 64 * 256 + op % 256) := by
      rw [e1]; simp only [Nat.mul_assoc]
    rw [this]; omega
  rw [e3, Nat.mul_add_div (Nat.two_pow_pos lo), Nat.mul_add_mod]

end Sys2Proof.Machine
end

