-- ==== Sys2Proof/Laws/Store.lean ====
section
/-!
SUPPORT. Laws/Store.lean: the laws of sparse storage and of byte memory: a read after a write, and that every operation keeps the
canonical form.
-/

namespace Sys2Proof.Machine

set_option Elab.async false

variable {α : Type}

/-! ## Reading back -/

theorem storeGet_put_same (d : α) (m : Store α) (k : Nat) (v : α) : storeGet d (storePut m k v) k = v := by
  induction m with
  | nil => simp [storePut, storeGet]
  | cons e m ih =>
    obtain ⟨j, w⟩ := e
    simp only [storePut]
    split
    · rename_i h; simp [storeGet, Nat.ne_of_lt h, ih]
    · split <;> simp [storeGet]

theorem storeGet_put_other (d : α) (m : Store α) {k i : Nat} (h : i ≠ k) (v : α) :
    storeGet d (storePut m k v) i = storeGet d m i := by
  induction m with
  | nil => simp [storePut, storeGet, Ne.symm h]
  | cons e m ih =>
    obtain ⟨j, w⟩ := e
    simp only [storePut]
    split
    · simp [storeGet, ih]
    · split
      · rename_i _ e; subst e; simp [storeGet, Ne.symm h]
      · simp [storeGet, Ne.symm h]

/-- A store whose keys all lie at or above `lo`, in canonical form. -/
theorem storeWfFrom_mono [DecidableEq α] (d : α) {lo lo' : Nat} (h : lo' ≤ lo) (m : Store α) (w : storeWfFrom d lo m = true) :
    storeWfFrom d lo' m = true := by
  cases m with
  | nil => rfl
  | cons e m =>
    simp only [storeWfFrom, Bool.and_eq_true, decide_eq_true_eq] at w ⊢
    exact ⟨⟨by omega, w.1.2⟩, w.2⟩

theorem storeGet_del_same (d : α) (m : Store α) (k : Nat) : storeGet d (storeDel m k) k = d := by
  induction m with
  | nil => rfl
  | cons e m ih =>
    obtain ⟨j, v⟩ := e
    simp only [storeDel]
    split
    · exact ih
    · rename_i e; simp only [storeGet, e, if_false]; exact ih

theorem storeGet_del_other (d : α) (m : Store α) {k i : Nat} (h : i ≠ k) : storeGet d (storeDel m k) i = storeGet d m i := by
  induction m with
  | nil => rfl
  | cons e m ih =>
    obtain ⟨j, v⟩ := e
    simp only [storeDel]
    split
    · rename_i e; subst e; simp [storeGet, Ne.symm h, ih]
    · simp [storeGet, ih]

/-- A key reads back what was written to it. -/
theorem storeGet_set_same [DecidableEq α] (d : α) (m : Store α) (k : Nat) (v : α) :
    storeGet d (storeSet d m k v) k = v := by
  unfold storeSet
  split
  · rename_i e; rw [e]; exact storeGet_del_same d m k
  · exact storeGet_put_same d m k v

/-- A write leaves every other key alone. -/
theorem storeGet_set_other [DecidableEq α] (d : α) (m : Store α) {k i : Nat} (h : i ≠ k) (v : α) :
    storeGet d (storeSet d m k v) i = storeGet d m i := by
  unfold storeSet
  split
  · exact storeGet_del_other d m h
  · exact storeGet_put_other d m h v

/-! ## The canonical form is kept -/

theorem storeDel_wf [DecidableEq α] (d : α) {lo : Nat} (m : Store α) (w : storeWfFrom d lo m = true) (k : Nat) :
    storeWfFrom d lo (storeDel m k) = true := by
  induction m generalizing lo with
  | nil => rfl
  | cons e m ih =>
    obtain ⟨j, v⟩ := e
    have w' := w
    simp only [storeWfFrom, Bool.and_eq_true, decide_eq_true_eq] at w
    simp only [storeDel]
    split
    · exact storeWfFrom_mono d (by omega) _ (ih w.2)
    · simp only [storeWfFrom, Bool.and_eq_true, decide_eq_true_eq]
      exact ⟨w.1, ih w.2⟩

theorem storePut_wf [DecidableEq α] (d : α) {lo : Nat} (m : Store α) (w : storeWfFrom d lo m = true) {k : Nat} (h : lo ≤ k)
    {v : α} (hv : v ≠ d) : storeWfFrom d lo (storePut m k v) = true := by
  induction m generalizing lo with
  | nil => simp [storePut, storeWfFrom, h, hv]
  | cons e m ih =>
    obtain ⟨j, x⟩ := e
    simp only [storeWfFrom, Bool.and_eq_true, decide_eq_true_eq] at w
    simp only [storePut]
    split
    · simp only [storeWfFrom, Bool.and_eq_true, decide_eq_true_eq]
      exact ⟨w.1, ih w.2 (by omega)⟩
    · split
      · rename_i _ e; subst e
        simp only [storeWfFrom, Bool.and_eq_true, decide_eq_true_eq, Bool.not_eq_true', decide_eq_false_iff_not]
        exact ⟨⟨w.1.1, hv⟩, w.2⟩
      · simp only [storeWfFrom, Bool.and_eq_true, decide_eq_true_eq, Bool.not_eq_true', decide_eq_false_iff_not]
        exact ⟨⟨h, hv⟩, ⟨by omega, by simpa using w.1.2⟩, w.2⟩

/-- A write keeps the canonical form. -/
theorem storeSet_wf [DecidableEq α] (d : α) (m : Store α) (w : storeWf d m = true) (k : Nat) (v : α) :
    storeWf d (storeSet d m k v) = true := by
  unfold storeSet
  split
  · exact storeDel_wf d m w k
  · exact storePut_wf d m w (Nat.zero_le _) ‹_›

/-! ## Byte memory -/

theorem Memory.write_wf (m : Memory) (w : m.wf = true) (a : Nat) (v : Byte) : (m.write a v).wf = true :=
  storeSet_wf memDefault m w a v

theorem Memory.writeBytes_wf (bs : List Byte) (m : Memory) (a : Nat) (w : m.wf = true) : (m.writeBytes a bs).wf = true := by
  induction bs generalizing m a with
  | nil => exact w
  | cons b bs ih => exact ih _ _ (m.write_wf w a b)

theorem Memory.read_write_same (m : Memory) (a : Nat) (v : Byte) : (m.write a v).read a = v :=
  storeGet_set_same memDefault m a v

theorem Memory.read_write_other (m : Memory) {a b : Nat} (h : b ≠ a) (v : Byte) : (m.write a v).read b = m.read b :=
  storeGet_set_other memDefault m h v

/-- Bytes outside those written read as before. -/
theorem Memory.read_writeBytes_outside (bs : List Byte) (m : Memory) (a b : Nat) (h : b < a ∨ a + bs.length ≤ b) :
    (m.writeBytes a bs).read b = m.read b := by
  induction bs generalizing m a with
  | nil => rfl
  | cons v bs ih =>
    simp only [List.length_cons] at h
    rw [Memory.writeBytes, ih _ _ (by omega)]
    exact m.read_write_other (by omega) v

/-- Each byte written reads back. -/
theorem Memory.read_writeBytes_inside (bs : List Byte) (m : Memory) (a i : Nat) (h : i < bs.length) :
    (m.writeBytes a bs).read (a + i) = bs[i] := by
  induction bs generalizing m a i with
  | nil => exact absurd h (Nat.not_lt_zero _)
  | cons v bs ih =>
    cases i with
    | zero =>
      change ((m.write a v).writeBytes (a + 1) bs).read a = v
      rw [Memory.read_writeBytes_outside _ _ _ _ (by omega), m.read_write_same]
    | succ i =>
      simp only [List.length_cons] at h
      rw [Memory.writeBytes, show a + (i + 1) = a + 1 + i by omega, ih _ (a + 1) i (by omega)]
      rfl

end Sys2Proof.Machine
end

