-- ==== Sys2Proof/Laws/Kept.lean ====
section
/-!
SUPPORT. Laws/Kept.lean: what every operation keeps of the state it starts from: the queue, the factory identity and the time stand, the
count of free values only grows, and HBM and the Barrel stay in their canonical form. One lemma for each operation that answers a
state, in the files Laws/Kept*.lean; a simp set closes the next from the ones before.
-/

namespace Sys2Proof.Machine

set_option Elab.async false

/-- What an operation that goes from `a` to `s` keeps. -/
structure Kept (a s : State) : Prop where
  pending : s.pending = a.pending
  identity : s.identity = a.identity
  time : s.time = a.time
  free : a.free ≤ s.free
  hbm : a.hbm.wf = true → s.hbm.wf = true
  barrel : a.barrel.wf = true → s.barrel.wf = true

variable {a : State}

theorem Kept.refl (s : State) : Kept s s := ⟨rfl, rfl, rfl, Nat.le_refl _, id, id⟩

@[simp] theorem foldl_kept {α : Type} (l : List α) (f : State → α → State) (s : State) (h : Kept a s)
    (hf : ∀ s x, Kept a s → Kept a (f s x)) : Kept a (l.foldl f s) := by
  induction l generalizing s with
  | nil => exact h
  | cons x xs ih => exact ih (f s x) (hf s x h)

@[simp] theorem foldl_kept_fst {α β : Type} (l : List α) (f : State × β → α → State × β) (p : State × β) (h : Kept a p.1)
    (hf : ∀ p x, Kept a p.1 → Kept a (f p x).1) : Kept a (l.foldl f p).1 := by
  induction l generalizing p with
  | nil => exact h
  | cons x xs ih => exact ih (f p x) (hf p x h)

@[simp] theorem foldl_kept_snd {α β : Type} (l : List α) (f : β × State → α → β × State) (p : β × State) (h : Kept a p.2)
    (hf : ∀ p x, Kept a p.2 → Kept a (f p x).2) : Kept a (l.foldl f p).2 := by
  induction l generalizing p with
  | nil => exact h
  | cons x xs ih => exact ih (f p x) (hf p x h)

theorem ite_kept (c : Prop) [Decidable c] (x y : State) (hx : c → Kept a x) (hy : ¬c → Kept a y) :
    Kept a (if c then x else y) := by split <;> simp_all
theorem ite_kept_snd {β : Type} (c : Prop) [Decidable c] (x y : β × State) (hx : c → Kept a x.2) (hy : ¬c → Kept a y.2) :
    Kept a (if c then x else y).2 := by split <;> simp_all

@[simp] theorem ite_kept' (c : Prop) [Decidable c] (x y : State) (hx : Kept a x) (hy : Kept a y) : Kept a (if c then x else y) :=
  ite_kept c x y (fun _ => hx) (fun _ => hy)
@[simp] theorem ite_kept_snd' {β : Type} (c : Prop) [Decidable c] (x y : β × State) (hx : Kept a x.2) (hy : Kept a y.2) :
    Kept a (if c then x else y).2 := ite_kept_snd c x y (fun _ => hx) (fun _ => hy)
@[simp] theorem mk_kept (s : State) (h : Kept a s) (regs : Store W64) (halves : List (Requester × Nat × W32)) (latches : List (Requester × Nat × W32)) (pacer : Pacer) (pitch : Option Pitch) (trail : Trail) (tarp : Tarp) (compass : Compass) (regions : Vector Region 32) (pegTouched : Store Nat) (hubIn : List (List Entry)) (ports : Vector Port 10) (sinks : List (Nat × List (List Byte))) (far : Far) (tset : List Byte) (flaws : List Flaw) (zipper : Zipper) (gearLog : List (W64 × W64)) (gearScript : List (Nat × Nat)) (firewatch : Firewatch) (hosts : Vector HostPort 2) (firmware : Firmware) (whistle : Whistle) (lantern : Lantern) (flash : Flash) (startup : Startup) (log : List Event) (logSeq : Nat) (logged : Store (Nat × Nat)) (out : List Output) :
    Kept a (State.mk s.time s.free regs halves latches pacer pitch trail tarp compass s.identity regions pegTouched hubIn ports sinks s.hbm s.barrel far tset flaws zipper gearLog gearScript firewatch hosts firmware whistle lantern flash startup log logSeq logged out s.pending) := ⟨h.1, h.2, h.3, h.4, h.5, h.6⟩
@[simp] theorem mk_free_kept (s : State) (h : Kept a s) (regs : Store W64) (halves : List (Requester × Nat × W32)) (latches : List (Requester × Nat × W32)) (pacer : Pacer) (pitch : Option Pitch) (trail : Trail) (tarp : Tarp) (compass : Compass) (regions : Vector Region 32) (pegTouched : Store Nat) (hubIn : List (List Entry)) (ports : Vector Port 10) (sinks : List (Nat × List (List Byte))) (far : Far) (tset : List Byte) (flaws : List Flaw) (zipper : Zipper) (gearLog : List (W64 × W64)) (gearScript : List (Nat × Nat)) (firewatch : Firewatch) (hosts : Vector HostPort 2) (firmware : Firmware) (whistle : Whistle) (lantern : Lantern) (flash : Flash) (startup : Startup) (log : List Event) (logSeq : Nat) (logged : Store (Nat × Nat)) (out : List Output) :
    Kept a (State.mk s.time (s.free + 1) regs halves latches pacer pitch trail tarp compass s.identity regions pegTouched hubIn ports sinks s.hbm s.barrel far tset flaws zipper gearLog gearScript firewatch hosts firmware whistle lantern flash startup log logSeq logged out s.pending) := ⟨h.1, h.2, h.3, Nat.le_succ_of_le h.4, h.5, h.6⟩

theorem kept_of_snd {β : Type} {p : β × State} {b : β} {t : State} (h : Kept a p.2) (e : p = (b, t)) : Kept a t := by
  subst e; exact h

end Sys2Proof.Machine
end

