-- ==== Sys2Proof/Laws/KeptOps.lean ====
section
/-!
SUPPORT. Laws/KeptOps.lean: what is kept by the shared operations of registers, regions, symbols, operands and issue.
-/

namespace Sys2Proof.Machine

set_option Elab.async false

variable {a : State}

/-! ### Machine/Ops.lean -/

@[simp] theorem setReg_kept (s : State) (off : Nat) (v : W64) (hs : Kept a s) :
    Kept a (setReg s off v) := by
  unfold setReg
  simp (maxDischargeDepth := 30) [hs]

@[simp] theorem setField_kept (s : State) (off : Nat) (lo : Nat) (len : Nat) (x : Nat) (hs : Kept a s) :
    Kept a (setField s off lo len x) := by
  unfold setField
  simp (maxDischargeDepth := 30) [hs]

@[simp] theorem setBits_kept (s : State) (off : Nat) (bits : Nat) (hs : Kept a s) :
    Kept a (setBits s off bits) := by
  unfold setBits
  simp (maxDischargeDepth := 30) [hs]

@[simp] theorem countField_kept (s : State) (off : Nat) (lo : Nat) (len : Nat) (n : Nat) (hs : Kept a s) :
    Kept a (countField s off lo len n) := by
  unfold countField
  simp (maxDischargeDepth := 30) [hs]

@[simp] theorem peakField_kept (s : State) (off : Nat) (lo : Nat) (len : Nat) (x : Nat) (hs : Kept a s) :
    Kept a (peakField s off lo len x) := by
  unfold peakField
  simp (maxDischargeDepth := 30) [hs]

@[simp] theorem dropHalf_kept (s : State) (q : Requester) (off : Nat) (hs : Kept a s) :
    Kept a (dropHalf s q off) := by
  unfold dropHalf
  simp (maxDischargeDepth := 30) [hs]

@[simp] theorem lnMoved_kept (s : State) (i : Nat) (out : Nat) (inn : Nat) (hs : Kept a s) :
    Kept a (lnMoved s i out inn) := by
  unfold lnMoved
  simp (maxDischargeDepth := 30) [hs]

@[simp] theorem hostBytes_kept (s : State) (q : Requester) (out : Nat) (inn : Nat) (hs : Kept a s) :
    Kept a (hostBytes s q out inn) := by
  unfold hostBytes
  (repeat' split) <;> simp (maxDischargeDepth := 30) [hs]

@[simp] theorem formHalf_kept (s : State) (q : Requester) (off : Nat) (w : HalfWrite) (hs : Kept a s) :
    Kept a (formHalf s q off w).2 := by
  unfold formHalf
  (repeat' split) <;> simp (maxDischargeDepth := 30) [hs]

@[simp] theorem setRegBytes_kept (s : State) (f : Nat → Nat) (bs : List Byte) (hs : Kept a s) :
    Kept a (setRegBytes s f bs) := by
  unfold setRegBytes
  simp (maxDischargeDepth := 30) +contextual [hs]

@[simp] theorem freshLine_kept (s : State) (hs : Kept a s) :
    Kept a (freshLine s).2 := by
  unfold freshLine
  simp (maxDischargeDepth := 30) [hs]

@[simp] theorem freshWord_kept (s : State) (hs : Kept a s) :
    Kept a (freshWord s).2 := by
  unfold freshWord
  simp (maxDischargeDepth := 30) [hs]

@[simp] theorem freshVec_kept (s : State) (hs : Kept a s) :
    Kept a (freshVec s).2 := by
  unfold freshVec
  simp (maxDischargeDepth := 30) [hs]

@[simp] theorem freshAcc_kept (s : State) (hs : Kept a s) :
    Kept a (freshAcc s).2 := by
  unfold freshAcc
  simp (maxDischargeDepth := 30) [hs]

@[simp] theorem freshBit_kept (s : State) (hs : Kept a s) :
    Kept a (freshBit s).2 := by
  unfold freshBit
  simp (maxDischargeDepth := 30) [hs]

@[simp] theorem freshByte_kept (s : State) (hs : Kept a s) :
    Kept a (freshByte s).2 := by
  unfold freshByte
  simp (maxDischargeDepth := 30) [hs]

@[simp] theorem freshBytes_kept (s : State) (y1 : Nat) (hs : Kept a s) :
    Kept a (freshBytes s y1).2 := by
  induction y1 generalizing s with
  | zero => exact hs
  | succ n ih => exact ih _ (freshByte_kept s hs)

@[simp] theorem firmwareRead_kept (s : State) (y1 : Nat) (n : Nat) (hs : Kept a s) :
    Kept a (firmwareRead s y1 n).2 := by
  unfold firmwareRead
  simp (maxDischargeDepth := 30) [hs]

@[simp] theorem modRegion_kept (s : State) (r : Fin 32) (f : Region → Region) (hs : Kept a s) :
    Kept a (modRegion s r f) := by
  unfold modRegion
  simp (maxDischargeDepth := 30) [hs]

@[simp] theorem modRegions_kept (s : State) (f : Region → Region) (hs : Kept a s) :
    Kept a (modRegions s f) := by
  unfold modRegions
  simp (maxDischargeDepth := 30) [hs]

@[simp] theorem forRegions_kept (s : State) (f : Fin 32 → State → State) (hs : Kept a s)
    (hf : ∀ (z0 : Fin 32) (z1 : State), Kept a z1 → Kept a (f z0 z1)) :
    Kept a (forRegions s f) := by
  unfold forRegions
  simp (maxDischargeDepth := 30) +contextual [hs, hf]

@[simp] theorem makePending_kept (s : State) (n : Nat) (hs : Kept a s) :
    Kept a (makePending s n) := by
  unfold makePending
  simp (maxDischargeDepth := 30) [hs]

@[simp] theorem pulse_kept (s : State) (n : Nat) (hs : Kept a s) :
    Kept a (pulse s n) := by
  unfold pulse
  simp (maxDischargeDepth := 30) [hs]

@[simp] theorem emit_kept (s : State) (o : Output) (hs : Kept a s) :
    Kept a (emit s o) := by
  unfold emit
  simp (maxDischargeDepth := 30) [hs]

@[simp] theorem logEvent_kept (s : State) (code : Nat) (hs : Kept a s) :
    Kept a (logEvent s code) := by
  unfold logEvent
  simp (maxDischargeDepth := 30) [hs]

@[simp] theorem logLimited_kept (s : State) (code : Nat) (port : Nat) (hs : Kept a s) :
    Kept a (logLimited s code port) := by
  unfold logLimited
  simp (maxDischargeDepth := 30) [hs]

@[simp] theorem captureAt_kept (s : State) (units : Nat) (kind : Nat) (data : Nat) (hs : Kept a s) :
    Kept a (captureAt s units kind data) := by
  unfold captureAt
  simp (maxDischargeDepth := 30) [hs]

@[simp] theorem capture_kept (s : State) (kind : Nat) (data : Nat) (hs : Kept a s) :
    Kept a (capture s kind data) := by
  unfold capture
  simp (maxDischargeDepth := 30) [hs]

@[simp] theorem lnAdd_kept (s : State) (r : Nat) (k : Nat) (n : Nat) (hs : Kept a s) :
    Kept a (lnAdd s r k n) := by
  unfold lnAdd
  simp (maxDischargeDepth := 30) [hs]

@[simp] theorem lnAccess_kept (s : State) (r : Nat) (cls : Nat) (addr : Nat) (bytes : Nat) (priv : Nat) (master : Nat) (hs : Kept a s) :
    Kept a (lnAccess s r cls addr bytes priv master) := by
  unfold lnAccess
  apply foldl_kept _ _ _ hs
  intro s x hs
  dsimp only
  (repeat' split) <;> simp (maxDischargeDepth := 30) [hs]

@[simp] theorem lnHbm_kept (s : State) (cls : Nat) (y2 : Nat) (n : Nat) (priv : Nat) (master : Nat) (hs : Kept a s) :
    Kept a (lnHbm s cls y2 n priv master) := by
  unfold lnHbm
  simp (maxDischargeDepth := 30) +contextual [hs]

@[simp] theorem refreshMap_kept (s : State) (hs : Kept a s) :
    Kept a (refreshMap s) := by
  unfold refreshMap
  simp (maxDischargeDepth := 30) [hs]

@[simp] theorem mergeMap_kept (s : State) (hs : Kept a s) :
    Kept a (mergeMap s) := by
  unfold mergeMap
  simp (maxDischargeDepth := 30) +contextual [hs]

@[simp] theorem addFailures_kept (s : State) (fs : List (Nat × Nat)) (hs : Kept a s) :
    Kept a (addFailures s fs) := by
  unfold addFailures
  simp (maxDischargeDepth := 30) +contextual [hs]

@[simp] theorem dropWrite_kept (s : State) (p : Fin 2) (hs : Kept a s) :
    Kept a (dropWrite s p) := by
  unfold dropWrite
  simp (maxDischargeDepth := 30) [hs]

@[simp] theorem byWriter_kept (s : State) (q : Requester) (f : State → State) (hs : Kept a s)
    (hf : ∀ (z0 : State), Kept a z0 → Kept a (f z0)) :
    Kept a (byWriter s q f) := by
  unfold byWriter
  (repeat' split) <;> simp (maxDischargeDepth := 30) [hs, hf]

/-! ### Machine/Symbols.lean -/

@[simp] theorem modPort_kept (s : State) (p : Fin 10) (f : Port → Port) (hs : Kept a s) :
    Kept a (modPort s p f) := by
  unfold modPort
  simp (maxDischargeDepth := 30) [hs]

@[simp] theorem forPorts_kept (s : State) (f : Fin 10 → State → State) (hs : Kept a s)
    (hf : ∀ (z0 : Fin 10) (z1 : State), Kept a z1 → Kept a (f z0 z1)) :
    Kept a (forPorts s f) := by
  unfold forPorts
  simp (maxDischargeDepth := 30) +contextual [hs, hf]

@[simp] theorem limitedEvent_kept (s : State) (p : Fin 10) (code : Nat) (hs : Kept a s) :
    Kept a (limitedEvent s p code) := by
  unfold limitedEvent
  simp (maxDischargeDepth := 30) [hs]

@[simp] theorem symbolLost_kept (s : State) (p : Fin 10) (hs : Kept a s) :
    Kept a (symbolLost s p) := by
  unfold symbolLost
  simp (maxDischargeDepth := 30) [hs]

@[simp] theorem putSymbol_kept (s : State) (p : Fin 10) (type : Nat) (payload : BitVec 40) (hs : Kept a s) :
    Kept a (putSymbol s p type payload) := by
  unfold putSymbol
  simp (maxDischargeDepth := 30) +contextual [hs]

@[simp] theorem sendSymbol_kept (s : State) (p : Fin 10) (type : Nat) (payload : BitVec 40) (hs : Kept a s) :
    Kept a (sendSymbol s p type payload) := by
  unfold sendSymbol
  dsimp only
  (repeat' split) <;> simp (maxDischargeDepth := 30) [hs]

@[simp] theorem takeSymbol_kept (s : State) (p : Fin 10) (type : Nat) (v : W64) (f : BitVec 40 → State → State) (hs : Kept a s)
    (hf : ∀ (z0 : BitVec 40) (z1 : State), Kept a z1 → Kept a (f z0 z1)) :
    Kept a (takeSymbol s p type v f) := by
  unfold takeSymbol
  simp (maxDischargeDepth := 30) [hs, hf]

@[simp] theorem sendCamp_kept (s : State) (not_ : Option (Fin 10)) (type : Nat) (payload : BitVec 40) (hs : Kept a s) :
    Kept a (sendCamp s not_ type payload) := by
  unfold sendCamp
  apply foldl_kept _ _ _ hs
  intro s x hs
  dsimp only
  (repeat' split) <;> simp (maxDischargeDepth := 30) [hs]

@[simp] theorem dropCamp_kept (s : State) (p : Fin 10) (hs : Kept a s) :
    Kept a (dropCamp s p) := by
  unfold dropCamp
  simp (maxDischargeDepth := 30) [hs]

@[simp] theorem takeCamp_kept (s : State) (p : Fin 10) (type : Nat) (v : W64) (f : BitVec 40 → State → State) (hs : Kept a s)
    (hf : ∀ (z0 : BitVec 40) (z1 : State), Kept a z1 → Kept a (f z0 z1)) :
    Kept a (takeCamp s p type v f) := by
  unfold takeCamp
  simp (maxDischargeDepth := 30) +contextual [hs, hf]

@[simp] theorem discardPort_kept (ingress : Bool) (count : Bool) (p : Fin 10) (s : State) (hs : Kept a s) :
    Kept a (discardPort ingress count p s) := by
  unfold discardPort
  simp (maxDischargeDepth := 30) [hs]

@[simp] theorem discardRecords_kept (s : State) (ingress : Bool) (count : Bool) (hs : Kept a s) :
    Kept a (discardRecords s ingress count) := by
  unfold discardRecords
  simp (maxDischargeDepth := 30) +contextual [hs]

/-! ### Machine/RegionOps.lean -/

@[simp] theorem putSackLine_kept (s : State) (r : Fin 32) (k : Nat) (line : Nat) (v : Line) (hs : Kept a s) :
    Kept a (putSackLine s r k line v) := by
  unfold putSackLine
  simp (maxDischargeDepth := 30) [hs]

@[simp] theorem setPeg_kept (s : State) (r : Fin 32) (p : Nat) (f : Peg → Peg) (hs : Kept a s) :
    Kept a (setPeg s r p f) := by
  unfold setPeg
  simp (maxDischargeDepth := 30) [hs]

@[simp] theorem modStove_kept (s : State) (r : Fin 32) (c : Fin 8) (f : Stove → Stove) (hs : Kept a s) :
    Kept a (modStove s r c f) := by
  unfold modStove
  simp (maxDischargeDepth := 30) [hs]

@[simp] theorem modKettle_kept (s : State) (r : Fin 32) (u : Fin 16) (f : Kettle → Kettle) (hs : Kept a s) :
    Kept a (modKettle s r u f) := by
  unfold modKettle
  simp (maxDischargeDepth := 30) [hs]

@[simp] theorem undefineHub_kept (s : State) (y1 : Nat) (wid : Nat) (seq : Nat) (hs : Kept a s) :
    Kept a (undefineHub s y1 wid seq) := by
  unfold undefineHub
  simp (maxDischargeDepth := 30) [hs]

@[simp] theorem putHbmRaw_kept (s : State) (y1 : Nat) (bs : List Byte) (hs : Kept a s) :
    Kept a (putHbmRaw s y1 bs) := by
  exact ⟨hs.1, hs.2, hs.3, hs.4, fun w => Memory.writeBytes_wf _ _ _ (hs.5 w), hs.6⟩

@[simp] theorem touchWeights_kept (s : State) (y1 : Nat) (n : Nat) (hs : Kept a s) :
    Kept a (touchWeights s y1 n) := by
  unfold touchWeights
  simp (maxDischargeDepth := 30) [hs]

@[simp] theorem putHbm_kept (s : State) (y1 : Nat) (bs : List Byte) (hs : Kept a s) :
    Kept a (putHbm s y1 bs) := by
  unfold putHbm
  simp (maxDischargeDepth := 30) [hs]

@[simp] theorem emptySlot_kept (s : State) (k : Nat) (hs : Kept a s) :
    Kept a (emptySlot s k) := by
  unfold emptySlot
  simp (maxDischargeDepth := 30) +contextual [hs]

@[simp] theorem storeHbm_kept (s : State) (y1 : Nat) (bs : List Byte) (hs : Kept a s) :
    Kept a (storeHbm s y1 bs) := by
  unfold storeHbm
  simp (maxDischargeDepth := 30) +contextual [hs]

@[simp] theorem undefine_kept (s : State) (p : Place) (hs : Kept a s) :
    Kept a (undefine s p) := by
  unfold undefine
  dsimp only
  (repeat' split) <;> simp (maxDischargeDepth := 30) +contextual [hs]

@[simp] theorem undefineAll_kept (s : State) (ps : List Place) (hs : Kept a s) :
    Kept a (undefineAll s ps) := by
  unfold undefineAll
  simp (maxDischargeDepth := 30) +contextual [hs]

@[simp] theorem enterHeld_kept (s : State) (hs : Kept a s) :
    Kept a (enterHeld s) := by
  unfold enterHeld
  simp (maxDischargeDepth := 30) [hs]

@[simp] theorem touchPeg_kept (s : State) (r : Fin 32) (p : Nat) (hs : Kept a s) :
    Kept a (touchPeg s r p) := by
  unfold touchPeg
  simp (maxDischargeDepth := 30) [hs]

@[simp] theorem notifyPegs_kept (s : State) (r : Fin 32) (hs : Kept a s) :
    Kept a (notifyPegs s r) := by
  unfold notifyPegs
  simp (maxDischargeDepth := 30) +contextual [hs]

@[simp] theorem flushLater_kept (s : State) (r : Fin 32) (hs : Kept a s) :
    Kept a (flushLater s r) := by
  unfold flushLater
  simp (maxDischargeDepth := 30) +contextual [hs]

@[simp] theorem setHubEntries_kept (s : State) (r : Fin 32) (l : List Entry) (hs : Kept a s) :
    Kept a (setHubEntries s r l) := by
  unfold setHubEntries
  simp (maxDischargeDepth := 30) [hs]

@[simp] theorem settleRegion_kept (s : State) (r : Fin 32) (hs : Kept a s) :
    Kept a (settleRegion s r) := by
  unfold settleRegion
  simp (maxDischargeDepth := 30) [hs]

@[simp] theorem cancelArm_kept (s : State) (hs : Kept a s) :
    Kept a (cancelArm s) := by
  unfold cancelArm
  simp (maxDischargeDepth := 30) [hs]

@[simp] theorem goLocal_kept (s : State) (hs : Kept a s) :
    Kept a (goLocal s) := by
  unfold goLocal
  simp (maxDischargeDepth := 30) [hs]

@[simp] theorem enterCal_kept (s : State) (hs : Kept a s) :
    Kept a (enterCal s) := by
  unfold enterCal
  simp (maxDischargeDepth := 30) [hs]

@[simp] theorem quitCal_kept (s : State) (hs : Kept a s) :
    Kept a (quitCal s) := by
  unfold quitCal
  simp (maxDischargeDepth := 30) [hs]

@[simp] theorem refreshTest_kept (s : State) (hs : Kept a s) :
    Kept a (refreshTest s) := by
  unfold refreshTest
  simp (maxDischargeDepth := 30) [hs]

@[simp] theorem noteTest_kept (s : State) (ticket : Nat) (result : Nat) (hs : Kept a s) :
    Kept a (noteTest s ticket result) := by
  unfold noteTest
  simp (maxDischargeDepth := 30) [hs]

@[simp] theorem abortTest_kept (s : State) (hs : Kept a s) :
    Kept a (abortTest s) := by
  unfold abortTest
  (repeat' split) <;> simp (maxDischargeDepth := 30) [hs]

@[simp] theorem evalLaunchPeg_kept (s : State) (hs : Kept a s) :
    Kept a (evalLaunchPeg s) := by
  unfold evalLaunchPeg
  simp (maxDischargeDepth := 30) [hs]

@[simp] theorem leaveCal_kept (s : State) (hs : Kept a s) :
    Kept a (leaveCal s) := by
  unfold leaveCal
  simp (maxDischargeDepth := 30) [hs]

@[simp] theorem gearAppend_kept (s : State) (w0 : Nat) (w1 : Nat) (hs : Kept a s) :
    Kept a (gearAppend s w0 w1) := by
  unfold gearAppend
  simp (maxDischargeDepth := 30) [hs]

@[simp] theorem enterArmed_kept (s : State) (hs : Kept a s) :
    Kept a (enterArmed s) := by
  unfold enterArmed
  simp (maxDischargeDepth := 30) +contextual [hs]

@[simp] theorem settleStop_kept (s : State) (hs : Kept a s) :
    Kept a (settleStop s) := by
  unfold settleStop
  (repeat' split) <;> simp (maxDischargeDepth := 30) [hs]

@[simp] theorem dropLater_kept (s : State) (r : Fin 32) (hs : Kept a s) :
    Kept a (dropLater s r) := by
  unfold dropLater
  simp (maxDischargeDepth := 30) [hs]

@[simp] theorem settleStrike_kept (s : State) (hs : Kept a s) :
    Kept a (settleStrike s) := by
  unfold settleStrike
  simp (maxDischargeDepth := 30) [hs]

@[simp] theorem strikeSteps_kept (s : State) (code : Nat) (origin : Nat) (mode : TrailMode) (hs : Kept a s) :
    Kept a (strikeSteps s code origin mode) := by
  unfold strikeSteps
  simp (maxDischargeDepth := 30) +contextual [hs]

@[simp] theorem strike_kept (s : State) (code : Nat) (hs : Kept a s) :
    Kept a (strike s code) := by
  unfold strike
  simp (maxDischargeDepth := 30) [hs]

@[simp] theorem restart_kept (s : State) (power : PowerState) (step : Nat) (hs : Kept a s) :
    Kept a (restart s power step) := by
  have h := mergeMap_kept s hs
  unfold restart
  apply setField_kept
  apply setField_kept
  apply foldl_kept
  · exact ⟨h.1, h.2, h.3, h.4, fun _ => rfl, fun _ => rfl⟩
  · intro t x ht
    exact setReg_kept t _ _ ht

@[simp] theorem noteReset_kept (s : State) (code : Nat) (hs : Kept a s) :
    Kept a (noteReset s code) := by
  unfold noteReset
  simp (maxDischargeDepth := 30) [hs]

@[simp] theorem moduleReset_kept (s : State) (code : Nat) (hs : Kept a s) :
    Kept a (moduleReset s code) := by
  unfold moduleReset
  simp (maxDischargeDepth := 30) [hs]

@[simp] theorem latchFault_kept (s : State) (code : Nat) (y2 : FaultAt) (hs : Kept a s) :
    Kept a (latchFault s code y2) := by
  unfold latchFault
  simp (maxDischargeDepth := 30) [hs]

@[simp] theorem raise_kept (s : State) (code : Nat) (y2 : FaultAt) (hs : Kept a s) :
    Kept a (raise s code y2) := by
  unfold raise
  (repeat' split) <;> simp (maxDischargeDepth := 30) [hs]

@[simp] theorem raiseModule_kept (s : State) (code : Nat) (hs : Kept a s) :
    Kept a (raiseModule s code) := by
  unfold raiseModule
  simp (maxDischargeDepth := 30) [hs]

@[simp] theorem raiseAt_kept (s : State) (code : Nat) (r : Fin 32) (slot : Nat) (hs : Kept a s) :
    Kept a (raiseAt s code r slot) := by
  unfold raiseAt
  simp (maxDischargeDepth := 30) [hs]

@[simp] theorem raiseHazard_kept (s : State) (kind : Nat) (r : Nat) (slot : Nat) (beat : Nat) (hs : Kept a s) :
    Kept a (raiseHazard s kind r slot beat) := by
  unfold raiseHazard
  simp (maxDischargeDepth := 30) [hs]

@[simp] theorem raiseHold_kept (s : State) (y1 : Nat) (cause : HoldCause) (hs : Kept a s) :
    Kept a (raiseHold s y1 cause) := by
  unfold raiseHold
  simp (maxDischargeDepth := 30) [hs]

/-! ### Machine/Observe.lean -/

@[simp] theorem zipNote_kept (s : State) (r : Nat) (slot : Nat) (beat : Nat) (y4 : Nat) (b : Nat) (kind : Nat) (bytes : List Byte)
    (hs : Kept a s) :
    Kept a (zipNote s r slot beat y4 b kind bytes) := by
  unfold zipNote
  simp (maxDischargeDepth := 30) [hs]

@[simp] theorem zipCompare_kept (s : State) (r : Nat) (w : Nat) (own : Nat) (peer : Nat) (hs : Kept a s) :
    Kept a (zipCompare s r w own peer) := by
  unfold zipCompare
  simp (maxDischargeDepth := 30) [hs]

@[simp] theorem zipOwn_kept (s : State) (r : Nat) (w : Nat) (d : Nat) (hs : Kept a s) :
    Kept a (zipOwn s r w d) := by
  unfold zipOwn
  dsimp only
  (repeat' split) <;> simp (maxDischargeDepth := 30) [hs]

@[simp] theorem zipFinish_kept (s : State) (r : Nat) (hs : Kept a s) :
    Kept a (zipFinish s r) := by
  unfold zipFinish
  simp (maxDischargeDepth := 30) [hs]

@[simp] theorem zipFold_kept (s : State) (r : Nat) (beat : Nat) (hs : Kept a s) :
    Kept a (zipFold s r beat) := by
  unfold zipFold
  simp (maxDischargeDepth := 30) [hs]

@[simp] theorem snapRegion_kept (s : State) (r : Nat) (hs : Kept a s) :
    Kept a (snapRegion s r) := by
  unfold snapRegion
  simp (maxDischargeDepth := 30) [hs]

@[simp] theorem lnBeatCounts_kept (s : State) (r : Fin 32) (beat : Nat) (hs : Kept a s) :
    Kept a (lnBeatCounts s r beat) := by
  unfold lnBeatCounts
  extract_lets g s1 s2 s3 s4 s5 s6 s7
  have h1 : Kept a s1 := lnAdd_kept _ _ _ _ hs
  clear_value s1
  have h2 : Kept a s2 := foldl_kept _ _ _ h1 fun t c ht => ite_kept _ _ _ (fun _ => lnAdd_kept _ _ _ _ ht) (fun _ => ht)
  clear_value s2
  have h3 : Kept a s3 := lnAdd_kept _ _ _ _ (lnAdd_kept _ _ _ _ h2)
  clear_value s3
  have h4 : Kept a s4 := foldl_kept _ _ _ h3 fun t c ht => lnAdd_kept _ _ _ _ ht
  clear_value s4
  have h5 : Kept a s5 := ite_kept _ _ _ (fun _ => lnAdd_kept _ _ _ _ h4) (fun _ => h4)
  have h7 : Kept a s7 := lnAdd_kept _ _ _ _ (lnAdd_kept _ _ _ _ h5)
  exact ite_kept _ _ _ (fun _ => lnAdd_kept _ _ _ _ h7) (fun _ => h7)

@[simp] theorem endRows_kept (s : State) (r beat : Nat) (hs : Kept a s) : Kept a (endRows s r beat) := by
  unfold endRows
  simp (maxDischargeDepth := 30) [hs]

@[simp] theorem endBeat_kept (s : State) (r : Fin 32) (beat : Nat) (hs : Kept a s) :
    Kept a (endBeat s r beat) := by
  unfold endBeat
  extract_lets s1
  have h1 : Kept a s1 := endRows_kept _ _ _ (lnBeatCounts_kept _ _ _ (zipFold_kept _ _ _ hs))
  clear_value s1
  split
  · refine ite_kept _ _ _ (fun _ => ?_) (fun _ => h1)
    have h2 : Kept a (snapRegion s1 r.val) := snapRegion_kept _ _ h1
    exact ite_kept _ _ _ (fun _ => mk_kept _ h2 ..) (fun _ => h2)
  · exact h1

/-! ### Machine/Operands.lean -/

@[simp] theorem faultOf_kept (x : Ctx) (s : State) (code : Nat) (hs : Kept a s) :
    Kept a (faultOf x s code) := by
  unfold faultOf
  simp (maxDischargeDepth := 30) [hs]

@[simp] theorem later_kept (x : Ctx) (s : State) (beat : Nat) (m : Micro) (hs : Kept a s) :
    Kept a (later x s beat m) := by
  unfold later
  simp (maxDischargeDepth := 30) [hs]

@[simp] theorem writeSack_kept (x : Ctx) (s : State) (k : Nat) (line : Nat) (v : Line) (mask : BitVec 128) (hs : Kept a s) :
    Kept a (writeSack x s k line v mask) := by
  unfold writeSack
  simp (maxDischargeDepth := 30) [hs]

@[simp] theorem checkSackEcc_kept (x : Ctx) (s : State) (k : Nat) (line : Nat) (hs : Kept a s) :
    Kept a (checkSackEcc x s k line) := by
  unfold checkSackEcc
  apply foldl_kept _ _ _ hs
  intro s x hs
  dsimp only
  (repeat' split) <;> simp (maxDischargeDepth := 30) [hs]

@[simp] theorem portClash_kept (x : Ctx) (s : State) (k : Nat) (hs : Kept a s) :
    Kept a (portClash x s k).2 := by
  unfold portClash
  simp (maxDischargeDepth := 30) [hs]

@[simp] theorem readSack_kept (x : Ctx) (s : State) (k : Nat) (line : Nat) (hs : Kept a s) :
    Kept a (readSack x s k line).2 := by
  unfold readSack
  simp (maxDischargeDepth := 30) [hs]

@[simp] theorem lnPeg_kept (s : State) (r : Nat) (p : Nat) (cls : Nat) (priv : Nat) (master : Nat) (hs : Kept a s) :
    Kept a (lnPeg s r p cls priv master) := by
  unfold lnPeg
  simp (maxDischargeDepth := 30) [hs]

@[simp] theorem incPeg_kept (x : Ctx) (s : State) (p : Nat) (n : Nat) (hs : Kept a s) :
    Kept a (incPeg x s p n) := by
  unfold incPeg
  simp (maxDischargeDepth := 30) [hs]

@[simp] theorem trailPeg_kept (x : Ctx) (s : State) (p : Nat) (field : Place) (f : Peg → Peg) (hs : Kept a s) :
    Kept a (trailPeg x s p field f) := by
  unfold trailPeg
  simp (maxDischargeDepth := 30) [hs]

@[simp] theorem incPegLater_kept (s : State) (r : Fin 32) (p : Nat) (n : Nat) (err : Bool) (hs : Kept a s) :
    Kept a (incPegLater s r p n err) := by
  unfold incPegLater
  simp (maxDischargeDepth := 30) [hs]

@[simp] theorem useFace_kept (x : Ctx) (s : State) (f : Nat) (hs : Kept a s) :
    Kept a (useFace x s f) := by
  unfold useFace
  simp (maxDischargeDepth := 30) [hs]

@[simp] theorem spoilFace_kept (x : Ctx) (s : State) (f : Nat) (hs : Kept a s) :
    Kept a (spoilFace x s f) := by
  unfold spoilFace
  simp (maxDischargeDepth := 30) [hs]

@[simp] theorem takeFace_kept (x : Ctx) (s : State) (f : Nat) (thru : Bool) (hs : Kept a s) :
    Kept a (takeFace x s f thru).2 := by
  unfold takeFace
  simp (maxDischargeDepth := 30) [hs]

@[simp] theorem joinCrossing_kept (l : List Entry) (entry : Entry) (s : State) (hs : Kept a s) :
    Kept a (joinCrossing l entry s).2 := by
  unfold joinCrossing
  dsimp only
  (repeat' split) <;> simp (maxDischargeDepth := 30) [hs]

@[simp] theorem writeEntry_kept (x : Ctx) (s : State) (f : Nat) (side : W64) (data : Line) (hs : Kept a s) :
    Kept a (writeEntry x s f side data) := by
  unfold writeEntry
  dsimp only
  (repeat' split) <;> simp (maxDischargeDepth := 30) [hs]

@[simp] theorem crossWrite_kept (x : Ctx) (s : State) (f : Nat) (side : W64) (data : Line) (thru : Bool) (hs : Kept a s) :
    Kept a (crossWrite x s f side data thru) := by
  unfold crossWrite
  simp (maxDischargeDepth := 30) [hs]

@[simp] theorem sendPort_kept (x : Ctx) (s : State) (wid : Nat) (seq : Nat) (delay : Nat) (data : Line) (hs : Kept a s) :
    Kept a (sendPort x s wid seq delay data) := by
  unfold sendPort
  simp (maxDischargeDepth := 30) [hs]

@[simp] theorem sendFace_kept (x : Ctx) (s : State) (dest : Dest) (v : Line) (hs : Kept a s) :
    Kept a (sendFace x s dest v) := by
  unfold sendFace
  dsimp only
  (repeat' split) <;> simp (maxDischargeDepth := 30) [hs]

@[simp] theorem windowPut_kept (x : Ctx) (s : State) (f : Nat) (wid : Nat) (seq : Nat) (v : Line) (hs : Kept a s) :
    Kept a (windowPut x s f wid seq v) := by
  unfold windowPut
  simp (maxDischargeDepth := 30) [hs]

@[simp] theorem deliver_kept (x : Ctx) (s : State) (i : Nat) (e : Entry) (hs : Kept a s) :
    Kept a (deliver x s i e) := by
  unfold deliver
  (repeat' split) <;> simp (maxDischargeDepth := 30) [hs]

/-! ### Machine/UnitWork.lean -/

@[simp] theorem readKreg_kept (x : Ctx) (s : State) (u : Fin 16) (reg : Nat) (hs : Kept a s) :
    Kept a (readKreg x s u reg).2 := by
  unfold readKreg
  simp (maxDischargeDepth := 30) [hs]

@[simp] theorem readKregs_kept (x : Ctx) (u : Fin 16) (y2 : List Nat) (y3 : State) (hy3 : Kept a y3) :
    Kept a (readKregs x u y2 y3).2 := by
  induction y2 generalizing y3 with
  | nil => exact hy3
  | cons r rs ih => exact ih _ (readKreg_kept x y3 u r hy3)

@[simp] theorem runKexec_kept (x : Ctx) (s : State) (u : Fin 16) (op : KOp) (o : KOps) (opa : Option Vec) (key : Option (Quad × W32 × W32))
    (hs : Kept a s) :
    Kept a (runKexec x s u op o opa key) := by
  unfold runKexec
  dsimp only
  (repeat' split) <;> simp (maxDischargeDepth := 30) +contextual [hs]

@[simp] theorem writeKreg_kept (x : Ctx) (s : State) (u : Fin 16) (reg : Nat) (f : Vec → Vec) (hs : Kept a s) :
    Kept a (writeKreg x s u reg f) := by
  unfold writeKreg
  simp (maxDischargeDepth := 30) [hs]

@[simp] theorem setTrack_kept (s : State) (r : Fin 32) (t : Nat) (f : Track → Track) (hs : Kept a s) :
    Kept a (setTrack s r t f) := by
  unfold setTrack
  simp (maxDischargeDepth := 30) [hs]

@[simp] theorem setBank_kept (s : State) (r : Fin 32) (t : Nat) (b : Nat) (f : Bank → Bank) (hs : Kept a s) :
    Kept a (setBank s r t b f) := by
  unfold setBank
  simp (maxDischargeDepth := 30) [hs]

@[simp] theorem noteTrackEcc_kept (s : State) (r : Nat) (y2 : Nat) (far : Bool) (hs : Kept a s) :
    Kept a (noteTrackEcc s r y2 far) := by
  unfold noteTrackEcc
  apply foldl_kept _ _ _ hs
  intro s x hs
  dsimp only
  (repeat' split) <;> simp (maxDischargeDepth := 30) [hs]

@[simp] theorem unlessBounds_kept (x : Ctx) (s : State) (t : Nat) (row : Nat) (bank : Nat) (col : Nat) (nl : Nat) (write : Bool)
    (f : State → State) (hs : Kept a s) (hf : ∀ (z0 : State), Kept a z0 → Kept a (f z0)) :
    Kept a (unlessBounds x s t row bank col nl write f) := by
  unfold unlessBounds
  simp (maxDischargeDepth := 30) [hs, hf]

@[simp] theorem readLines_kept (x : Ctx) (s : State) (t : Nat) (bank : Nat) (row : Nat) (col : Nat) (nl : Nat) (sack : Nat) (line : Nat)
    (zero : Bool) (sent : Nat) (hs : Kept a s) :
    Kept a (readLines x s t bank row col nl sack line zero sent) := by
  unfold readLines
  apply foldl_kept _ _ _ hs
  intro s x hs
  dsimp only
  (repeat' split) <;> simp (maxDischargeDepth := 30) [hs]

@[simp] theorem guardUntil_kept (s : State) (r : Fin 32) (t : Nat) (hs : Kept a s) :
    Kept a (guardUntil s r t) := by
  unfold guardUntil
  simp (maxDischargeDepth := 30) [hs]

@[simp] theorem takeBus_kept (x : Ctx) (s : State) (t : Nat) (bank : Nat) (nl : Nat) (write : Bool) (sent : Nat) (hs : Kept a s) :
    Kept a (takeBus x s t bank nl write sent) := by
  unfold takeBus
  simp (maxDischargeDepth := 30) [hs]

@[simp] theorem startPrecharges_kept (s : State) (r : Fin 32) (n : Nat) (hs : Kept a s) :
    Kept a (startPrecharges s r n) := by
  unfold startPrecharges
  simp (maxDischargeDepth := 30) [hs]

@[simp] theorem runTidxColumn_kept (x : Ctx) (s : State) (t : Nat) (bank : Nat) (idx : Option Nat) (nl : Nat) (dsack : Nat) (dline : Nat)
    (hs : Kept a s) :
    Kept a (runTidxColumn x s t bank idx nl dsack dline) := by
  unfold runTidxColumn
  (repeat' split) <;> simp (maxDischargeDepth := 30) +contextual [hs]

@[simp] theorem enterPort_kept (x : Ctx) (s : State) (wid : Nat) (seq : Nat) (v : Line) (hs : Kept a s) :
    Kept a (enterPort x s wid seq v) := by
  unfold enterPort
  (repeat' split) <;> simp (maxDischargeDepth := 30) [hs]

@[simp] theorem passThrough_kept (x : Ctx) (s : State) (out : Nat) (dly : Nat) (q : InRec) (hs : Kept a s) :
    Kept a (passThrough x s out dly q) := by
  unfold passThrough
  simp (maxDischargeDepth := 30) [hs]

@[simp] theorem thruTake_kept (x : Ctx) (s : State) (out : Nat) (dly : Nat) (hs : Kept a s) :
    Kept a (thruTake x s out dly) := by
  unfold thruTake
  dsimp only
  (repeat' split) <;> simp (maxDischargeDepth := 30) [hs]

@[simp] theorem writeHbmLine_kept (s : State) (addr : Nat) (v : Line) (hs : Kept a s) :
    Kept a (writeHbmLine s addr v) := by
  unfold writeHbmLine
  simp (maxDischargeDepth := 30) [hs]

@[simp] theorem runMicro_kept (x : Ctx) (s : State) (m : Micro) (hs : Kept a s) :
    Kept a (runMicro x s m) := by
  unfold runMicro
  dsimp only
  (repeat' split) <;> simp (maxDischargeDepth := 30) [hs]

@[simp] theorem atBeat_kept (x : Ctx) (s : State) (beat : Nat) (m : Micro) (hs : Kept a s) :
    Kept a (atBeat x s beat m) := by
  unfold atBeat
  simp (maxDischargeDepth := 30) [hs]

/-! ### Machine/Issue.lean -/

@[simp] theorem noteReads_kept (s : State) (r : Fin 32) (slot : Nat) (ks : List Nat) (hs : Kept a s) :
    Kept a (noteReads s r slot ks) := by
  unfold noteReads
  simp (maxDischargeDepth := 30) [hs]

@[simp] theorem lnAction_kept (s : State) (r : Fin 32) (i : Instr) (hs : Kept a s) :
    Kept a (lnAction s r i) := by
  unfold lnAction
  (repeat' split) <;> simp (maxDischargeDepth := 30) [hs]

end Sys2Proof.Machine
end

