-- ==== Sys2Proof/Laws/KeptActions.lean ====
section
/-!
SUPPORT. Laws/KeptActions.lean: what is kept by what the actions of a beat do.
-/

namespace Sys2Proof.Machine

set_option Elab.async false

variable {a : State}

/-! ### Machine/Stoves.lean -/

@[simp] theorem unlessFault_kept (x : Ctx) (s : State) (i : Instr) (f : State → State) (hs : Kept a s)
    (hf : ∀ (z0 : State), Kept a z0 → Kept a (f z0)) :
    Kept a (unlessFault x s i f) := by
  unfold unlessFault
  (repeat' split) <;> simp (maxDischargeDepth := 30) [hs, hf]

@[simp] theorem issueSloadWeights_kept (c : Fin 8) (sack : BitVec 2) (line : BitVec 13) (nrows : BitVec 7) (x : Ctx) (s : State)
    (hs : Kept a s) :
    Kept a (issueSloadWeights c sack line nrows x s) := by
  unfold issueSloadWeights
  simp (maxDischargeDepth := 30) +contextual [hs]

@[simp] theorem issueSloadRawAdd_kept (c : Fin 8) (sack : BitVec 2) (line : BitVec 13) (nrows : BitVec 7) (acc : BitVec 4) (x : Ctx)
    (s : State) (hs : Kept a s) :
    Kept a (issueSloadRawAdd c sack line nrows acc x s) := by
  unfold issueSloadRawAdd
  simp (maxDischargeDepth := 30) +contextual [hs]

@[simp] theorem issueSmxsWeightScales_kept (c : Fin 8) (sack : BitVec 2) (line : BitVec 13) (x : Ctx) (s : State) (hs : Kept a s) :
    Kept a (issueSmxsWeightScales c sack line x s) := by
  unfold issueSmxsWeightScales
  simp (maxDischargeDepth := 30) +contextual [hs]

@[simp] theorem issueSmxsAsb_kept (c : Fin 8) (sack : BitVec 2) (line : BitVec 13) (x : Ctx) (s : State) (hs : Kept a s) :
    Kept a (issueSmxsAsb c sack line x s) := by
  unfold issueSmxsAsb
  simp (maxDischargeDepth := 30) +contextual [hs]

@[simp] theorem issueSfmt_kept (c : Fin 8) (wfmt : BitVec 4) (afmt : BitVec 4) (both : Bool) (keyld : Bool) (sack : BitVec 2)
    (line : BitVec 13) (x : Ctx) (s : State) (hs : Kept a s) :
    Kept a (issueSfmt c wfmt afmt both keyld sack line x s) := by
  unfold issueSfmt
  simp (maxDischargeDepth := 30) +contextual [hs]

@[simp] theorem issueSmac_kept (c : Fin 8) (sack : BitVec 2) (line : BitVec 13) (acc : BitVec 4) (nvec : BitVec 4) (asb : BitVec 7)
    (flip : Bool) (x : Ctx) (s : State) (hs : Kept a s) :
    Kept a (issueSmac c sack line acc nvec asb flip x s) := by
  unfold issueSmac
  dsimp only
  (repeat' split) <;> simp (maxDischargeDepth := 30) +contextual [hs]

@[simp] theorem issueSout_kept (c : Fin 8) (acc : BitVec 4) (sack : BitVec 2) (line : BitVec 13) (ofmt : BitVec 4) (rmode : Bool)
    (sat : Bool) (clr : Bool) (oscale : BitVec 9) (sline : BitVec 13) (x : Ctx) (s : State) (hs : Kept a s) :
    Kept a (issueSout c acc sack line ofmt rmode sat clr oscale sline x s) := by
  unfold issueSout
  (repeat' split) <;> simp (maxDischargeDepth := 30) +contextual [hs]

@[simp] theorem issueSclr_kept (c : Fin 8) (banks : BitVec 16) (asb : Bool) (planes : Bool) (key : Bool) (x : Ctx) (s : State)
    (hs : Kept a s) :
    Kept a (issueSclr c banks asb planes key x s) := by
  unfold issueSclr
  simp (maxDischargeDepth := 30) +contextual [hs]

/-! ### Machine/Kettles.lean -/

@[simp] theorem readOperandA_kept (u : Fin 16) (op : KOp) (o : KOps) (x : Ctx) (s : State) (hs : Kept a s) :
    Kept a (readOperandA u op o x s).2 := by
  unfold readOperandA
  simp (maxDischargeDepth := 30) [hs]

@[simp] theorem issueKettle_kept (op : KOp) (u : Fin 16) (o : KOps) (x : Ctx) (s : State) (hs : Kept a s) :
    Kept a (issueKettle op u o x s) := by
  unfold issueKettle
  simp (maxDischargeDepth := 30) [hs]

@[simp] theorem issueKsrSackToRegister_kept (u : Fin 16) (sack : BitVec 2) (line : BitVec 13) (reg : BitVec 5) (half : Bool) (x : Ctx)
    (s : State) (hs : Kept a s) :
    Kept a (issueKsrSackToRegister u sack line reg half x s) := by
  unfold issueKsrSackToRegister
  simp (maxDischargeDepth := 30) [hs]

@[simp] theorem issueKsrRegisterToSack_kept (u : Fin 16) (sack : BitVec 2) (line : BitVec 13) (reg : BitVec 5) (half : Bool) (x : Ctx)
    (s : State) (hs : Kept a s) :
    Kept a (issueKsrRegisterToSack u sack line reg half x s) := by
  unfold issueKsrRegisterToSack
  simp (maxDischargeDepth := 30) [hs]

@[simp] theorem issueKsrRegisterCopy_kept (u : Fin 16) (dst : BitVec 5) (src : BitVec 5) (bcast : Bool) (lane : BitVec 6) (x : Ctx)
    (s : State) (hs : Kept a s) :
    Kept a (issueKsrRegisterCopy u dst src bcast lane x s) := by
  unfold issueKsrRegisterCopy
  simp (maxDischargeDepth := 30) [hs]

@[simp] theorem issueKsrKeyLoad_kept (u : Fin 16) (sack : BitVec 2) (line : BitVec 13) (x : Ctx) (s : State) (hs : Kept a s) :
    Kept a (issueKsrKeyLoad u sack line x s) := by
  unfold issueKsrKeyLoad
  simp (maxDischargeDepth := 30) [hs]

/-! ### Machine/Movement.lean -/

@[simp] theorem unlessPast_kept (x : Ctx) (s : State) (i : Instr) (dest : List Place) (f : State → State) (hs : Kept a s)
    (hf : ∀ (z0 : State), Kept a z0 → Kept a (f z0)) :
    Kept a (unlessPast x s i dest f) := by
  unfold unlessPast
  simp (maxDischargeDepth := 30) [hs, hf]

@[simp] theorem issueSrd_kept (k : Fin 32) (dsack : BitVec 5) (line : BitVec 13) (dline : BitVec 13) (nlines : BitVec 13) (x : Ctx)
    (s : State) (hs : Kept a s) :
    Kept a (issueSrd k dsack line dline nlines x s) := by
  unfold issueSrd
  simp (maxDischargeDepth := 30) +contextual [hs]

@[simp] theorem issueSwrFill_kept (k : Fin 32) (line : BitVec 13) (nlines : BitVec 13) (imm : BitVec 16) (x : Ctx) (s : State)
    (hs : Kept a s) :
    Kept a (issueSwrFill k line nlines imm x s) := by
  unfold issueSwrFill
  simp (maxDischargeDepth := 30) +contextual [hs]

@[simp] theorem issueSwrPegSnapshot_kept (k : Fin 32) (line : BitVec 13) (peg : BitVec 9) (x : Ctx) (s : State) (hs : Kept a s) :
    Kept a (issueSwrPegSnapshot k line peg x s) := by
  unfold issueSwrPegSnapshot
  simp (maxDischargeDepth := 30) [hs]

@[simp] theorem issueSgath_kept (k : Fin 32) (iline : BitVec 13) (dsack : BitVec 5) (dline : BitVec 13) (base : BitVec 8) (wbits : BitVec 4)
    (nidx : BitVec 5) (x : Ctx) (s : State) (hs : Kept a s) :
    Kept a (issueSgath k iline dsack dline base wbits nidx x s) := by
  unfold issueSgath
  simp (maxDischargeDepth := 30) +contextual [hs]

@[simp] theorem issuePass_kept (f : Fin 7) (ssack : BitVec 5) (sline : BitVec 13) (dsack : BitVec 5) (dline : BitVec 13) (nlines : BitVec 8)
    (x : Ctx) (s : State) (hs : Kept a s) :
    Kept a (issuePass f ssack sline dsack dline nlines x s) := by
  unfold issuePass
  simp (maxDischargeDepth := 30) +contextual [hs]

@[simp] theorem issueSend_kept (f : Fin 7) (ssack : BitVec 5) (sline : BitVec 13) (wid : BitVec 3) (seq0 : BitVec 16) (nlines : BitVec 8)
    (x : Ctx) (s : State) (hs : Kept a s) :
    Kept a (issueSend f ssack sline wid seq0 nlines x s) := by
  unfold issueSend
  simp (maxDischargeDepth := 30) +contextual [hs]

@[simp] theorem setWindow_kept (x : Ctx) (s : State) (f : Nat) (wid : Nat) (w : Window) (hs : Kept a s) :
    Kept a (setWindow x s f wid w) := by
  unfold setWindow
  simp (maxDischargeDepth := 30) [hs]

@[simp] theorem issueRwinOpen_kept (f : Fin 7) (wid : BitVec 3) (dsack : BitVec 5) (base : BitVec 13) (len : BitVec 13) (peg : BitVec 9)
    (x : Ctx) (s : State) (hs : Kept a s) :
    Kept a (issueRwinOpen f wid dsack base len peg x s) := by
  unfold issueRwinOpen
  simp (maxDischargeDepth := 30) +contextual [hs]

@[simp] theorem issueRwinClose_kept (f : Fin 7) (wid : BitVec 3) (x : Ctx) (s : State) (hs : Kept a s) :
    Kept a (issueRwinClose f wid x s) := by
  unfold issueRwinClose
  simp (maxDischargeDepth := 30) [hs]

@[simp] theorem issueThru_kept (f : Fin 7) (inn : BitVec 3) (nbeats : BitVec 8) (dly : BitVec 4) (x : Ctx) (s : State) (hs : Kept a s) :
    Kept a (issueThru f inn nbeats dly x s) := by
  unfold issueThru
  simp (maxDischargeDepth := 30) [hs]

@[simp] theorem arrive_kept (x : Ctx) (s : State) (i : Nat) (e : Entry) (flip : Option (BitVec 11)) (hs : Kept a s) :
    Kept a (arrive x s i e flip) := by
  unfold arrive
  dsimp only
  (repeat' split) <;> simp (maxDischargeDepth := 30) [hs]

/-! ### Machine/Sources.lean -/

@[simp] theorem modHost_kept (s : State) (p : Fin 2) (f : HostPort → HostPort) (hs : Kept a s) :
    Kept a (modHost s p f) := by
  unfold modHost
  simp (maxDischargeDepth := 30) [hs]

@[simp] theorem msixSend_kept (s : State) (p : Fin 2) (v : Nat) (hs : Kept a s) :
    Kept a (msixSend s p v) := by
  unfold msixSend
  simp (maxDischargeDepth := 30) [hs]

@[simp] theorem levelOnset_kept (s : State) (n : Nat) (hs : Kept a s) :
    Kept a (levelOnset s n) := by
  unfold levelOnset
  simp (maxDischargeDepth := 30) [hs]

@[simp] theorem latchEvent_kept (s : State) (n : Nat) (hs : Kept a s) :
    Kept a (latchEvent s n) := by
  unfold latchEvent
  simp (maxDischargeDepth := 30) [hs]

@[simp] theorem senseOne_kept (s : State) (n : Nat) (now : Bool) (hs : Kept a s) :
    Kept a (senseOne s n now) := by
  unfold senseOne
  dsimp only
  (repeat' split) <;> simp (maxDischargeDepth := 30) [hs]

@[simp] theorem sense_kept (s : State) (hs : Kept a s) :
    Kept a (sense s) := by
  unfold sense
  simp (maxDischargeDepth := 30) +contextual [hs]

@[simp] theorem checkTimer_kept (s : State) (n : Nat) (hs : Kept a s) :
    Kept a (checkTimer s n) := by
  unfold checkTimer
  (repeat' split) <;> simp (maxDischargeDepth := 30) [hs]

@[simp] theorem intoService_kept (s : State) (n : Nat) (hs : Kept a s) :
    Kept a (intoService s n) := by
  unfold intoService
  simp (maxDischargeDepth := 30) [hs]

@[simp] theorem deliverSource_kept (s : State) (n : Nat) (hs : Kept a s) :
    Kept a (deliverSource s n) := by
  unfold deliverSource
  dsimp only
  (repeat' split) <;> simp (maxDischargeDepth := 30) +contextual [hs]

@[simp] theorem applyLatched_kept (s : State) (n : Nat) (hs : Kept a s) :
    Kept a (applyLatched s n) := by
  unfold applyLatched
  simp (maxDischargeDepth := 30) [hs]

@[simp] theorem wakeWhistle_kept (s : State) (hs : Kept a s) :
    Kept a (wakeWhistle s) := by
  unfold wakeWhistle
  simp (maxDischargeDepth := 30) +contextual [hs]

/-! ### Machine/Waits.lean -/

@[simp] theorem acceptRelease_kept (s : State) (origin : Nat) (y2 : Nat) (tr : Nat) (hs : Kept a s) :
    Kept a (acceptRelease s origin y2 tr) := by
  unfold acceptRelease
  simp (maxDischargeDepth := 30) [hs]

@[simp] theorem releaseHold_kept (s : State) (y1 : Nat) (hs : Kept a s) :
    Kept a (releaseHold s y1) := by
  unfold releaseHold
  simp (maxDischargeDepth := 30) [hs]

@[simp] theorem causeMet_kept (s : State) (cause : HoldCause) (hs : Kept a s) :
    Kept a (causeMet s cause) := by
  unfold causeMet
  apply foldl_kept _ _ _ hs
  intro s x hs
  dsimp only
  (repeat' split) <;> simp (maxDischargeDepth := 30) [hs]

@[simp] theorem noteOccupancy_kept (s : State) (r : Fin 32) (hs : Kept a s) :
    Kept a (noteOccupancy s r) := by
  unfold noteOccupancy
  apply foldl_kept _ _ _ hs
  intro s x hs
  split
  · exact hs
  · exact modRegion_kept _ _ _ hs

@[simp] theorem modFire_kept (s : State) (f : Firewatch → Firewatch) (hs : Kept a s) :
    Kept a (modFire s f) := by
  unfold modFire
  simp (maxDischargeDepth := 30) [hs]

@[simp] theorem gateUnits_kept (s : State) (depth : Nat) (hs : Kept a s) :
    Kept a (gateUnits s depth) := by
  unfold gateUnits
  simp (maxDischargeDepth := 30) [hs]

@[simp] theorem settleEmergency_kept (s : State) (hs : Kept a s) :
    Kept a (settleEmergency s) := by
  unfold settleEmergency
  (repeat' split) <;> simp (maxDischargeDepth := 30) [hs]

@[simp] theorem setModuleState_kept (s : State) (m : Nat) (hs : Kept a s) :
    Kept a (setModuleState s m) := by
  unfold setModuleState
  simp (maxDischargeDepth := 30) [hs]

@[simp] theorem wakeTo_kept (s : State) (m : Nat) (hs : Kept a s) :
    Kept a (wakeTo s m) := by
  unfold wakeTo
  simp (maxDischargeDepth := 30) [hs]

@[simp] theorem endedBeat_kept (s : State) (r : Nat) (beat : Nat) (hs : Kept a s) :
    Kept a (endedBeat s r beat) := by
  unfold endedBeat
  dsimp only
  (repeat' split) <;> simp (maxDischargeDepth := 30) [hs]

@[simp] theorem tryComplete_kept (s : State) (r : Fin 32) (hs : Kept a s) :
    Kept a (tryComplete s r) := by
  unfold tryComplete
  dsimp only
  (repeat' split) <;> simp (maxDischargeDepth := 30) [hs]

@[simp] theorem ackSlot_kept (s : State) (r : Fin 32) (slot : Nat) (hs : Kept a s) :
    Kept a (ackSlot s r slot) := by
  unfold ackSlot
  simp (maxDischargeDepth := 30) [hs]

@[simp] theorem restartHang_kept (s : State) (r : Fin 32) (hs : Kept a s) :
    Kept a (restartHang s r) := by
  unfold restartHang
  simp (maxDischargeDepth := 30) [hs]

@[simp] theorem endWait_kept (s : State) (r : Fin 32) (slot : Nat) (hs : Kept a s) :
    Kept a (endWait s r slot) := by
  unfold endWait
  simp (maxDischargeDepth := 30) [hs]

@[simp] theorem takeWaiting_kept (s : State) (r : Fin 32) (hs : Kept a s) :
    Kept a (takeWaiting s r) := by
  unfold takeWaiting
  split
  · exact hs
  · dsimp only
    apply foldl_kept _ _ _ hs
    intro s x hs
    split
    · exact endWait_kept _ _ _ (passThrough_kept _ _ _ _ _ (modPort_kept _ _ _ hs))
    · exact hs

/-! ### Machine/Pegs.lean -/

@[simp] theorem issuePinc_kept (peg : BitVec 9) (amount : BitVec 16) (x : Ctx) (s : State) (hs : Kept a s) :
    Kept a (issuePinc peg amount x s) := by
  unfold issuePinc
  simp (maxDischargeDepth := 30) [hs]

@[simp] theorem issuePsetCount_kept (peg : BitVec 9) (value : BitVec 32) (x : Ctx) (s : State) (hs : Kept a s) :
    Kept a (issuePsetCount peg value x s) := by
  unfold issuePsetCount
  simp (maxDischargeDepth := 30) [hs]

@[simp] theorem issuePsetMark_kept (peg : BitVec 9) (value : BitVec 32) (x : Ctx) (s : State) (hs : Kept a s) :
    Kept a (issuePsetMark peg value x s) := by
  unfold issuePsetMark
  simp (maxDischargeDepth := 30) [hs]

@[simp] theorem issuePerr_kept (peg : BitVec 9) (on : Bool) (x : Ctx) (s : State) (hs : Kept a s) :
    Kept a (issuePerr peg on x s) := by
  unfold issuePerr
  simp (maxDischargeDepth := 30) [hs]

@[simp] theorem issueParmArm_kept (peg : BitVec 9) (rel : Bool) (nsrc : BitVec 2) (t : BitVec 24) (x : Ctx) (s : State) (hs : Kept a s) :
    Kept a (issueParmArm peg rel nsrc t x s) := by
  unfold issueParmArm
  simp (maxDischargeDepth := 30) [hs]

@[simp] theorem issueParmDisarm_kept (peg : BitVec 9) (x : Ctx) (s : State) (hs : Kept a s) :
    Kept a (issueParmDisarm peg x s) := by
  unfold issueParmDisarm
  simp (maxDischargeDepth := 30) [hs]

@[simp] theorem noteSlack_kept (s : State) (r : Fin 32) (slack : Nat) (stall : Bool) (hs : Kept a s) :
    Kept a (noteSlack s r slack stall) := by
  unfold noteSlack
  simp (maxDischargeDepth := 30) [hs]

@[simp] theorem advanceMark_kept (s : State) (r : Fin 32) (peg : Nat) (adv : Bool) (t : Nat) (hs : Kept a s) :
    Kept a (advanceMark s r peg adv t) := by
  unfold advanceMark
  simp (maxDischargeDepth := 30) [hs]

@[simp] theorem zipWait_kept (s : State) (r : Fin 32) (beat : Nat) (p : Nat) (rel : Bool) (adv : Bool) (t : Nat) (hs : Kept a s) :
    Kept a (zipWait s r beat p rel adv t) := by
  unfold zipWait
  simp (maxDischargeDepth := 30) [hs]

@[simp] theorem issuePwait_kept (peg : BitVec 9) (rel : Bool) (adv : Bool) (t : BitVec 24) (x : Ctx) (s : State) (hs : Kept a s) :
    Kept a (issuePwait peg rel adv t x s) := by
  unfold issuePwait
  simp (maxDischargeDepth := 30) [hs]

@[simp] theorem recheckWait_kept (s : State) (r : Fin 32) (hs : Kept a s) :
    Kept a (recheckWait s r) := by
  unfold recheckWait
  (repeat' split) <;> simp (maxDischargeDepth := 30) [hs]

@[simp] theorem checkWaitLimit_kept (s : State) (r : Fin 32) (hs : Kept a s) :
    Kept a (checkWaitLimit s r) := by
  unfold checkWaitLimit
  dsimp only
  (repeat' split) <;> simp (maxDischargeDepth := 30) [hs]

/-! ### Machine/Far.lean -/

@[simp] theorem queueTracks_kept (s : State) (id : Nat) (ts : List Nat) (hs : Kept a s) :
    Kept a (queueTracks s id ts) := by
  unfold queueTracks
  simp (maxDischargeDepth := 30) [hs]

@[simp] theorem setReq_kept (s : State) (id : Nat) (f : FarReq → FarReq) (hs : Kept a s) :
    Kept a (setReq s id f) := by
  unfold setReq
  simp (maxDischargeDepth := 30) [hs]

@[simp] theorem awaitTracks_kept (s : State) (q : FarReq) (ts : List Nat) (hs : Kept a s) :
    Kept a (awaitTracks s q ts) := by
  unfold awaitTracks
  simp (maxDischargeDepth := 30) [hs]

@[simp] theorem saveBanks_kept (s : State) (r : Fin 32) (t : Nat) (hs : Kept a s) :
    Kept a (saveBanks s r t) := by
  unfold saveBanks
  simp (maxDischargeDepth := 30) +contextual [hs]

@[simp] theorem serveTrack_kept (s : State) (r : Fin 32) (t : Nat) (hs : Kept a s) :
    Kept a (serveTrack s r t) := by
  unfold serveTrack
  dsimp only
  (repeat' split) <;> simp (maxDischargeDepth := 30) [hs]

@[simp] theorem noteQueue_kept (s : State) (q : Nat) (hs : Kept a s) :
    Kept a (noteQueue s q) := by
  unfold noteQueue
  simp (maxDischargeDepth := 30) [hs]

@[simp] theorem notePoison_kept (s : State) (q : FarReq) (cause : Nat) (hs : Kept a s) :
    Kept a (notePoison s q cause) := by
  unfold notePoison
  simp (maxDischargeDepth := 30) [hs]

@[simp] theorem completeReq_kept (s : State) (q : FarReq) (hs : Kept a s) :
    Kept a (completeReq s q) := by
  unfold completeReq
  (repeat' split) <;> simp (maxDischargeDepth := 30) [hs]

@[simp] theorem poisonReq_kept (s : State) (id : Nat) (cause : Nat) (hs : Kept a s) :
    Kept a (poisonReq s id cause) := by
  unfold poisonReq
  simp (maxDischargeDepth := 30) [hs]

@[simp] theorem acceptReq_kept (s : State) (r : Fin 32) (slot : Nat) (beat : Nat) (queue : Nat) (desc : Line) (hs : Kept a s) :
    Kept a (acceptReq s r slot beat queue desc) := by
  unfold acceptReq
  extract_lets q at_
  clear_value q at_
  apply ite_kept
  · exact fun _ => raise_kept _ _ _ hs
  · refine fun _ => ite_kept _ _ _ (fun _ => raise_kept _ _ _ hs) fun _ => ?_
    · rename_i o1 s1 add win _ _
      have h1 : Kept a s1 := mk_kept s hs ..
      clear_value s1
      have hadd : ∀ t q, Kept a t → Kept a (add t q) := fun t q ht => noteQueue_kept _ _ (mk_kept t ht ..)
      clear_value add
      split
      · exact completeReq_kept _ _ h1
      · split
        · exact raise_kept _ _ _ (hadd _ _ h1)
        · exact queueTracks_kept _ _ _ (hadd _ _ h1)

@[simp] theorem issueFqpost_kept (queue : BitVec 6) (dsack : BitVec 5) (line : BitVec 13) (x : Ctx) (s : State) (hs : Kept a s) :
    Kept a (issueFqpost queue dsack line x s) := by
  unfold issueFqpost
  simp (maxDischargeDepth := 30) [hs]

@[simp] theorem postWaiting_kept (s : State) (hs : Kept a s) :
    Kept a (postWaiting s) := by
  unfold postWaiting
  apply foldl_kept _ _ _ hs
  intro s x hs
  dsimp only
  (repeat' split) <;> simp (maxDischargeDepth := 30) [hs]

@[simp] theorem completeFar_kept (s : State) (queue : Nat) (k : Nat) (hs : Kept a s) :
    Kept a (completeFar s queue k) := by
  unfold completeFar
  (repeat' split) <;> simp (maxDischargeDepth := 30) [hs]

@[simp] theorem disableEffect_kept (s : State) (q : Nat) (hs : Kept a s) :
    Kept a (disableEffect s q) := by
  unfold disableEffect
  simp (maxDischargeDepth := 30) [hs]

@[simp] theorem disableQueue_kept (s : State) (q : Nat) (hs : Kept a s) :
    Kept a (disableQueue s q) := by
  unfold disableQueue
  simp (maxDischargeDepth := 30) [hs]

@[simp] theorem enableQueue_kept (s : State) (q : Nat) (hs : Kept a s) :
    Kept a (enableQueue s q) := by
  unfold enableQueue; (try dsimp only); (repeat' split) <;> simp (maxDischargeDepth := 30) [hs]

@[simp] theorem hubArrive_kept (s : State) (y1 : Nat) (e : Entry) (hs : Kept a s) :
    Kept a (hubArrive s y1 e) := by
  unfold hubArrive
  dsimp only
  (repeat' split) <;> simp (maxDischargeDepth := 30) [hs]

@[simp] theorem hubTake_kept (s : State) (y1 : Nat) (flip : Option (BitVec 11)) (hs : Kept a s) :
    Kept a (hubTake s y1 flip) := by
  unfold hubTake
  (repeat' split) <;> simp (maxDischargeDepth := 30) [hs]

/-! ### Machine/FarOps.lean -/

@[simp] theorem putBarrel_kept (s : State) (y1 : Nat) (bs : List Byte) (hs : Kept a s) :
    Kept a (putBarrel s y1 bs) := by
  have h := lnMoved_kept s (42 + barrelChannel s y1) bs.length 0 hs
  exact ⟨h.1, h.2, h.3, h.4, h.5, fun w => Memory.writeBytes_wf _ _ _ (h.6 w)⟩

@[simp] theorem noteBarrelEcc_kept (s : State) (y1 : Nat) (n : Nat) (hs : Kept a s) :
    Kept a (noteBarrelEcc s y1 n) := by
  unfold noteBarrelEcc
  apply foldl_kept _ _ _ hs
  intro s x hs
  dsimp only
  (repeat' split) <;> simp (maxDischargeDepth := 30) [hs]

@[simp] theorem readBarrel_kept (s : State) (y1 : Nat) (n : Nat) (hs : Kept a s) :
    Kept a (readBarrel s y1 n).2.2 := by
  unfold readBarrel
  simp (maxDischargeDepth := 30) [hs]

@[simp] theorem noteHbmEcc_kept (s : State) (y1 : Nat) (n : Nat) (hs : Kept a s) :
    Kept a (noteHbmEcc s y1 n) := by
  unfold noteHbmEcc
  simp (maxDischargeDepth := 30) +contextual [hs]

@[simp] theorem readHbm_kept (s : State) (y1 : Nat) (n : Nat) (hs : Kept a s) :
    Kept a (readHbm s y1 n).2.2 := by
  unfold readHbm
  simp (maxDischargeDepth := 30) [hs]

@[simp] theorem patrolScrub_kept (s : State) (hs : Kept a s) :
    Kept a (patrolScrub s) := by
  unfold patrolScrub
  simp (maxDischargeDepth := 30) [hs]

@[simp] theorem freeBytes_kept (s : State) (n : Nat) (hs : Kept a s) :
    Kept a (freeBytes s n).2 := by
  exact ⟨hs.1, hs.2, hs.3, Nat.le_trans hs.4 (Nat.le_add_right _ _), hs.5, hs.6⟩

@[simp] theorem undefineHbm_kept (s : State) (y1 : Nat) (n : Nat) (hs : Kept a s) :
    Kept a (undefineHbm s y1 n) := by
  unfold undefineHbm
  simp (maxDischargeDepth := 30) [hs]

@[simp] theorem undefineBarrel_kept (s : State) (y1 : Nat) (n : Nat) (hs : Kept a s) :
    Kept a (undefineBarrel s y1 n) := by
  unfold undefineBarrel
  simp (maxDischargeDepth := 30) [hs]

@[simp] theorem farPut_kept (s : State) (y1 : Nat) (bs : List Byte) (hs : Kept a s) :
    Kept a (farPut s y1 bs) := by
  unfold farPut
  simp (maxDischargeDepth := 30) +contextual [hs]

@[simp] theorem undefineSlot_kept (s : State) (p : Pitch) (k : Nat) (hs : Kept a s) :
    Kept a (undefineSlot s p k) := by
  unfold undefineSlot
  simp (maxDischargeDepth := 30) +contextual [hs]

@[simp] theorem setBunkBytes_kept (s : State) (i : Nat) (off : Nat) (bs : List Byte) (hs : Kept a s) :
    Kept a (setBunkBytes s i off bs) := by
  unfold setBunkBytes
  simp (maxDischargeDepth := 30) [hs]

@[simp] theorem undefinePages_kept (s : State) (q : FarReq) (hs : Kept a s) :
    Kept a (undefinePages s q) := by
  unfold undefinePages
  simp (maxDischargeDepth := 30) +contextual [hs]

@[simp] theorem undefineTarget_kept (s : State) (q : FarReq) (hs : Kept a s) :
    Kept a (undefineTarget s q) := by
  unfold undefineTarget
  dsimp only
  (repeat' split) <;> simp (maxDischargeDepth := 30) +contextual [hs]

@[simp] theorem withFar_kept (s : State) (queue : Nat) (k : Nat) (op : Nat) (f : FarReq → State → State) (hs : Kept a s)
    (hf : ∀ (z0 : FarReq) (z1 : State), Kept a z1 → Kept a (f z0 z1)) :
    Kept a (withFar s queue k op f) := by
  unfold withFar
  (repeat' split) <;> simp (maxDischargeDepth := 30) [hs, hf]

@[simp] theorem finishReq_kept (s : State) (q : FarReq) (hs : Kept a s) :
    Kept a (finishReq s q) := by
  unfold finishReq
  simp (maxDischargeDepth := 30) [hs]

@[simp] theorem moveParts_kept (id : Nat) (move : Part → State → Option Nat × State) (y2 : List Part) (y3 : State)
    (hmove : ∀ (z0 : Part) (z1 : State), Kept a z1 → Kept a (move z0 z1).2) (hy3 : Kept a y3) :
    Kept a (moveParts id move y2 y3) := by
  induction y2 generalizing y3 with
  | nil => exact hy3
  | cons p rest ih =>
    unfold moveParts
    split
    · exact hy3
    · split
      · exact hy3
      · split
        · exact ih _ hy3
        · split
          · split
            · rename_i he
              exact poisonReq_kept _ _ _ (undefineTarget_kept _ _ (kept_of_snd (hmove _ _ hy3) he))
            · rename_i he
              exact ih _ (setReq_kept _ _ _ (kept_of_snd (hmove _ _ hy3) he))
          · exact ih _ (awaitTracks_kept _ _ _ hy3)

@[simp] theorem onceMoved_kept (s : State) (id : Nat) (parts : List Part) (f : State → State) (hs : Kept a s)
    (hf : ∀ (z0 : State), Kept a z0 → Kept a (f z0)) :
    Kept a (onceMoved s id parts f) := by
  unfold onceMoved
  (repeat' split) <;> simp (maxDischargeDepth := 30) [hs, hf]

@[simp] theorem loadBlocks_kept (p : Pitch) (q : FarReq) (src : Source) (cause : Nat) (y4 : List Nat) (y5 : State)
    (hsrc : ∀ (z0 : Nat) (z1 : Nat) (z2 : State), Kept a z2 → Kept a (src z0 z1 z2).2.2) (hy5 : Kept a y5) :
    Kept a (loadBlocks p q src cause y4 y5).2 := by
  induction y4 generalizing y5 with
  | nil => exact hy5
  | cons i rest ih =>
    unfold loadBlocks
    have h := hsrc (32768 * i) (min 32768 (q.len - 32768 * i)) y5 hy5
    revert h
    generalize src (32768 * i) (min 32768 (q.len - 32768 * i)) y5 = r
    obtain ⟨bs, ok, t⟩ := r
    intro h
    dsimp only at h ⊢
    split
    · exact ih _ (putHbm_kept _ _ _ h)
    · exact h

@[simp] theorem loadSlot_kept (s : State) (q : FarReq) (src : Source) (cause : Nat) (hs : Kept a s)
    (hsrc : ∀ (z0 : Nat) (z1 : Nat) (z2 : State), Kept a z2 → Kept a (src z0 z1 z2).2.2) :
    Kept a (loadSlot s q src cause) := by
  unfold loadSlot
  (repeat' split) <;> simp (maxDischargeDepth := 30) +contextual [hs, hsrc]

@[simp] theorem landRead_kept (s : State) (q : FarReq) (src : Source) (cause : Nat) (hs : Kept a s)
    (hsrc : ∀ (z0 : Nat) (z1 : Nat) (z2 : State), Kept a z2 → Kept a (src z0 z1 z2).2.2) :
    Kept a (landRead s q src cause) := by
  unfold landRead
  simp (maxDischargeDepth := 30) +contextual [hs, hsrc]

@[simp] theorem doBread_kept (q : FarReq) (s : State) (hs : Kept a s) :
    Kept a (doBread q s) := by
  unfold doBread
  simp (maxDischargeDepth := 30) +contextual [hs]

@[simp] theorem doHread_kept (data : List Byte) (err : Bool) (q : FarReq) (s : State) (hs : Kept a s) :
    Kept a (doHread data err q s) := by
  unfold doHread
  simp (maxDischargeDepth := 30) +contextual [hs]

@[simp] theorem windowBytes_kept (s : State) (w : HubWin) (n : Nat) (hs : Kept a s) :
    Kept a (windowBytes s w n).2 := by
  unfold windowBytes
  simp (maxDischargeDepth := 30) [hs]

@[simp] theorem sendOut_kept (q : FarReq) (put : Nat → List Byte → State → State) (last : State → State) (s : State)
    (hput : ∀ (z0 : Nat) (z1 : List Byte) (z2 : State), Kept a z2 → Kept a (put z0 z1 z2))
    (hlast : ∀ (z0 : State), Kept a z0 → Kept a (last z0)) (hs : Kept a s) :
    Kept a (sendOut q put last s) := by
  unfold sendOut
  dsimp only
  (repeat' split) <;> simp (maxDischargeDepth := 30) +contextual [hput, hlast, hs]

@[simp] theorem doBwrite_kept (q : FarReq) (s : State) (hs : Kept a s) :
    Kept a (doBwrite q s) := by
  unfold doBwrite
  simp (maxDischargeDepth := 30) +contextual [hs]

@[simp] theorem doHwrite_kept (err : Bool) (q : FarReq) (s : State) (hs : Kept a s) :
    Kept a (doHwrite err q s) := by
  unfold doHwrite
  simp (maxDischargeDepth := 30) +contextual [hs]

@[simp] theorem noteStore_kept (s : State) (hs : Kept a s) :
    Kept a (noteStore s) := by
  unfold noteStore
  simp (maxDischargeDepth := 30) [hs]

@[simp] theorem checkBunk_kept (s : State) (i : Nat) (hs : Kept a s) :
    Kept a (checkBunk s i) := by
  unfold checkBunk
  simp (maxDischargeDepth := 30) [hs]

@[simp] theorem writeBack_kept (s : State) (i : Nat) (hs : Kept a s) :
    Kept a (writeBack s i) := by
  unfold writeBack
  (repeat' split) <;> simp (maxDischargeDepth := 30) [hs]

@[simp] theorem dropBunk_kept (s : State) (i : Nat) (hs : Kept a s) :
    Kept a (dropBunk s i) := by
  unfold dropBunk
  simp (maxDischargeDepth := 30) [hs]

@[simp] theorem loadBunk_kept (s : State) (i : Nat) (hs : Kept a s) :
    Kept a (loadBunk s i) := by
  unfold loadBunk
  simp (maxDischargeDepth := 30) [hs]

@[simp] theorem cacheTopo_kept (s : State) (i : Nat) (e : BitVec 128) (hs : Kept a s) :
    Kept a (cacheTopo s i e) := by
  unfold cacheTopo
  simp (maxDischargeDepth := 30) [hs]

@[simp] theorem lookTopo_kept (s : State) (i : Nat) (hs : Kept a s) :
    Kept a (lookTopo s i).2 := by
  unfold lookTopo
  (repeat' split) <;> simp (maxDischargeDepth := 30) [hs]

@[simp] theorem writeTopo_kept (s : State) (i : Nat) (e : BitVec 128) (hs : Kept a s) :
    Kept a (writeTopo s i e) := by
  unfold writeTopo
  (repeat' split) <;> simp (maxDischargeDepth := 30) [hs]

@[simp] theorem readPage_kept (s : State) (l : PageAt) (hs : Kept a s) :
    Kept a (readPage s l).2.2 := by
  unfold readPage
  (repeat' split) <;> simp (maxDischargeDepth := 30) [hs]

@[simp] theorem writePage_kept (s : State) (l : PageAt) (bs : List Byte) (hs : Kept a s) :
    Kept a (writePage s l bs) := by
  unfold writePage
  simp (maxDischargeDepth := 30) [hs]

@[simp] theorem doPage_kept (q : FarReq) (sess : Nat) (gen : Nat) (page : Nat) (i : Nat) (dst : PageAt) (e : BitVec 128) (s : State)
    (hs : Kept a s) :
    Kept a (doPage q sess gen page i dst e s).2 := by
  unfold doPage
  extract_lets here present moving done zeros
  have hd : ∀ t st l, Kept a t → Kept a (done t st l).2 := fun t st l ht => writeTopo_kept _ _ _ ht
  clear_value done zeros moving
  have hw : Kept a (writeTopo s i moving) := writeTopo_kept _ _ _ hs
  have h := readPage_kept (writeTopo s i moving) here hw
  revert h
  generalize readPage (writeTopo s i moving) here = p
  obtain ⟨bs, ok, t⟩ := p
  intro h
  dsimp only at h ⊢
  (repeat' split) <;> first
    | exact hs
    | (simp only [raise_kept, hs]; done)
    | exact raise_kept _ _ _ hs
    | exact raise_kept _ _ _ _ hs
    | exact hd _ _ _ (writePage_kept _ _ _ hw)
    | exact hd _ _ _ (writePage_kept _ _ _ h)
    | exact writePage_kept _ _ _ (writeTopo_kept _ _ _ (freeBytes_kept _ _ h))

@[simp] theorem doPages_kept (q : FarReq) (tab : Nat × Nat × Nat × Nat) (y2 : Nat) (y3 : Nat) (y4 : State) (hy4 : Kept a y4) :
    Kept a (doPages q tab y2 y3 y4).2 := by
  induction y2 generalizing y3 y4 with
  | zero => exact hy4
  | succ n ih =>
    obtain ⟨base, count, gen, tsize⟩ := tab
    unfold doPages
    dsimp only
    split
    · exact hy4
    · split
      · exact awaitTracks_kept _ _ _ hy4
      · have h := lookTopo_kept y4 (base + (q.page + y3)) hy4
        revert h
        generalize lookTopo y4 (base + (q.page + y3)) = p
        obtain ⟨e, t⟩ := p
        intro h
        dsimp only at h ⊢
        split
        · exact h
        · split
          · rename_i he
            exact kept_of_snd (doPage_kept _ _ _ _ _ _ _ _ h) he
          · rename_i he
            exact ih _ _ (setReq_kept _ _ _ (kept_of_snd (doPage_kept _ _ _ _ _ _ _ _ h) he))

@[simp] theorem doPaged_kept (q : FarReq) (s : State) (hs : Kept a s) :
    Kept a (doPaged q s) := by
  unfold doPaged
  split
  · exact hs
  · split
    · exact poisonReq_kept _ _ _ hs
    · extract_lets s1 b base count
      have h1 : Kept a s1 := checkBunk_kept _ _ (loadBunk_kept _ _ hs)
      clear_value s1 b base count
      split
      · exact poisonReq_kept _ _ _ h1
      · split
        · exact poisonReq_kept _ _ _ h1
        · split
          · rename_i he
            exact poisonReq_kept _ _ _ (kept_of_snd (doPages_kept _ _ _ _ _ h1) he)
          · rename_i he
            exact kept_of_snd (doPages_kept _ _ _ _ _ h1) he
          · rename_i t he
            have h2 : Kept a t := kept_of_snd (doPages_kept _ _ _ _ _ h1) he
            apply finishReq_kept
            split
            · exact setBunkBytes_kept _ _ _ _ h2
            · exact h2

@[simp] theorem emitCairn_kept (q : FarReq) (step : Nat) (s : State) (hs : Kept a s) :
    Kept a (emitCairn q step s) := by
  unfold emitCairn
  simp (maxDischargeDepth := 30) [hs]

@[simp] theorem doCairn_kept (q : FarReq) (s : State) (hs : Kept a s) :
    Kept a (doCairn q s) := by
  unfold doCairn
  simp (maxDischargeDepth := 30) [hs]

@[simp] theorem abortReq_kept (s : State) (q : FarReq) (cause : Nat) (hs : Kept a s) :
    Kept a (abortReq s q cause) := by
  unfold abortReq
  simp (maxDischargeDepth := 30) [hs]

@[simp] theorem abortReqs_kept (s : State) (c : FarReq → Bool) (cause : Nat) (hs : Kept a s) :
    Kept a (abortReqs s c cause) := by
  unfold abortReqs
  simp (maxDischargeDepth := 30) +contextual [hs]

@[simp] theorem forceDisable_kept (s : State) (q : Nat) (hs : Kept a s) :
    Kept a (forceDisable s q) := by
  unfold forceDisable
  simp (maxDischargeDepth := 30) [hs]

@[simp] theorem refuseBunk_kept (s : State) (hs : Kept a s) :
    Kept a (refuseBunk s) := by
  unfold refuseBunk
  simp (maxDischargeDepth := 30) [hs]

@[simp] theorem stageList_kept (s : State) (hs : Kept a s) :
    Kept a (stageList s) := by
  unfold stageList
  dsimp only
  (repeat' split) <;> simp (maxDischargeDepth := 30) +contextual [hs]

@[simp] theorem queueBunkLoad_kept (s : State) (hs : Kept a s) :
    Kept a (queueBunkLoad s) := by
  unfold queueBunkLoad
  simp (maxDischargeDepth := 30) +contextual [hs]

@[simp] theorem stageComplete_kept (s : State) (hs : Kept a s) :
    Kept a (stageComplete s) := by
  unfold stageComplete
  (repeat' split) <;> simp (maxDischargeDepth := 30) +contextual [hs]

@[simp] theorem bunkLoadCmd_kept (s : State) (i : Nat) (hs : Kept a s) :
    Kept a (bunkLoadCmd s i) := by
  unfold bunkLoadCmd
  simp (maxDischargeDepth := 30) [hs]

@[simp] theorem evictCmd_kept (s : State) (i : Nat) (hs : Kept a s) :
    Kept a (evictCmd s i) := by
  unfold evictCmd
  simp (maxDischargeDepth := 30) [hs]

@[simp] theorem invalCmd_kept (s : State) (i : Nat) (hs : Kept a s) :
    Kept a (invalCmd s i) := by
  unfold invalCmd
  simp (maxDischargeDepth := 30) [hs]

@[simp] theorem flushCmd_kept (s : State) (hs : Kept a s) :
    Kept a (flushCmd s) := by
  unfold flushCmd
  simp (maxDischargeDepth := 30) +contextual [hs]

@[simp] theorem writeList_kept (s : State) (i : Nat) (v : W32) (hs : Kept a s) :
    Kept a (writeList s i v) := by
  unfold writeList
  simp (maxDischargeDepth := 30) [hs]

end Sys2Proof.Machine
end

