-- ==== Sys2Proof/Laws/KeptFabric.lean ====
section
/-!
SUPPORT. Laws/KeptFabric.lean: what is kept by links, crossings, the Compass, Zipper, the Pacer and the tracks.
-/

namespace Sys2Proof.Machine

set_option Elab.async false

variable {a : State}

/-! ### Machine/Links.lean -/

@[simp] theorem unblockPort_kept (s : State) (p : Fin 10) (hs : Kept a s) :
    Kept a (unblockPort s p) := by
  unfold unblockPort
  simp (maxDischargeDepth := 30) [hs]

@[simp] theorem putPack_kept (s : State) (p : Fin 10) (k : SentPack) (hs : Kept a s) :
    Kept a (putPack s p k) := by
  unfold putPack
  simp (maxDischargeDepth := 30) [hs]

@[simp] theorem sendPack_kept (s : State) (p : Fin 10) (chan : Nat) (bytes : List Byte) (hs : Kept a s) :
    Kept a (sendPack s p chan bytes) := by
  unfold sendPack
  simp (maxDischargeDepth := 30) [hs]

@[simp] theorem modChan_kept (s : State) (p : Fin 10) (c : Fin 4) (f : Channel → Channel) (hs : Kept a s) :
    Kept a (modChan s p c f) := by
  unfold modChan
  simp (maxDischargeDepth := 30) [hs]

@[simp] theorem noteStall_kept (s : State) (p : Fin 10) (c : Fin 4) (wanted : Bool) (hs : Kept a s) :
    Kept a (noteStall s p c wanted) := by
  unfold noteStall
  simp (maxDischargeDepth := 30) [hs]

@[simp] theorem packSlot_kept (s : State) (p : Fin 10) (hs : Kept a s) :
    Kept a (packSlot s p) := by
  unfold packSlot
  dsimp only
  (repeat' split) <;> simp (maxDischargeDepth := 30) [hs]

@[simp] theorem noteIngress_kept (s : State) (p : Fin 10) (hs : Kept a s) :
    Kept a (noteIngress s p) := by
  unfold noteIngress
  simp (maxDischargeDepth := 30) [hs]

@[simp] theorem landRecord_kept (s : State) (p : Fin 10) (q : InRec) (at_ : Option Nat) (hs : Kept a s) :
    Kept a (landRecord s p q at_) := by
  unfold landRecord
  dsimp only
  (repeat' split) <;> simp (maxDischargeDepth := 30) [hs]

@[simp] theorem landingRelease_kept (s : State) (p : Fin 10) (hs : Kept a s) :
    Kept a (landingRelease s p) := by
  unfold landingRelease
  dsimp only
  (repeat' split) <;> simp (maxDischargeDepth := 30) [hs]

@[simp] theorem drainLanding_kept (s : State) (p : Fin 10) (hs : Kept a s) :
    Kept a (drainLanding s p) := by
  unfold drainLanding
  simp (maxDischargeDepth := 30) +contextual [hs]

@[simp] theorem passRecord_kept (s : State) (p : Fin 10) (bytes : List Byte) (hs : Kept a s) :
    Kept a (passRecord s p bytes) := by
  unfold passRecord
  simp (maxDischargeDepth := 30) [hs]

@[simp] theorem takeStream_kept (p : Fin 10) (y1 : Nat) (y2 : List Byte) (y3 : List Byte) (y4 : State) (hy4 : Kept a y4) :
    Kept a (takeStream p y1 y2 y3 y4) := by
  induction y1 generalizing y2 y3 y4 with
  | zero => exact hy4
  | succ n ih =>
    unfold takeStream
    extract_lets keep need
    have hk : ∀ v t, Kept a t → Kept a (keep v t) := fun v t ht => modPort_kept t p _ ht
    clear_value keep
    split
    · exact hk _ _ hy4
    · split
      · exact hk _ _ hy4
      · split
        · exact hk _ _ hy4
        · split
          · exact hk _ _ hy4
          · exact ih _ _ _ (passRecord_kept _ _ _ hy4)

@[simp] theorem takeSched_kept (s : State) (p : Fin 10) (first : Nat) (pay : List Byte) (hs : Kept a s) :
    Kept a (takeSched s p first pay) := by
  unfold takeSched
  (repeat' split) <;> simp (maxDischargeDepth := 30) [hs]

@[simp] theorem takeMessagePack_kept (s : State) (p : Fin 10) (c : Fin 4) (som : Bool) (eom : Bool) (data : List Byte) (hs : Kept a s) :
    Kept a (takeMessagePack s p c som eom data) := by
  unfold takeMessagePack
  simp (maxDischargeDepth := 30) [hs]

@[simp] theorem dropPack_kept (s : State) (p : Fin 10) (hs : Kept a s) :
    Kept a (dropPack s p) := by
  unfold dropPack
  simp (maxDischargeDepth := 30) [hs]

@[simp] theorem noteFec_kept (s : State) (p : Fin 10) (corrected : Nat) (lost : Nat) (hs : Kept a s) :
    Kept a (noteFec s p corrected lost) := by
  unfold noteFec
  simp (maxDischargeDepth := 30) [hs]

@[simp] theorem packReceive_kept (s : State) (p : Fin 10) (units : List (Fin 16 × List Byte)) (corrected : Nat) (lost : Nat) (hs : Kept a s) :
    Kept a (packReceive s p units corrected lost) := by
  unfold packReceive
  simp (maxDischargeDepth := 30) [hs]

@[simp] theorem putAck_kept (s : State) (p : Fin 10) (hs : Kept a s) :
    Kept a (putAck s p) := by
  unfold putAck
  simp (maxDischargeDepth := 30) [hs]

@[simp] theorem ackSend_kept (s : State) (p : Fin 10) (hs : Kept a s) :
    Kept a (ackSend s p) := by
  unfold ackSend
  simp (maxDischargeDepth := 30) [hs]

@[simp] theorem takeAck_kept (s : State) (p : Fin 10) (next : Nat) (hs : Kept a s) :
    Kept a (takeAck s p next) := by
  unfold takeAck
  simp (maxDischargeDepth := 30) [hs]

@[simp] theorem replayAll_kept (s : State) (p : Fin 10) (hs : Kept a s) :
    Kept a (replayAll s p) := by
  unfold replayAll
  simp (maxDischargeDepth := 30) [hs]

@[simp] theorem replayTick_kept (s : State) (p : Fin 10) (hs : Kept a s) :
    Kept a (replayTick s p) := by
  unfold replayTick
  dsimp only
  (repeat' split) <;> simp (maxDischargeDepth := 30) [hs]

@[simp] theorem putCredit_kept (s : State) (p : Fin 10) (c : Fin 4) (init : Bool) (hs : Kept a s) :
    Kept a (putCredit s p c init) := by
  unfold putCredit
  simp (maxDischargeDepth := 30) [hs]

@[simp] theorem creditSend_kept (s : State) (p : Fin 10) (c : Fin 4) (hs : Kept a s) :
    Kept a (creditSend s p c) := by
  unfold creditSend
  simp (maxDischargeDepth := 30) [hs]

@[simp] theorem takeCredit_kept (s : State) (p : Fin 10) (pl : BitVec 40) (hs : Kept a s) :
    Kept a (takeCredit s p pl) := by
  unfold takeCredit
  simp (maxDischargeDepth := 30) [hs]

@[simp] theorem noteBad_kept (s : State) (p : Fin 10) (hs : Kept a s) :
    Kept a (noteBad s p) := by
  unfold noteBad
  simp (maxDischargeDepth := 30) [hs]

@[simp] theorem setMode_kept (s : State) (p : Fin 10) (m : LinkMode) (hs : Kept a s) :
    Kept a (setMode s p m) := by
  unfold setMode
  simp (maxDischargeDepth := 30) [hs]

@[simp] theorem newTraining_kept (s : State) (p : Fin 10) (paused : Bool) (hs : Kept a s) :
    Kept a (newTraining s p paused) := by
  unfold newTraining
  simp (maxDischargeDepth := 30) [hs]

@[simp] theorem startRetrain_kept (s : State) (p : Fin 10) (hs : Kept a s) :
    Kept a (startRetrain s p) := by
  unfold startRetrain
  simp (maxDischargeDepth := 30) [hs]

@[simp] theorem startTraining_kept (s : State) (p : Fin 10) (hs : Kept a s) :
    Kept a (startTraining s p) := by
  unfold startTraining
  simp (maxDischargeDepth := 30) [hs]

@[simp] theorem linkDown_kept (s : State) (p : Fin 10) (code : Nat) (bits : Nat) (hs : Kept a s) :
    Kept a (linkDown s p code bits) := by
  unfold linkDown
  simp (maxDischargeDepth := 30) [hs]

@[simp] theorem creditTimeout_kept (s : State) (p : Fin 10) (c : Fin 4) (hs : Kept a s) :
    Kept a (creditTimeout s p c) := by
  unfold creditTimeout
  (repeat' split) <;> simp (maxDischargeDepth := 30) [hs]

@[simp] theorem noteRemoved_kept (s : State) (p : Fin 10) (w : Nat) (hs : Kept a s) :
    Kept a (noteRemoved s p w) := by
  unfold noteRemoved
  simp (maxDischargeDepth := 30) [hs]

@[simp] theorem removeLanes_kept (s : State) (p : Fin 10) (mask : BitVec 16) (hs : Kept a s) :
    Kept a (removeLanes s p mask) := by
  unfold removeLanes
  simp (maxDischargeDepth := 30) +contextual [hs]

@[simp] theorem laneBad_kept (s : State) (p : Fin 10) (lane : Fin 16) (hs : Kept a s) :
    Kept a (laneBad s p lane) := by
  unfold laneBad
  simp (maxDischargeDepth := 30) [hs]

@[simp] theorem sendIdent_kept (s : State) (p : Fin 10) (hs : Kept a s) :
    Kept a (sendIdent s p) := by
  unfold sendIdent
  simp (maxDischargeDepth := 30) +contextual [hs]

@[simp] theorem identFault_kept (s : State) (p : Fin 10) (st : Nat) (hs : Kept a s) :
    Kept a (identFault s p st) := by
  unfold identFault
  simp (maxDischargeDepth := 30) [hs]

@[simp] theorem noteNeighbour_kept (s : State) (p : Fin 10) (hs : Kept a s) :
    Kept a (noteNeighbour s p) := by
  unfold noteNeighbour
  simp (maxDischargeDepth := 30) [hs]

@[simp] theorem linkResume_kept (s : State) (p : Fin 10) (hs : Kept a s) :
    Kept a (linkResume s p) := by
  unfold linkResume
  simp (maxDischargeDepth := 30) +contextual [hs]

@[simp] theorem resumeOn_kept (s : State) (p : Fin 10) (lanes : BitVec 16) (hs : Kept a s) :
    Kept a (resumeOn s p lanes) := by
  unfold resumeOn
  simp (maxDischargeDepth := 30) [hs]

@[simp] theorem agreeIdent_kept (s : State) (p : Fin 10) (hs : Kept a s) :
    Kept a (agreeIdent s p) := by
  unfold agreeIdent
  dsimp only
  (repeat' split) <;> simp (maxDischargeDepth := 30) [hs]

@[simp] theorem noteLanes_kept (s : State) (p : Fin 10) (markers : BitVec 64) (ber : BitVec 128) (hs : Kept a s) :
    Kept a (noteLanes s p markers ber) := by
  unfold noteLanes
  simp (maxDischargeDepth := 30) +contextual [hs]

@[simp] theorem trainingComplete_kept (s : State) (p : Fin 10) (good : BitVec 16) (markers : BitVec 64) (ber : BitVec 128) (rtt : W32)
    (hs : Kept a s) :
    Kept a (trainingComplete s p good markers ber rtt) := by
  unfold trainingComplete
  simp (maxDischargeDepth := 30) +contextual [hs]

@[simp] theorem takeIdent_kept (s : State) (p : Fin 10) (pl : BitVec 40) (hs : Kept a s) :
    Kept a (takeIdent s p pl) := by
  unfold takeIdent
  dsimp only
  (repeat' split) <;> simp (maxDischargeDepth := 30) [hs]

@[simp] theorem takeResume_kept (s : State) (p : Fin 10) (pl : BitVec 40) (hs : Kept a s) :
    Kept a (takeResume s p pl) := by
  unfold takeResume
  simp (maxDischargeDepth := 30) [hs]

@[simp] theorem takePauseReq_kept (s : State) (p : Fin 10) (pl : BitVec 40) (hs : Kept a s) :
    Kept a (takePauseReq s p pl) := by
  unfold takePauseReq
  simp (maxDischargeDepth := 30) [hs]

@[simp] theorem takePauseAck_kept (s : State) (p : Fin 10) (pl : BitVec 40) (hs : Kept a s) :
    Kept a (takePauseAck s p pl) := by
  unfold takePauseAck
  simp (maxDischargeDepth := 30) [hs]

@[simp] theorem retrainTimeout_kept (s : State) (p : Fin 10) (hs : Kept a s) :
    Kept a (retrainTimeout s p) := by
  unfold retrainTimeout
  simp (maxDischargeDepth := 30) [hs]

@[simp] theorem lockLoss_kept (s : State) (p : Fin 10) (hs : Kept a s) :
    Kept a (lockLoss s p) := by
  unfold lockLoss
  simp (maxDischargeDepth := 30) [hs]

@[simp] theorem downRetry_kept (s : State) (p : Fin 10) (hs : Kept a s) :
    Kept a (downRetry s p) := by
  unfold downRetry
  simp (maxDischargeDepth := 30) [hs]

@[simp] theorem lockReturn_kept (s : State) (p : Fin 10) (hs : Kept a s) :
    Kept a (lockReturn s p) := by
  unfold lockReturn
  simp (maxDischargeDepth := 30) [hs]

@[simp] theorem glEnable_kept (s : State) (p : Fin 10) (en : Bool) (hs : Kept a s) :
    Kept a (glEnable s p en) := by
  unfold glEnable
  simp (maxDischargeDepth := 30) [hs]

@[simp] theorem glRestore_kept (s : State) (p : Fin 10) (hs : Kept a s) :
    Kept a (glRestore s p) := by
  unfold glRestore
  simp (maxDischargeDepth := 30) [hs]

@[simp] theorem glSpeed_kept (s : State) (p : Fin 10) (half : Bool) (hs : Kept a s) :
    Kept a (glSpeed s p half) := by
  unfold glSpeed
  simp (maxDischargeDepth := 30) [hs]

@[simp] theorem selfCoordWrite_kept (s : State) (v : W32) (hs : Kept a s) :
    Kept a (selfCoordWrite s v) := by
  unfold selfCoordWrite
  simp (maxDischargeDepth := 30) +contextual [hs]

@[simp] theorem issueThruGuyline_kept (f : Fin 7) (nbeats : BitVec 8) (dly : BitVec 4) (x : Ctx) (s : State) (hs : Kept a s) :
    Kept a (issueThruGuyline f nbeats dly x s) := by
  unfold issueThruGuyline
  simp (maxDischargeDepth := 30) +contextual [hs]

/-! ### Machine/Fabric.lean -/

@[simp] theorem addHold_kept (s : State) (origin : Nat) (y2 : Nat) (hs : Kept a s) :
    Kept a (addHold s origin y2) := by
  unfold addHold
  simp (maxDischargeDepth := 30) [hs]

@[simp] theorem takeHold_kept (s : State) (p : Fin 10) (pl : BitVec 40) (hs : Kept a s) :
    Kept a (takeHold s p pl) := by
  unfold takeHold
  simp (maxDischargeDepth := 30) [hs]

@[simp] theorem takeRelease_kept (s : State) (p : Fin 10) (pl : BitVec 40) (hs : Kept a s) :
    Kept a (takeRelease s p pl) := by
  unfold takeRelease
  dsimp only
  (repeat' split) <;> simp (maxDischargeDepth := 30) [hs]

@[simp] theorem holdRepeat_kept (s : State) (hs : Kept a s) :
    Kept a (holdRepeat s) := by
  unfold holdRepeat
  simp (maxDischargeDepth := 30) +contextual [hs]

@[simp] theorem releaseRepeat_kept (s : State) (hs : Kept a s) :
    Kept a (releaseRepeat s) := by
  unfold releaseRepeat
  simp (maxDischargeDepth := 30) +contextual [hs]

@[simp] theorem tarpResume_kept (s : State) (hs : Kept a s) :
    Kept a (tarpResume s) := by
  unfold tarpResume
  (repeat' split) <;> simp (maxDischargeDepth := 30) +contextual [hs]

@[simp] theorem bndMismatch_kept (s : State) (hs : Kept a s) :
    Kept a (bndMismatch s) := by
  unfold bndMismatch
  simp (maxDischargeDepth := 30) [hs]

@[simp] theorem noteBoundary_kept (s : State) (n : Nat) (d : W32) (hs : Kept a s) :
    Kept a (noteBoundary s n d) := by
  unfold noteBoundary
  apply ite_kept
  · exact fun _ => hs
  · intro _
    extract_lets pl s1 mine seen bad all o2 s2 s3
    have h1 : Kept a s1 := by simp (maxDischargeDepth := 30) +contextual [s1, hs]
    clear_value s1
    have h2 : Kept a s2 := mk_kept s1 h1 ..
    clear_value s2
    have h3 : Kept a s3 := by
      simp only [s3]
      split
      · apply forPorts_kept _ _ h2
        intro p t ht
        exact ite_kept _ _ _ (fun _ => logEvent_kept _ _ (countField_kept _ _ _ _ _ ht)) (fun _ => ht)
      · exact h2
    split
    · exact bndMismatch_kept s3 h3
    · exact h3

@[simp] theorem takeBnd_kept (s : State) (p : Fin 10) (pl : BitVec 40) (hs : Kept a s) :
    Kept a (takeBnd s p pl) := by
  unfold takeBnd
  dsimp only
  (repeat' split) <;> simp (maxDischargeDepth := 30) [hs]

@[simp] theorem takeStrike_kept (s : State) (p : Fin 10) (pl : BitVec 40) (hs : Kept a s) :
    Kept a (takeStrike s p pl) := by
  unfold takeStrike
  simp (maxDischargeDepth := 30) [hs]

@[simp] theorem applyStopAt_kept (s : State) (n : Nat) (hs : Kept a s) :
    Kept a (applyStopAt s n) := by
  unfold applyStopAt
  simp (maxDischargeDepth := 30) [hs]

@[simp] theorem takeStopAt_kept (s : State) (p : Fin 10) (pl : BitVec 40) (hs : Kept a s) :
    Kept a (takeStopAt s p pl) := by
  unfold takeStopAt
  simp (maxDischargeDepth := 30) [hs]

@[simp] theorem stopAtSend_kept (s : State) (q : Requester) (w : HalfWrite) (hs : Kept a s) :
    Kept a (stopAtSend s q w) := by
  unfold stopAtSend
  simp (maxDischargeDepth := 30) [hs]

@[simp] theorem portDownLimit_kept (s : State) (p : Fin 10) (hs : Kept a s) :
    Kept a (portDownLimit s p) := by
  unfold portDownLimit
  (repeat' split) <;> simp (maxDischargeDepth := 30) [hs]

@[simp] theorem dropMessage_kept (s : State) (p : Fin 10) (c : Fin 4) (m : Message) (hs : Kept a s) :
    Kept a (dropMessage s p c m) := by
  unfold dropMessage
  simp (maxDischargeDepth := 30) [hs]

@[simp] theorem sinkMessage_kept (s : State) (p : Fin 10) (c : Fin 4) (m : Message) (hs : Kept a s) :
    Kept a (sinkMessage s p c m) := by
  unfold sinkMessage
  simp (maxDischargeDepth := 30) [hs]

@[simp] theorem forwardMessage_kept (s : State) (p : Fin 10) (c : Fin 4) (m : Message) (hs : Kept a s) :
    Kept a (forwardMessage s p c m) := by
  unfold forwardMessage
  (repeat' split) <;> simp (maxDischargeDepth := 30) [hs]

@[simp] theorem messageForward_kept (s : State) (p : Fin 10) (c : Fin 4) (hs : Kept a s) :
    Kept a (messageForward s p c) := by
  unfold messageForward
  dsimp only
  (repeat' split) <;> simp (maxDischargeDepth := 30) [hs]

@[simp] theorem escapeTimeout_kept (s : State) (p : Fin 10) (c : Fin 4) (hs : Kept a s) :
    Kept a (escapeTimeout s p c) := by
  unfold escapeTimeout
  simp (maxDischargeDepth := 30) +contextual [hs]

/-! ### Machine/Compass.lean -/

@[simp] theorem setCompassState_kept (s : State) (n : Nat) (hs : Kept a s) :
    Kept a (setCompassState s n) := by
  unfold setCompassState
  simp (maxDischargeDepth := 30) [hs]

@[simp] theorem rescheduleCycles_kept (s : State) (hs : Kept a s) :
    Kept a (rescheduleCycles s) := by
  unfold rescheduleCycles
  simp (maxDischargeDepth := 30) [hs]

@[simp] theorem takeReference_kept (s : State) (diff : Int) (hs : Kept a s) :
    Kept a (takeReference s diff) := by
  unfold takeReference
  simp (maxDischargeDepth := 30) [hs]

@[simp] theorem enterHoldover_kept (s : State) (hs : Kept a s) :
    Kept a (enterHoldover s) := by
  unfold enterHoldover
  simp (maxDischargeDepth := 30) [hs]

@[simp] theorem unlockCompass_kept (s : State) (hs : Kept a s) :
    Kept a (unlockCompass s) := by
  unfold unlockCompass
  simp (maxDischargeDepth := 30) [hs]

@[simp] theorem slewTo_kept (s : State) (diff : Int) (hs : Kept a s) :
    Kept a (slewTo s diff) := by
  unfold slewTo
  simp (maxDischargeDepth := 30) [hs]

@[simp] theorem relock_kept (s : State) (diff : Int) (hs : Kept a s) :
    Kept a (relock s diff) := by
  unfold relock
  simp (maxDischargeDepth := 30) [hs]

@[simp] theorem echoFrame_kept (s : State) (hs : Kept a s) :
    Kept a (echoFrame s) := by
  unfold echoFrame
  simp (maxDischargeDepth := 30) [hs]

@[simp] theorem takeBadFrame_kept (s : State) (violations : Nat) (hs : Kept a s) :
    Kept a (takeBadFrame s violations) := by
  unfold takeBadFrame
  simp (maxDischargeDepth := 30) [hs]

@[simp] theorem noteHub_kept (s : State) (frame : List Byte) (hs : Kept a s) :
    Kept a (noteHub s frame) := by
  unfold noteHub
  simp (maxDischargeDepth := 30) [hs]

@[simp] theorem acquireFrame_kept (s : State) (c : Nat) (diff : Int) (hs : Kept a s) :
    Kept a (acquireFrame s c diff) := by
  unfold acquireFrame
  simp (maxDischargeDepth := 30) [hs]

@[simp] theorem holdoverFrame_kept (s : State) (diff : Int) (hs : Kept a s) :
    Kept a (holdoverFrame s diff) := by
  unfold holdoverFrame
  simp (maxDischargeDepth := 30) [hs]

@[simp] theorem takeGoodFrame_kept (s : State) (frame : List Byte) (hs : Kept a s) :
    Kept a (takeGoodFrame s frame) := by
  unfold takeGoodFrame
  simp (maxDischargeDepth := 30) [hs]

@[simp] theorem referenceFrame_kept (s : State) (frame : List Byte) (violations : Nat) (hs : Kept a s) :
    Kept a (referenceFrame s frame violations) := by
  unfold referenceFrame
  simp (maxDischargeDepth := 30) [hs]

@[simp] theorem symbolLock_kept (s : State) (hs : Kept a s) :
    Kept a (symbolLock s) := by
  unfold symbolLock
  simp (maxDischargeDepth := 30) [hs]

@[simp] theorem symbolLockLoss_kept (s : State) (hs : Kept a s) :
    Kept a (symbolLockLoss s) := by
  unfold symbolLockLoss
  (repeat' split) <;> simp (maxDischargeDepth := 30) [hs]

@[simp] theorem skewFault_kept (s : State) (hs : Kept a s) :
    Kept a (skewFault s) := by
  unfold skewFault
  simp (maxDischargeDepth := 30) [hs]

@[simp] theorem slewComplete_kept (s : State) (hs : Kept a s) :
    Kept a (slewComplete s) := by
  unfold slewComplete
  simp (maxDischargeDepth := 30) [hs]

@[simp] theorem settleCompass_kept (s : State) (hs : Kept a s) :
    Kept a (settleCompass s) := by
  unfold settleCompass
  (repeat' split) <;> simp (maxDischargeDepth := 30) [hs]

@[simp] theorem tickCompass_kept (s : State) (hs : Kept a s) :
    Kept a (tickCompass s) := by
  unfold tickCompass
  simp (maxDischargeDepth := 30) [hs]

@[simp] theorem syncTimeout_kept (s : State) (hs : Kept a s) :
    Kept a (syncTimeout s) := by
  unfold syncTimeout
  simp (maxDischargeDepth := 30) [hs]

@[simp] theorem writePtpOffset_kept (s : State) (q : Requester) (w : HalfWrite) (hs : Kept a s) :
    Kept a (writePtpOffset s q w) := by
  unfold writePtpOffset
  simp (maxDischargeDepth := 30) [hs]

@[simp] theorem writeCycle_kept (s : State) (j : Nat) (v : W32) (hs : Kept a s) :
    Kept a (writeCycle s j v) := by
  unfold writeCycle; (try dsimp only); (repeat' split) <;> simp (maxDischargeDepth := 30) [hs]

@[simp] theorem answer_kept (s : State) (n : Nat) (v : Nat) (hs : Kept a s) :
    Kept a (answer s n v) := by
  unfold answer
  simp (maxDischargeDepth := 30) [hs]

@[simp] theorem takeRead_kept (s : State) (q : Requester) (f : State → State) (hs : Kept a s)
    (hf : ∀ (z0 : State), Kept a z0 → Kept a (f z0)) :
    Kept a (takeRead s q f) := by
  unfold takeRead
  (repeat' split) <;> simp (maxDischargeDepth := 30) [hs, hf]

@[simp] theorem capturePop_kept (s : State) (hs : Kept a s) :
    Kept a (capturePop s) := by
  unfold capturePop
  (repeat' split) <;> simp (maxDischargeDepth := 30) [hs]

@[simp] theorem zipBoundary_kept (s : State) (r : Fin 32) (hs : Kept a s) :
    Kept a (zipBoundary s r) := by
  unfold zipBoundary
  dsimp only
  (repeat' split) <;> simp (maxDischargeDepth := 30) [hs]

@[simp] theorem takeZip_kept (s : State) (p : Fin 10) (pl : BitVec 40) (hs : Kept a s) :
    Kept a (takeZip s p pl) := by
  unfold takeZip
  dsimp only
  (repeat' split) <;> simp (maxDischargeDepth := 30) [hs]

/-! ### Machine/Replay.lean -/

@[simp] theorem gearLogPop_kept (s : State) (hs : Kept a s) :
    Kept a (gearLogPop s) := by
  unfold gearLogPop
  (repeat' split) <;> simp (maxDischargeDepth := 30) [hs]

@[simp] theorem gearPush_kept (s : State) (q : Requester) (w : HalfWrite) (hs : Kept a s) :
    Kept a (gearPush s q w) := by
  unfold gearPush
  simp (maxDischargeDepth := 30) [hs]

@[simp] theorem gearEnable_kept (s : State) (en : Bool) (hs : Kept a s) :
    Kept a (gearEnable s en) := by
  unfold gearEnable
  simp (maxDischargeDepth := 30) [hs]

@[simp] theorem scriptGear_kept (s : State) (n : Nat) (holds : Bool) (hs : Kept a s) :
    Kept a (scriptGear s n holds).2 := by
  unfold scriptGear
  dsimp only
  (repeat' split) <;> simp (maxDischargeDepth := 30) [hs]

@[simp] theorem openWeights_kept (s : State) (hs : Kept a s) :
    Kept a (openWeights s) := by
  unfold openWeights
  simp (maxDischargeDepth := 30) [hs]

@[simp] theorem closeWeights_kept (s : State) (hs : Kept a s) :
    Kept a (closeWeights s) := by
  unfold closeWeights
  simp (maxDischargeDepth := 30) [hs]

@[simp] theorem deliverWeights_kept (s : State) (priv : Nat) (w : Nat) (data : List Byte) (hs : Kept a s) :
    Kept a (deliverWeights s priv w data) := by
  unfold deliverWeights
  extract_lets present wl s1 s2
  have h1 : Kept a s1 := by simp (maxDischargeDepth := 30) [s1, hs]
  clear_value s1
  have h2 : Kept a s2 := setReg_kept _ _ _ h1
  clear_value s2
  apply foldl_kept
  · exact mk_kept s2 h2 ..
  · intro t i ht
    split
    · rename_i b _
      extract_lets s3 s4
      have h3 : Kept a s3 := by
        apply ite_kept
        · intro _
          exact foldl_kept _ _ _ (lnHbm_kept _ _ _ _ _ _ ht) (fun u n hu => emptySlot_kept _ _ hu)
        · intro _; exact ht
      clear_value s3
      have h4 : Kept a s4 := putHbmRaw_kept _ b [data.getD i 0] h3
      exact ite_kept _ _ _ (fun _ => h4) (fun _ => mk_kept _ h4 ..)
    · exact ht

/-! ### Machine/Pacer.lean -/

@[simp] theorem followVolt_kept (s : State) (mv : Nat) (hs : Kept a s) :
    Kept a (followVolt s mv) := by
  unfold followVolt
  simp (maxDischargeDepth := 30) [hs]

@[simp] theorem noteResume_kept (s : State) (hs : Kept a s) :
    Kept a (noteResume s) := by
  unfold noteResume
  simp (maxDischargeDepth := 30) [hs]

@[simp] theorem releasePermit_kept (s : State) (hs : Kept a s) :
    Kept a (releasePermit s) := by
  unfold releasePermit
  (repeat' split) <;> simp (maxDischargeDepth := 30) [hs]

@[simp] theorem startEpoch_kept (s : State) (at_ : Nat) (e : Nat) (hs : Kept a s) :
    Kept a (startEpoch s at_ e) := by
  unfold startEpoch
  simp (maxDischargeDepth := 30) [hs]

@[simp] theorem checkCap_kept (s : State) (cap : Nat) (top : Nat) (mv : Nat) (hs : Kept a s) :
    Kept a (checkCap s cap top mv) := by
  unfold checkCap
  simp (maxDischargeDepth := 30) [hs]

@[simp] theorem takePace_kept (s : State) (e : Nat) (hs : Kept a s) :
    Kept a (takePace s e) := by
  unfold takePace
  (repeat' split) <;> simp (maxDischargeDepth := 30) [hs]

@[simp] theorem epochBoundary_kept (s : State) (cap : Nat) (top : Nat) (mv : Nat) (hs : Kept a s) :
    Kept a (epochBoundary s cap top mv) := by
  unfold epochBoundary
  simp (maxDischargeDepth := 30) [hs]

@[simp] theorem armPace_kept (s : State) (n : Nat) (epoch : Nat) (hs : Kept a s) :
    Kept a (armPace s n epoch) := by
  unfold armPace
  simp (maxDischargeDepth := 30) [hs]

@[simp] theorem writePaceAt_kept (s : State) (q : Requester) (w : HalfWrite) (hs : Kept a s) :
    Kept a (writePaceAt s q w) := by
  unfold writePaceAt
  simp (maxDischargeDepth := 30) [hs]

@[simp] theorem cancelPace_kept (s : State) (q : Requester) (hs : Kept a s) :
    Kept a (cancelPace s q) := by
  unfold cancelPace
  simp (maxDischargeDepth := 30) [hs]

@[simp] theorem calBeat_kept (s : State) (r : Fin 32) (hs : Kept a s) :
    Kept a (calBeat s r) := by
  unfold calBeat
  simp (maxDischargeDepth := 30) [hs]

@[simp] theorem noteLag_kept (s : State) (hs : Kept a s) :
    Kept a (noteLag s) := by
  unfold noteLag
  simp (maxDischargeDepth := 30) [hs]

@[simp] theorem noteRaised_kept (s : State) (hs : Kept a s) :
    Kept a (noteRaised s) := by
  unfold noteRaised
  simp (maxDischargeDepth := 30) [hs]

@[simp] theorem lagCeiling_kept (s : State) (hs : Kept a s) :
    Kept a (lagCeiling s) := by
  unfold lagCeiling
  simp (maxDischargeDepth := 30) [hs]

@[simp] theorem hangCheck_kept (s : State) (r : Fin 32) (hs : Kept a s) :
    Kept a (hangCheck s r) := by
  unfold hangCheck
  simp (maxDischargeDepth := 30) [hs]

/-! ### Machine/Tracks.lean -/

@[simp] theorem unlessTrack_kept (x : Ctx) (s : State) (faults : List (Bool × Nat)) (dest : List Place) (f : State → State) (hs : Kept a s)
    (hf : ∀ (z0 : State), Kept a z0 → Kept a (f z0)) :
    Kept a (unlessTrack x s faults dest f) := by
  unfold unlessTrack
  (repeat' split) <;> simp (maxDischargeDepth := 30) [hs, hf]

@[simp] theorem issueTact_kept (track : BitVec 5) (bank : BitVec 4) (row : BitVec 16) (xen : Bool) (xr : BitVec 3) (x : Ctx) (s : State)
    (hs : Kept a s) :
    Kept a (issueTact track bank row xen xr x s) := by
  unfold issueTact
  simp (maxDischargeDepth := 30) +contextual [hs]

@[simp] theorem issueTrd_kept (track : BitVec 5) (bank : BitVec 4) (col : BitVec 4) (nl : BitVec 4) (sack : BitVec 5) (line : BitVec 13)
    (ap : Bool) (x : Ctx) (s : State) (hs : Kept a s) :
    Kept a (issueTrd track bank col nl sack line ap x s) := by
  unfold issueTrd
  simp (maxDischargeDepth := 30) +contextual [hs]

@[simp] theorem issueTwr_kept (track : BitVec 5) (bank : BitVec 4) (col : BitVec 4) (nl : BitVec 4) (sack : BitVec 5) (line : BitVec 13)
    (ap : Bool) (x : Ctx) (s : State) (hs : Kept a s) :
    Kept a (issueTwr track bank col nl sack line ap x s) := by
  unfold issueTwr
  simp (maxDischargeDepth := 30) +contextual [hs]

@[simp] theorem issueTpre_kept (track : BitVec 5) (bank : BitVec 4) (all : Bool) (x : Ctx) (s : State) (hs : Kept a s) :
    Kept a (issueTpre track bank all x s) := by
  unfold issueTpre
  simp (maxDischargeDepth := 30) +contextual [hs]

@[simp] theorem refreshBank_kept (s : State) (r : Fin 32) (t : Nat) (bank : Nat) (sent : Nat) (hs : Kept a s) :
    Kept a (refreshBank s r t bank sent) := by
  unfold refreshBank
  simp (maxDischargeDepth := 30) [hs]

@[simp] theorem issueTslotRefresh_kept (mask : BitVec 24) (pair : BitVec 3) (x : Ctx) (s : State) (hs : Kept a s) :
    Kept a (issueTslotRefresh mask pair x s) := by
  unfold issueTslotRefresh
  simp (maxDischargeDepth := 30) +contextual [hs]

@[simp] theorem issueTslotFar_kept (mask : BitVec 24) (nbeats : BitVec 16) (x : Ctx) (s : State) (hs : Kept a s) :
    Kept a (issueTslotFar mask nbeats x s) := by
  unfold issueTslotFar
  simp (maxDischargeDepth := 30) +contextual [hs]

@[simp] theorem issueTidxColumn_kept (track : BitVec 5) (bank : BitVec 4) (isack : BitVec 5) (iline : BitVec 13) (nlog : BitVec 2)
    (dsack : BitVec 5) (dline : BitVec 13) (x : Ctx) (s : State) (hs : Kept a s) :
    Kept a (issueTidxColumn track bank isack iline nlog dsack dline x s) := by
  unfold issueTidxColumn
  simp (maxDischargeDepth := 30) +contextual [hs]

@[simp] theorem issueTidxLoadIndex_kept (xr : BitVec 3) (isack : BitVec 5) (iline : BitVec 13) (word : BitVec 5) (stride : BitVec 15)
    (count : BitVec 8) (x : Ctx) (s : State) (hs : Kept a s) :
    Kept a (issueTidxLoadIndex xr isack iline word stride count x s) := by
  unfold issueTidxLoadIndex
  simp (maxDischargeDepth := 30) [hs]

@[simp] theorem guardSend_kept (s : State) (r : Fin 32) (hs : Kept a s) :
    Kept a (guardSend s r) := by
  unfold guardSend
  extract_lets g
  apply ite_kept
  · intro _
    rename_i s1 s2 o3 s3 _
    have h1 : Kept a s1 := modRegion_kept s r _ hs
    clear_value s1
    have h2 : Kept a s2 := lnAdd_kept _ _ _ _ (countField_kept _ _ _ _ _ h1)
    clear_value s2
    have h3 : Kept a s3 := mk_kept s2 h2 ..
    exact ackSlot_kept _ _ _ (restartHang_kept s3 r h3)
  · exact fun _ => hs

@[simp] theorem guardRefreshBank_kept (s : State) (r : Fin 32) (t : Nat) (bank : Nat) (hs : Kept a s) :
    Kept a (guardRefreshBank s r t bank) := by
  unfold guardRefreshBank
  simp (maxDischargeDepth := 30) [hs]

@[simp] theorem heldRefreshBank_kept (s : State) (r : Fin 32) (t : Nat) (bank : Nat) (hs : Kept a s) :
    Kept a (heldRefreshBank s r t bank) := by
  unfold heldRefreshBank
  simp (maxDischargeDepth := 30) [hs]

@[simp] theorem closeTrack_kept (s : State) (r : Fin 32) (t : Nat) (hs : Kept a s) :
    Kept a (closeTrack s r t) := by
  unfold closeTrack
  simp (maxDischargeDepth := 30) +contextual [hs]

@[simp] theorem idleRefreshBank_kept (s : State) (r : Fin 32) (t : Nat) (bank : Nat) (hs : Kept a s) :
    Kept a (idleRefreshBank s r t bank) := by
  unfold idleRefreshBank
  simp (maxDischargeDepth := 30) [hs]

@[simp] theorem restoreTrack_kept (s : State) (r : Fin 32) (t : Nat) (hs : Kept a s) :
    Kept a (restoreTrack s r t) := by
  unfold restoreTrack
  simp (maxDischargeDepth := 30) +contextual [hs]

@[simp] theorem quiesceTrack_kept (s : State) (r : Fin 32) (t : Nat) (hs : Kept a s) :
    Kept a (quiesceTrack s r t) := by
  unfold quiesceTrack
  (repeat' split) <;> simp (maxDischargeDepth := 30) [hs]

@[simp] theorem stackError_kept (s : State) (r : Fin 32) (kind : StackError) (ok : Bool) (hs : Kept a s) :
    Kept a (stackError s r kind ok) := by
  unfold stackError
  simp (maxDischargeDepth := 30) [hs]

end Sys2Proof.Machine
end

