-- ==== Sys2Proof/Laws/KeptBeats.lean ====
section
/-!
SUPPORT. Laws/KeptBeats.lean: what is kept by Firewatch, the boundary, beats, Pitch, Trail, launch and Whistle.
-/

namespace Sys2Proof.Machine

set_option Elab.async false

variable {a : State}

/-! ### Machine/Firewatch.lean -/

@[simp] theorem noteSensors_kept (s : State) (x : Sensors) (hs : Kept a s) :
    Kept a (noteSensors s x) := by
  unfold noteSensors
  simp (maxDischargeDepth := 30) +contextual [hs]

@[simp] theorem effectiveCap_kept (s : State) (hs : Kept a s) :
    Kept a (effectiveCap s) := by
  unfold effectiveCap
  simp (maxDischargeDepth := 30) [hs]

@[simp] theorem setGwant_kept (s : State) (g : Nat) (spell : Bool) (hs : Kept a s) :
    Kept a (setGwant s g spell) := by
  unfold setGwant
  simp (maxDischargeDepth := 30) [hs]

@[simp] theorem setWant_kept (s : State) (w : Nat) (spell : Bool) (hs : Kept a s) :
    Kept a (setWant s w spell) := by
  unfold setWant
  simp (maxDischargeDepth := 30) [hs]

@[simp] theorem lowerWant_kept (s : State) (hs : Kept a s) :
    Kept a (lowerWant s) := by
  unfold lowerWant
  simp (maxDischargeDepth := 30) [hs]

@[simp] theorem keepRange_kept (s : State) (hs : Kept a s) :
    Kept a (keepRange s) := by
  unfold keepRange
  simp (maxDischargeDepth := 30) [hs]

@[simp] theorem emergencyHold_kept (s : State) (power : Bool) (atFloor : Bool) (hs : Kept a s) :
    Kept a (emergencyHold s power atFloor) := by
  unfold emergencyHold
  simp (maxDischargeDepth := 30) [hs]

@[simp] theorem ladder_kept (s : State) (zone : Nat) (power : Bool) (hs : Kept a s) :
    Kept a (ladder s zone power) := by
  unfold ladder
  simp (maxDischargeDepth := 30) [hs]

@[simp] theorem sendUfm_kept (s : State) (p : Pitch) (dst : Nat) (type : Nat) (body : List Byte) (hs : Kept a s) :
    Kept a (sendUfm s p dst type body) := by
  unfold sendUfm
  dsimp only
  (repeat' split) <;> simp (maxDischargeDepth := 30) [hs]

@[simp] theorem takeUfm_kept (s : State) (type : Nat) (f : List Nat → List Byte → State → State) (hs : Kept a s)
    (hf : ∀ (z0 : List Nat) (z1 : List Byte) (z2 : State), Kept a z2 → Kept a (f z0 z1 z2)) :
    Kept a (takeUfm s type f) := by
  unfold takeUfm
  (repeat' split) <;> simp (maxDischargeDepth := 30) [hs, hf]

@[simp] theorem sendAsk_kept (s : State) (hs : Kept a s) :
    Kept a (sendAsk s) := by
  unfold sendAsk
  (repeat' split) <;> simp (maxDischargeDepth := 30) [hs]

@[simp] theorem noteQuiet_kept (s : State) (hs : Kept a s) :
    Kept a (noteQuiet s) := by
  exact modFire_kept _ _ hs

@[simp] theorem noteFire_kept (s : State) (hs : Kept a s) :
    Kept a (noteFire s) := by
  exact setReg_kept _ _ _ (setReg_kept _ _ _ hs)

@[simp] theorem enterZone_kept (s : State) (z : Nat × Nat) (hs : Kept a s) :
    Kept a (enterZone s z) := by
  unfold enterZone
  simp (maxDischargeDepth := 30) [hs]

@[simp] theorem fireEpoch_kept (s : State) (x : Sensors) (hs : Kept a s) :
    Kept a (fireEpoch s x) := by
  unfold fireEpoch
  simp (maxDischargeDepth := 30) [hs]

@[simp] theorem endEmergency_kept (s : State) (hs : Kept a s) :
    Kept a (endEmergency s) := by
  unfold endEmergency
  dsimp only
  (repeat' split) <;> simp (maxDischargeDepth := 30) [hs]

@[simp] theorem takeAsk_kept (s : State) (hs : Kept a s) :
    Kept a (takeAsk s) := by
  unfold takeAsk
  apply takeUfm_kept _ _ _ hs
  intro src body t ht
  split
  · split
    · exact modFire_kept _ _ ht
    · exact ht
  · exact ht

@[simp] theorem lookoutEpoch_kept (s : State) (hs : Kept a s) :
    Kept a (lookoutEpoch s) := by
  unfold lookoutEpoch
  (repeat' split) <;> simp (maxDischargeDepth := 30) +contextual [hs]

@[simp] theorem takeSet_kept (s : State) (hs : Kept a s) :
    Kept a (takeSet s) := by
  unfold takeSet
  apply takeUfm_kept _ _ _ hs
  intro src body t ht
  split
  · extract_lets n ser e
    apply ite_kept
    · exact fun _ => ht
    · intro _
      rename_i before s1 s2 s3 err s4 result s5 _
      have h1 : Kept a s1 := modFire_kept _ _ ht
      clear_value s1
      have h2 : Kept a s2 := setReg_kept _ _ _ (setReg_kept _ _ _ h1)
      clear_value s2
      have h3 : Kept a s3 := armPace_kept _ _ _ (setReg_kept _ _ _ h2)
      clear_value s3
      have h4 : Kept a s4 := setReg_kept _ _ _ h3
      clear_value s4
      have h5 : Kept a s5 := sendUfm_kept _ _ _ _ _ h4
      clear_value s5
      split
      · exact setReg_kept _ _ _ (setReg_kept _ _ _ h5)
      · exact raiseModule_kept _ _ h5
  · exact ht

@[simp] theorem takePaceAck_kept (s : State) (hs : Kept a s) :
    Kept a (takePaceAck s) := by
  unfold takePaceAck
  apply takeUfm_kept _ _ _ hs
  intro src body t ht
  split
  · split
    · exact modFire_kept _ _ ht
    · exact ht
  · exact ht

@[simp] theorem ackDeadline_kept (s : State) (hs : Kept a s) :
    Kept a (ackDeadline s) := by
  unfold ackDeadline
  (repeat' split) <;> simp (maxDischargeDepth := 30) [hs]

@[simp] theorem addVote_kept (s : State) (v : Vote) (hs : Kept a s) :
    Kept a (addVote s v) := by
  unfold addVote
  simp (maxDischargeDepth := 30) [hs]

@[simp] theorem castVote_kept (s : State) (hs : Kept a s) :
    Kept a (castVote s) := by
  unfold castVote
  simp (maxDischargeDepth := 30) [hs]

@[simp] theorem voteTimeout_kept (s : State) (hs : Kept a s) :
    Kept a (voteTimeout s) := by
  unfold voteTimeout
  (repeat' split) <;> simp (maxDischargeDepth := 30) [hs]

@[simp] theorem thermalTrip_kept (s : State) (junction : List (BitVec 10)) (hbm : List (BitVec 8)) (hs : Kept a s) :
    Kept a (thermalTrip s junction hbm) := by
  unfold thermalTrip
  simp (maxDischargeDepth := 30) [hs]

@[simp] theorem thermalRecovery_kept (s : State) (junction : List (BitVec 10)) (hbm : List (BitVec 8)) (hs : Kept a s) :
    Kept a (thermalRecovery s junction hbm) := by
  unfold thermalRecovery
  simp (maxDischargeDepth := 30) [hs]

@[simp] theorem moduleState_kept (s : State) (hs : Kept a s) :
    Kept a (moduleState s) := by
  unfold moduleState
  simp (maxDischargeDepth := 30) [hs]

@[simp] theorem wakeSignal_kept (s : State) (hs : Kept a s) :
    Kept a (wakeSignal s) := by
  unfold wakeSignal
  (repeat' split) <;> simp (maxDischargeDepth := 30) [hs]

/-! ### Machine/Boundary.lean -/

@[simp] theorem issueCidle_kept (count : BitVec 32) (x : Ctx) (s : State) (hs : Kept a s) :
    Kept a (issueCidle count x s) := by
  unfold issueCidle
  simp (maxDischargeDepth := 30) [hs]

@[simp] theorem issueCrep_kept (body : BitVec 12) (total : BitVec 32) (x : Ctx) (s : State) (hs : Kept a s) :
    Kept a (issueCrep body total x s) := by
  unfold issueCrep
  simp (maxDischargeDepth := 30) [hs]

@[simp] theorem checkThrough_kept (s : State) (x : Ctx) (hs : Kept a s) :
    Kept a (checkThrough s x) := by
  unfold checkThrough
  (repeat' split) <;> simp (maxDischargeDepth := 30) [hs]

@[simp] theorem issueChlt_kept (setseg : Bool) (gear : BitVec 2) (seg : BitVec 12) (x : Ctx) (s : State) (hs : Kept a s) :
    Kept a (issueChlt setseg gear seg x s) := by
  unfold issueChlt
  (repeat' split) <;> simp (maxDischargeDepth := 30) [hs]

@[simp] theorem boundaryNote_kept (s : State) (r : Nat) (n : NextSeg) (hs : Kept a s) :
    Kept a (boundaryNote s r n) := by
  unfold boundaryNote
  simp (maxDischargeDepth := 30) [hs]

@[simp] theorem boundaryNotes_kept (s : State) (n : NextSeg) (hs : Kept a s) :
    Kept a (boundaryNotes s n) := by
  unfold boundaryNotes
  apply foldl_kept _ _ _ hs
  intro s x hs
  dsimp only
  (repeat' split) <;> simp (maxDischargeDepth := 30) [hs]

@[simp] theorem logGear_kept (s : State) (c : Crossroad) (w : Nat) (hs : Kept a s) :
    Kept a (logGear s c w) := by
  unfold logGear
  (repeat' split) <;> simp (maxDischargeDepth := 30) [hs]

@[simp] theorem checkScript_kept (s : State) (bnd : Nat) (open_ : Bool) (gear : Nat) (hs : Kept a s) :
    Kept a (checkScript s bnd open_ gear) := by
  unfold checkScript
  dsimp only
  (repeat' split) <;> simp (maxDischargeDepth := 30) [hs]

@[simp] theorem closeVote_kept (s : State) (c : Crossroad) (bnd : Nat) (gear : Nat) (open_ : Bool) (hs : Kept a s) :
    Kept a (closeVote s c bnd gear open_) := by
  unfold closeVote
  simp (maxDischargeDepth := 30) [hs]

@[simp] theorem stopBoundary_kept (s : State) (n : NextSeg) (hs : Kept a s) :
    Kept a (stopBoundary s n) := by
  unfold stopBoundary
  simp (maxDischargeDepth := 30) [hs]

@[simp] theorem resolveBoundary_kept (s : State) (c : Crossroad) (hs : Kept a s) :
    Kept a (resolveBoundary s c) := by
  unfold resolveBoundary
  simp (maxDischargeDepth := 30) +contextual [hs]

@[simp] theorem readBoundary_kept (s : State) (x : Ctx) (seg : Nat) (gear : Nat) (peg : Nat) (shift : Nat) (hs : Kept a s) :
    Kept a (readBoundary s x seg gear peg shift) := by
  unfold readBoundary
  simp (maxDischargeDepth := 30) [hs]

@[simp] theorem dropLate_kept (x : Ctx) (s : State) (hs : Kept a s) :
    Kept a (dropLate x s) := by
  unfold dropLate
  dsimp only
  (repeat' split) <;> simp (maxDischargeDepth := 30) [hs]

@[simp] theorem issueCbnd_kept (peg : BitVec 14) (shift : BitVec 5) (x : Ctx) (s : State) (hs : Kept a s) :
    Kept a (issueCbnd peg shift x s) := by
  unfold issueCbnd
  dsimp only
  (repeat' split) <;> simp (maxDischargeDepth := 30) [hs]

@[simp] theorem takeGear_kept (s : State) (p : Fin 10) (pl : BitVec 40) (hs : Kept a s) :
    Kept a (takeGear s p pl) := by
  unfold takeGear
  dsimp only
  (repeat' split) <;> simp (maxDischargeDepth := 30) [hs]

@[simp] theorem issueThruPort_kept (f : Fin 7) (inn : BitVec 3) (nbeats : BitVec 8) (dly : BitVec 4) (x : Ctx) (s : State) (hs : Kept a s) :
    Kept a (issueThruPort f inn nbeats dly x s) := by
  unfold issueThruPort
  simp (maxDischargeDepth := 30) [hs]

/-! ### Machine/Beats.lean -/

@[simp] theorem runAction_kept (x : Ctx) (i : Instr) (s : State) (hs : Kept a s) :
    Kept a (runAction x i s) := by
  unfold runAction
  (repeat' split) <;> simp (maxDischargeDepth := 30) [hs]

@[simp] theorem runDue_kept (s : State) (r : Fin 32) (b : Nat) (phase : Nat) (hs : Kept a s) :
    Kept a (runDue s r b phase) := by
  unfold runDue
  apply foldl_kept _ _ _ hs
  intro t _ ht
  split
  · exact runMicro_kept _ _ _ (modRegion_kept t r _ ht)
  · exact ht

@[simp] theorem applyLater_kept (s : State) (r : Fin 32) (b : Nat) (hs : Kept a s) :
    Kept a (applyLater s r b) := by
  unfold applyLater
  simp (maxDischargeDepth := 30) +contextual [hs]

@[simp] theorem startSegment_kept (s : State) (r : Fin 32) (b : Nat) (hs : Kept a s) :
    Kept a (startSegment s r b) := by
  unfold startSegment
  (repeat' split) <;> simp (maxDischargeDepth := 30) [hs]

@[simp] theorem tagDraw_kept (s : State) (r : Nat) (b : Nat) (hs : Kept a s) :
    Kept a (tagDraw s r b).2 := by
  unfold tagDraw
  simp (maxDischargeDepth := 30) [hs]

@[simp] theorem tagRow_kept (s : State) (r : Fin 32) (b : Nat) (hs : Kept a s) :
    Kept a (tagRow s r b) := by
  unfold tagRow
  simp (maxDischargeDepth := 30) [hs]

@[simp] theorem issueRow_kept (s : State) (r : Fin 32) (b : Nat) (hs : Kept a s) :
    Kept a (issueRow s r b).2.2 := by
  unfold issueRow
  dsimp only
  (repeat' split) <;> simp (maxDischargeDepth := 30) [hs]

@[simp] theorem wakeUnit_kept (s : State) (r : Fin 32) (slot : Nat) (hs : Kept a s) :
    Kept a (wakeUnit s r slot) := by
  unfold wakeUnit
  (repeat' split) <;> simp (maxDischargeDepth := 30) [hs]

@[simp] theorem finishRow_kept (s : State) (r : Fin 32) (hs : Kept a s) :
    Kept a (finishRow s r) := by
  unfold finishRow
  simp (maxDischargeDepth := 30) +contextual [hs]

@[simp] theorem thawRegion_kept (s : State) (r : Nat) (hs : Kept a s) :
    Kept a (thawRegion s r) := by
  unfold thawRegion
  simp (maxDischargeDepth := 30) [hs]

@[simp] theorem thruAhead_kept (s : State) (r : Fin 32) (b : Nat) (hs : Kept a s) :
    Kept a (thruAhead s r b) := by
  unfold thruAhead
  apply foldl_kept _ _ _ hs
  intro t _ ht
  split
  · exact issueThru_kept _ _ _ _ _ _ ht
  · split
    · exact ht
    · exact issueThru_kept _ _ _ _ _ _ ht
  · exact ht

@[simp] theorem startBeat_kept (s : State) (r : Fin 32) (n : Nat) (hs : Kept a s) :
    Kept a (startBeat s r n) := by
  unfold startBeat
  simp (maxDischargeDepth := 30) [hs]

@[simp] theorem beginBeat_kept (s : State) (r : Fin 32) (hs : Kept a s) :
    Kept a (beginBeat s r) := by
  unfold beginBeat
  simp (maxDischargeDepth := 30) [hs]

@[simp] theorem crossingArrival_kept (s : State) (r : Fin 32) (i : Fin 6) (flip : Option (BitVec 11)) (hs : Kept a s) :
    Kept a (crossingArrival s r i flip) := by
  unfold crossingArrival
  dsimp only
  (repeat' split) <;> simp (maxDischargeDepth := 30) [hs]

@[simp] theorem unitIdle_kept (s : State) (r : Fin 32) (slot : Fin 64) (depth : Fin 4) (hs : Kept a s) :
    Kept a (unitIdle s r slot depth) := by
  unfold unitIdle
  (repeat' split) <;> simp (maxDischargeDepth := 30) [hs]

@[simp] theorem unitWake_kept (s : State) (r : Fin 32) (slot : Fin 64) (hs : Kept a s) :
    Kept a (unitWake s r slot) := by
  unfold unitWake
  simp (maxDischargeDepth := 30) [hs]

/-! ### Machine/Pitch.lean -/

@[simp] theorem refusePitch_kept (s : State) (cause : Nat) (hs : Kept a s) :
    Kept a (refusePitch s cause) := by
  unfold refusePitch
  simp (maxDischargeDepth := 30) [hs]

@[simp] theorem applyTracks_kept (s : State) (p : Pitch) (nd : Nat) (hs : Kept a s) :
    Kept a (applyTracks s p nd) := by
  unfold applyTracks
  apply foldl_kept _ _ _ hs
  intro s x hs
  dsimp only
  (repeat' split) <;> simp (maxDischargeDepth := 30) [hs]

@[simp] theorem applyQueues_kept (s : State) (p : Pitch) (hs : Kept a s) :
    Kept a (applyQueues s p) := by
  unfold applyQueues
  apply foldl_kept _ _ _ hs
  intro s x hs
  dsimp only
  (repeat' split) <;> simp (maxDischargeDepth := 30) [hs]

@[simp] theorem applyFields_kept (s : State) (p : Pitch) (pace : List Byte) (hs : Kept a s) :
    Kept a (applyFields s p pace) := by
  unfold applyFields
  simp (maxDischargeDepth := 30) [hs]

@[simp] theorem applyPitch_kept (s : State) (p : Pitch) (pace : List Byte) (hs : Kept a s) :
    Kept a (applyPitch s p pace) := by
  unfold applyPitch
  simp (maxDischargeDepth := 30) [hs]

@[simp] theorem pitchApply_kept (s : State) (hs : Kept a s) :
    Kept a (pitchApply s) := by
  unfold pitchApply
  dsimp only
  (repeat' split) <;> simp (maxDischargeDepth := 30) [hs]

@[simp] theorem dropStore_kept (s : State) (hs : Kept a s) :
    Kept a (dropStore s) := by
  unfold dropStore
  simp (maxDischargeDepth := 30) +contextual [hs]

@[simp] theorem applyHeld_kept (s : State) (hs : Kept a s) :
    Kept a (applyHeld s) := by
  unfold applyHeld
  simp (maxDischargeDepth := 30) +contextual [hs]

@[simp] theorem unloadTrail_kept (s : State) (hs : Kept a s) :
    Kept a (unloadTrail s) := by
  unfold unloadTrail
  simp (maxDischargeDepth := 30) [hs]

@[simp] theorem withdraw_kept (s : State) (hs : Kept a s) :
    Kept a (withdraw s) := by
  unfold withdraw
  simp (maxDischargeDepth := 30) [hs]

@[simp] theorem pitchWithdraw_kept (s : State) (hs : Kept a s) :
    Kept a (pitchWithdraw s) := by
  unfold pitchWithdraw
  simp (maxDischargeDepth := 30) [hs]

@[simp] theorem pitchForcedWithdraw_kept (s : State) (hs : Kept a s) :
    Kept a (pitchForcedWithdraw s) := by
  unfold pitchForcedWithdraw
  simp (maxDischargeDepth := 30) [hs]

/-! ### Machine/TrailImage.lean -/

@[simp] theorem trailLoad_kept (s : State) (hs : Kept a s) :
    Kept a (trailLoad s) := by
  unfold trailLoad
  dsimp only
  (repeat' split) <;> simp (maxDischargeDepth := 30) [hs]

@[simp] theorem trailLoaded_kept (s : State) (hs : Kept a s) :
    Kept a (trailLoaded s) := by
  unfold trailLoaded
  dsimp only
  (repeat' split) <;> simp (maxDischargeDepth := 30) [hs]

@[simp] theorem trailUnload_kept (s : State) (hs : Kept a s) :
    Kept a (trailUnload s) := by
  unfold trailUnload
  simp (maxDischargeDepth := 30) [hs]

/-! ### Machine/Launch.lean -/

@[simp] theorem clearFaults_kept (s : State) (hs : Kept a s) :
    Kept a (clearFaults s) := by
  unfold clearFaults
  simp (maxDischargeDepth := 30) [hs]

@[simp] theorem launchState_kept (s : State) (p : Pitch) (seg : Nat) (gear : Nat) (ta : Nat) (hs : Kept a s) :
    Kept a (launchState s p seg gear ta) := by
  unfold launchState
  simp (maxDischargeDepth := 30) +contextual [hs]

@[simp] theorem startJob_kept (s : State) (p : Pitch) (src : LaunchSource) (ta : Nat) (hs : Kept a s) :
    Kept a (startJob s p src ta).2 := by
  unfold startJob
  simp (maxDischargeDepth := 30) [hs]

@[simp] theorem noteFiring_kept (s : State) (j : Fin 4) (t : Nat) (missed : Bool) (hs : Kept a s) :
    Kept a (noteFiring s j t missed) := by
  unfold noteFiring
  simp (maxDischargeDepth := 30) [hs]

@[simp] theorem launchAt_kept (s : State) (src : LaunchSource) (t : Nat) (hs : Kept a s) :
    Kept a (launchAt s src t) := by
  unfold launchAt
  dsimp only
  (repeat' split) <;> simp (maxDischargeDepth := 30) +contextual [hs]

@[simp] theorem launchPeg_kept (s : State) (hs : Kept a s) :
    Kept a (launchPeg s) := by
  unfold launchPeg
  dsimp only
  (repeat' split) <;> simp (maxDischargeDepth := 30) [hs]

@[simp] theorem hostPeg_kept (s : State) (r : Fin 32) (p : Nat) (n : Nat) (err : Bool) (hs : Kept a s) :
    Kept a (hostPeg s r p n err) := by
  unfold hostPeg
  simp (maxDischargeDepth := 30) [hs]

@[simp] theorem cyclePeg_kept (s : State) (j : Fin 4) (t : Nat) (hs : Kept a s) :
    Kept a (cyclePeg s j t) := by
  unfold cyclePeg
  simp (maxDischargeDepth := 30) [hs]

@[simp] theorem cycleFire_kept (s : State) (j : Fin 4) (hs : Kept a s) :
    Kept a (cycleFire s j) := by
  unfold cycleFire
  (repeat' split) <;> simp (maxDischargeDepth := 30) [hs]

@[simp] theorem armLaunch_kept (s : State) (q : Requester) (w : HalfWrite) (hs : Kept a s) :
    Kept a (armLaunch s q w) := by
  unfold armLaunch
  dsimp only
  (repeat' split) <;> simp (maxDischargeDepth := 30) [hs]

@[simp] theorem launchRegister_kept (s : State) (hs : Kept a s) :
    Kept a (launchRegister s) := by
  unfold launchRegister
  (repeat' split) <;> simp (maxDischargeDepth := 30) [hs]

@[simp] theorem launchStart_kept (s : State) (src : LaunchSource) (hs : Kept a s) :
    Kept a (launchStart s src) := by
  unfold launchStart
  (repeat' split) <;> simp (maxDischargeDepth := 30) [hs]

/-! ### Machine/Whistle.lean -/

@[simp] theorem msixFlush_kept (s : State) (p : Fin 2) (hs : Kept a s) :
    Kept a (msixFlush s p) := by
  unfold msixFlush
  simp (maxDischargeDepth := 30) +contextual [hs]

@[simp] theorem msixUnblock_kept (s : State) (p : Fin 2) (c : MsixGate) (hs : Kept a s) :
    Kept a (msixUnblock s p c) := by
  unfold msixUnblock
  (repeat' split) <;> simp (maxDischargeDepth := 30) [hs]

@[simp] theorem settleSources_kept (s : State) (hs : Kept a s) :
    Kept a (settleSources s) := by
  unfold settleSources
  simp (maxDischargeDepth := 30) +contextual [hs]

@[simp] theorem serviceEnd_kept (s : State) (w : Fin 32) (v : W32) (hw : W32) (hs : Kept a s) :
    Kept a (serviceEnd s w v hw) := by
  unfold serviceEnd
  simp (maxDischargeDepth := 30) +contextual [hs]

@[simp] theorem pendSet_kept (s : State) (w : Fin 32) (v : W32) (hs : Kept a s) :
    Kept a (pendSet s w v) := by
  unfold pendSet
  simp (maxDischargeDepth := 30) +contextual [hs]

@[simp] theorem pendClear_kept (s : State) (w : Fin 32) (v : W32) (hw : W32) (hs : Kept a s) :
    Kept a (pendClear s w v hw) := by
  unfold pendClear
  simp (maxDischargeDepth := 30) +contextual [hs]

@[simp] theorem sourceConfig_kept (s : State) (n : Fin 1024) (time : Bool) (v : W32) (hs : Kept a s) :
    Kept a (sourceConfig s n time v) := by
  unfold sourceConfig
  dsimp only
  (repeat' split) <;> simp (maxDischargeDepth := 30) [hs]

@[simp] theorem resetWhistle_kept (s : State) (hs : Kept a s) :
    Kept a (resetWhistle s) := by
  unfold resetWhistle
  simp (maxDischargeDepth := 30) [hs]

@[simp] theorem retentionWake_kept (s : State) (ok : Bool) (hs : Kept a s) :
    Kept a (retentionWake s ok) := by
  unfold retentionWake
  simp (maxDischargeDepth := 30) [hs]

@[simp] theorem lanternClear_kept (s : State) (hs : Kept a s) :
    Kept a (lanternClear s) := by
  unfold lanternClear
  simp (maxDischargeDepth := 30) +contextual [hs]

@[simp] theorem lanternThaw_kept (s : State) (hs : Kept a s) :
    Kept a (lanternThaw s) := by
  unfold lanternThaw
  simp (maxDischargeDepth := 30) [hs]

@[simp] theorem finishSnapshot_kept (s : State) (b : Nat) (freeze : Bool) (count : W64) (hs : Kept a s) :
    Kept a (finishSnapshot s b freeze count) := by
  unfold finishSnapshot
  simp (maxDischargeDepth := 30) +contextual [hs]

@[simp] theorem freezeArm_kept (s : State) (q : Requester) (w : HalfWrite) (hs : Kept a s) :
    Kept a (freezeArm s q w) := by
  unfold freezeArm
  have h := formHalf_kept s q Reg.LN_FREEZE w hs
  revert h
  generalize formHalf s q Reg.LN_FREEZE w = p
  obtain ⟨v, t⟩ := p
  intro h
  dsimp only at h
  have h1 : Kept a (setReg t Reg.LN_FREEZE (v &&& 0xC000FFFFFFFFFFFF)) := setReg_kept _ _ _ h
  revert h1
  dsimp only
  generalize setReg t Reg.LN_FREEZE (v &&& 0xC000FFFFFFFFFFFF) = u
  intro h1
  have h2 : Kept a (forRegions u fun r s => snapRegion s r.val) :=
    forRegions_kept _ _ h1 fun r z hz => snapRegion_kept _ _ hz
  refine ite_kept _ _ _ (fun _ => finishSnapshot_kept _ _ _ _ ?_) (fun _ => ite_kept _ _ _ (fun _ => logEvent_kept _ _ h1) (fun _ => mk_kept _ (setField_kept _ _ _ _ _ h1) ..))
  exact ite_kept _ _ _ (fun _ => mk_kept _ h2 ..) (fun _ => h2)

@[simp] theorem lanternSnapshot_kept (s : State) (hs : Kept a s) :
    Kept a (lanternSnapshot s) := by
  unfold lanternSnapshot
  (repeat' split) <;> simp (maxDischargeDepth := 30) [hs]

@[simp] theorem bandwidthWindow_kept (s : State) (hs : Kept a s) :
    Kept a (bandwidthWindow s) := by
  unfold bandwidthWindow
  simp (maxDischargeDepth := 30) +contextual [hs]

@[simp] theorem traceRecord_kept (s : State) (r : Fin 32) (hs : Kept a s) :
    Kept a (traceRecord s r) := by
  unfold traceRecord
  (repeat' split) <;> simp (maxDischargeDepth := 30) [hs]

@[simp] theorem traceReset_kept (s : State) (hs : Kept a s) :
    Kept a (traceReset s) := by
  unfold traceReset
  simp (maxDischargeDepth := 30) [hs]

end Sys2Proof.Machine
end

