-- ==== Sys2Proof/Laws/KeptHost.lean ====
section
/-!
SUPPORT. Laws/KeptHost.lean: what is kept by the host link, start-up, self-test, firmware and the host's accesses.
-/

namespace Sys2Proof.Machine

set_option Elab.async false

variable {a : State}

/-! ### Machine/HostLink.lean -/

@[simp] theorem setHostState_kept (s : State) (p : Fin 2) (st : Nat) (hs : Kept a s) :
    Kept a (setHostState s p st) := by
  unfold setHostState
  simp (maxDischargeDepth := 30) [hs]

@[simp] theorem hostTrained_kept (s : State) (p : Fin 2) (speed : Fin 3) (width : Fin 4) (hs : Kept a s) :
    Kept a (hostTrained s p speed width) := by
  unfold hostTrained
  simp (maxDischargeDepth := 30) [hs]

@[simp] theorem abortHost_kept (s : State) (p : Fin 2) (hs : Kept a s) :
    Kept a (abortHost s p) := by
  unfold abortHost
  simp (maxDischargeDepth := 30) [hs]

@[simp] theorem hostLinkOff_kept (s : State) (p : Fin 2) (hs : Kept a s) :
    Kept a (hostLinkOff s p) := by
  unfold hostLinkOff
  simp (maxDischargeDepth := 30) [hs]

@[simp] theorem trainHost_kept (s : State) (p : Fin 2) (hs : Kept a s) :
    Kept a (trainHost s p) := by
  unfold trainHost
  simp (maxDischargeDepth := 30) [hs]

@[simp] theorem hostDown_kept (s : State) (p : Fin 2) (hs : Kept a s) :
    Kept a (hostDown s p) := by
  unfold hostDown
  simp (maxDischargeDepth := 30) [hs]

@[simp] theorem setHolder_kept (s : State) (h : Nat) (hs : Kept a s) :
    Kept a (setHolder s h) := by
  unfold setHolder
  simp (maxDischargeDepth := 30) [hs]

@[simp] theorem hostReset_kept (s : State) (p : Fin 2) (flr : Bool) (hs : Kept a s) :
    Kept a (hostReset s p flr) := by
  unfold hostReset
  simp (maxDischargeDepth := 30) [hs]

@[simp] theorem acquireLease_kept (s : State) (p : Fin 2) (hs : Kept a s) :
    Kept a (acquireLease s p) := by
  unfold acquireLease
  simp (maxDischargeDepth := 30) [hs]

@[simp] theorem renewLease_kept (s : State) (p : Fin 2) (hs : Kept a s) :
    Kept a (renewLease s p) := by
  unfold renewLease
  simp (maxDischargeDepth := 30) [hs]

@[simp] theorem releaseLease_kept (s : State) (p : Fin 2) (hs : Kept a s) :
    Kept a (releaseLease s p) := by
  unfold releaseLease
  simp (maxDischargeDepth := 30) [hs]

@[simp] theorem expireLease_kept (s : State) (hs : Kept a s) :
    Kept a (expireLease s) := by
  unfold expireLease
  simp (maxDischargeDepth := 30) [hs]

@[simp] theorem ethUp_kept (s : State) (e : Fin 2) (lanes : BitVec 4) (hs : Kept a s) :
    Kept a (ethUp s e lanes) := by
  unfold ethUp
  simp (maxDischargeDepth := 30) [hs]

@[simp] theorem ethDown_kept (s : State) (e : Fin 2) (lanes : BitVec 4) (hs : Kept a s) :
    Kept a (ethDown s e lanes) := by
  unfold ethDown
  simp (maxDischargeDepth := 30) [hs]

@[simp] theorem sendDelayReq_kept (s : State) (e : Fin 2) (hs : Kept a s) :
    Kept a (sendDelayReq s e) := by
  unfold sendDelayReq
  simp (maxDischargeDepth := 30) [hs]

@[simp] theorem ethFrame_kept (s : State) (e : Fin 2) (f : List Byte) (check : FrameCheck) (hs : Kept a s) :
    Kept a (ethFrame s e f check) := by
  unfold ethFrame
  (repeat' split) <;> simp (maxDischargeDepth := 30) [hs]

/-! ### Machine/Startup.lean -/

@[simp] theorem powerFault_kept (s : State) (code : Nat) (hs : Kept a s) :
    Kept a (powerFault s code) := by
  unfold powerFault
  simp (maxDischargeDepth := 30) [hs]

@[simp] theorem powerUp_kept (s : State) (hs : Kept a s) :
    Kept a (powerUp s) := by
  unfold powerUp
  simp (maxDischargeDepth := 30) [hs]

@[simp] theorem powerOn_kept (s : State) (hs : Kept a s) :
    Kept a (powerOn s) := by
  unfold powerOn
  simp (maxDischargeDepth := 30) +contextual [hs]

@[simp] theorem entryLimit_kept (s : State) (hs : Kept a s) :
    Kept a (entryLimit s) := by
  unfold entryLimit
  simp (maxDischargeDepth := 30) [hs]

@[simp] theorem setGood_kept (s : State) (i : Nat) (good : Bool) (hs : Kept a s) : Kept a (setGood s i good) := by
  unfold setGood
  simp (maxDischargeDepth := 30) [hs]

@[simp] theorem pairLost_kept (s : State) (i : Nat) (hs : Kept a s) :
    Kept a (pairLost s i) := by
  unfold pairLost
  simp (maxDischargeDepth := 30) [hs]

@[simp] theorem pairReturn_kept (s : State) (i : Nat) (hs : Kept a s) :
    Kept a (pairReturn s i) := by
  unfold pairReturn
  simp (maxDischargeDepth := 30) [hs]

@[simp] theorem notePairs_kept (s : State) (pairs : List Pair) (hs : Kept a s) :
    Kept a (notePairs s pairs) := by
  unfold notePairs
  apply foldl_kept _ _ _ hs
  intro t i ht
  split
  · exact setReg_kept _ _ _ ht
  · exact ht

@[simp] theorem entryUpdate_kept (s : State) (volt : BitVec 16) (pairs : List Pair) (hs : Kept a s) :
    Kept a (entryUpdate s volt pairs) := by
  unfold entryUpdate
  extract_lets good volts s1 s2
  have h1 : Kept a s1 := setReg_kept _ _ _ (notePairs_kept _ _ (modFire_kept _ _ hs))
  apply entryLimit_kept
  apply foldl_kept _ _ _ h1
  intro t i ht
  split
  · exact pairReturn_kept _ _ ht
  · exact pairLost_kept _ _ ht
  · exact ht

@[simp] theorem pairChange_kept (s : State) (i : Nat) (pairs : List Pair) (good : Bool) (hs : Kept a s) :
    Kept a (pairChange s i pairs good) := by
  unfold pairChange
  simp (maxDischargeDepth := 30) [hs]

@[simp] theorem underVoltage_kept (s : State) (volt us : Nat) (hs : Kept a s) : Kept a (underVoltage s volt us) := by
  unfold underVoltage
  simp (maxDischargeDepth := 30) [hs]

@[simp] theorem overVoltage_kept (s : State) (volt us : Nat) (hs : Kept a s) : Kept a (overVoltage s volt us) := by
  unfold overVoltage
  simp (maxDischargeDepth := 30) [hs]

@[simp] theorem pairShortage_kept (s : State) (hs : Kept a s) :
    Kept a (pairShortage s) := by
  unfold pairShortage
  simp (maxDischargeDepth := 30) [hs]

@[simp] theorem pairRestored_kept (s : State) (hs : Kept a s) :
    Kept a (pairRestored s) := by
  unfold pairRestored
  simp (maxDischargeDepth := 30) [hs]

@[simp] theorem inputRestored_kept (s : State) (low high ms : Nat) (hs : Kept a s) :
    Kept a (inputRestored s low high ms) := by
  unfold inputRestored
  simp (maxDischargeDepth := 30) [hs]

@[simp] theorem senseBreak_kept (s : State) (hs : Kept a s) :
    Kept a (senseBreak s) := by
  unfold senseBreak
  simp (maxDischargeDepth := 30) [hs]

@[simp] theorem railShort_kept (s : State) (k : Nat) (hs : Kept a s) :
    Kept a (railShort s k) := by
  unfold railShort
  simp (maxDischargeDepth := 30) [hs]

@[simp] theorem coolantLeak_kept (s : State) (hs : Kept a s) :
    Kept a (coolantLeak s) := by
  unfold coolantLeak
  simp (maxDischargeDepth := 30) [hs]

@[simp] theorem lidOpen_kept (s : State) (hs : Kept a s) :
    Kept a (lidOpen s) := by
  unfold lidOpen
  simp (maxDischargeDepth := 30) [hs]

@[simp] theorem darkDie_kept (s : State) (f : Nat) (hs : Kept a s) : Kept a (darkDie s f) := by
  unfold darkDie
  extract_lets s1
  have h1 : Kept a s1 := forPorts_kept _ _ hs (fun p t ht => by split <;> simp [ht])
  split <;> simp [h1]

@[simp] theorem lampOut_kept (s : State) (l : Nat) (code : Nat) (bit : Nat) (power : Nat) (hs : Kept a s) :
    Kept a (lampOut s l code bit power) := by
  unfold lampOut
  simp (maxDischargeDepth := 30) [hs]

@[simp] theorem lampFail_kept (s : State) (l own setting : Nat) (check : Bool) (power : Nat) (hs : Kept a s) :
    Kept a (lampFail s l own setting check power) := by
  unfold lampFail
  simp (maxDischargeDepth := 30) [hs]

@[simp] theorem lampRemove_kept (s : State) (l : Nat) (power : Nat) (hs : Kept a s) :
    Kept a (lampRemove s l power) := by
  unfold lampRemove
  simp (maxDischargeDepth := 30) [hs]

@[simp] theorem lampInsert_kept (s : State) (l : Nat) (typeOk : Bool) (serial : W64) (hs : Kept a s) :
    Kept a (lampInsert s l typeOk serial) := by
  unfold lampInsert
  simp (maxDischargeDepth := 30) [hs]

@[simp] theorem lightPorts_kept (s : State) (hs : Kept a s) :
    Kept a (lightPorts s) := by
  unfold lightPorts
  simp (maxDischargeDepth := 30) +contextual [hs]

@[simp] theorem lampRampDone_kept (s : State) (l : Nat) (own : Nat) (other : Nat) (hs : Kept a s) :
    Kept a (lampRampDone s l own other) := by
  unfold lampRampDone
  simp (maxDischargeDepth := 30) [hs]

@[simp] theorem fibreOpen_kept (s : State) (q us : Nat) (hs : Kept a s) :
    Kept a (fibreOpen s q us) := by
  unfold fibreOpen
  simp (maxDischargeDepth := 30) [hs]

@[simp] theorem fibreProbe_kept (s : State) (q : Nat) (hs : Kept a s) :
    Kept a (fibreProbe s q) := by
  unfold fibreProbe
  simp (maxDischargeDepth := 30) [hs]

@[simp] theorem fibreRestored_kept (s : State) (q us : Nat) (hs : Kept a s) :
    Kept a (fibreRestored s q us) := by
  unfold fibreRestored
  simp (maxDischargeDepth := 30) [hs]

@[simp] theorem enterStep_kept (s : State) (k : Nat) (hs : Kept a s) :
    Kept a (enterStep s k) := by
  unfold enterStep
  simp (maxDischargeDepth := 30) [hs]

@[simp] theorem stayOff_kept (s : State) (hs : Kept a s) :
    Kept a (stayOff s) := by
  unfold stayOff
  simp (maxDischargeDepth := 30) [hs]

@[simp] theorem stepPower_kept (s : State) (mated : Bool) (volt : BitVec 16) (charged : Bool) (pairs : List Pair) (lid : Bool) (leak : Bool)
    (short : Option (Fin 8)) (lamps : List Lamp) (hs : Kept a s) :
    Kept a (stepPower s mated volt charged pairs lid leak short lamps) := by
  unfold stepPower
  (repeat' split) <;> simp (maxDischargeDepth := 30) +contextual [hs]

@[simp] theorem bootImage_kept (s : State) (b : Bool) (hs : Kept a s) :
    Kept a (bootImage s b) := by
  unfold bootImage
  simp (maxDischargeDepth := 30) [hs]

@[simp] theorem stepFirmware_kept (s : State) (keyOk : Bool) (hs : Kept a s) :
    Kept a (stepFirmware s keyOk) := by
  unfold stepFirmware
  simp (maxDischargeDepth := 30) [hs]

@[simp] theorem fitDimms_kept (s : State) (dimms : List Dimm) (hs : Kept a s) :
    Kept a (fitDimms s dimms) := by
  unfold fitDimms
  extract_lets
  apply setReg_kept
  apply setReg_kept
  apply foldl_kept _ _ _ hs
  intro t k ht
  extract_lets
  split
  · exact setReg_kept _ _ _ ht
  · exact logEvent_kept _ _ (setReg_kept _ _ _ ht)

@[simp] theorem stepMemory_kept (s : State) (failed : List (BitVec 24)) (dimms : List Dimm) (hs : Kept a s) :
    Kept a (stepMemory s failed dimms) := by
  unfold stepMemory
  simp (maxDischargeDepth := 30) [hs]

@[simp] theorem setCrossing_kept (s : State) (m : Measure) (r : Nat) (i : Nat) (d : Nat) (hs : Kept a s) :
    Kept a (setCrossing s m r i d) := by
  unfold setCrossing
  simp (maxDischargeDepth := 30) [hs]

@[simp] theorem noteCalibration_kept (s : State) (m : Measure) (hs : Kept a s) :
    Kept a (noteCalibration s m) := by
  unfold noteCalibration
  simp (maxDischargeDepth := 30) +contextual [hs]

@[simp] theorem stepCalibrate_kept (s : State) (m : Measure) (failed : List (BitVec 9)) (hs : Kept a s) :
    Kept a (stepCalibrate s m failed) := by
  unfold stepCalibrate
  extract_lets t s1 s2 s3 s4 s5
  have h1 : Kept a s1 := leaveCal_kept _ hs
  clear_value s1
  have h2 : Kept a s2 := by
    apply foldl_kept _ _ _ h1
    intro z x hz
    split
    · exact setCrossing_kept _ _ _ _ _ hz
    · exact setReg_kept _ _ _ hz
  clear_value s2
  have h3 : Kept a s3 := noteCalibration_kept _ _ h2
  have h4 : Kept a s4 := addFailures_kept _ _ (mk_kept _ h3 ..)
  have h5 : Kept a s5 := modRegions_kept _ _ h4
  clear_value s3 s4 s5
  split
  · exact raiseModule_kept _ _ h3
  · split
    · exact raiseModule_kept _ _ h3
    · split
      · exact raiseModule_kept _ _ h5
      · exact enterStep_kept _ _ h5

@[simp] theorem stepLanes_kept (s : State) (bad : List (BitVec 16)) (eth : List (BitVec 4)) (hs : Kept a s) :
    Kept a (stepLanes s bad eth) := by
  unfold stepLanes
  simp (maxDischargeDepth := 30) +contextual [hs]

@[simp] theorem stepPcie_kept (s : State) (ports : List (Option (Fin 3 × Fin 4))) (hs : Kept a s) :
    Kept a (stepPcie s ports) := by
  unfold stepPcie
  extract_lets s1
  have h1 : Kept a s1 := by
    apply foldl_kept _ _ _ hs
    intro t e ht
    split
    · exact hostTrained_kept _ _ _ _ ht
    · exact ht
  exact enterStep_kept _ _ h1

@[simp] theorem stepEthernet_kept (s : State) (up : BitVec 2) (hs : Kept a s) :
    Kept a (stepEthernet s up) := by
  unfold stepEthernet
  extract_lets s1
  have h1 : Kept a s1 := by
    apply foldl_kept _ _ _ hs
    intro t e ht
    split
    · exact setField_kept _ _ _ _ _ ht
    · split
      · exact ht
      · exact logEvent_kept _ _ ht
  exact enterStep_kept _ _ h1

@[simp] theorem bringUp_kept (s : State) (x : BringUp) (hs : Kept a s) :
    Kept a (bringUp s x) := by
  unfold bringUp
  (repeat' split) <;> simp (maxDischargeDepth := 30) [hs]

@[simp] theorem bringUpTimeout_kept (s : State) (hs : Kept a s) :
    Kept a (bringUpTimeout s) := by
  unfold bringUpTimeout
  dsimp only
  (repeat' split) <;> simp (maxDischargeDepth := 30) [hs]

@[simp] theorem faultReset_kept (s : State) (code : BitVec 12) (hs : Kept a s) :
    Kept a (faultReset s code) := by
  unfold faultReset
  simp (maxDischargeDepth := 30) [hs]

@[simp] theorem watchdog_kept (s : State) (hs : Kept a s) :
    Kept a (watchdog s) := by
  unfold watchdog
  simp (maxDischargeDepth := 30) [hs]

@[simp] theorem spareSweep_kept (s : State) (r : Fin 32) (k : Fin 9) (pass : Bool) (hs : Kept a s) :
    Kept a (spareSweep s r k pass) := by
  unfold spareSweep
  simp (maxDischargeDepth := 30) [hs]

/-! ### Machine/SelfTest.lean -/

@[simp] theorem setTest_kept (s : State) (t : Option SelfTest) (hs : Kept a s) :
    Kept a (setTest s t) := by
  unfold setTest
  simp (maxDischargeDepth := 30) [hs]

@[simp] theorem startTest_kept (s : State) (t : SelfTest) (hs : Kept a s) :
    Kept a (startTest s t) := by
  unfold startTest
  simp (maxDischargeDepth := 30) [hs]

@[simp] theorem runTest_kept (s : State) (hs : Kept a s) :
    Kept a (runTest s) := by
  unfold runTest
  (repeat' split) <;> simp (maxDischargeDepth := 30) [hs]

@[simp] theorem requestTest_kept (s : State) (kind : Nat) (force : Bool) (timeout : Nat) (hs : Kept a s) :
    Kept a (requestTest s kind force timeout).2.2 := by
  unfold requestTest
  (repeat' split) <;> simp (maxDischargeDepth := 30) [hs]

@[simp] theorem cancelTest_kept (s : State) (t : SelfTest) (hs : Kept a s) :
    Kept a (cancelTest s t) := by
  unfold cancelTest
  simp (maxDischargeDepth := 30) [hs]

@[simp] theorem timeoutTest_kept (s : State) (hs : Kept a s) :
    Kept a (timeoutTest s) := by
  unfold timeoutTest
  (repeat' split) <;> simp (maxDischargeDepth := 30) [hs]

@[simp] theorem recalibrate_kept (s : State) (m : Measure) (hs : Kept a s) :
    Kept a (recalibrate s m) := by
  unfold recalibrate
  simp (maxDischargeDepth := 30) +contextual [hs]

@[simp] theorem recalibration_kept (s : State) (m : Measure) (hs : Kept a s) :
    Kept a (recalibration s m) := by
  unfold recalibration
  (repeat' split) <;> simp (maxDischargeDepth := 30) [hs]

@[simp] theorem completeTest_kept (s : State) (clusters : List (BitVec 9)) (tracks : List (BitVec 24)) (hs : Kept a s) :
    Kept a (completeTest s clusters tracks) := by
  unfold completeTest
  split
  · exact hs
  · split
    · exact hs
    · rename_i t _ _
      have hk (z : State) (h : Kept a z) : Kept a { z with hbm := [], barrel := [], flaws := z.flaws.filter (fun f => match f with
            | .hbm _ _ => false
            | .barrel _ _ => false
            | _ => true) } := ⟨h.1, h.2, h.3, h.4, fun _ => rfl, fun _ => rfl⟩
      extract_lets clusters' tracks' found bad lost s1 s2 s3 s4 s5
      have h1 : Kept a s1 := ite_kept _ _ _ (fun _ => modRegions_kept _ _ hs) (fun _ => hs)
      clear_value s1
      have h3 : Kept a s3 := ite_kept _ _ _ (fun _ => setField_kept _ _ _ _ _ (hk _ h1)) (fun _ => h1)
      clear_value s3
      have h4 : Kept a s4 := leaveCal_kept _ (setTest_kept _ _ (noteTest_kept _ _ _ h3))
      clear_value s4
      have h5 : Kept a s5 := ite_kept _ _ _ (fun _ => addFailures_kept _ _ h4) (fun _ => h4)
      exact ite_kept _ _ _ (fun _ => raiseModule_kept _ _ h5) (fun _ => h5)

/-! ### Machine/Commands.lean -/

@[simp] theorem fcRet_kept (s : State) (i : Nat) (v : Nat) (hs : Kept a s) :
    Kept a (fcRet s i v) := by
  unfold fcRet
  simp (maxDischargeDepth := 30) [hs]

@[simp] theorem fcPut_kept (s : State) (bs : List Byte) (hs : Kept a s) :
    Kept a (fcPut s bs) := by
  unfold fcPut
  apply foldl_kept _ _ _ hs
  intro s x hs
  dsimp only
  (repeat' split) <;> simp (maxDischargeDepth := 30) [hs]

@[simp] theorem fcFinish_kept (s : State) (p : Fin 2) (seq : Nat) (result : Nat) (hs : Kept a s) :
    Kept a (fcFinish s p seq result) := by
  unfold fcFinish
  simp (maxDischargeDepth := 30) [hs]

@[simp] theorem fcStart_kept (s : State) (p : Fin 2) (seq : Nat) (op : Nat) (classS : Bool) (f : State → State) (hs : Kept a s)
    (hf : ∀ (z0 : State), Kept a z0 → Kept a (f z0)) :
    Kept a (fcStart s p seq op classS f) := by
  unfold fcStart
  (repeat' split) <;> simp (maxDischargeDepth := 30) [hs, hf]

@[simp] theorem fcAtOnce_kept (s : State) (p : Fin 2) (seq : BitVec 8) (op : Nat) (classS : Bool) (f : State → Nat × State) (hs : Kept a s)
    (hf : ∀ (z0 : State), Kept a z0 → Kept a (f z0).2) :
    Kept a (fcAtOnce s p seq op classS f) := by
  unfold fcAtOnce
  simp (maxDischargeDepth := 30) +contextual [hs, hf]

@[simp] theorem fcUnknown_kept (s : State) (p : Fin 2) (seq : BitVec 8) (op : Nat) (hs : Kept a s) :
    Kept a (fcUnknown s p seq op) := by
  unfold fcUnknown
  simp (maxDischargeDepth := 30) [hs]

@[simp] theorem fcInfo_kept (s : State) (hs : Kept a s) :
    Kept a (fcInfo s).2 := by
  unfold fcInfo
  simp (maxDischargeDepth := 30) [hs]

@[simp] theorem fcEvents_kept (s : State) (hs : Kept a s) :
    Kept a (fcEvents s).2 := by
  unfold fcEvents
  simp (maxDischargeDepth := 30) [hs]

@[simp] theorem fcCoord_kept (s : State) (hs : Kept a s) :
    Kept a (fcCoord s).2 := by
  unfold fcCoord
  simp (maxDischargeDepth := 30) [hs]

@[simp] theorem fcAttest_kept (s : State) (hs : Kept a s) :
    Kept a (fcAttest s).2 := by
  unfold fcAttest
  simp (maxDischargeDepth := 30) [hs]

@[simp] theorem fcCert_kept (s : State) (hs : Kept a s) :
    Kept a (fcCert s).2 := by
  unfold fcCert
  simp (maxDischargeDepth := 30) [hs]

@[simp] theorem fcMap_kept (s : State) (hs : Kept a s) :
    Kept a (fcMap s).2 := by
  unfold fcMap
  simp (maxDischargeDepth := 30) [hs]

@[simp] theorem fcNetCfg_kept (s : State) (hs : Kept a s) :
    Kept a (fcNetCfg s).2 := by
  unfold fcNetCfg
  simp (maxDischargeDepth := 30) [hs]

@[simp] theorem fcTlmCfg_kept (s : State) (hs : Kept a s) :
    Kept a (fcTlmCfg s).2 := by
  unfold fcTlmCfg
  simp (maxDischargeDepth := 30) [hs]

@[simp] theorem fcLaunch_kept (s : State) (p : Fin 2) (seq : Nat) (op : Nat) (ts : List Nat) (hs : Kept a s) :
    Kept a (fcLaunch s p seq op ts) := by
  unfold fcLaunch
  simp (maxDischargeDepth := 30) [hs]

@[simp] theorem fcNetLoad_kept (p : Fin 2) (seq : Nat) (s : State) (hs : Kept a s) :
    Kept a (fcNetLoad p seq s) := by
  unfold fcNetLoad
  simp (maxDischargeDepth := 30) [hs]

@[simp] theorem fcTransfer_kept (op : Nat) (p : Fin 2) (seq : Nat) (s : State) (hs : Kept a s) :
    Kept a (fcTransfer op p seq s) := by
  unfold fcTransfer
  simp (maxDischargeDepth := 30) [hs]

@[simp] theorem fcEnd_kept (s : State) (r : FcRun) (result : Nat) (hs : Kept a s) :
    Kept a (fcEnd s r result) := by
  unfold fcEnd
  simp (maxDischargeDepth := 30) [hs]

@[simp] theorem fcFail_kept (s : State) (r : FcRun) (hs : Kept a s) :
    Kept a (fcFail s r) := by
  unfold fcFail
  simp (maxDischargeDepth := 30) [hs]

@[simp] theorem abandonLoad_kept (s : State) (hs : Kept a s) :
    Kept a (abandonLoad s) := by
  unfold abandonLoad
  simp (maxDischargeDepth := 30) [hs]

@[simp] theorem networkComplete_kept (s : State) (ok : Bool) (data : List Byte) (e : Fin 2) (frames : BitVec 64) (hs : Kept a s) :
    Kept a (networkComplete s ok data e frames) := by
  unfold networkComplete
  dsimp only
  (repeat' split) <;> simp (maxDischargeDepth := 30) [hs]

@[simp] theorem fcCancel_kept (s : State) (p : Fin 2) (seq : Nat) (hs : Kept a s) :
    Kept a (fcCancel s p seq) := by
  unfold fcCancel
  (repeat' split) <;> simp (maxDischargeDepth := 30) [hs]

@[simp] theorem fcReset_kept (p : Fin 2) (seq : Nat) (s : State) (hs : Kept a s) :
    Kept a (fcReset p seq s) := by
  unfold fcReset
  simp (maxDischargeDepth := 30) [hs]

@[simp] theorem fcStage_kept (s : State) (hs : Kept a s) :
    Kept a (fcStage s).2 := by
  unfold fcStage
  simp (maxDischargeDepth := 30) [hs]

@[simp] theorem fcActivate_kept (p : Fin 2) (seq : Nat) (s : State) (hs : Kept a s) :
    Kept a (fcActivate p seq s) := by
  unfold fcActivate
  simp (maxDischargeDepth := 30) [hs]

@[simp] theorem fcSelftest_kept (s : State) (hs : Kept a s) :
    Kept a (fcSelftest s).2 := by
  unfold fcSelftest
  simp (maxDischargeDepth := 30) [hs]

@[simp] theorem fcStStatus_kept (s : State) (hs : Kept a s) :
    Kept a (fcStStatus s).2 := by
  unfold fcStStatus
  dsimp only
  (repeat' split) <;> simp (maxDischargeDepth := 30) [hs]

@[simp] theorem fcStCancel_kept (s : State) (hs : Kept a s) :
    Kept a (fcStCancel s).2 := by
  unfold fcStCancel
  (repeat' split) <;> simp (maxDischargeDepth := 30) [hs]

@[simp] theorem telemetrySend_kept (s : State) (hs : Kept a s) :
    Kept a (telemetrySend s) := by
  unfold telemetrySend
  (repeat' split) <;> simp (maxDischargeDepth := 30) [hs]

/-! ### Machine/HostAccess.lean -/

@[simp] theorem dropTopo_kept (s : State) (y1 : Nat) (n : Nat) (hs : Kept a s) :
    Kept a (dropTopo s y1 n) := by
  unfold dropTopo
  (repeat' split) <;> simp (maxDischargeDepth := 30) [hs]

@[simp] theorem landVestibule_kept (s : State) (p : Fin 2) (priv : Nat) (y3 : Nat) (bs : List Byte) (hs : Kept a s) :
    Kept a (landVestibule s p priv y3 bs) := by
  unfold landVestibule
  simp (maxDischargeDepth := 30) +contextual [hs]

@[simp] theorem landPeg_kept (s : State) (off : BitVec 17) (size : Size) (v : W64) (priv : Nat) (master : Nat) (hs : Kept a s) :
    Kept a (landPeg s off size v priv master) := by
  unfold landPeg
  extract_lets id r upper err s1 s2 s3
  have h1 : Kept a s1 := ite_kept _ _ _ (fun _ => lnPeg_kept _ _ _ _ _ _ hs) (fun _ => hs)
  clear_value s1
  have h2 : Kept a s2 := ite_kept _ _ _ (fun _ => logEvent_kept _ _ h1) (fun _ => h1)
  clear_value s2
  have h3 : Kept a s3 := ite_kept _ _ _ (fun _ => h2)
    (fun _ => hostPeg_kept _ _ _ _ _ (ite_kept _ _ _ (fun _ => lnAdd_kept _ _ _ _ h2) (fun _ => h2)))
  clear_value s3
  exact ite_kept _ _ _ (fun _ => hostPeg_kept _ _ _ _ _ h3) (fun _ => h3)

@[simp] theorem drainOne_kept (s : State) (p : Fin 2) (hs : Kept a s) :
    Kept a (drainOne s p) := by
  unfold drainOne
  (repeat' split) <;> simp (maxDischargeDepth := 30) [hs]

@[simp] theorem answerRead_kept (s : State) (p : Fin 2) (bs : List Byte) (ok : Bool) (hs : Kept a s) :
    Kept a (answerRead s p bs ok) := by
  unfold answerRead
  simp (maxDischargeDepth := 30) [hs]

@[simp] theorem drainReads_kept (s : State) (p : Fin 2) (hs : Kept a s) :
    Kept a (drainReads s p) := by
  unfold drainReads
  apply foldl_kept _ _ _ hs
  intro s x hs
  dsimp only
  (repeat' split) <;> simp (maxDischargeDepth := 30) [hs]

@[simp] theorem drainPort_kept (s : State) (p : Fin 2) (hs : Kept a s) :
    Kept a (drainPort s p) := by
  unfold drainPort
  simp (maxDischargeDepth := 30) +contextual [hs]

@[simp] theorem drainPorts_kept (s : State) (hs : Kept a s) :
    Kept a (drainPorts s) := by
  unfold drainPorts
  simp (maxDischargeDepth := 30) [hs]

@[simp] theorem unsupported_kept (s : State) (p : Fin 2) (event : Bool) (hs : Kept a s) :
    Kept a (unsupported s p event) := by
  unfold unsupported
  simp (maxDischargeDepth := 30) [hs]

@[simp] theorem postWrite_kept (s : State) (p : Fin 2) (w : Posted) (hs : Kept a s) :
    Kept a (postWrite s p w) := by
  unfold postWrite
  simp (maxDischargeDepth := 30) [hs]

@[simp] theorem weightWrite_kept (s : State) (p : Fin 2) (off : Nat) (bs : List Byte) (hs : Kept a s) :
    Kept a (weightWrite s p off bs) := by
  unfold weightWrite
  simp (maxDischargeDepth := 30) [hs]

@[simp] theorem vestPart_kept (s : State) (p : Fin 2) (off : Nat) (bs : List Byte) (hs : Kept a s) :
    Kept a (vestPart s p off bs) := by
  unfold vestPart
  simp (maxDischargeDepth := 30) [hs]

@[simp] theorem bar2Write_kept (s : State) (p : Fin 2) (off : Nat) (bs : List Byte) (poisoned : Bool) (hs : Kept a s) :
    Kept a (bar2Write s p off bs poisoned) := by
  unfold bar2Write
  simp (maxDischargeDepth := 30) [hs]

@[simp] theorem readPart_kept (s : State) (p : Fin 2) (req : Nat) (off : Nat) (n : Nat) (hs : Kept a s) :
    Kept a (readPart s p req off n) := by
  unfold readPart
  simp (maxDischargeDepth := 30) [hs]

@[simp] theorem bar2Read_kept (s : State) (p : Fin 2) (off : Nat) (n : Nat) (hs : Kept a s) :
    Kept a (bar2Read s p off n) := by
  unfold bar2Read
  simp (maxDischargeDepth := 30) [hs]

@[simp] theorem vestTimeout_kept (s : State) (p : Fin 2) (hs : Kept a s) :
    Kept a (vestTimeout s p) := by
  unfold vestTimeout
  (repeat' split) <;> simp (maxDischargeDepth := 30) [hs]

@[simp] theorem pegWrite_kept (s : State) (p : Fin 2) (off : BitVec 17) (size : Size) (v : W64) (hs : Kept a s) :
    Kept a (pegWrite s p off size v) := by
  unfold pegWrite
  simp (maxDischargeDepth := 30) [hs]

/-! ### Machine/RegisterAccess.lean -/

@[simp] theorem setLatch_kept (s : State) (q : Requester) (off : Nat) (v : Option W32) (hs : Kept a s) :
    Kept a (setLatch s q off v) := by
  unfold setLatch
  simp (maxDischargeDepth := 30) [hs]

@[simp] theorem clearRegion_kept (s : State) (r : Fin 32) (o : Nat) (hw : W64) (hs : Kept a s) :
    Kept a (clearRegion s r o hw) := by
  unfold clearRegion
  simp (maxDischargeDepth := 30) [hs]

@[simp] theorem countStalls_kept (s : State) (q : Nat) (hs : Kept a s) :
    Kept a (countStalls s q) := by
  unfold countStalls
  simp (maxDischargeDepth := 30) +contextual [hs]

@[simp] theorem clearRead_kept (s : State) (sp : RegSpec) (off : Nat) (hw : W64) (hs : Kept a s) :
    Kept a (clearRead s sp off hw) := by
  unfold clearRead
  simp (maxDischargeDepth := 30) [hs]

@[simp] theorem clearUpper_kept (s : State) (sp : RegSpec) (off : Nat) (hw : W64) (hs : Kept a s) :
    Kept a (clearUpper s sp off hw) := by
  unfold clearUpper
  simp (maxDischargeDepth := 30) [hs]

@[simp] theorem read4_kept (s : State) (q : Requester) (off : Nat) (hw : W64) (hs : Kept a s) :
    Kept a (read4 s q off hw).2 := by
  unfold read4
  (repeat' split) <;> simp (maxDischargeDepth := 30) [hs]

@[simp] theorem readBoth_kept (s : State) (q : Requester) (off : Nat) (hw : W64) (hs : Kept a s) :
    Kept a (readBoth s q off hw).2 := by
  unfold readBoth; dsimp only; exact read4_kept _ _ _ _ (read4_kept _ _ _ _ hs)

@[simp] theorem read8_kept (s : State) (q : Requester) (off : Nat) (hw : W64) (hs : Kept a s) :
    Kept a (read8 s q off hw).2 := by
  unfold read8
  split
  · split
    · exact clearRead_kept _ _ _ _ hs
    · exact readBoth_kept _ _ _ _ hs
  · exact readBoth_kept _ _ _ _ hs

@[simp] theorem lnRegister_kept (s : State) (q : Requester) (cls : Nat) (off : Nat) (n : Nat) (hs : Kept a s) :
    Kept a (lnRegister s q cls off n) := by
  unfold lnRegister
  simp (maxDischargeDepth := 30) [hs]

@[simp] theorem readPeg_kept (s : State) (q : Requester) (off : Nat) (size8 : Bool) (hs : Kept a s) :
    Kept a (readPeg s q off size8).2 := by
  unfold readPeg
  simp (maxDischargeDepth := 30) [hs]

@[simp] theorem readAccess_kept (s : State) (q : Requester) (off : Nat) (size8 : Bool) (hw : W64) (hs : Kept a s) :
    Kept a (readAccess s q off size8 hw) := by
  unfold readAccess
  simp (maxDischargeDepth := 30) [hs]

@[simp] theorem rangeRefused_kept (s : State) (off : Nat) (hs : Kept a s) :
    Kept a (rangeRefused s off) := by
  unfold rangeRefused
  simp (maxDischargeDepth := 30) [hs]

@[simp] theorem codedWrite_kept (s : State) (sp : RegSpec) (off : Nat) (v : W64) (hw : W64) (hs : Kept a s) :
    Kept a (codedWrite s sp off v hw) := by
  unfold codedWrite
  simp (maxDischargeDepth := 30) [hs]

@[simp] theorem writeRegion_kept (s : State) (r : Fin 32) (o : Nat) (v : W64) (hw : W64) (hs : Kept a s) :
    Kept a (writeRegion s r o v hw) := by
  unfold writeRegion
  simp (maxDischargeDepth := 30) +contextual [hs]

@[simp] theorem bunkCommand_kept (s : State) (v : W32) (hs : Kept a s) :
    Kept a (bunkCommand s v) := by
  unfold bunkCommand
  (repeat' split) <;> simp (maxDischargeDepth := 30) [hs]

@[simp] theorem firmwareCommand_kept (s : State) (p : Fin 2) (seq : BitVec 8) (op : Nat) (hs : Kept a s) :
    Kept a (firmwareCommand s p seq op) := by
  unfold firmwareCommand
  (repeat' split) <;> simp (maxDischargeDepth := 30) +contextual [hs]

@[simp] theorem leaseCommand_kept (s : State) (p : Fin 2) (op : Nat) (hs : Kept a s) :
    Kept a (leaseCommand s p op) := by
  unfold leaseCommand
  (repeat' split) <;> simp (maxDischargeDepth := 30) [hs]

@[simp] theorem pitchCommand_kept (s : State) (v : W32) (hs : Kept a s) :
    Kept a (pitchCommand s v) := by
  unfold pitchCommand; (try dsimp only); (repeat' split) <;> simp (maxDischargeDepth := 30) [hs]

@[simp] theorem trailCommand_kept (s : State) (v : W32) (hs : Kept a s) :
    Kept a (trailCommand s v) := by
  unfold trailCommand; (try dsimp only); (repeat' split) <;> simp (maxDischargeDepth := 30) [hs]

@[simp] theorem paceNext_kept (s : State) (q : Requester) (v : W32) (hs : Kept a s) :
    Kept a (paceNext s q v) := by
  unfold paceNext; (try dsimp only); (repeat' split) <;> simp (maxDischargeDepth := 30) [hs]

@[simp] theorem queueCommand_kept (s : State) (q : Nat) (v : W32) (hs : Kept a s) :
    Kept a (queueCommand s q v) := by
  unfold queueCommand; (try dsimp only); (repeat' split) <;> simp (maxDischargeDepth := 30) [hs]

@[simp] theorem portCommand_kept (s : State) (p : Fin 10) (v : W32) (hs : Kept a s) :
    Kept a (portCommand s p v) := by
  unfold portCommand; (try dsimp only); (repeat' split) <;> simp (maxDischargeDepth := 30) [hs]

@[simp] theorem actAfter_kept (s : State) (off : Nat) (v : W32) (hs : Kept a s) :
    Kept a (actAfter s off v) := by
  unfold actAfter; (try dsimp only); (repeat' split) <;> simp (maxDischargeDepth := 30) [hs]

theorem whistleWrite_kept (s : State) (o : Nat) (v : W32) (hw : W32) (hs : Kept a s) :
    ∀ t', (whistleWrite s o v hw) = some t' → Kept a t' := by
  unfold whistleWrite
  (repeat' split) <;> simp (maxDischargeDepth := 30) [hs]

@[simp] theorem write32_kept (s : State) (q : Requester) (sp : RegSpec) (off : Nat) (v : W32) (hw : W64) (hs : Kept a s) :
    Kept a (write32 s q sp off v hw) := by
  unfold write32
  extract_lets generic
  have hg : ∀ t, Kept a t → Kept a (generic t) := fun t ht => codedWrite_kept _ _ _ _ _ ht
  clear_value generic
  have hww : Kept a ((whistleWrite s (off % 0x100000) v (hw.setWidth 32)).getD (generic s)) := by
    have h := whistleWrite_kept s (off % 0x100000) v (hw.setWidth 32) hs
    cases e : whistleWrite s (off % 0x100000) v (hw.setWidth 32) with
    | none => exact hg _ hs
    | some t => exact h t e
  split
  · exact ite_kept _ _ _ (fun _ => paceNext_kept _ _ _ hs) (fun _ => hg _ hs)
  · exact hww
  · exact ite_kept _ _ _ (fun _ => portCommand_kept _ _ _ hs) (fun _ =>
      ite_kept _ _ _ (fun _ => selfCoordWrite_kept _ _ hs) (fun _ => hg _ hs))
  · split
    · split
      · exact leaseCommand_kept _ _ _ hs
      · exact hs
    · exact hg _ hs
  · exact ite_kept _ _ _ (fun _ => queueCommand_kept _ _ _ hs) (fun _ => hg _ hs)
  · exact ite_kept _ _ _ (fun _ => bunkCommand_kept _ _ hs) (fun _ =>
      ite_kept _ _ _ (fun _ => writeList_kept _ _ _ hs) (fun _ => actAfter_kept _ _ _ (hg _ hs)))
  · exact ite_kept _ _ _ (fun _ => pitchCommand_kept _ _ hs) (fun _ =>
      ite_kept _ _ _ (fun _ => trailCommand_kept _ _ hs) (fun _ => hg _ hs))
  · split
    · split
      · exact firmwareCommand_kept _ _ _ _ hs
      · exact hs
    · exact hg _ hs
  · exact ite_kept _ _ _ (fun _ => hs) (fun _ =>
      ite_kept _ _ _ (fun _ => writeCycle_kept _ _ _ hs) (fun _ => actAfter_kept _ _ _ (hg _ hs)))
  · exact actAfter_kept _ _ _ (hg _ hs)
  · exact ite_kept _ _ _ (fun _ => writeRegion_kept _ _ _ _ _ hs) (fun _ => hg _ hs)

@[simp] theorem write64_kept (s : State) (q : Requester) (sp : RegSpec) (off : Nat) (w : HalfWrite) (hw : W64) (hs : Kept a s) :
    Kept a (write64 s q sp off w hw) := by
  have h1 : Kept a (formHalf s q off w).2 := by simp [hs]
  unfold write64
  refine ite_kept _ _ _ (fun _ => writePaceAt_kept _ _ _ hs) fun _ => ite_kept _ _ _ (fun _ => armLaunch_kept _ _ _ hs) fun _ =>
    ite_kept _ _ _ (fun _ => stopAtSend_kept _ _ _ hs) fun _ => ite_kept _ _ _ (fun _ => writePtpOffset_kept _ _ _ hs) fun _ =>
    ite_kept _ _ _ (fun _ => gearPush_kept _ _ _ hs) fun _ => ite_kept _ _ _ (fun _ => freezeArm_kept _ _ _ hs) fun _ =>
    ite_kept _ _ _ (fun _ => setReg_kept _ _ _ h1) fun _ => ite_kept _ _ _ (fun _ => addFailures_kept _ _ h1) fun _ => ?_
  dsimp only
  (repeat' split) <;> simp (maxDischargeDepth := 30) [h1]

@[simp] theorem writeMsix_kept (s : State) (q : Requester) (off : Nat) (v : W32) (hs : Kept a s) :
    Kept a (writeMsix s q off v) := by
  unfold writeMsix
  split
  · exact hs
  · exact msixFlush_kept _ _ (modHost_kept _ _ _ hs)

@[simp] theorem writeBuffer_kept (s : State) (off : Nat) (v : W32) (hs : Kept a s) :
    Kept a (writeBuffer s off v) := by
  exact setField_kept _ _ _ _ _ hs

@[simp] theorem write4_kept (s : State) (q : Requester) (off : Nat) (v : W32) (hw : W64) (hs : Kept a s) :
    Kept a (write4 s q off v hw) := by
  unfold write4
  refine ite_kept _ _ _ (fun _ => writeMsix_kept _ _ _ _ hs) fun _ => ?_
  refine ite_kept _ _ _ (fun _ => logEvent_kept _ _ hs) fun _ => ?_
  refine ite_kept _ _ _ (fun _ => writeBuffer_kept _ _ _ hs) fun _ => ?_
  split
  · exact ite_kept _ _ _ (fun _ => write32_kept _ _ _ _ _ _ hs) (fun _ => mk_kept _ (dropHalf_kept _ _ _ hs) ..)
  · split
    · exact ite_kept _ _ _ (fun _ => write64_kept _ _ _ _ _ _ hs) (fun _ => hs)
    · exact hs

@[simp] theorem writeServed_kept (s : State) (q : Requester) (off : Nat) (size8 : Bool) (v : W64) (hw : W64) (hs : Kept a s) :
    Kept a (writeServed s q off size8 v hw) := by
  have h4 : ∀ t o x y, Kept a t → Kept a (write4 t q o x y) := fun t o x y ht => write4_kept _ _ _ _ _ ht
  unfold writeServed
  refine ite_kept _ _ _ (fun _ => h4 _ _ _ _ hs) fun _ => ?_
  split
  · exact ite_kept _ _ _ (fun _ => ite_kept _ _ _ (fun _ => logEvent_kept _ _ hs) (fun _ => write64_kept _ _ _ _ _ _ hs))
      (fun _ => h4 _ _ _ _ (h4 _ _ _ _ hs))
  · exact h4 _ _ _ _ (h4 _ _ _ _ hs)

@[simp] theorem writePegWindow_kept (s : State) (q : Requester) (off : Nat) (size : Size) (v : W64) (hs : Kept a s) :
    Kept a (writePegWindow s q off size v) := by
  unfold writePegWindow
  extract_lets o
  split
  · exact pegWrite_kept _ _ _ _ _ hs
  · exact ite_kept _ _ _ (fun _ => landPeg_kept _ _ _ _ _ _ hs) (fun _ => logEvent_kept _ _ hs)

theorem writeBarred_kept (s : State) (q : Requester) (off : Nat) (hs : Kept a s) :
    ∀ t', (writeBarred s q off) = some t' → Kept a t' := by
  intro t ht
  unfold writeBarred at ht
  split at ht
  · cases ht; exact hs
  · split at ht
    · exact absurd ht (by simp)
    · split at ht
      · exact absurd ht (by simp)
      · cases ht; exact dropWrite_kept _ _ hs

@[simp] theorem writeAccess_kept (s : State) (q : Requester) (off : Nat) (size8 : Bool) (v : W64) (hw : W64) (hs : Kept a s) :
    Kept a (writeAccess s q off size8 v hw) := by
  unfold writeAccess
  refine ite_kept _ _ _ (fun _ => ite_kept _ _ _ (fun _ => hs) (fun _ => writePegWindow_kept _ _ _ _ _ hs)) fun _ => ?_
  extract_lets n s1
  have h1 : Kept a s1 := hostBytes_kept _ _ _ _ hs
  split
  · rename_i t e
    exact writeBarred_kept s1 q off h1 t e
  · exact ite_kept _ _ _ (fun _ => writeServed_kept _ _ _ _ _ _ (lnRegister_kept _ _ _ _ _ h1)) (fun _ => h1)

@[simp] theorem oddAccess_kept (s : State) (q : Requester) (off : Nat) (size : Size) (write : Bool) (hs : Kept a s) :
    Kept a (oddAccess s q off size write) := by
  unfold oddAccess
  extract_lets peg
  have hp : ∀ t, Kept a t → Kept a (peg t) := fun t ht => ite_kept _ _ _ (fun _ => logEvent_kept _ _ ht) (fun _ => ht)
  clear_value peg
  split
  · split
    · rename_i t e
      exact writeBarred_kept _ _ _ (hostBytes_kept _ _ _ _ hs) t e
    · exact hp _ (hostBytes_kept _ _ _ _ hs)
  · exact answer_kept _ _ _ (hp _ (hostBytes_kept _ _ _ _ hs))

@[simp] theorem ordinary_kept (s : State) (q : Requester) (off : Nat) (size8 : Bool) (write : Bool) (v : W64) (hs : Kept a s) :
    Kept a (ordinary s q off size8 write v) := by
  unfold ordinary
  simp (maxDischargeDepth := 30) [hs]

/-! ### Machine/Idle.lean -/

@[simp] theorem countHeld_kept (s : State) (hs : Kept a s) :
    Kept a (countHeld s) := by
  unfold countHeld
  simp (maxDischargeDepth := 30) [hs]

end Sys2Proof.Machine
end

