-- ==== Sys2Proof/Laws/KeptMeanings.lean ====
section
/-!
SUPPORT. Laws/KeptMeanings.lean: what is kept by each meaning that answers a next state.
-/

namespace Sys2Proof.Machine

set_option Elab.async false

variable {a : State}

theorem direct_kept (s : State) (r : Fin 32) (i : Instr) (f : Ctx → State → State) (hs : Kept a s)
    (hf : ∀ (z0 : Ctx) (z1 : State), Kept a z1 → Kept a (f z0 z1)) :
    ∀ t', (direct s r i f) = .next t' → Kept a t' := by
  intro t ht; unfold direct at ht; (repeat' split at ht) <;> simp at ht <;> subst ht <;> simp (maxDischargeDepth := 30) +contextual [hs, hf]

theorem directThru_kept (s : State) (r : Fin 32) (i : Instr) (f : Ctx → State → State) (hs : Kept a s)
    (hf : ∀ (z0 : Ctx) (z1 : State), Kept a z1 → Kept a (f z0 z1)) :
    ∀ t', (directThru s r i f) = .next t' → Kept a t' := by
  intro t ht; unfold directThru at ht; (repeat' split at ht) <;> simp at ht <;> subst ht <;> simp (maxDischargeDepth := 30) +contextual [hs, hf]

theorem execSloadWeights_kept (r : Fin 32) (c : Fin 8) (sack : BitVec 2) (line : BitVec 13) (nrows : BitVec 7) (s : State) (hs : Kept a s) :
    ∀ t', (execSloadWeights r c sack line nrows s) = .next t' → Kept a t' := by
  intro t' ht
  unfold execSloadWeights at ht
  exact direct_kept _ _ _ _ hs (by simp (maxDischargeDepth := 30) +contextual) t' ht

theorem execSloadRawAdd_kept (r : Fin 32) (c : Fin 8) (sack : BitVec 2) (line : BitVec 13) (nrows : BitVec 7) (acc : BitVec 4) (s : State)
    (hs : Kept a s) :
    ∀ t', (execSloadRawAdd r c sack line nrows acc s) = .next t' → Kept a t' := by
  intro t' ht
  unfold execSloadRawAdd at ht
  exact direct_kept _ _ _ _ hs (by simp (maxDischargeDepth := 30) +contextual) t' ht

theorem execSmxsWeightScales_kept (r : Fin 32) (c : Fin 8) (sack : BitVec 2) (line : BitVec 13) (s : State) (hs : Kept a s) :
    ∀ t', (execSmxsWeightScales r c sack line s) = .next t' → Kept a t' := by
  intro t' ht
  unfold execSmxsWeightScales at ht
  exact direct_kept _ _ _ _ hs (by simp (maxDischargeDepth := 30) +contextual) t' ht

theorem execSmxsAsb_kept (r : Fin 32) (c : Fin 8) (sack : BitVec 2) (line : BitVec 13) (s : State) (hs : Kept a s) :
    ∀ t', (execSmxsAsb r c sack line s) = .next t' → Kept a t' := by
  intro t' ht
  unfold execSmxsAsb at ht
  exact direct_kept _ _ _ _ hs (by simp (maxDischargeDepth := 30) +contextual) t' ht

theorem execSfmt_kept (r : Fin 32) (c : Fin 8) (wfmt : BitVec 4) (afmt : BitVec 4) (both : Bool) (keyld : Bool) (sack : BitVec 2)
    (line : BitVec 13) (s : State) (hs : Kept a s) :
    ∀ t', (execSfmt r c wfmt afmt both keyld sack line s) = .next t' → Kept a t' := by
  intro t' ht
  unfold execSfmt at ht
  exact direct_kept _ _ _ _ hs (by simp (maxDischargeDepth := 30) +contextual) t' ht

theorem execSmac_kept (r : Fin 32) (c : Fin 8) (sack : BitVec 2) (line : BitVec 13) (acc : BitVec 4) (nvec : BitVec 4) (asb : BitVec 7)
    (flip : Bool) (s : State) (hs : Kept a s) :
    ∀ t', (execSmac r c sack line acc nvec asb flip s) = .next t' → Kept a t' := by
  intro t' ht
  unfold execSmac at ht
  exact direct_kept _ _ _ _ hs (by simp (maxDischargeDepth := 30) +contextual) t' ht

theorem execSout_kept (r : Fin 32) (c : Fin 8) (acc : BitVec 4) (sack : BitVec 2) (line : BitVec 13) (ofmt : BitVec 4) (rmode : Bool)
    (sat : Bool) (clr : Bool) (oscale : BitVec 9) (sline : BitVec 13) (s : State) (hs : Kept a s) :
    ∀ t', (execSout r c acc sack line ofmt rmode sat clr oscale sline s) = .next t' → Kept a t' := by
  intro t' ht
  unfold execSout at ht
  exact direct_kept _ _ _ _ hs (by simp (maxDischargeDepth := 30) +contextual) t' ht

theorem execSclr_kept (r : Fin 32) (c : Fin 8) (banks : BitVec 16) (asb : Bool) (planes : Bool) (key : Bool) (s : State) (hs : Kept a s) :
    ∀ t', (execSclr r c banks asb planes key s) = .next t' → Kept a t' := by
  intro t' ht
  unfold execSclr at ht
  exact direct_kept _ _ _ _ hs (by simp (maxDischargeDepth := 30) +contextual) t' ht

theorem execKadd_kept (r : Fin 32) (u : Fin 16) (o : KOps) (s : State) (hs : Kept a s) :
    ∀ t', (execKadd r u o s) = .next t' → Kept a t' := by
  intro t' ht
  unfold execKadd at ht
  exact direct_kept _ _ _ _ hs (by simp (maxDischargeDepth := 30) +contextual) t' ht

theorem execKmul_kept (r : Fin 32) (u : Fin 16) (o : KOps) (s : State) (hs : Kept a s) :
    ∀ t', (execKmul r u o s) = .next t' → Kept a t' := by
  intro t' ht
  unfold execKmul at ht
  exact direct_kept _ _ _ _ hs (by simp (maxDischargeDepth := 30) +contextual) t' ht

theorem execKfma_kept (r : Fin 32) (u : Fin 16) (o : KOps) (s : State) (hs : Kept a s) :
    ∀ t', (execKfma r u o s) = .next t' → Kept a t' := by
  intro t' ht
  unfold execKfma at ht
  exact direct_kept _ _ _ _ hs (by simp (maxDischargeDepth := 30) +contextual) t' ht

theorem execKmax_kept (r : Fin 32) (u : Fin 16) (o : KOps) (s : State) (hs : Kept a s) :
    ∀ t', (execKmax r u o s) = .next t' → Kept a t' := by
  intro t' ht
  unfold execKmax at ht
  exact direct_kept _ _ _ _ hs (by simp (maxDischargeDepth := 30) +contextual) t' ht

theorem execKmin_kept (r : Fin 32) (u : Fin 16) (o : KOps) (s : State) (hs : Kept a s) :
    ∀ t', (execKmin r u o s) = .next t' → Kept a t' := by
  intro t' ht
  unfold execKmin at ht
  exact direct_kept _ _ _ _ hs (by simp (maxDischargeDepth := 30) +contextual) t' ht

theorem execKsel_kept (r : Fin 32) (u : Fin 16) (o : KOps) (s : State) (hs : Kept a s) :
    ∀ t', (execKsel r u o s) = .next t' → Kept a t' := by
  intro t' ht
  unfold execKsel at ht
  exact direct_kept _ _ _ _ hs (by simp (maxDischargeDepth := 30) +contextual) t' ht

theorem execKcmp_kept (r : Fin 32) (u : Fin 16) (o : KOps) (s : State) (hs : Kept a s) :
    ∀ t', (execKcmp r u o s) = .next t' → Kept a t' := by
  intro t' ht
  unfold execKcmp at ht
  exact direct_kept _ _ _ _ hs (by simp (maxDischargeDepth := 30) +contextual) t' ht

theorem execKcvt_kept (r : Fin 32) (u : Fin 16) (o : KOps) (s : State) (hs : Kept a s) :
    ∀ t', (execKcvt r u o s) = .next t' → Kept a t' := by
  intro t' ht
  unfold execKcvt at ht
  exact direct_kept _ _ _ _ hs (by simp (maxDischargeDepth := 30) +contextual) t' ht

theorem execKexp2_kept (r : Fin 32) (u : Fin 16) (o : KOps) (s : State) (hs : Kept a s) :
    ∀ t', (execKexp2 r u o s) = .next t' → Kept a t' := by
  intro t' ht
  unfold execKexp2 at ht
  exact direct_kept _ _ _ _ hs (by simp (maxDischargeDepth := 30) +contextual) t' ht

theorem execKlog2_kept (r : Fin 32) (u : Fin 16) (o : KOps) (s : State) (hs : Kept a s) :
    ∀ t', (execKlog2 r u o s) = .next t' → Kept a t' := by
  intro t' ht
  unfold execKlog2 at ht
  exact direct_kept _ _ _ _ hs (by simp (maxDischargeDepth := 30) +contextual) t' ht

theorem execKrcp_kept (r : Fin 32) (u : Fin 16) (o : KOps) (s : State) (hs : Kept a s) :
    ∀ t', (execKrcp r u o s) = .next t' → Kept a t' := by
  intro t' ht
  unfold execKrcp at ht
  exact direct_kept _ _ _ _ hs (by simp (maxDischargeDepth := 30) +contextual) t' ht

theorem execKrsq_kept (r : Fin 32) (u : Fin 16) (o : KOps) (s : State) (hs : Kept a s) :
    ∀ t', (execKrsq r u o s) = .next t' → Kept a t' := by
  intro t' ht
  unfold execKrsq at ht
  exact direct_kept _ _ _ _ hs (by simp (maxDischargeDepth := 30) +contextual) t' ht

theorem execKtanh_kept (r : Fin 32) (u : Fin 16) (o : KOps) (s : State) (hs : Kept a s) :
    ∀ t', (execKtanh r u o s) = .next t' → Kept a t' := by
  intro t' ht
  unfold execKtanh at ht
  exact direct_kept _ _ _ _ hs (by simp (maxDischargeDepth := 30) +contextual) t' ht

theorem execKsum_kept (r : Fin 32) (u : Fin 16) (o : KOps) (s : State) (hs : Kept a s) :
    ∀ t', (execKsum r u o s) = .next t' → Kept a t' := by
  intro t' ht
  unfold execKsum at ht
  exact direct_kept _ _ _ _ hs (by simp (maxDischargeDepth := 30) +contextual) t' ht

theorem execKmerge_kept (r : Fin 32) (u : Fin 16) (o : KOps) (s : State) (hs : Kept a s) :
    ∀ t', (execKmerge r u o s) = .next t' → Kept a t' := by
  intro t' ht
  unfold execKmerge at ht
  exact direct_kept _ _ _ _ hs (by simp (maxDischargeDepth := 30) +contextual) t' ht

theorem execKidxArgmax_kept (r : Fin 32) (u : Fin 16) (o : KOps) (s : State) (hs : Kept a s) :
    ∀ t', (execKidxArgmax r u o s) = .next t' → Kept a t' := by
  intro t' ht
  unfold execKidxArgmax at ht
  exact direct_kept _ _ _ _ hs (by simp (maxDischargeDepth := 30) +contextual) t' ht

theorem execKidxCumsel_kept (r : Fin 32) (u : Fin 16) (o : KOps) (s : State) (hs : Kept a s) :
    ∀ t', (execKidxCumsel r u o s) = .next t' → Kept a t' := by
  intro t' ht
  unfold execKidxCumsel at ht
  exact direct_kept _ _ _ _ hs (by simp (maxDischargeDepth := 30) +contextual) t' ht

theorem execKrng_kept (r : Fin 32) (u : Fin 16) (o : KOps) (s : State) (hs : Kept a s) :
    ∀ t', (execKrng r u o s) = .next t' → Kept a t' := by
  intro t' ht
  unfold execKrng at ht
  exact direct_kept _ _ _ _ hs (by simp (maxDischargeDepth := 30) +contextual) t' ht

theorem execKsrSackToRegister_kept (r : Fin 32) (u : Fin 16) (sack : BitVec 2) (line : BitVec 13) (reg : BitVec 5) (half : Bool) (s : State)
    (hs : Kept a s) :
    ∀ t', (execKsrSackToRegister r u sack line reg half s) = .next t' → Kept a t' := by
  intro t' ht
  unfold execKsrSackToRegister at ht
  exact direct_kept _ _ _ _ hs (by simp (maxDischargeDepth := 30) +contextual) t' ht

theorem execKsrRegisterToSack_kept (r : Fin 32) (u : Fin 16) (sack : BitVec 2) (line : BitVec 13) (reg : BitVec 5) (half : Bool) (s : State)
    (hs : Kept a s) :
    ∀ t', (execKsrRegisterToSack r u sack line reg half s) = .next t' → Kept a t' := by
  intro t' ht
  unfold execKsrRegisterToSack at ht
  exact direct_kept _ _ _ _ hs (by simp (maxDischargeDepth := 30) +contextual) t' ht

theorem execKsrRegisterCopy_kept (r : Fin 32) (u : Fin 16) (dst : BitVec 5) (src : BitVec 5) (bcast : Bool) (lane : BitVec 6) (s : State)
    (hs : Kept a s) :
    ∀ t', (execKsrRegisterCopy r u dst src bcast lane s) = .next t' → Kept a t' := by
  intro t' ht
  unfold execKsrRegisterCopy at ht
  exact direct_kept _ _ _ _ hs (by simp (maxDischargeDepth := 30) +contextual) t' ht

theorem execKsrKeyLoad_kept (r : Fin 32) (u : Fin 16) (sack : BitVec 2) (line : BitVec 13) (s : State) (hs : Kept a s) :
    ∀ t', (execKsrKeyLoad r u sack line s) = .next t' → Kept a t' := by
  intro t' ht
  unfold execKsrKeyLoad at ht
  exact direct_kept _ _ _ _ hs (by simp (maxDischargeDepth := 30) +contextual) t' ht

theorem execSrd_kept (r : Fin 32) (k : Fin 32) (dsack : BitVec 5) (line : BitVec 13) (dline : BitVec 13) (nlines : BitVec 13) (s : State)
    (hs : Kept a s) :
    ∀ t', (execSrd r k dsack line dline nlines s) = .next t' → Kept a t' := by
  intro t' ht
  unfold execSrd at ht
  exact direct_kept _ _ _ _ hs (by simp (maxDischargeDepth := 30) +contextual) t' ht

theorem execSwrFill_kept (r : Fin 32) (k : Fin 32) (line : BitVec 13) (nlines : BitVec 13) (imm : BitVec 16) (s : State) (hs : Kept a s) :
    ∀ t', (execSwrFill r k line nlines imm s) = .next t' → Kept a t' := by
  intro t' ht
  unfold execSwrFill at ht
  exact direct_kept _ _ _ _ hs (by simp (maxDischargeDepth := 30) +contextual) t' ht

theorem execSwrPegSnapshot_kept (r : Fin 32) (k : Fin 32) (line : BitVec 13) (peg : BitVec 9) (s : State) (hs : Kept a s) :
    ∀ t', (execSwrPegSnapshot r k line peg s) = .next t' → Kept a t' := by
  intro t' ht
  unfold execSwrPegSnapshot at ht
  exact direct_kept _ _ _ _ hs (by simp (maxDischargeDepth := 30) +contextual) t' ht

theorem execSgath_kept (r : Fin 32) (k : Fin 32) (iline : BitVec 13) (dsack : BitVec 5) (dline : BitVec 13) (base : BitVec 8)
    (wbits : BitVec 4) (nidx : BitVec 5) (s : State) (hs : Kept a s) :
    ∀ t', (execSgath r k iline dsack dline base wbits nidx s) = .next t' → Kept a t' := by
  intro t' ht
  unfold execSgath at ht
  exact direct_kept _ _ _ _ hs (by simp (maxDischargeDepth := 30) +contextual) t' ht

theorem execPass_kept (r : Fin 32) (f : Fin 7) (ssack : BitVec 5) (sline : BitVec 13) (dsack : BitVec 5) (dline : BitVec 13)
    (nlines : BitVec 8) (s : State) (hs : Kept a s) :
    ∀ t', (execPass r f ssack sline dsack dline nlines s) = .next t' → Kept a t' := by
  intro t' ht
  unfold execPass at ht
  exact direct_kept _ _ _ _ hs (by simp (maxDischargeDepth := 30) +contextual) t' ht

theorem execSend_kept (r : Fin 32) (f : Fin 7) (ssack : BitVec 5) (sline : BitVec 13) (wid : BitVec 3) (seq0 : BitVec 16)
    (nlines : BitVec 8) (s : State) (hs : Kept a s) :
    ∀ t', (execSend r f ssack sline wid seq0 nlines s) = .next t' → Kept a t' := by
  intro t' ht
  unfold execSend at ht
  exact direct_kept _ _ _ _ hs (by simp (maxDischargeDepth := 30) +contextual) t' ht

theorem execRwinOpen_kept (r : Fin 32) (f : Fin 7) (wid : BitVec 3) (dsack : BitVec 5) (base : BitVec 13) (len : BitVec 13) (peg : BitVec 9)
    (s : State) (hs : Kept a s) :
    ∀ t', (execRwinOpen r f wid dsack base len peg s) = .next t' → Kept a t' := by
  intro t' ht
  unfold execRwinOpen at ht
  exact direct_kept _ _ _ _ hs (by simp (maxDischargeDepth := 30) +contextual) t' ht

theorem execRwinClose_kept (r : Fin 32) (f : Fin 7) (wid : BitVec 3) (s : State) (hs : Kept a s) :
    ∀ t', (execRwinClose r f wid s) = .next t' → Kept a t' := by
  intro t' ht
  unfold execRwinClose at ht
  exact direct_kept _ _ _ _ hs (by simp (maxDischargeDepth := 30) +contextual) t' ht

theorem execThru_kept (r : Fin 32) (f : Fin 7) (inn : BitVec 3) (nbeats : BitVec 8) (dly : BitVec 4) (s : State) (hs : Kept a s) :
    ∀ t', (execThru r f inn nbeats dly s) = .next t' → Kept a t' := by
  intro t' ht
  unfold execThru at ht
  exact directThru_kept _ _ _ _ hs (by simp (maxDischargeDepth := 30) +contextual) t' ht

theorem execPinc_kept (r : Fin 32) (peg : BitVec 9) (amount : BitVec 16) (s : State) (hs : Kept a s) :
    ∀ t', (execPinc r peg amount s) = .next t' → Kept a t' := by
  intro t' ht
  unfold execPinc at ht
  exact direct_kept _ _ _ _ hs (by simp (maxDischargeDepth := 30) +contextual) t' ht

theorem execPsetCount_kept (r : Fin 32) (peg : BitVec 9) (value : BitVec 32) (s : State) (hs : Kept a s) :
    ∀ t', (execPsetCount r peg value s) = .next t' → Kept a t' := by
  intro t' ht
  unfold execPsetCount at ht
  exact direct_kept _ _ _ _ hs (by simp (maxDischargeDepth := 30) +contextual) t' ht

theorem execPsetMark_kept (r : Fin 32) (peg : BitVec 9) (value : BitVec 32) (s : State) (hs : Kept a s) :
    ∀ t', (execPsetMark r peg value s) = .next t' → Kept a t' := by
  intro t' ht
  unfold execPsetMark at ht
  exact direct_kept _ _ _ _ hs (by simp (maxDischargeDepth := 30) +contextual) t' ht

theorem execPerrSet_kept (r : Fin 32) (peg : BitVec 9) (s : State) (hs : Kept a s) :
    ∀ t', (execPerrSet r peg s) = .next t' → Kept a t' := by
  intro t' ht
  unfold execPerrSet at ht
  exact direct_kept _ _ _ _ hs (by simp (maxDischargeDepth := 30) +contextual) t' ht

theorem execPerrClear_kept (r : Fin 32) (peg : BitVec 9) (s : State) (hs : Kept a s) :
    ∀ t', (execPerrClear r peg s) = .next t' → Kept a t' := by
  intro t' ht
  unfold execPerrClear at ht
  exact direct_kept _ _ _ _ hs (by simp (maxDischargeDepth := 30) +contextual) t' ht

theorem execPwait_kept (r : Fin 32) (peg : BitVec 9) (rel : Bool) (adv : Bool) (t : BitVec 24) (s : State) (hs : Kept a s) :
    ∀ t', (execPwait r peg rel adv t s) = .next t' → Kept a t' := by
  intro t' ht
  unfold execPwait at ht
  exact direct_kept _ _ _ _ hs (by simp (maxDischargeDepth := 30) +contextual) t' ht

theorem execPwaitRecheck_kept (r : Fin 32) (s : State) (hs : Kept a s) :
    ∀ t', (execPwaitRecheck r s) = .next t' → Kept a t' := by
  intro t' ht
  unfold execPwaitRecheck at ht
  injection ht with ht
  subst ht
  simp (maxDischargeDepth := 30) [hs]

theorem execPegWaitLimit_kept (r : Fin 32) (s : State) (hs : Kept a s) :
    ∀ t', (execPegWaitLimit r s) = .next t' → Kept a t' := by
  intro t' ht
  unfold execPegWaitLimit at ht
  injection ht with ht
  subst ht
  simp (maxDischargeDepth := 30) [hs]

theorem execParmArm_kept (r : Fin 32) (peg : BitVec 9) (rel : Bool) (nsrc : BitVec 2) (t : BitVec 24) (s : State) (hs : Kept a s) :
    ∀ t', (execParmArm r peg rel nsrc t s) = .next t' → Kept a t' := by
  intro t' ht
  unfold execParmArm at ht
  exact direct_kept _ _ _ _ hs (by simp (maxDischargeDepth := 30) +contextual) t' ht

theorem execParmDisarm_kept (r : Fin 32) (peg : BitVec 9) (s : State) (hs : Kept a s) :
    ∀ t', (execParmDisarm r peg s) = .next t' → Kept a t' := by
  intro t' ht
  unfold execParmDisarm at ht
  exact direct_kept _ _ _ _ hs (by simp (maxDischargeDepth := 30) +contextual) t' ht

theorem execPatrolScrub_kept (s : State) (hs : Kept a s) :
    ∀ t', (execPatrolScrub s) = .next t' → Kept a t' := by
  intro t' ht
  unfold execPatrolScrub at ht
  injection ht with ht
  subst ht
  simp (maxDischargeDepth := 30) [hs]

theorem execBread_kept (q : Fin 64) (k : Fin 32) (s : State) (hs : Kept a s) :
    ∀ t', (execBread q k s) = .next t' → Kept a t' := by
  intro t' ht
  unfold execBread at ht
  injection ht with ht
  subst ht
  simp (maxDischargeDepth := 30) +contextual [hs]

theorem execBwrite_kept (q : Fin 64) (k : Fin 32) (s : State) (hs : Kept a s) :
    ∀ t', (execBwrite q k s) = .next t' → Kept a t' := by
  intro t' ht
  unfold execBwrite at ht
  injection ht with ht
  subst ht
  simp (maxDischargeDepth := 30) +contextual [hs]

theorem execHread_kept (q : Fin 64) (k : Fin 32) (data : List Byte) (err : Bool) (s : State) (hs : Kept a s) :
    ∀ t', (execHread q k data err s) = .next t' → Kept a t' := by
  intro t' ht
  unfold execHread at ht
  injection ht with ht
  subst ht
  simp (maxDischargeDepth := 30) +contextual [hs]

theorem execHwrite_kept (q : Fin 64) (k : Fin 32) (err : Bool) (s : State) (hs : Kept a s) :
    ∀ t', (execHwrite q k err s) = .next t' → Kept a t' := by
  intro t' ht
  unfold execHwrite at ht
  injection ht with ht
  subst ht
  simp (maxDischargeDepth := 30) +contextual [hs]

theorem execFill_kept (q : Fin 64) (k : Fin 32) (s : State) (hs : Kept a s) :
    ∀ t', (execFill q k s) = .next t' → Kept a t' := by
  intro t' ht
  unfold execFill at ht
  injection ht with ht
  subst ht
  simp (maxDischargeDepth := 30) +contextual [hs]

theorem execSpill_kept (q : Fin 64) (k : Fin 32) (s : State) (hs : Kept a s) :
    ∀ t', (execSpill q k s) = .next t' → Kept a t' := by
  intro t' ht
  unfold execSpill at ht
  injection ht with ht
  subst ht
  simp (maxDischargeDepth := 30) +contextual [hs]

theorem execScrub_kept (q : Fin 64) (k : Fin 32) (s : State) (hs : Kept a s) :
    ∀ t', (execScrub q k s) = .next t' → Kept a t' := by
  intro t' ht
  unfold execScrub at ht
  injection ht with ht
  subst ht
  simp (maxDischargeDepth := 30) +contextual [hs]

theorem execCairn_kept (q : Fin 64) (k : Fin 32) (s : State) (hs : Kept a s) :
    ∀ t', (execCairn q k s) = .next t' → Kept a t' := by
  intro t' ht
  unfold execCairn at ht
  injection ht with ht
  subst ht
  simp (maxDischargeDepth := 30) +contextual [hs]

theorem execFarCompletion_kept (q : Fin 64) (k : Fin 32) (s : State) (hs : Kept a s) :
    ∀ t', (execFarCompletion q k s) = .next t' → Kept a t' := by
  intro t' ht
  unfold execFarCompletion at ht
  injection ht with ht
  subst ht
  simp (maxDischargeDepth := 30) [hs]

theorem execHubWindowArrival_kept (y0 : Fin 2) (flip : Option (BitVec 11)) (s : State) (hs : Kept a s) :
    ∀ t', (execHubWindowArrival y0 flip s) = .next t' → Kept a t' := by
  intro t' ht
  unfold execHubWindowArrival at ht
  injection ht with ht
  subst ht
  simp (maxDischargeDepth := 30) [hs]

theorem execFqEnable_kept (w : Requester) (q : Fin 64) (s : State) (hs : Kept a s) :
    ∀ t', (execFqEnable w q s) = .next t' → Kept a t' := by
  intro t' ht
  unfold execFqEnable at ht
  injection ht with ht
  subst ht
  simp (maxDischargeDepth := 30) +contextual [hs]

theorem execFqDisable_kept (w : Requester) (q : Fin 64) (s : State) (hs : Kept a s) :
    ∀ t', (execFqDisable w q s) = .next t' → Kept a t' := by
  intro t' ht
  unfold execFqDisable at ht
  injection ht with ht
  subst ht
  simp (maxDischargeDepth := 30) +contextual [hs]

theorem execFqForceDisable_kept (w : Requester) (q : Fin 64) (s : State) (hs : Kept a s) :
    ∀ t', (execFqForceDisable w q s) = .next t' → Kept a t' := by
  intro t' ht
  unfold execFqForceDisable at ht
  injection ht with ht
  subst ht
  simp (maxDischargeDepth := 30) +contextual [hs]

theorem execFqDisableEffect_kept (q : Fin 64) (s : State) (hs : Kept a s) :
    ∀ t', (execFqDisableEffect q s) = .next t' → Kept a t' := by
  intro t' ht
  unfold execFqDisableEffect at ht
  injection ht with ht
  subst ht
  simp (maxDischargeDepth := 30) [hs]

theorem execStage_kept (w : Requester) (s : State) (hs : Kept a s) :
    ∀ t', (execStage w s) = .next t' → Kept a t' := by
  intro t' ht
  unfold execStage at ht
  injection ht with ht
  subst ht
  simp (maxDischargeDepth := 30) +contextual [hs]

theorem execStageComplete_kept (s : State) (hs : Kept a s) :
    ∀ t', (execStageComplete s) = .next t' → Kept a t' := by
  intro t' ht
  unfold execStageComplete at ht
  injection ht with ht
  subst ht
  simp (maxDischargeDepth := 30) [hs]

theorem execBunkLoad_kept (w : Requester) (i : BitVec 16) (s : State) (hs : Kept a s) :
    ∀ t', (execBunkLoad w i s) = .next t' → Kept a t' := by
  intro t' ht
  unfold execBunkLoad at ht
  injection ht with ht
  subst ht
  simp (maxDischargeDepth := 30) +contextual [hs]

theorem execEvict_kept (w : Requester) (i : BitVec 16) (s : State) (hs : Kept a s) :
    ∀ t', (execEvict w i s) = .next t' → Kept a t' := by
  intro t' ht
  unfold execEvict at ht
  injection ht with ht
  subst ht
  simp (maxDischargeDepth := 30) +contextual [hs]

theorem execInval_kept (w : Requester) (i : BitVec 16) (s : State) (hs : Kept a s) :
    ∀ t', (execInval w i s) = .next t' → Kept a t' := by
  intro t' ht
  unfold execInval at ht
  injection ht with ht
  subst ht
  simp (maxDischargeDepth := 30) +contextual [hs]

theorem execFlush_kept (w : Requester) (s : State) (hs : Kept a s) :
    ∀ t', (execFlush w s) = .next t' → Kept a t' := by
  intro t' ht
  unfold execFlush at ht
  injection ht with ht
  subst ht
  simp (maxDischargeDepth := 30) +contextual [hs]

theorem execBkListWrite_kept (w : Requester) (i : Fin 33) (v : BitVec 32) (s : State) (hs : Kept a s) :
    ∀ t', (execBkListWrite w i v s) = .next t' → Kept a t' := by
  intro t' ht
  unfold execBkListWrite at ht
  injection ht with ht
  subst ht
  simp (maxDischargeDepth := 30) +contextual [hs]

theorem execPackSlot_kept (p : Fin 10) (s : State) (hs : Kept a s) :
    ∀ t', (execPackSlot p s) = .next t' → Kept a t' := by
  intro t' ht
  unfold execPackSlot at ht
  injection ht with ht
  subst ht
  simp (maxDischargeDepth := 30) [hs]

theorem execPackReceive_kept (p : Fin 10) (units : List (Fin 16 × List Byte)) (corrected : BitVec 16) (lost : BitVec 8) (s : State)
    (hs : Kept a s) :
    ∀ t', (execPackReceive p units corrected lost s) = .next t' → Kept a t' := by
  intro t' ht
  unfold execPackReceive at ht
  injection ht with ht
  subst ht
  simp (maxDischargeDepth := 30) [hs]

theorem execAckSend_kept (p : Fin 10) (s : State) (hs : Kept a s) :
    ∀ t', (execAckSend p s) = .next t' → Kept a t' := by
  intro t' ht
  unfold execAckSend at ht
  injection ht with ht
  subst ht
  simp (maxDischargeDepth := 30) [hs]

theorem execAck_kept (p : Fin 10) (v : BitVec 64) (s : State) (hs : Kept a s) :
    ∀ t', (execAck p v s) = .next t' → Kept a t' := by
  intro t' ht
  unfold execAck at ht
  injection ht with ht
  subst ht
  simp (maxDischargeDepth := 30) +contextual [hs]

theorem execReplayTimeout_kept (p : Fin 10) (s : State) (hs : Kept a s) :
    ∀ t', (execReplayTimeout p s) = .next t' → Kept a t' := by
  intro t' ht
  unfold execReplayTimeout at ht
  injection ht with ht
  subst ht
  simp (maxDischargeDepth := 30) [hs]

theorem execCreditSend_kept (p : Fin 10) (c : Fin 4) (s : State) (hs : Kept a s) :
    ∀ t', (execCreditSend p c s) = .next t' → Kept a t' := by
  intro t' ht
  unfold execCreditSend at ht
  injection ht with ht
  subst ht
  simp (maxDischargeDepth := 30) [hs]

theorem execCredit_kept (p : Fin 10) (v : BitVec 64) (s : State) (hs : Kept a s) :
    ∀ t', (execCredit p v s) = .next t' → Kept a t' := by
  intro t' ht
  unfold execCredit at ht
  injection ht with ht
  subst ht
  simp (maxDischargeDepth := 30) +contextual [hs]

theorem execCreditTimeout_kept (p : Fin 10) (c : Fin 4) (s : State) (hs : Kept a s) :
    ∀ t', (execCreditTimeout p c s) = .next t' → Kept a t' := by
  intro t' ht
  unfold execCreditTimeout at ht
  injection ht with ht
  subst ht
  simp (maxDischargeDepth := 30) [hs]

theorem execLaneBad_kept (p : Fin 10) (lane : Fin 16) (s : State) (hs : Kept a s) :
    ∀ t', (execLaneBad p lane s) = .next t' → Kept a t' := by
  intro t' ht
  unfold execLaneBad at ht
  injection ht with ht
  subst ht
  simp (maxDischargeDepth := 30) [hs]

theorem execPauseReq_kept (p : Fin 10) (v : BitVec 64) (s : State) (hs : Kept a s) :
    ∀ t', (execPauseReq p v s) = .next t' → Kept a t' := by
  intro t' ht
  unfold execPauseReq at ht
  injection ht with ht
  subst ht
  simp (maxDischargeDepth := 30) +contextual [hs]

theorem execPauseAck_kept (p : Fin 10) (v : BitVec 64) (s : State) (hs : Kept a s) :
    ∀ t', (execPauseAck p v s) = .next t' → Kept a t' := by
  intro t' ht
  unfold execPauseAck at ht
  injection ht with ht
  subst ht
  simp (maxDischargeDepth := 30) +contextual [hs]

theorem execResume_kept (p : Fin 10) (v : BitVec 64) (s : State) (hs : Kept a s) :
    ∀ t', (execResume p v s) = .next t' → Kept a t' := by
  intro t' ht
  unfold execResume at ht
  injection ht with ht
  subst ht
  simp (maxDischargeDepth := 30) +contextual [hs]

theorem execIdent_kept (p : Fin 10) (v : BitVec 64) (s : State) (hs : Kept a s) :
    ∀ t', (execIdent p v s) = .next t' → Kept a t' := by
  intro t' ht
  unfold execIdent at ht
  injection ht with ht
  subst ht
  simp (maxDischargeDepth := 30) +contextual [hs]

theorem execLinkTrainingComplete_kept (p : Fin 10) (good : BitVec 16) (markers : BitVec 64) (ber : BitVec 128) (rtt : BitVec 32) (s : State)
    (hs : Kept a s) :
    ∀ t', (execLinkTrainingComplete p good markers ber rtt s) = .next t' → Kept a t' := by
  intro t' ht
  unfold execLinkTrainingComplete at ht
  injection ht with ht
  subst ht
  simp (maxDischargeDepth := 30) [hs]

theorem execRetrainTimeout_kept (p : Fin 10) (s : State) (hs : Kept a s) :
    ∀ t', (execRetrainTimeout p s) = .next t' → Kept a t' := by
  intro t' ht
  unfold execRetrainTimeout at ht
  injection ht with ht
  subst ht
  simp (maxDischargeDepth := 30) [hs]

theorem execLockLossTimeout_kept (p : Fin 10) (s : State) (hs : Kept a s) :
    ∀ t', (execLockLossTimeout p s) = .next t' → Kept a t' := by
  intro t' ht
  unfold execLockLossTimeout at ht
  injection ht with ht
  subst ht
  simp (maxDischargeDepth := 30) [hs]

theorem execDownRetry_kept (p : Fin 10) (s : State) (hs : Kept a s) :
    ∀ t', (execDownRetry p s) = .next t' → Kept a t' := by
  intro t' ht
  unfold execDownRetry at ht
  injection ht with ht
  subst ht
  simp (maxDischargeDepth := 30) [hs]

theorem execGlEnable_kept (w : Requester) (p : Fin 10) (en : Bool) (s : State) (hs : Kept a s) :
    ∀ t', (execGlEnable w p en s) = .next t' → Kept a t' := by
  intro t' ht
  unfold execGlEnable at ht
  injection ht with ht
  subst ht
  simp (maxDischargeDepth := 30) +contextual [hs]

theorem execGlRetrain_kept (w : Requester) (p : Fin 10) (s : State) (hs : Kept a s) :
    ∀ t', (execGlRetrain w p s) = .next t' → Kept a t' := by
  intro t' ht
  unfold execGlRetrain at ht
  injection ht with ht
  subst ht
  simp (maxDischargeDepth := 30) +contextual [hs]

theorem execGlRestore_kept (w : Requester) (p : Fin 10) (s : State) (hs : Kept a s) :
    ∀ t', (execGlRestore w p s) = .next t' → Kept a t' := by
  intro t' ht
  unfold execGlRestore at ht
  injection ht with ht
  subst ht
  simp (maxDischargeDepth := 30) +contextual [hs]

theorem execGlSpeed_kept (w : Requester) (p : Fin 10) (half : Bool) (s : State) (hs : Kept a s) :
    ∀ t', (execGlSpeed w p half s) = .next t' → Kept a t' := by
  intro t' ht
  unfold execGlSpeed at ht
  injection ht with ht
  subst ht
  simp (maxDischargeDepth := 30) +contextual [hs]

theorem execSelfCoordWrite_kept (w : Requester) (v : BitVec 32) (s : State) (hs : Kept a s) :
    ∀ t', (execSelfCoordWrite w v s) = .next t' → Kept a t' := by
  intro t' ht
  unfold execSelfCoordWrite at ht
  injection ht with ht
  subst ht
  simp (maxDischargeDepth := 30) +contextual [hs]

theorem execLandingRelease_kept (p : Fin 10) (s : State) (hs : Kept a s) :
    ∀ t', (execLandingRelease p s) = .next t' → Kept a t' := by
  intro t' ht
  unfold execLandingRelease at ht
  injection ht with ht
  subst ht
  simp (maxDischargeDepth := 30) [hs]

theorem execLinkLockReturn_kept (p : Fin 10) (s : State) (hs : Kept a s) :
    ∀ t', (execLinkLockReturn p s) = .next t' → Kept a t' := by
  intro t' ht
  unfold execLinkLockReturn at ht
  injection ht with ht
  subst ht
  simp (maxDischargeDepth := 30) [hs]

theorem execHold_kept (p : Fin 10) (v : BitVec 64) (s : State) (hs : Kept a s) :
    ∀ t', (execHold p v s) = .next t' → Kept a t' := by
  intro t' ht
  unfold execHold at ht
  injection ht with ht
  subst ht
  simp (maxDischargeDepth := 30) +contextual [hs]

theorem execHoldRepeat_kept (s : State) (hs : Kept a s) :
    ∀ t', (execHoldRepeat s) = .next t' → Kept a t' := by
  intro t' ht
  unfold execHoldRepeat at ht
  injection ht with ht
  subst ht
  simp (maxDischargeDepth := 30) [hs]

theorem execReleaseRepeat_kept (s : State) (hs : Kept a s) :
    ∀ t', (execReleaseRepeat s) = .next t' → Kept a t' := by
  intro t' ht
  unfold execReleaseRepeat at ht
  injection ht with ht
  subst ht
  simp (maxDischargeDepth := 30) [hs]

theorem execRelease_kept (p : Fin 10) (v : BitVec 64) (s : State) (hs : Kept a s) :
    ∀ t', (execRelease p v s) = .next t' → Kept a t' := by
  intro t' ht
  unfold execRelease at ht
  injection ht with ht
  subst ht
  simp (maxDischargeDepth := 30) +contextual [hs]

theorem execTarpResume_kept (s : State) (hs : Kept a s) :
    ∀ t', (execTarpResume s) = .next t' → Kept a t' := by
  intro t' ht
  unfold execTarpResume at ht
  injection ht with ht
  subst ht
  simp (maxDischargeDepth := 30) [hs]

theorem execBnd_kept (p : Fin 10) (v : BitVec 64) (s : State) (hs : Kept a s) :
    ∀ t', (execBnd p v s) = .next t' → Kept a t' := by
  intro t' ht
  unfold execBnd at ht
  injection ht with ht
  subst ht
  simp (maxDischargeDepth := 30) +contextual [hs]

theorem execStrike_kept (p : Fin 10) (v : BitVec 64) (s : State) (hs : Kept a s) :
    ∀ t', (execStrike p v s) = .next t' → Kept a t' := by
  intro t' ht
  unfold execStrike at ht
  injection ht with ht
  subst ht
  simp (maxDischargeDepth := 30) +contextual [hs]

theorem execStopAtSend_kept (w : Requester) (v : HalfWrite) (s : State) (hs : Kept a s) :
    ∀ t', (execStopAtSend w v s) = .next t' → Kept a t' := by
  intro t' ht
  unfold execStopAtSend at ht
  injection ht with ht
  subst ht
  simp (maxDischargeDepth := 30) +contextual [hs]

theorem execStopAt_kept (p : Fin 10) (v : BitVec 64) (s : State) (hs : Kept a s) :
    ∀ t', (execStopAt p v s) = .next t' → Kept a t' := by
  intro t' ht
  unfold execStopAt at ht
  injection ht with ht
  subst ht
  simp (maxDischargeDepth := 30) +contextual [hs]

theorem execPortDownLimit_kept (p : Fin 10) (s : State) (hs : Kept a s) :
    ∀ t', (execPortDownLimit p s) = .next t' → Kept a t' := by
  intro t' ht
  unfold execPortDownLimit at ht
  injection ht with ht
  subst ht
  simp (maxDischargeDepth := 30) [hs]

theorem execMessageForward_kept (p : Fin 10) (c : Fin 4) (s : State) (hs : Kept a s) :
    ∀ t', (execMessageForward p c s) = .next t' → Kept a t' := by
  intro t' ht
  unfold execMessageForward at ht
  injection ht with ht
  subst ht
  simp (maxDischargeDepth := 30) [hs]

theorem execEscapeTimeout_kept (p : Fin 10) (c : Fin 4) (s : State) (hs : Kept a s) :
    ∀ t', (execEscapeTimeout p c s) = .next t' → Kept a t' := by
  intro t' ht
  unfold execEscapeTimeout at ht
  injection ht with ht
  subst ht
  simp (maxDischargeDepth := 30) [hs]

theorem execReferenceFrame_kept (frame : List Byte) (violations : BitVec 16) (s : State) (hs : Kept a s) :
    ∀ t', (execReferenceFrame frame violations s) = .next t' → Kept a t' := by
  intro t' ht
  unfold execReferenceFrame at ht
  injection ht with ht
  subst ht
  simp (maxDischargeDepth := 30) [hs]

theorem execSymbolLock_kept (s : State) (hs : Kept a s) :
    ∀ t', (execSymbolLock s) = .next t' → Kept a t' := by
  intro t' ht
  unfold execSymbolLock at ht
  injection ht with ht
  subst ht
  simp (maxDischargeDepth := 30) [hs]

theorem execSymbolLockLoss_kept (s : State) (hs : Kept a s) :
    ∀ t', (execSymbolLockLoss s) = .next t' → Kept a t' := by
  intro t' ht
  unfold execSymbolLockLoss at ht
  injection ht with ht
  subst ht
  simp (maxDischargeDepth := 30) [hs]

theorem execHoldoverSkewFault_kept (s : State) (hs : Kept a s) :
    ∀ t', (execHoldoverSkewFault s) = .next t' → Kept a t' := by
  intro t' ht
  unfold execHoldoverSkewFault at ht
  injection ht with ht
  subst ht
  simp (maxDischargeDepth := 30) [hs]

theorem execSlewComplete_kept (s : State) (hs : Kept a s) :
    ∀ t', (execSlewComplete s) = .next t' → Kept a t' := by
  intro t' ht
  unfold execSlewComplete at ht
  injection ht with ht
  subst ht
  simp (maxDischargeDepth := 30) [hs]

theorem execPtpSyncTimeout_kept (s : State) (hs : Kept a s) :
    ∀ t', (execPtpSyncTimeout s) = .next t' → Kept a t' := by
  intro t' ht
  unfold execPtpSyncTimeout at ht
  injection ht with ht
  subst ht
  simp (maxDischargeDepth := 30) [hs]

theorem execPtpOffsetWrite_kept (q : Requester) (w : HalfWrite) (s : State) (hs : Kept a s) :
    ∀ t', (execPtpOffsetWrite q w s) = .next t' → Kept a t' := by
  intro t' ht
  unfold execPtpOffsetWrite at ht
  injection ht with ht
  subst ht
  simp (maxDischargeDepth := 30) +contextual [hs]

theorem execCycleConfigWrite_kept (q : Requester) (j : Fin 4) (v : BitVec 32) (s : State) (hs : Kept a s) :
    ∀ t', (execCycleConfigWrite q j v s) = .next t' → Kept a t' := by
  intro t' ht
  unfold execCycleConfigWrite at ht
  injection ht with ht
  subst ht
  simp (maxDischargeDepth := 30) +contextual [hs]

theorem execCapturePop_kept (q : Requester) (s : State) (hs : Kept a s) :
    ∀ t', (execCapturePop q s) = .next t' → Kept a t' := by
  intro t' ht
  unfold execCapturePop at ht
  injection ht with ht
  subst ht
  simp (maxDischargeDepth := 30) +contextual [hs]

theorem execZipperWindowDigest_kept (r : Fin 32) (s : State) (hs : Kept a s) :
    ∀ t', (execZipperWindowDigest r s) = .next t' → Kept a t' := by
  intro t' ht
  unfold execZipperWindowDigest at ht
  injection ht with ht
  subst ht
  simp (maxDischargeDepth := 30) [hs]

theorem execZipperBoundaryDigest_kept (r : Fin 32) (s : State) (hs : Kept a s) :
    ∀ t', (execZipperBoundaryDigest r s) = .next t' → Kept a t' := by
  intro t' ht
  unfold execZipperBoundaryDigest at ht
  injection ht with ht
  subst ht
  simp (maxDischargeDepth := 30) [hs]

theorem execZip_kept (p : Fin 10) (v : BitVec 64) (s : State) (hs : Kept a s) :
    ∀ t', (execZip p v s) = .next t' → Kept a t' := by
  intro t' ht
  unfold execZip at ht
  injection ht with ht
  subst ht
  simp (maxDischargeDepth := 30) +contextual [hs]

theorem execGearLogPop_kept (q : Requester) (s : State) (hs : Kept a s) :
    ∀ t', (execGearLogPop q s) = .next t' → Kept a t' := by
  intro t' ht
  unfold execGearLogPop at ht
  injection ht with ht
  subst ht
  simp (maxDischargeDepth := 30) +contextual [hs]

theorem execGearScriptPush_kept (q : Requester) (w : HalfWrite) (s : State) (hs : Kept a s) :
    ∀ t', (execGearScriptPush q w s) = .next t' → Kept a t' := by
  intro t' ht
  unfold execGearScriptPush at ht
  injection ht with ht
  subst ht
  simp (maxDischargeDepth := 30) +contextual [hs]

theorem execGearScriptEnable_kept (q : Requester) (en : Bool) (s : State) (hs : Kept a s) :
    ∀ t', (execGearScriptEnable q en s) = .next t' → Kept a t' := by
  intro t' ht
  unfold execGearScriptEnable at ht
  injection ht with ht
  subst ht
  simp (maxDischargeDepth := 30) +contextual [hs]

theorem execWeightLoadOpen_kept (q : Requester) (s : State) (hs : Kept a s) :
    ∀ t', (execWeightLoadOpen q s) = .next t' → Kept a t' := by
  intro t' ht
  unfold execWeightLoadOpen at ht
  injection ht with ht
  subst ht
  simp (maxDischargeDepth := 30) +contextual [hs]

theorem execWeightLoadClose_kept (q : Requester) (s : State) (hs : Kept a s) :
    ∀ t', (execWeightLoadClose q s) = .next t' → Kept a t' := by
  intro t' ht
  unfold execWeightLoadClose at ht
  injection ht with ht
  subst ht
  simp (maxDischargeDepth := 30) +contextual [hs]

theorem execPermitRelease_kept (s : State) (hs : Kept a s) :
    ∀ t', (execPermitRelease s) = .next t' → Kept a t' := by
  intro t' ht
  unfold execPermitRelease at ht
  injection ht with ht
  subst ht
  simp (maxDischargeDepth := 30) [hs]

theorem execPaceEpochBoundary_kept (cap : BitVec 15) (top : BitVec 15) (mv : BitVec 10) (s : State) (hs : Kept a s) :
    ∀ t', (execPaceEpochBoundary cap top mv s) = .next t' → Kept a t' := by
  intro t' ht
  unfold execPaceEpochBoundary at ht
  injection ht with ht
  subst ht
  simp (maxDischargeDepth := 30) [hs]

theorem execPaceArm_kept (q : Requester) (w : HalfWrite) (s : State) (hs : Kept a s) :
    ∀ t', (execPaceArm q w s) = .next t' → Kept a t' := by
  intro t' ht
  unfold execPaceArm at ht
  injection ht with ht
  subst ht
  simp (maxDischargeDepth := 30) +contextual [hs]

theorem execPaceCancel_kept (q : Requester) (s : State) (hs : Kept a s) :
    ∀ t', (execPaceCancel q s) = .next t' → Kept a t' := by
  intro t' ht
  unfold execPaceCancel at ht
  injection ht with ht
  subst ht
  simp (maxDischargeDepth := 30) +contextual [hs]

theorem execLagCeilingHold_kept (s : State) (hs : Kept a s) :
    ∀ t', (execLagCeilingHold s) = .next t' → Kept a t' := by
  intro t' ht
  unfold execLagCeilingHold at ht
  injection ht with ht
  subst ht
  simp (maxDischargeDepth := 30) [hs]

theorem execBeatHang_kept (r : Fin 32) (s : State) (hs : Kept a s) :
    ∀ t', (execBeatHang r s) = .next t' → Kept a t' := by
  intro t' ht
  unfold execBeatHang at ht
  injection ht with ht
  subst ht
  simp (maxDischargeDepth := 30) [hs]

theorem directSlot_kept (s : State) (r : Fin 32) (mask : BitVec 24) (i : Instr) (f : Ctx → State → State) (hs : Kept a s)
    (hf : ∀ (z0 : Ctx) (z1 : State), Kept a z1 → Kept a (f z0 z1)) :
    ∀ t', (directSlot s r mask i f) = .next t' → Kept a t' := by
  intro t' ht
  unfold directSlot at ht
  (repeat' split at ht) <;> first | exact direct_kept _ _ _ _ hs hf t' ht | cases ht

theorem execTact_kept (r : Fin 32) (track : BitVec 5) (bank : BitVec 4) (row : BitVec 16) (xen : Bool) (x : BitVec 3) (s : State)
    (hs : Kept a s) :
    ∀ t', (execTact r track bank row xen x s) = .next t' → Kept a t' := by
  intro t' ht
  unfold execTact at ht
  exact direct_kept _ _ _ _ hs (by simp (maxDischargeDepth := 30) +contextual) t' ht

theorem execTrd_kept (r : Fin 32) (track : BitVec 5) (bank : BitVec 4) (col : BitVec 4) (nl : BitVec 4) (sack : BitVec 5) (line : BitVec 13)
    (ap : Bool) (s : State) (hs : Kept a s) :
    ∀ t', (execTrd r track bank col nl sack line ap s) = .next t' → Kept a t' := by
  intro t' ht
  unfold execTrd at ht
  exact direct_kept _ _ _ _ hs (by simp (maxDischargeDepth := 30) +contextual) t' ht

theorem execTwr_kept (r : Fin 32) (track : BitVec 5) (bank : BitVec 4) (col : BitVec 4) (nl : BitVec 4) (sack : BitVec 5) (line : BitVec 13)
    (ap : Bool) (s : State) (hs : Kept a s) :
    ∀ t', (execTwr r track bank col nl sack line ap s) = .next t' → Kept a t' := by
  intro t' ht
  unfold execTwr at ht
  exact direct_kept _ _ _ _ hs (by simp (maxDischargeDepth := 30) +contextual) t' ht

theorem execTpre_kept (r : Fin 32) (track : BitVec 5) (bank : BitVec 4) (all : Bool) (s : State) (hs : Kept a s) :
    ∀ t', (execTpre r track bank all s) = .next t' → Kept a t' := by
  intro t' ht
  unfold execTpre at ht
  exact direct_kept _ _ _ _ hs (by simp (maxDischargeDepth := 30) +contextual) t' ht

theorem execTslotRefresh_kept (r : Fin 32) (mask : BitVec 24) (pair : BitVec 3) (s : State) (hs : Kept a s) :
    ∀ t', (execTslotRefresh r mask pair s) = .next t' → Kept a t' := by
  intro t' ht
  unfold execTslotRefresh at ht
  exact directSlot_kept _ _ _ _ _ hs (by simp (maxDischargeDepth := 30) +contextual) t' ht

theorem execTslotFar_kept (r : Fin 32) (mask : BitVec 24) (nbeats : BitVec 16) (s : State) (hs : Kept a s) :
    ∀ t', (execTslotFar r mask nbeats s) = .next t' → Kept a t' := by
  intro t' ht
  unfold execTslotFar at ht
  exact directSlot_kept _ _ _ _ _ hs (by simp (maxDischargeDepth := 30) +contextual) t' ht

theorem execTidxColumn_kept (r : Fin 32) (track : BitVec 5) (bank : BitVec 4) (isack : BitVec 5) (iline : BitVec 13) (nlog : BitVec 2)
    (dsack : BitVec 5) (dline : BitVec 13) (s : State) (hs : Kept a s) :
    ∀ t', (execTidxColumn r track bank isack iline nlog dsack dline s) = .next t' → Kept a t' := by
  intro t' ht
  unfold execTidxColumn at ht
  exact direct_kept _ _ _ _ hs (by simp (maxDischargeDepth := 30) +contextual) t' ht

theorem execTidxLoadIndex_kept (r : Fin 32) (x : BitVec 3) (isack : BitVec 5) (iline : BitVec 13) (word : BitVec 5) (stride : BitVec 15)
    (count : BitVec 8) (s : State) (hs : Kept a s) :
    ∀ t', (execTidxLoadIndex r x isack iline word stride count s) = .next t' → Kept a t' := by
  intro t' ht
  unfold execTidxLoadIndex at ht
  exact direct_kept _ _ _ _ hs (by simp (maxDischargeDepth := 30) +contextual) t' ht

theorem execTimingGuardSend_kept (r : Fin 32) (s : State) (hs : Kept a s) :
    ∀ t', (execTimingGuardSend r s) = .next t' → Kept a t' := by
  intro t' ht
  unfold execTimingGuardSend at ht
  injection ht with ht
  subst ht
  simp (maxDischargeDepth := 30) [hs]

theorem execGuardRefresh_kept (r : Fin 32) (t : Fin 24) (bank : Fin 16) (s : State) (hs : Kept a s) :
    ∀ t', (execGuardRefresh r t bank s) = .next t' → Kept a t' := by
  intro t' ht
  unfold execGuardRefresh at ht
  injection ht with ht
  subst ht
  simp (maxDischargeDepth := 30) [hs]

theorem execHeldRefresh_kept (r : Fin 32) (t : Fin 24) (bank : Fin 16) (s : State) (hs : Kept a s) :
    ∀ t', (execHeldRefresh r t bank s) = .next t' → Kept a t' := by
  intro t' ht
  unfold execHeldRefresh at ht
  injection ht with ht
  subst ht
  simp (maxDischargeDepth := 30) [hs]

theorem execBankRestore_kept (r : Fin 32) (t : Fin 24) (s : State) (hs : Kept a s) :
    ∀ t', (execBankRestore r t s) = .next t' → Kept a t' := by
  intro t' ht
  unfold execBankRestore at ht
  injection ht with ht
  subst ht
  simp (maxDischargeDepth := 30) [hs]

theorem execIdleTrackRefresh_kept (r : Fin 32) (t : Fin 24) (bank : Fin 16) (s : State) (hs : Kept a s) :
    ∀ t', (execIdleTrackRefresh r t bank s) = .next t' → Kept a t' := by
  intro t' ht
  unfold execIdleTrackRefresh at ht
  injection ht with ht
  subst ht
  simp (maxDischargeDepth := 30) [hs]

theorem execTrackLaunchQuiesce_kept (r : Fin 32) (t : Fin 24) (s : State) (hs : Kept a s) :
    ∀ t', (execTrackLaunchQuiesce r t s) = .next t' → Kept a t' := by
  intro t' ht
  unfold execTrackLaunchQuiesce at ht
  injection ht with ht
  subst ht
  simp (maxDischargeDepth := 30) [hs]

theorem execStackErrorRetry_kept (r : Fin 32) (_t : Fin 24) (kind : StackError) (ok : Bool) (s : State) (hs : Kept a s) :
    ∀ t', (execStackErrorRetry r _t kind ok s) = .next t' → Kept a t' := by
  intro t' ht
  unfold execStackErrorRetry at ht
  injection ht with ht
  subst ht
  simp (maxDischargeDepth := 30) [hs]

theorem execStackTimeout_kept (r : Fin 32) (_t : Fin 24) (s : State) (hs : Kept a s) :
    ∀ t', (execStackTimeout r _t s) = .next t' → Kept a t' := by
  intro t' ht
  unfold execStackTimeout at ht
  injection ht with ht
  subst ht
  simp (maxDischargeDepth := 30) [hs]

theorem execFirewatchEpoch_kept (x : Sensors) (s : State) (hs : Kept a s) :
    ∀ t', (execFirewatchEpoch x s) = .next t' → Kept a t' := by
  intro t' ht
  unfold execFirewatchEpoch at ht
  injection ht with ht
  subst ht
  simp (maxDischargeDepth := 30) [hs]

theorem execEmergencyHoldEnd_kept (s : State) (hs : Kept a s) :
    ∀ t', (execEmergencyHoldEnd s) = .next t' → Kept a t' := by
  intro t' ht
  unfold execEmergencyHoldEnd at ht
  injection ht with ht
  subst ht
  simp (maxDischargeDepth := 30) [hs]

theorem execPaceAsk_kept (s : State) (hs : Kept a s) :
    ∀ t', (execPaceAsk s) = .next t' → Kept a t' := by
  intro t' ht
  unfold execPaceAsk at ht
  injection ht with ht
  subst ht
  simp (maxDischargeDepth := 30) [hs]

theorem execLookoutEpoch_kept (s : State) (hs : Kept a s) :
    ∀ t', (execLookoutEpoch s) = .next t' → Kept a t' := by
  intro t' ht
  unfold execLookoutEpoch at ht
  injection ht with ht
  subst ht
  simp (maxDischargeDepth := 30) [hs]

theorem execPaceSet_kept (s : State) (hs : Kept a s) :
    ∀ t', (execPaceSet s) = .next t' → Kept a t' := by
  intro t' ht
  unfold execPaceSet at ht
  injection ht with ht
  subst ht
  simp (maxDischargeDepth := 30) [hs]

theorem execPaceAck_kept (s : State) (hs : Kept a s) :
    ∀ t', (execPaceAck s) = .next t' → Kept a t' := by
  intro t' ht
  unfold execPaceAck at ht
  injection ht with ht
  subst ht
  simp (maxDischargeDepth := 30) [hs]

theorem execPaceAckDeadline_kept (s : State) (hs : Kept a s) :
    ∀ t', (execPaceAckDeadline s) = .next t' → Kept a t' := by
  intro t' ht
  unfold execPaceAckDeadline at ht
  injection ht with ht
  subst ht
  simp (maxDischargeDepth := 30) [hs]

theorem execGearVoteCast_kept (s : State) (hs : Kept a s) :
    ∀ t', (execGearVoteCast s) = .next t' → Kept a t' := by
  intro t' ht
  unfold execGearVoteCast at ht
  injection ht with ht
  subst ht
  simp (maxDischargeDepth := 30) [hs]

theorem execGearVoteTimeout_kept (s : State) (hs : Kept a s) :
    ∀ t', (execGearVoteTimeout s) = .next t' → Kept a t' := by
  intro t' ht
  unfold execGearVoteTimeout at ht
  injection ht with ht
  subst ht
  simp (maxDischargeDepth := 30) [hs]

theorem execThermalTrip_kept (junction : List (BitVec 10)) (hbm : List (BitVec 8)) (s : State) (hs : Kept a s) :
    ∀ t', (execThermalTrip junction hbm s) = .next t' → Kept a t' := by
  intro t' ht
  unfold execThermalTrip at ht
  injection ht with ht
  subst ht
  simp (maxDischargeDepth := 30) [hs]

theorem execThermalRecovery_kept (junction : List (BitVec 10)) (hbm : List (BitVec 8)) (s : State) (hs : Kept a s) :
    ∀ t', (execThermalRecovery junction hbm s) = .next t' → Kept a t' := by
  intro t' ht
  unfold execThermalRecovery at ht
  injection ht with ht
  subst ht
  simp (maxDischargeDepth := 30) [hs]

theorem execModuleStateChange_kept (s : State) (hs : Kept a s) :
    ∀ t', (execModuleStateChange s) = .next t' → Kept a t' := by
  intro t' ht
  unfold execModuleStateChange at ht
  injection ht with ht
  subst ht
  simp (maxDischargeDepth := 30) [hs]

theorem execWakeSignal_kept (s : State) (hs : Kept a s) :
    ∀ t', (execWakeSignal s) = .next t' → Kept a t' := by
  intro t' ht
  unfold execWakeSignal at ht
  injection ht with ht
  subst ht
  simp (maxDischargeDepth := 30) [hs]

theorem execCidle_kept (r : Fin 32) (count : BitVec 32) (s : State) (hs : Kept a s) :
    ∀ t', (execCidle r count s) = .next t' → Kept a t' := by
  intro t' ht
  unfold execCidle at ht
  exact direct_kept _ _ _ _ hs (by simp (maxDischargeDepth := 30) +contextual) t' ht

theorem execCrep_kept (r : Fin 32) (body : BitVec 12) (total : BitVec 32) (s : State) (hs : Kept a s) :
    ∀ t', (execCrep r body total s) = .next t' → Kept a t' := by
  intro t' ht
  unfold execCrep at ht
  exact direct_kept _ _ _ _ hs (by simp (maxDischargeDepth := 30) +contextual) t' ht

theorem execCbnd_kept (r : Fin 32) (peg : BitVec 14) (shift : BitVec 5) (s : State) (hs : Kept a s) :
    ∀ t', (execCbnd r peg shift s) = .next t' → Kept a t' := by
  intro t' ht
  unfold execCbnd at ht
  exact direct_kept _ _ _ _ hs (by simp (maxDischargeDepth := 30) +contextual) t' ht

theorem execChlt_kept (r : Fin 32) (setseg : Bool) (gear : BitVec 2) (seg : BitVec 12) (s : State) (hs : Kept a s) :
    ∀ t', (execChlt r setseg gear seg s) = .next t' → Kept a t' := by
  intro t' ht
  unfold execChlt at ht
  exact direct_kept _ _ _ _ hs (by simp (maxDischargeDepth := 30) +contextual) t' ht

theorem execFqpost_kept (r : Fin 32) (queue : BitVec 6) (dsack : BitVec 5) (line : BitVec 13) (s : State) (hs : Kept a s) :
    ∀ t', (execFqpost r queue dsack line s) = .next t' → Kept a t' := by
  intro t' ht
  unfold execFqpost at ht
  exact direct_kept _ _ _ _ hs (by simp (maxDischargeDepth := 30) +contextual) t' ht

theorem execThruGuyline_kept (r : Fin 32) (f : Fin 7) (inn : BitVec 3) (nbeats : BitVec 8) (dly : BitVec 4) (s : State) (hs : Kept a s) :
    ∀ t', (execThruGuyline r f inn nbeats dly s) = .next t' → Kept a t' := by
  intro t' ht
  unfold execThruGuyline at ht
  (repeat' split at ht) <;> first | exact directThru_kept _ _ _ _ hs (by simp (maxDischargeDepth := 30) +contextual) t' ht | exact direct_kept _ _ _ _ hs (by simp (maxDischargeDepth := 30) +contextual) t' ht | cases ht

theorem execGear_kept (p : Fin 10) (v : BitVec 64) (s : State) (hs : Kept a s) :
    ∀ t', (execGear p v s) = .next t' → Kept a t' := by
  intro t' ht
  unfold execGear at ht
  injection ht with ht
  subst ht
  simp (maxDischargeDepth := 30) +contextual [hs]

theorem execBeginBeat_kept (r : Fin 32) (s : State) (hs : Kept a s) :
    ∀ t', (execBeginBeat r s) = .next t' → Kept a t' := by
  intro t' ht
  unfold execBeginBeat at ht
  injection ht with ht
  subst ht
  simp (maxDischargeDepth := 30) [hs]

theorem execUnitAcknowledge_kept (r : Fin 32) (slot : Fin 64) (s : State) (hs : Kept a s) :
    ∀ t', (execUnitAcknowledge r slot s) = .next t' → Kept a t' := by
  intro t' ht
  unfold execUnitAcknowledge at ht
  injection ht with ht
  subst ht
  simp (maxDischargeDepth := 30) [hs]

theorem execCrossingArrival_kept (r : Fin 32) (i : Fin 6) (flip : Option (BitVec 11)) (s : State) (hs : Kept a s) :
    ∀ t', (execCrossingArrival r i flip s) = .next t' → Kept a t' := by
  intro t' ht
  unfold execCrossingArrival at ht
  injection ht with ht
  subst ht
  simp (maxDischargeDepth := 30) [hs]

theorem execUnitWake_kept (r : Fin 32) (slot : Fin 64) (s : State) (hs : Kept a s) :
    ∀ t', (execUnitWake r slot s) = .next t' → Kept a t' := by
  intro t' ht
  unfold execUnitWake at ht
  injection ht with ht
  subst ht
  simp (maxDischargeDepth := 30) [hs]

theorem execUnitIdleEntry_kept (r : Fin 32) (slot : Fin 64) (depth : Fin 4) (s : State) (hs : Kept a s) :
    ∀ t', (execUnitIdleEntry r slot depth s) = .next t' → Kept a t' := by
  intro t' ht
  unfold execUnitIdleEntry at ht
  injection ht with ht
  subst ht
  simp (maxDischargeDepth := 30) [hs]

theorem execPitchApply_kept (q : Requester) (s : State) (hs : Kept a s) :
    ∀ t', (execPitchApply q s) = .next t' → Kept a t' := by
  intro t' ht
  unfold execPitchApply at ht
  (repeat' split at ht) <;> first | cases ht; done | (injection ht with ht; subst ht; simp (maxDischargeDepth := 30) +contextual [hs])

theorem execPitchWithdraw_kept (q : Requester) (s : State) (hs : Kept a s) :
    ∀ t', (execPitchWithdraw q s) = .next t' → Kept a t' := by
  intro t' ht
  unfold execPitchWithdraw at ht
  injection ht with ht
  subst ht
  simp (maxDischargeDepth := 30) +contextual [hs]

theorem execPitchForcedWithdraw_kept (q : Requester) (s : State) (hs : Kept a s) :
    ∀ t', (execPitchForcedWithdraw q s) = .next t' → Kept a t' := by
  intro t' ht
  unfold execPitchForcedWithdraw at ht
  injection ht with ht
  subst ht
  simp (maxDischargeDepth := 30) +contextual [hs]

theorem execTrailLoad_kept (q : Requester) (s : State) (hs : Kept a s) :
    ∀ t', (execTrailLoad q s) = .next t' → Kept a t' := by
  intro t' ht
  unfold execTrailLoad at ht
  injection ht with ht
  subst ht
  simp (maxDischargeDepth := 30) +contextual [hs]

theorem execTrailLoadComplete_kept (s : State) (hs : Kept a s) :
    ∀ t', (execTrailLoadComplete s) = .next t' → Kept a t' := by
  intro t' ht
  unfold execTrailLoadComplete at ht
  injection ht with ht
  subst ht
  simp (maxDischargeDepth := 30) [hs]

theorem execTrailUnload_kept (q : Requester) (s : State) (hs : Kept a s) :
    ∀ t', (execTrailUnload q s) = .next t' → Kept a t' := by
  intro t' ht
  unfold execTrailUnload at ht
  injection ht with ht
  subst ht
  simp (maxDischargeDepth := 30) +contextual [hs]

theorem execLaunchArm_kept (q : Requester) (w : HalfWrite) (s : State) (hs : Kept a s) :
    ∀ t', (execLaunchArm q w s) = .next t' → Kept a t' := by
  intro t' ht
  unfold execLaunchArm at ht
  injection ht with ht
  subst ht
  simp (maxDischargeDepth := 30) +contextual [hs]

theorem execLaunchStart_kept (src : LaunchSource) (s : State) (hs : Kept a s) :
    ∀ t', (execLaunchStart src s) = .next t' → Kept a t' := by
  intro t' ht
  unfold execLaunchStart at ht
  injection ht with ht
  subst ht
  simp (maxDischargeDepth := 30) [hs]

theorem execCycleFire_kept (j : Fin 4) (s : State) (hs : Kept a s) :
    ∀ t', (execCycleFire j s) = .next t' → Kept a t' := by
  intro t' ht
  unfold execCycleFire at ht
  injection ht with ht
  subst ht
  simp (maxDischargeDepth := 30) [hs]

theorem execMsixUnblock_kept (p : Fin 2) (c : MsixGate) (s : State) (hs : Kept a s) :
    ∀ t', (execMsixUnblock p c s) = .next t' → Kept a t' := by
  intro t' ht
  unfold execMsixUnblock at ht
  injection ht with ht
  subst ht
  simp (maxDischargeDepth := 30) [hs]

theorem execWhistleTimer_kept (n : Fin 1024) (s : State) (hs : Kept a s) :
    ∀ t', (execWhistleTimer n s) = .next t' → Kept a t' := by
  intro t' ht
  unfold execWhistleTimer at ht
  injection ht with ht
  subst ht
  simp (maxDischargeDepth := 30) [hs]

theorem execWhistleDeliver_kept (n : Fin 1024) (s : State) (hs : Kept a s) :
    ∀ t', (execWhistleDeliver n s) = .next t' → Kept a t' := by
  intro t' ht
  unfold execWhistleDeliver at ht
  injection ht with ht
  subst ht
  simp (maxDischargeDepth := 30) [hs]

theorem execWhistleServiceEnd_kept (q : Requester) (w : Fin 32) (v : BitVec 32) (s : State) (hs : Kept a s) :
    ∀ t', (execWhistleServiceEnd q w v s) = .next t' → Kept a t' := by
  intro t' ht
  unfold execWhistleServiceEnd at ht
  injection ht with ht
  subst ht
  simp (maxDischargeDepth := 30) +contextual [hs]

theorem execWhistlePendSet_kept (q : Requester) (w : Fin 32) (v : BitVec 32) (s : State) (hs : Kept a s) :
    ∀ t', (execWhistlePendSet q w v s) = .next t' → Kept a t' := by
  intro t' ht
  unfold execWhistlePendSet at ht
  injection ht with ht
  subst ht
  simp (maxDischargeDepth := 30) +contextual [hs]

theorem execWhistlePendClear_kept (q : Requester) (w : Fin 32) (v : BitVec 32) (s : State) (hs : Kept a s) :
    ∀ t', (execWhistlePendClear q w v s) = .next t' → Kept a t' := by
  intro t' ht
  unfold execWhistlePendClear at ht
  injection ht with ht
  subst ht
  simp (maxDischargeDepth := 30) +contextual [hs]

theorem execWhistleSourceConfig_kept (q : Requester) (n : Fin 1024) (time : Bool) (v : BitVec 32) (s : State) (hs : Kept a s) :
    ∀ t', (execWhistleSourceConfig q n time v s) = .next t' → Kept a t' := by
  intro t' ht
  unfold execWhistleSourceConfig at ht
  injection ht with ht
  subst ht
  simp (maxDischargeDepth := 30) +contextual [hs]

theorem execWhistleRetentionWake_kept (ok : Bool) (s : State) (hs : Kept a s) :
    ∀ t', (execWhistleRetentionWake ok s) = .next t' → Kept a t' := by
  intro t' ht
  unfold execWhistleRetentionWake at ht
  injection ht with ht
  subst ht
  simp (maxDischargeDepth := 30) [hs]

theorem execLanternClear_kept (q : Requester) (s : State) (hs : Kept a s) :
    ∀ t', (execLanternClear q s) = .next t' → Kept a t' := by
  intro t' ht
  unfold execLanternClear at ht
  injection ht with ht
  subst ht
  simp (maxDischargeDepth := 30) +contextual [hs]

theorem execLanternThaw_kept (q : Requester) (s : State) (hs : Kept a s) :
    ∀ t', (execLanternThaw q s) = .next t' → Kept a t' := by
  intro t' ht
  unfold execLanternThaw at ht
  injection ht with ht
  subst ht
  simp (maxDischargeDepth := 30) +contextual [hs]

theorem execLanternFreezeArm_kept (q : Requester) (w : HalfWrite) (s : State) (hs : Kept a s) :
    ∀ t', (execLanternFreezeArm q w s) = .next t' → Kept a t' := by
  intro t' ht
  unfold execLanternFreezeArm at ht
  injection ht with ht
  subst ht
  simp (maxDischargeDepth := 30) +contextual [hs]

theorem execLanternSnapshot_kept (s : State) (hs : Kept a s) :
    ∀ t', (execLanternSnapshot s) = .next t' → Kept a t' := by
  intro t' ht
  unfold execLanternSnapshot at ht
  injection ht with ht
  subst ht
  simp (maxDischargeDepth := 30) [hs]

theorem execBandwidthWindow_kept (s : State) (hs : Kept a s) :
    ∀ t', (execBandwidthWindow s) = .next t' → Kept a t' := by
  intro t' ht
  unfold execBandwidthWindow at ht
  injection ht with ht
  subst ht
  simp (maxDischargeDepth := 30) [hs]

theorem execTraceRecord_kept (r : Fin 32) (s : State) (hs : Kept a s) :
    ∀ t', (execTraceRecord r s) = .next t' → Kept a t' := by
  intro t' ht
  unfold execTraceRecord at ht
  injection ht with ht
  subst ht
  simp (maxDischargeDepth := 30) [hs]

theorem execTraceReset_kept (q : Requester) (s : State) (hs : Kept a s) :
    ∀ t', (execTraceReset q s) = .next t' → Kept a t' := by
  intro t' ht
  unfold execTraceReset at ht
  injection ht with ht
  subst ht
  simp (maxDischargeDepth := 30) +contextual [hs]

theorem execHostPortReset_kept (p : Fin 2) (flr : Bool) (s : State) (hs : Kept a s) :
    ∀ t', (execHostPortReset p flr s) = .next t' → Kept a t' := by
  intro t' ht
  unfold execHostPortReset at ht
  injection ht with ht
  subst ht
  simp (maxDischargeDepth := 30) [hs]

theorem execHostLinkTrained_kept (p : Fin 2) (speed : Fin 3) (width : Fin 4) (s : State) (hs : Kept a s) :
    ∀ t', (execHostLinkTrained p speed width s) = .next t' → Kept a t' := by
  intro t' ht
  unfold execHostLinkTrained at ht
  injection ht with ht
  subst ht
  simp (maxDischargeDepth := 30) [hs]

theorem execHostLinkDown_kept (p : Fin 2) (s : State) (hs : Kept a s) :
    ∀ t', (execHostLinkDown p s) = .next t' → Kept a t' := by
  intro t' ht
  unfold execHostLinkDown at ht
  injection ht with ht
  subst ht
  simp (maxDischargeDepth := 30) [hs]

theorem execAcquire_kept (p : Fin 2) (s : State) (hs : Kept a s) :
    ∀ t', (execAcquire p s) = .next t' → Kept a t' := by
  intro t' ht
  unfold execAcquire at ht
  injection ht with ht
  subst ht
  simp (maxDischargeDepth := 30) [hs]

theorem execRenew_kept (p : Fin 2) (s : State) (hs : Kept a s) :
    ∀ t', (execRenew p s) = .next t' → Kept a t' := by
  intro t' ht
  unfold execRenew at ht
  injection ht with ht
  subst ht
  simp (maxDischargeDepth := 30) [hs]

theorem execReleaseLease_kept (p : Fin 2) (s : State) (hs : Kept a s) :
    ∀ t', (execReleaseLease p s) = .next t' → Kept a t' := by
  intro t' ht
  unfold execReleaseLease at ht
  injection ht with ht
  subst ht
  simp (maxDischargeDepth := 30) [hs]

theorem execLeaseExpiry_kept (s : State) (hs : Kept a s) :
    ∀ t', (execLeaseExpiry s) = .next t' → Kept a t' := by
  intro t' ht
  unfold execLeaseExpiry at ht
  injection ht with ht
  subst ht
  simp (maxDischargeDepth := 30) [hs]

theorem execEthernetFrame_kept (e : Fin 2) (frame : List Byte) (check : FrameCheck) (s : State) (hs : Kept a s) :
    ∀ t', (execEthernetFrame e frame check s) = .next t' → Kept a t' := by
  intro t' ht
  unfold execEthernetFrame at ht
  injection ht with ht
  subst ht
  simp (maxDischargeDepth := 30) [hs]

theorem execEthernetLinkDown_kept (e : Fin 2) (lanes : BitVec 4) (s : State) (hs : Kept a s) :
    ∀ t', (execEthernetLinkDown e lanes s) = .next t' → Kept a t' := by
  intro t' ht
  unfold execEthernetLinkDown at ht
  injection ht with ht
  subst ht
  simp (maxDischargeDepth := 30) [hs]

theorem execEthernetLinkUp_kept (e : Fin 2) (lanes : BitVec 4) (s : State) (hs : Kept a s) :
    ∀ t', (execEthernetLinkUp e lanes s) = .next t' → Kept a t' := by
  intro t' ht
  unfold execEthernetLinkUp at ht
  injection ht with ht
  subst ht
  simp (maxDischargeDepth := 30) [hs]

theorem execPowerOn_kept (s : State) (hs : Kept a s) :
    ∀ t', (execPowerOn s) = .next t' → Kept a t' := by
  intro t' ht
  unfold execPowerOn at ht
  injection ht with ht
  subst ht
  simp (maxDischargeDepth := 30) [hs]

theorem execBringUpStep_kept (x : BringUp) (s : State) (hs : Kept a s) :
    ∀ t', (execBringUpStep x s) = .next t' → Kept a t' := by
  intro t' ht
  unfold execBringUpStep at ht
  injection ht with ht
  subst ht
  simp (maxDischargeDepth := 30) [hs]

theorem execBringUpStepTimeout_kept (s : State) (hs : Kept a s) :
    ∀ t', (execBringUpStepTimeout s) = .next t' → Kept a t' := by
  intro t' ht
  unfold execBringUpStepTimeout at ht
  injection ht with ht
  subst ht
  simp (maxDischargeDepth := 30) [hs]

theorem execModuleReset_kept (code : BitVec 12) (s : State) (hs : Kept a s) :
    ∀ t', (execModuleReset code s) = .next t' → Kept a t' := by
  intro t' ht
  unfold execModuleReset at ht
  injection ht with ht
  subst ht
  simp (maxDischargeDepth := 30) [hs]

theorem execRangerWatchdog_kept (s : State) (hs : Kept a s) :
    ∀ t', (execRangerWatchdog s) = .next t' → Kept a t' := by
  intro t' ht
  unfold execRangerWatchdog at ht
  injection ht with ht
  subst ht
  simp (maxDischargeDepth := 30) [hs]

theorem execSpareSweep_kept (r : Fin 32) (k : Fin 9) (pass : Bool) (s : State) (hs : Kept a s) :
    ∀ t', (execSpareSweep r k pass s) = .next t' → Kept a t' := by
  intro t' ht
  unfold execSpareSweep at ht
  injection ht with ht
  subst ht
  simp (maxDischargeDepth := 30) [hs]

theorem execInputUndervoltage_kept (volt : BitVec 16) (us : BitVec 32) (s : State) (hs : Kept a s) :
    ∀ t', (execInputUndervoltage volt us s) = .next t' → Kept a t' := by
  intro t' ht
  unfold execInputUndervoltage at ht
  injection ht with ht
  subst ht
  simp (maxDischargeDepth := 30) [hs]

theorem execInputOvervoltage_kept (volt : BitVec 16) (us : BitVec 32) (s : State) (hs : Kept a s) :
    ∀ t', (execInputOvervoltage volt us s) = .next t' → Kept a t' := by
  intro t' ht
  unfold execInputOvervoltage at ht
  injection ht with ht
  subst ht
  simp (maxDischargeDepth := 30) [hs]

theorem execInputRestored_kept (low high : BitVec 16) (ms : BitVec 32) (s : State) (hs : Kept a s) :
    ∀ t', (execInputRestored low high ms s) = .next t' → Kept a t' := by
  intro t' ht
  unfold execInputRestored at ht
  injection ht with ht
  subst ht
  simp (maxDischargeDepth := 30) [hs]

theorem execSensePinBreak_kept (s : State) (hs : Kept a s) :
    ∀ t', (execSensePinBreak s) = .next t' → Kept a t' := by
  intro t' ht
  unfold execSensePinBreak at ht
  injection ht with ht
  subst ht
  simp (maxDischargeDepth := 30) [hs]

theorem execEntryLimitUpdate_kept (volt : BitVec 16) (pairs : List Pair) (s : State) (hs : Kept a s) :
    ∀ t', (execEntryLimitUpdate volt pairs s) = .next t' → Kept a t' := by
  intro t' ht
  unfold execEntryLimitUpdate at ht
  injection ht with ht
  subst ht
  simp (maxDischargeDepth := 30) [hs]

theorem execPairLost_kept (i : Fin 4) (pairs : List Pair) (s : State) (hs : Kept a s) :
    ∀ t', (execPairLost i pairs s) = .next t' → Kept a t' := by
  intro t' ht
  unfold execPairLost at ht
  injection ht with ht
  subst ht
  simp (maxDischargeDepth := 30) [hs]

theorem execPairReturn_kept (i : Fin 4) (pairs : List Pair) (s : State) (hs : Kept a s) :
    ∀ t', (execPairReturn i pairs s) = .next t' → Kept a t' := by
  intro t' ht
  unfold execPairReturn at ht
  injection ht with ht
  subst ht
  simp (maxDischargeDepth := 30) [hs]

theorem execPairShortage_kept (s : State) (hs : Kept a s) :
    ∀ t', (execPairShortage s) = .next t' → Kept a t' := by
  intro t' ht
  unfold execPairShortage at ht
  injection ht with ht
  subst ht
  simp (maxDischargeDepth := 30) [hs]

theorem execPairRestored_kept (s : State) (hs : Kept a s) :
    ∀ t', (execPairRestored s) = .next t' → Kept a t' := by
  intro t' ht
  unfold execPairRestored at ht
  injection ht with ht
  subst ht
  simp (maxDischargeDepth := 30) [hs]

theorem execRailShort_kept (k : Fin 8) (s : State) (hs : Kept a s) :
    ∀ t', (execRailShort k s) = .next t' → Kept a t' := by
  intro t' ht
  unfold execRailShort at ht
  injection ht with ht
  subst ht
  simp (maxDischargeDepth := 30) [hs]

theorem execLampFail_kept (l : Fin 8) (own setting : BitVec 16) (check : Bool) (power : BitVec 16) (s : State) (hs : Kept a s) :
    ∀ t', (execLampFail l own setting check power s) = .next t' → Kept a t' := by
  intro t' ht
  unfold execLampFail at ht
  injection ht with ht
  subst ht
  simp (maxDischargeDepth := 30) [hs]

theorem execLampRemove_kept (l : Fin 8) (power : BitVec 16) (s : State) (hs : Kept a s) :
    ∀ t', (execLampRemove l power s) = .next t' → Kept a t' := by
  intro t' ht
  unfold execLampRemove at ht
  injection ht with ht
  subst ht
  simp (maxDischargeDepth := 30) [hs]

theorem execLampInsert_kept (l : Fin 8) (typeOk : Bool) (serial : BitVec 64) (s : State) (hs : Kept a s) :
    ∀ t', (execLampInsert l typeOk serial s) = .next t' → Kept a t' := by
  intro t' ht
  unfold execLampInsert at ht
  injection ht with ht
  subst ht
  simp (maxDischargeDepth := 30) [hs]

theorem execLampRampDone_kept (l : Fin 8) (own : BitVec 16) (other : BitVec 16) (s : State) (hs : Kept a s) :
    ∀ t', (execLampRampDone l own other s) = .next t' → Kept a t' := by
  intro t' ht
  unfold execLampRampDone at ht
  injection ht with ht
  subst ht
  simp (maxDischargeDepth := 30) [hs]

theorem execFibreOpen_kept (q : Fin 55) (us : BitVec 32) (s : State) (hs : Kept a s) :
    ∀ t', (execFibreOpen q us s) = .next t' → Kept a t' := by
  intro t' ht
  unfold execFibreOpen at ht
  injection ht with ht
  subst ht
  simp (maxDischargeDepth := 30) [hs]

theorem execFibreProbe_kept (q : Fin 55) (s : State) (hs : Kept a s) :
    ∀ t', (execFibreProbe q s) = .next t' → Kept a t' := by
  intro t' ht
  unfold execFibreProbe at ht
  injection ht with ht
  subst ht
  simp (maxDischargeDepth := 30) [hs]

theorem execFibreRestored_kept (q : Fin 55) (us : BitVec 32) (s : State) (hs : Kept a s) :
    ∀ t', (execFibreRestored q us s) = .next t' → Kept a t' := by
  intro t' ht
  unfold execFibreRestored at ht
  injection ht with ht
  subst ht
  simp (maxDischargeDepth := 30) [hs]

theorem execCoolantLeak_kept (s : State) (hs : Kept a s) :
    ∀ t', (execCoolantLeak s) = .next t' → Kept a t' := by
  intro t' ht
  unfold execCoolantLeak at ht
  injection ht with ht
  subst ht
  simp (maxDischargeDepth := 30) [hs]

theorem execLidOpen_kept (s : State) (hs : Kept a s) :
    ∀ t', (execLidOpen s) = .next t' → Kept a t' := by
  intro t' ht
  unfold execLidOpen at ht
  injection ht with ht
  subst ht
  simp (maxDischargeDepth := 30) [hs]

theorem execSelftestRun_kept (s : State) (hs : Kept a s) :
    ∀ t', (execSelftestRun s) = .next t' → Kept a t' := by
  intro t' ht
  unfold execSelftestRun at ht
  injection ht with ht
  subst ht
  simp (maxDischargeDepth := 30) [hs]

theorem execSelftestComplete_kept (clusters : List (BitVec 9)) (tracks : List (BitVec 24)) (s : State) (hs : Kept a s) :
    ∀ t', (execSelftestComplete clusters tracks s) = .next t' → Kept a t' := by
  intro t' ht
  unfold execSelftestComplete at ht
  injection ht with ht
  subst ht
  simp (maxDischargeDepth := 30) [hs]

theorem execSelftestTimeout_kept (s : State) (hs : Kept a s) :
    ∀ t', (execSelftestTimeout s) = .next t' → Kept a t' := by
  intro t' ht
  unfold execSelftestTimeout at ht
  injection ht with ht
  subst ht
  simp (maxDischargeDepth := 30) [hs]

theorem execRecalibration_kept (m : Measure) (s : State) (hs : Kept a s) :
    ∀ t', (execRecalibration m s) = .next t' → Kept a t' := by
  intro t' ht
  unfold execRecalibration at ht
  injection ht with ht
  subst ht
  simp (maxDischargeDepth := 30) [hs]

theorem execInfo_kept (p : Fin 2) (seq : BitVec 8) (s : State) (hs : Kept a s) :
    ∀ t', (execInfo p seq s) = .next t' → Kept a t' := by
  intro t' ht
  unfold execInfo at ht
  injection ht with ht
  subst ht
  simp (maxDischargeDepth := 30) +contextual [hs]

theorem execEvents_kept (p : Fin 2) (seq : BitVec 8) (s : State) (hs : Kept a s) :
    ∀ t', (execEvents p seq s) = .next t' → Kept a t' := by
  intro t' ht
  unfold execEvents at ht
  injection ht with ht
  subst ht
  simp (maxDischargeDepth := 30) +contextual [hs]

theorem execCoord_kept (p : Fin 2) (seq : BitVec 8) (s : State) (hs : Kept a s) :
    ∀ t', (execCoord p seq s) = .next t' → Kept a t' := by
  intro t' ht
  unfold execCoord at ht
  injection ht with ht
  subst ht
  simp (maxDischargeDepth := 30) +contextual [hs]

theorem execNetCfg_kept (p : Fin 2) (seq : BitVec 8) (s : State) (hs : Kept a s) :
    ∀ t', (execNetCfg p seq s) = .next t' → Kept a t' := by
  intro t' ht
  unfold execNetCfg at ht
  injection ht with ht
  subst ht
  simp (maxDischargeDepth := 30) +contextual [hs]

theorem execNetLoad_kept (p : Fin 2) (seq : BitVec 8) (s : State) (hs : Kept a s) :
    ∀ t', (execNetLoad p seq s) = .next t' → Kept a t' := by
  intro t' ht
  unfold execNetLoad at ht
  injection ht with ht
  subst ht
  simp (maxDischargeDepth := 30) +contextual [hs]

theorem execNetPut_kept (p : Fin 2) (seq : BitVec 8) (s : State) (hs : Kept a s) :
    ∀ t', (execNetPut p seq s) = .next t' → Kept a t' := by
  intro t' ht
  unfold execNetPut at ht
  injection ht with ht
  subst ht
  simp (maxDischargeDepth := 30) +contextual [hs]

theorem execNetGet_kept (p : Fin 2) (seq : BitVec 8) (s : State) (hs : Kept a s) :
    ∀ t', (execNetGet p seq s) = .next t' → Kept a t' := by
  intro t' ht
  unfold execNetGet at ht
  injection ht with ht
  subst ht
  simp (maxDischargeDepth := 30) +contextual [hs]

theorem execNetworkCommandComplete_kept (ok : Bool) (data : List Byte) (e : Fin 2) (frames : BitVec 64) (s : State) (hs : Kept a s) :
    ∀ t', (execNetworkCommandComplete ok data e frames s) = .next t' → Kept a t' := by
  intro t' ht
  unfold execNetworkCommandComplete at ht
  injection ht with ht
  subst ht
  simp (maxDischargeDepth := 30) [hs]

theorem execTlmCfg_kept (p : Fin 2) (seq : BitVec 8) (s : State) (hs : Kept a s) :
    ∀ t', (execTlmCfg p seq s) = .next t' → Kept a t' := by
  intro t' ht
  unfold execTlmCfg at ht
  injection ht with ht
  subst ht
  simp (maxDischargeDepth := 30) +contextual [hs]

theorem execReset_kept (p : Fin 2) (seq : BitVec 8) (s : State) (hs : Kept a s) :
    ∀ t', (execReset p seq s) = .next t' → Kept a t' := by
  intro t' ht
  unfold execReset at ht
  injection ht with ht
  subst ht
  simp (maxDischargeDepth := 30) +contextual [hs]

theorem execCancel_kept (p : Fin 2) (seq : BitVec 8) (s : State) (hs : Kept a s) :
    ∀ t', (execCancel p seq s) = .next t' → Kept a t' := by
  intro t' ht
  unfold execCancel at ht
  injection ht with ht
  subst ht
  simp (maxDischargeDepth := 30) [hs]

theorem execAttest_kept (p : Fin 2) (seq : BitVec 8) (s : State) (hs : Kept a s) :
    ∀ t', (execAttest p seq s) = .next t' → Kept a t' := by
  intro t' ht
  unfold execAttest at ht
  injection ht with ht
  subst ht
  simp (maxDischargeDepth := 30) +contextual [hs]

theorem execCert_kept (p : Fin 2) (seq : BitVec 8) (s : State) (hs : Kept a s) :
    ∀ t', (execCert p seq s) = .next t' → Kept a t' := by
  intro t' ht
  unfold execCert at ht
  injection ht with ht
  subst ht
  simp (maxDischargeDepth := 30) +contextual [hs]

theorem execMap_kept (p : Fin 2) (seq : BitVec 8) (s : State) (hs : Kept a s) :
    ∀ t', (execMap p seq s) = .next t' → Kept a t' := by
  intro t' ht
  unfold execMap at ht
  injection ht with ht
  subst ht
  simp (maxDischargeDepth := 30) +contextual [hs]

theorem execFwStage_kept (p : Fin 2) (seq : BitVec 8) (s : State) (hs : Kept a s) :
    ∀ t', (execFwStage p seq s) = .next t' → Kept a t' := by
  intro t' ht
  unfold execFwStage at ht
  injection ht with ht
  subst ht
  simp (maxDischargeDepth := 30) +contextual [hs]

theorem execFwActivate_kept (p : Fin 2) (seq : BitVec 8) (s : State) (hs : Kept a s) :
    ∀ t', (execFwActivate p seq s) = .next t' → Kept a t' := by
  intro t' ht
  unfold execFwActivate at ht
  injection ht with ht
  subst ht
  simp (maxDischargeDepth := 30) +contextual [hs]

theorem execSelftest_kept (p : Fin 2) (seq : BitVec 8) (s : State) (hs : Kept a s) :
    ∀ t', (execSelftest p seq s) = .next t' → Kept a t' := by
  intro t' ht
  unfold execSelftest at ht
  injection ht with ht
  subst ht
  simp (maxDischargeDepth := 30) +contextual [hs]

theorem execStStatus_kept (p : Fin 2) (seq : BitVec 8) (s : State) (hs : Kept a s) :
    ∀ t', (execStStatus p seq s) = .next t' → Kept a t' := by
  intro t' ht
  unfold execStStatus at ht
  injection ht with ht
  subst ht
  simp (maxDischargeDepth := 30) +contextual [hs]

theorem execStCancel_kept (p : Fin 2) (seq : BitVec 8) (s : State) (hs : Kept a s) :
    ∀ t', (execStCancel p seq s) = .next t' → Kept a t' := by
  intro t' ht
  unfold execStCancel at ht
  injection ht with ht
  subst ht
  simp (maxDischargeDepth := 30) +contextual [hs]

theorem execTelemetrySend_kept (s : State) (hs : Kept a s) :
    ∀ t', (execTelemetrySend s) = .next t' → Kept a t' := by
  intro t' ht
  unfold execTelemetrySend at ht
  injection ht with ht
  subst ht
  simp (maxDischargeDepth := 30) [hs]

theorem execFarAccessServe_kept (r : Fin 32) (t : Fin 24) (s : State) (hs : Kept a s) :
    ∀ t', (execFarAccessServe r t s) = .next t' → Kept a t' := by
  intro t' ht
  unfold execFarAccessServe at ht
  injection ht with ht
  subst ht
  simp (maxDischargeDepth := 30) [hs]

theorem execPegWlimWrite_kept (q : Requester) (r : Fin 32) (v : BitVec 32) (s : State) (hs : Kept a s) :
    ∀ t', (execPegWlimWrite q r v s) = .next t' → Kept a t' := by
  intro t' ht
  unfold execPegWlimWrite at ht
  injection ht with ht
  subst ht
  simp (maxDischargeDepth := 30) +contextual [hs]

theorem execPegWindowWrite_kept (p : Fin 2) (off : BitVec 17) (size : Size) (v : BitVec 64) (s : State) (hs : Kept a s) :
    ∀ t', (execPegWindowWrite p off size v s) = .next t' → Kept a t' := by
  intro t' ht
  unfold execPegWindowWrite at ht
  injection ht with ht
  subst ht
  simp (maxDischargeDepth := 30) [hs]

theorem execVestibuleWrite_kept (p : Fin 2) (off : BitVec 36) (data : List Byte) (poisoned : Bool) (s : State) (hs : Kept a s) :
    ∀ t', (execVestibuleWrite p off data poisoned s) = .next t' → Kept a t' := by
  intro t' ht
  unfold execVestibuleWrite at ht
  injection ht with ht
  subst ht
  simp (maxDischargeDepth := 30) [hs]

theorem execVestibuleRead_kept (p : Fin 2) (off : BitVec 36) (len : BitVec 13) (s : State) (hs : Kept a s) :
    ∀ t', (execVestibuleRead p off len s) = .next t' → Kept a t' := by
  intro t' ht
  unfold execVestibuleRead at ht
  injection ht with ht
  subst ht
  simp (maxDischargeDepth := 30) [hs]

theorem execVestibuleReadTimeout_kept (p : Fin 2) (s : State) (hs : Kept a s) :
    ∀ t', (execVestibuleReadTimeout p s) = .next t' → Kept a t' := by
  intro t' ht
  unfold execVestibuleReadTimeout at ht
  injection ht with ht
  subst ht
  simp (maxDischargeDepth := 30) [hs]

theorem execWeightLoadWrite_kept (p : Fin 2) (off : BitVec 36) (data : List Byte) (s : State) (hs : Kept a s) :
    ∀ t', (execWeightLoadWrite p off data s) = .next t' → Kept a t' := by
  intro t' ht
  unfold execWeightLoadWrite at ht
  injection ht with ht
  subst ht
  simp (maxDischargeDepth := 30) [hs]

theorem execRegisterWrite_kept (q : Requester) (off : BitVec 26) (size8 : Bool) (v : BitVec 64) (hw : BitVec 64) (s : State) (hs : Kept a s) :
    ∀ t', (execRegisterWrite q off size8 v hw s) = .next t' → Kept a t' := by
  intro t' ht
  unfold execRegisterWrite at ht
  (repeat' split at ht) <;> first | cases ht; done | (injection ht with ht; subst ht; simp (maxDischargeDepth := 30) +contextual [hs])

theorem execRegisterReadClear_kept (q : Requester) (off : BitVec 26) (size8 : Bool) (hw : BitVec 64) (s : State) (hs : Kept a s) :
    ∀ t', (execRegisterReadClear q off size8 hw s) = .next t' → Kept a t' := by
  intro t' ht
  unfold execRegisterReadClear at ht
  injection ht with ht
  subst ht
  simp (maxDischargeDepth := 30) [hs]

theorem execLowerHalfReadLatch_kept (q : Requester) (off : BitVec 26) (s : State) (hs : Kept a s) :
    ∀ t', (execLowerHalfReadLatch q off s) = .next t' → Kept a t' := by
  intro t' ht
  unfold execLowerHalfReadLatch at ht
  injection ht with ht
  subst ht
  simp (maxDischargeDepth := 30) [hs]

theorem execBar0OddAccess_kept (q : Requester) (off : BitVec 26) (size : Size) (write : Bool) (v : BitVec 64) (s : State) (hs : Kept a s) :
    ∀ t', (execBar0OddAccess q off size write v s) = .next t' → Kept a t' := by
  intro t' ht
  unfold execBar0OddAccess at ht
  injection ht with ht
  subst ht
  simp (maxDischargeDepth := 30) [hs]

end Sys2Proof.Machine
end

