-- ==== Sys2Proof/Laws/Same.lean ====
section
/-!
SUPPORT. Laws/Same.lean: which fields of State an operation may change. One lemma for each operation that answers a state and cannot
reset the module, in the files Laws/Same*.lean: where the mask admits every field the operation touches, nothing outside the mask changes.
-/

namespace Sys2Proof.Machine

set_option Elab.async false

variable {m : Mask} {a : State}

theorem Same.refl (s : State) : Same m s s := ⟨fun _ => rfl, fun _ => rfl, fun _ => rfl, fun _ => rfl, fun _ => rfl, fun _ => rfl,
    fun _ => rfl, fun _ => rfl, fun _ => rfl, fun _ => rfl, fun _ => rfl, fun _ => rfl, fun _ => rfl, fun _ => rfl, fun _ => rfl,
    fun _ => rfl, fun _ => rfl, fun _ => rfl, fun _ => rfl, fun _ => rfl, fun _ => rfl, fun _ => rfl, fun _ => rfl, fun _ => rfl,
    fun _ => rfl, fun _ => rfl, fun _ => rfl, fun _ => rfl, fun _ => rfl, fun _ => rfl, fun _ => rfl, fun _ => rfl, fun _ => rfl,
    fun _ => rfl, fun _ => rfl, fun _ => rfl⟩

/-- Every field that m admits, n admits. -/
def Mask.within (m n : Mask) : Bool :=
  (!m.time || n.time) && (!m.free || n.free) && (!m.regs || n.regs) && (!m.halves || n.halves) &&
  (!m.latches || n.latches) && (!m.pacer || n.pacer) && (!m.pitch || n.pitch) && (!m.trail || n.trail) &&
  (!m.tarp || n.tarp) && (!m.compass || n.compass) && (!m.identity || n.identity) && (!m.regions || n.regions) &&
  (!m.pegTouched || n.pegTouched) && (!m.hubIn || n.hubIn) && (!m.ports || n.ports) && (!m.sinks || n.sinks) &&
  (!m.hbm || n.hbm) && (!m.barrel || n.barrel) && (!m.far || n.far) && (!m.tset || n.tset) &&
  (!m.flaws || n.flaws) && (!m.zipper || n.zipper) && (!m.gearLog || n.gearLog) && (!m.gearScript || n.gearScript) &&
  (!m.firewatch || n.firewatch) && (!m.hosts || n.hosts) && (!m.firmware || n.firmware) && (!m.whistle || n.whistle) &&
  (!m.lantern || n.lantern) && (!m.flash || n.flash) && (!m.startup || n.startup) && (!m.log || n.log) &&
  (!m.logSeq || n.logSeq) && (!m.logged || n.logged) && (!m.out || n.out) && (!m.pending || n.pending)

/-- A wider mask holds where a narrower one does. -/
theorem Same.mono {m n : Mask} {a s : State} (h : Same m a s) (hm : m.within n = true := by rfl) : Same n a s := by
  simp only [Mask.within, Bool.and_eq_true, Bool.or_eq_true, Bool.not_eq_true'] at hm
  exact ⟨fun e => h.time (hm.1.1.1.1.1.1.1.1.1.1.1.1.1.1.1.1.1.1.1.1.1.1.1.1.1.1.1.1.1.1.1.1.1.1.1.resolve_right (by simp [e])),
    fun e => h.free (hm.1.1.1.1.1.1.1.1.1.1.1.1.1.1.1.1.1.1.1.1.1.1.1.1.1.1.1.1.1.1.1.1.1.1.2.resolve_right (by simp [e])),
    fun e => h.regs (hm.1.1.1.1.1.1.1.1.1.1.1.1.1.1.1.1.1.1.1.1.1.1.1.1.1.1.1.1.1.1.1.1.1.2.resolve_right (by simp [e])),
    fun e => h.halves (hm.1.1.1.1.1.1.1.1.1.1.1.1.1.1.1.1.1.1.1.1.1.1.1.1.1.1.1.1.1.1.1.1.2.resolve_right (by simp [e])),
    fun e => h.latches (hm.1.1.1.1.1.1.1.1.1.1.1.1.1.1.1.1.1.1.1.1.1.1.1.1.1.1.1.1.1.1.1.2.resolve_right (by simp [e])),
    fun e => h.pacer (hm.1.1.1.1.1.1.1.1.1.1.1.1.1.1.1.1.1.1.1.1.1.1.1.1.1.1.1.1.1.1.2.resolve_right (by simp [e])),
    fun e => h.pitch (hm.1.1.1.1.1.1.1.1.1.1.1.1.1.1.1.1.1.1.1.1.1.1.1.1.1.1.1.1.1.2.resolve_right (by simp [e])),
    fun e => h.trail (hm.1.1.1.1.1.1.1.1.1.1.1.1.1.1.1.1.1.1.1.1.1.1.1.1.1.1.1.1.2.resolve_right (by simp [e])),
    fun e => h.tarp (hm.1.1.1.1.1.1.1.1.1.1.1.1.1.1.1.1.1.1.1.1.1.1.1.1.1.1.1.2.resolve_right (by simp [e])),
    fun e => h.compass (hm.1.1.1.1.1.1.1.1.1.1.1.1.1.1.1.1.1.1.1.1.1.1.1.1.1.1.2.resolve_right (by simp [e])),
    fun e => h.identity (hm.1.1.1.1.1.1.1.1.1.1.1.1.1.1.1.1.1.1.1.1.1.1.1.1.1.2.resolve_right (by simp [e])),
    fun e => h.regions (hm.1.1.1.1.1.1.1.1.1.1.1.1.1.1.1.1.1.1.1.1.1.1.1.1.2.resolve_right (by simp [e])),
    fun e => h.pegTouched (hm.1.1.1.1.1.1.1.1.1.1.1.1.1.1.1.1.1.1.1.1.1.1.1.2.resolve_right (by simp [e])),
    fun e => h.hubIn (hm.1.1.1.1.1.1.1.1.1.1.1.1.1.1.1.1.1.1.1.1.1.1.2.resolve_right (by simp [e])),
    fun e => h.ports (hm.1.1.1.1.1.1.1.1.1.1.1.1.1.1.1.1.1.1.1.1.1.2.resolve_right (by simp [e])),
    fun e => h.sinks (hm.1.1.1.1.1.1.1.1.1.1.1.1.1.1.1.1.1.1.1.1.2.resolve_right (by simp [e])),
    fun e => h.hbm (hm.1.1.1.1.1.1.1.1.1.1.1.1.1.1.1.1.1.1.1.2.resolve_right (by simp [e])),
    fun e => h.barrel (hm.1.1.1.1.1.1.1.1.1.1.1.1.1.1.1.1.1.1.2.resolve_right (by simp [e])),
    fun e => h.far (hm.1.1.1.1.1.1.1.1.1.1.1.1.1.1.1.1.1.2.resolve_right (by simp [e])),
    fun e => h.tset (hm.1.1.1.1.1.1.1.1.1.1.1.1.1.1.1.1.2.resolve_right (by simp [e])),
    fun e => h.flaws (hm.1.1.1.1.1.1.1.1.1.1.1.1.1.1.1.2.resolve_right (by simp [e])),
    fun e => h.zipper (hm.1.1.1.1.1.1.1.1.1.1.1.1.1.1.2.resolve_right (by simp [e])),
    fun e => h.gearLog (hm.1.1.1.1.1.1.1.1.1.1.1.1.1.2.resolve_right (by simp [e])),
    fun e => h.gearScript (hm.1.1.1.1.1.1.1.1.1.1.1.1.2.resolve_right (by simp [e])),
    fun e => h.firewatch (hm.1.1.1.1.1.1.1.1.1.1.1.2.resolve_right (by simp [e])),
    fun e => h.hosts (hm.1.1.1.1.1.1.1.1.1.1.2.resolve_right (by simp [e])),
    fun e => h.firmware (hm.1.1.1.1.1.1.1.1.1.2.resolve_right (by simp [e])),
    fun e => h.whistle (hm.1.1.1.1.1.1.1.1.2.resolve_right (by simp [e])),
    fun e => h.lantern (hm.1.1.1.1.1.1.1.2.resolve_right (by simp [e])),
    fun e => h.flash (hm.1.1.1.1.1.1.2.resolve_right (by simp [e])),
    fun e => h.startup (hm.1.1.1.1.1.2.resolve_right (by simp [e])),
    fun e => h.log (hm.1.1.1.1.2.resolve_right (by simp [e])),
    fun e => h.logSeq (hm.1.1.1.2.resolve_right (by simp [e])),
    fun e => h.logged (hm.1.1.2.resolve_right (by simp [e])),
    fun e => h.out (hm.1.2.resolve_right (by simp [e])),
    fun e => h.pending (hm.2.resolve_right (by simp [e]))⟩

/-- One change after another. -/
theorem Same.trans {m : Mask} {a s t : State} (h : Same m a s) (h' : Same m s t) : Same m a t :=
  ⟨fun e => (h'.time e).trans (h.time e),
   fun e => (h'.free e).trans (h.free e),
   fun e => (h'.regs e).trans (h.regs e),
   fun e => (h'.halves e).trans (h.halves e),
   fun e => (h'.latches e).trans (h.latches e),
   fun e => (h'.pacer e).trans (h.pacer e),
   fun e => (h'.pitch e).trans (h.pitch e),
   fun e => (h'.trail e).trans (h.trail e),
   fun e => (h'.tarp e).trans (h.tarp e),
   fun e => (h'.compass e).trans (h.compass e),
   fun e => (h'.identity e).trans (h.identity e),
   fun e => (h'.regions e).trans (h.regions e),
   fun e => (h'.pegTouched e).trans (h.pegTouched e),
   fun e => (h'.hubIn e).trans (h.hubIn e),
   fun e => (h'.ports e).trans (h.ports e),
   fun e => (h'.sinks e).trans (h.sinks e),
   fun e => (h'.hbm e).trans (h.hbm e),
   fun e => (h'.barrel e).trans (h.barrel e),
   fun e => (h'.far e).trans (h.far e),
   fun e => (h'.tset e).trans (h.tset e),
   fun e => (h'.flaws e).trans (h.flaws e),
   fun e => (h'.zipper e).trans (h.zipper e),
   fun e => (h'.gearLog e).trans (h.gearLog e),
   fun e => (h'.gearScript e).trans (h.gearScript e),
   fun e => (h'.firewatch e).trans (h.firewatch e),
   fun e => (h'.hosts e).trans (h.hosts e),
   fun e => (h'.firmware e).trans (h.firmware e),
   fun e => (h'.whistle e).trans (h.whistle e),
   fun e => (h'.lantern e).trans (h.lantern e),
   fun e => (h'.flash e).trans (h.flash e),
   fun e => (h'.startup e).trans (h.startup e),
   fun e => (h'.log e).trans (h.log e),
   fun e => (h'.logSeq e).trans (h.logSeq e),
   fun e => (h'.logged e).trans (h.logged e),
   fun e => (h'.out e).trans (h.out e),
   fun e => (h'.pending e).trans (h.pending e)⟩

@[simp] theorem foldl_same {α : Type} (l : List α) (f : State → α → State) (s : State) (h : Same m a s)
    (hf : ∀ s x, Same m a s → Same m a (f s x)) : Same m a (l.foldl f s) := by
  induction l generalizing s with
  | nil => exact h
  | cons x xs ih => exact ih (f s x) (hf s x h)

@[simp] theorem foldl_same_fst {α β : Type} (l : List α) (f : State × β → α → State × β) (p : State × β) (h : Same m a p.1)
    (hf : ∀ p x, Same m a p.1 → Same m a (f p x).1) : Same m a (l.foldl f p).1 := by
  induction l generalizing p with
  | nil => exact h
  | cons x xs ih => exact ih (f p x) (hf p x h)

@[simp] theorem foldl_same_snd {α β : Type} (l : List α) (f : β × State → α → β × State) (p : β × State) (h : Same m a p.2)
    (hf : ∀ p x, Same m a p.2 → Same m a (f p x).2) : Same m a (l.foldl f p).2 := by
  induction l generalizing p with
  | nil => exact h
  | cons x xs ih => exact ih (f p x) (hf p x h)

theorem ite_same (c : Prop) [Decidable c] (x y : State) (hx : c → Same m a x) (hy : ¬c → Same m a y) :
    Same m a (if c then x else y) := by split <;> simp_all
theorem ite_same_snd {β : Type} (c : Prop) [Decidable c] (x y : β × State) (hx : c → Same m a x.2) (hy : ¬c → Same m a y.2) :
    Same m a (if c then x else y).2 := by split <;> simp_all
@[simp] theorem ite_same' (c : Prop) [Decidable c] (x y : State) (hx : Same m a x) (hy : Same m a y) : Same m a (if c then x else y) :=
  ite_same c x y (fun _ => hx) (fun _ => hy)
@[simp] theorem ite_same_snd' {β : Type} (c : Prop) [Decidable c] (x y : β × State) (hx : Same m a x.2) (hy : Same m a y.2) :
    Same m a (if c then x else y).2 := ite_same_snd c x y (fun _ => hx) (fun _ => hy)

/-- An update written field by field. -/
@[simp] theorem mk_same (s : State) (h : Same m a s) (time : Nat) (free : Nat) (regs : Store W64) (halves : List (Requester × Nat × W32))
    (latches : List (Requester × Nat × W32)) (pacer : Pacer) (pitch : Option Pitch) (trail : Trail) (tarp : Tarp) (compass : Compass)
    (identity : Identity) (regions : Vector Region 32) (pegTouched : Store Nat) (hubIn : List (List Entry)) (ports : Vector Port 10)
    (sinks : List (Nat × List (List Byte))) (hbm : Memory) (barrel : Memory) (far : Far) (tset : List Byte) (flaws : List Flaw)
    (zipper : Zipper) (gearLog : List (W64 × W64)) (gearScript : List (Nat × Nat)) (firewatch : Firewatch) (hosts : Vector HostPort 2)
    (firmware : Firmware) (whistle : Whistle) (lantern : Lantern) (flash : Flash) (startup : Startup) (log : List Event) (logSeq : Nat)
    (logged : Store (Nat × Nat)) (out : List Output)
    (h_time : m.time = true ∨ time = s.time := by first | exact Or.inr rfl | exact Or.inl rfl | exact Or.inl ‹_›)
    (h_free : m.free = true ∨ free = s.free := by first | exact Or.inr rfl | exact Or.inl rfl | exact Or.inl ‹_›)
    (h_regs : m.regs = true ∨ regs = s.regs := by first | exact Or.inr rfl | exact Or.inl rfl | exact Or.inl ‹_›)
    (h_halves : m.halves = true ∨ halves = s.halves := by first | exact Or.inr rfl | exact Or.inl rfl | exact Or.inl ‹_›)
    (h_latches : m.latches = true ∨ latches = s.latches := by first | exact Or.inr rfl | exact Or.inl rfl | exact Or.inl ‹_›)
    (h_pacer : m.pacer = true ∨ pacer = s.pacer := by first | exact Or.inr rfl | exact Or.inl rfl | exact Or.inl ‹_›)
    (h_pitch : m.pitch = true ∨ pitch = s.pitch := by first | exact Or.inr rfl | exact Or.inl rfl | exact Or.inl ‹_›)
    (h_trail : m.trail = true ∨ trail = s.trail := by first | exact Or.inr rfl | exact Or.inl rfl | exact Or.inl ‹_›)
    (h_tarp : m.tarp = true ∨ tarp = s.tarp := by first | exact Or.inr rfl | exact Or.inl rfl | exact Or.inl ‹_›)
    (h_compass : m.compass = true ∨ compass = s.compass := by first | exact Or.inr rfl | exact Or.inl rfl | exact Or.inl ‹_›)
    (h_identity : m.identity = true ∨ identity = s.identity := by first | exact Or.inr rfl | exact Or.inl rfl | exact Or.inl ‹_›)
    (h_regions : m.regions = true ∨ regions = s.regions := by first | exact Or.inr rfl | exact Or.inl rfl | exact Or.inl ‹_›)
    (h_pegTouched : m.pegTouched = true ∨ pegTouched = s.pegTouched := by first | exact Or.inr rfl | exact Or.inl rfl | exact Or.inl ‹_›)
    (h_hubIn : m.hubIn = true ∨ hubIn = s.hubIn := by first | exact Or.inr rfl | exact Or.inl rfl | exact Or.inl ‹_›)
    (h_ports : m.ports = true ∨ ports = s.ports := by first | exact Or.inr rfl | exact Or.inl rfl | exact Or.inl ‹_›)
    (h_sinks : m.sinks = true ∨ sinks = s.sinks := by first | exact Or.inr rfl | exact Or.inl rfl | exact Or.inl ‹_›)
    (h_hbm : m.hbm = true ∨ hbm = s.hbm := by first | exact Or.inr rfl | exact Or.inl rfl | exact Or.inl ‹_›)
    (h_barrel : m.barrel = true ∨ barrel = s.barrel := by first | exact Or.inr rfl | exact Or.inl rfl | exact Or.inl ‹_›)
    (h_far : m.far = true ∨ far = s.far := by first | exact Or.inr rfl | exact Or.inl rfl | exact Or.inl ‹_›)
    (h_tset : m.tset = true ∨ tset = s.tset := by first | exact Or.inr rfl | exact Or.inl rfl | exact Or.inl ‹_›)
    (h_flaws : m.flaws = true ∨ flaws = s.flaws := by first | exact Or.inr rfl | exact Or.inl rfl | exact Or.inl ‹_›)
    (h_zipper : m.zipper = true ∨ zipper = s.zipper := by first | exact Or.inr rfl | exact Or.inl rfl | exact Or.inl ‹_›)
    (h_gearLog : m.gearLog = true ∨ gearLog = s.gearLog := by first | exact Or.inr rfl | exact Or.inl rfl | exact Or.inl ‹_›)
    (h_gearScript : m.gearScript = true ∨ gearScript = s.gearScript := by first | exact Or.inr rfl | exact Or.inl rfl | exact Or.inl ‹_›)
    (h_firewatch : m.firewatch = true ∨ firewatch = s.firewatch := by first | exact Or.inr rfl | exact Or.inl rfl | exact Or.inl ‹_›)
    (h_hosts : m.hosts = true ∨ hosts = s.hosts := by first | exact Or.inr rfl | exact Or.inl rfl | exact Or.inl ‹_›)
    (h_firmware : m.firmware = true ∨ firmware = s.firmware := by first | exact Or.inr rfl | exact Or.inl rfl | exact Or.inl ‹_›)
    (h_whistle : m.whistle = true ∨ whistle = s.whistle := by first | exact Or.inr rfl | exact Or.inl rfl | exact Or.inl ‹_›)
    (h_lantern : m.lantern = true ∨ lantern = s.lantern := by first | exact Or.inr rfl | exact Or.inl rfl | exact Or.inl ‹_›)
    (h_flash : m.flash = true ∨ flash = s.flash := by first | exact Or.inr rfl | exact Or.inl rfl | exact Or.inl ‹_›)
    (h_startup : m.startup = true ∨ startup = s.startup := by first | exact Or.inr rfl | exact Or.inl rfl | exact Or.inl ‹_›)
    (h_log : m.log = true ∨ log = s.log := by first | exact Or.inr rfl | exact Or.inl rfl | exact Or.inl ‹_›)
    (h_logSeq : m.logSeq = true ∨ logSeq = s.logSeq := by first | exact Or.inr rfl | exact Or.inl rfl | exact Or.inl ‹_›)
    (h_logged : m.logged = true ∨ logged = s.logged := by first | exact Or.inr rfl | exact Or.inl rfl | exact Or.inl ‹_›)
    (h_out : m.out = true ∨ out = s.out := by first | exact Or.inr rfl | exact Or.inl rfl | exact Or.inl ‹_›) :
    Same m a
    (State.mk time free regs halves latches pacer pitch trail tarp compass identity regions pegTouched hubIn ports sinks hbm barrel far tset flaws zipper gearLog gearScript firewatch hosts firmware whistle lantern flash startup log logSeq logged out s.pending) :=
  ⟨fun e => (h_time.resolve_left (by simp [e])).trans (h.time e),
   fun e => (h_free.resolve_left (by simp [e])).trans (h.free e),
   fun e => (h_regs.resolve_left (by simp [e])).trans (h.regs e),
   fun e => (h_halves.resolve_left (by simp [e])).trans (h.halves e),
   fun e => (h_latches.resolve_left (by simp [e])).trans (h.latches e),
   fun e => (h_pacer.resolve_left (by simp [e])).trans (h.pacer e),
   fun e => (h_pitch.resolve_left (by simp [e])).trans (h.pitch e),
   fun e => (h_trail.resolve_left (by simp [e])).trans (h.trail e),
   fun e => (h_tarp.resolve_left (by simp [e])).trans (h.tarp e),
   fun e => (h_compass.resolve_left (by simp [e])).trans (h.compass e),
   fun e => (h_identity.resolve_left (by simp [e])).trans (h.identity e),
   fun e => (h_regions.resolve_left (by simp [e])).trans (h.regions e),
   fun e => (h_pegTouched.resolve_left (by simp [e])).trans (h.pegTouched e),
   fun e => (h_hubIn.resolve_left (by simp [e])).trans (h.hubIn e),
   fun e => (h_ports.resolve_left (by simp [e])).trans (h.ports e),
   fun e => (h_sinks.resolve_left (by simp [e])).trans (h.sinks e),
   fun e => (h_hbm.resolve_left (by simp [e])).trans (h.hbm e),
   fun e => (h_barrel.resolve_left (by simp [e])).trans (h.barrel e),
   fun e => (h_far.resolve_left (by simp [e])).trans (h.far e),
   fun e => (h_tset.resolve_left (by simp [e])).trans (h.tset e),
   fun e => (h_flaws.resolve_left (by simp [e])).trans (h.flaws e),
   fun e => (h_zipper.resolve_left (by simp [e])).trans (h.zipper e),
   fun e => (h_gearLog.resolve_left (by simp [e])).trans (h.gearLog e),
   fun e => (h_gearScript.resolve_left (by simp [e])).trans (h.gearScript e),
   fun e => (h_firewatch.resolve_left (by simp [e])).trans (h.firewatch e),
   fun e => (h_hosts.resolve_left (by simp [e])).trans (h.hosts e),
   fun e => (h_firmware.resolve_left (by simp [e])).trans (h.firmware e),
   fun e => (h_whistle.resolve_left (by simp [e])).trans (h.whistle e),
   fun e => (h_lantern.resolve_left (by simp [e])).trans (h.lantern e),
   fun e => (h_flash.resolve_left (by simp [e])).trans (h.flash e),
   fun e => (h_startup.resolve_left (by simp [e])).trans (h.startup e),
   fun e => (h_log.resolve_left (by simp [e])).trans (h.log e),
   fun e => (h_logSeq.resolve_left (by simp [e])).trans (h.logSeq e),
   fun e => (h_logged.resolve_left (by simp [e])).trans (h.logged e),
   fun e => (h_out.resolve_left (by simp [e])).trans (h.out e), h.pending⟩

theorem same_of_snd {β : Type} {p : β × State} {b : β} {t : State} (h : Same m a p.2) (e : p = (b, t)) : Same m a t := by
  subst e; exact h

end Sys2Proof.Machine
end

