-- ==== Sys2Proof/Laws/SameOps.lean ====
section
/-!
SUPPORT. Laws/SameOps.lean: which fields may change in the shared operations of registers, regions, symbols, operands and issue.
-/

namespace Sys2Proof.Machine

set_option Elab.async false

variable {m : Mask} {a : State}

/-! ### Machine/Ops.lean -/

@[simp] theorem setReg_same (s : State) (off : Nat) (v : W64) (hs : Same m a s) (hm_regs : m.regs = true := by first | rfl | assumption) :
    Same m a (setReg s off v) := by
  unfold setReg
  simp (maxDischargeDepth := 30) [hs, hm_regs]

@[simp] theorem setField_same (s : State) (off : Nat) (lo : Nat) (len : Nat) (x : Nat) (hs : Same m a s)
    (hm_regs : m.regs = true := by first | rfl | assumption) :
    Same m a (setField s off lo len x) := by
  unfold setField
  simp (maxDischargeDepth := 30) [hs, hm_regs]

@[simp] theorem setBits_same (s : State) (off : Nat) (bits : Nat) (hs : Same m a s) (hm_regs : m.regs = true := by first | rfl | assumption) :
    Same m a (setBits s off bits) := by
  unfold setBits
  simp (maxDischargeDepth := 30) [hs, hm_regs]

@[simp] theorem countField_same (s : State) (off : Nat) (lo : Nat) (len : Nat) (n : Nat) (hs : Same m a s)
    (hm_regs : m.regs = true := by first | rfl | assumption) :
    Same m a (countField s off lo len n) := by
  unfold countField
  simp (maxDischargeDepth := 30) [hs, hm_regs]

@[simp] theorem peakField_same (s : State) (off : Nat) (lo : Nat) (len : Nat) (x : Nat) (hs : Same m a s)
    (hm_regs : m.regs = true := by first | rfl | assumption) :
    Same m a (peakField s off lo len x) := by
  unfold peakField
  simp (maxDischargeDepth := 30) [hs, hm_regs]

@[simp] theorem dropHalf_same (s : State) (q : Requester) (off : Nat) (hs : Same m a s)
    (hm_halves : m.halves = true := by first | rfl | assumption) :
    Same m a (dropHalf s q off) := by
  unfold dropHalf
  simp (maxDischargeDepth := 30) [hs, hm_halves]

@[simp] theorem lnMoved_same (s : State) (i : Nat) (out : Nat) (inn : Nat) (hs : Same m a s)
    (hm_lantern : m.lantern = true := by first | rfl | assumption) :
    Same m a (lnMoved s i out inn) := by
  unfold lnMoved
  simp (maxDischargeDepth := 30) [hs, hm_lantern]

@[simp] theorem hostBytes_same (s : State) (q : Requester) (out : Nat) (inn : Nat) (hs : Same m a s)
    (hm_lantern : m.lantern = true := by first | rfl | assumption) :
    Same m a (hostBytes s q out inn) := by
  unfold hostBytes
  (repeat' split) <;> simp (maxDischargeDepth := 30) [hs, hm_lantern]

@[simp] theorem formHalf_same (s : State) (q : Requester) (off : Nat) (w : HalfWrite) (hs : Same m a s)
    (hm_halves : m.halves = true := by first | rfl | assumption) :
    Same m a (formHalf s q off w).2 := by
  unfold formHalf
  (repeat' split) <;> simp (maxDischargeDepth := 30) [hs, hm_halves]

@[simp] theorem setRegBytes_same (s : State) (f : Nat → Nat) (bs : List Byte) (hs : Same m a s)
    (hm_regs : m.regs = true := by first | rfl | assumption) :
    Same m a (setRegBytes s f bs) := by
  unfold setRegBytes
  simp (maxDischargeDepth := 30) +contextual [hs, hm_regs]

@[simp] theorem freshLine_same (s : State) (hs : Same m a s) (hm_free : m.free = true := by first | rfl | assumption) :
    Same m a (freshLine s).2 := by
  unfold freshLine
  simp (maxDischargeDepth := 30) [hs, hm_free]

@[simp] theorem freshWord_same (s : State) (hs : Same m a s) (hm_free : m.free = true := by first | rfl | assumption) :
    Same m a (freshWord s).2 := by
  unfold freshWord
  simp (maxDischargeDepth := 30) [hs, hm_free]

@[simp] theorem freshVec_same (s : State) (hs : Same m a s) (hm_free : m.free = true := by first | rfl | assumption) :
    Same m a (freshVec s).2 := by
  unfold freshVec
  simp (maxDischargeDepth := 30) [hs, hm_free]

@[simp] theorem freshAcc_same (s : State) (hs : Same m a s) (hm_free : m.free = true := by first | rfl | assumption) :
    Same m a (freshAcc s).2 := by
  unfold freshAcc
  simp (maxDischargeDepth := 30) [hs, hm_free]

@[simp] theorem freshBit_same (s : State) (hs : Same m a s) (hm_free : m.free = true := by first | rfl | assumption) :
    Same m a (freshBit s).2 := by
  unfold freshBit
  simp (maxDischargeDepth := 30) [hs, hm_free]

@[simp] theorem freshByte_same (s : State) (hs : Same m a s) (hm_free : m.free = true := by first | rfl | assumption) :
    Same m a (freshByte s).2 := by
  unfold freshByte
  simp (maxDischargeDepth := 30) [hs, hm_free]

@[simp] theorem freshBytes_same (s : State) (y1 : Nat) (hs : Same m a s) (hm_free : m.free = true := by first | rfl | assumption) :
    Same m a (freshBytes s y1).2 := by
  induction y1 generalizing s with
  | zero => exact hs
  | succ n ih => exact ih _ (freshByte_same s hs hm_free)

@[simp] theorem firmwareRead_same (s : State) (y1 : Nat) (n : Nat) (hs : Same m a s)
    (hm_free : m.free = true := by first | rfl | assumption) :
    Same m a (firmwareRead s y1 n).2 := by
  unfold firmwareRead
  simp (maxDischargeDepth := 30) [hs, hm_free]

@[simp] theorem modRegion_same (s : State) (r : Fin 32) (f : Region → Region) (hs : Same m a s)
    (hm_regions : m.regions = true := by first | rfl | assumption) :
    Same m a (modRegion s r f) := by
  unfold modRegion
  simp (maxDischargeDepth := 30) [hs, hm_regions]

@[simp] theorem modRegions_same (s : State) (f : Region → Region) (hs : Same m a s)
    (hm_regions : m.regions = true := by first | rfl | assumption) :
    Same m a (modRegions s f) := by
  unfold modRegions
  simp (maxDischargeDepth := 30) [hs, hm_regions]

@[simp] theorem forRegions_same (s : State) (f : Fin 32 → State → State) (hs : Same m a s)
    (hf : ∀ (z0 : Fin 32) (z1 : State), Same m a z1 → Same m a (f z0 z1)) :
    Same m a (forRegions s f) := by
  unfold forRegions
  simp (maxDischargeDepth := 30) +contextual [hs, hf]

@[simp] theorem makePending_same (s : State) (n : Nat) (hs : Same m a s) (hm_whistle : m.whistle = true := by first | rfl | assumption) :
    Same m a (makePending s n) := by
  unfold makePending
  simp (maxDischargeDepth := 30) [hs, hm_whistle]

@[simp] theorem pulse_same (s : State) (n : Nat) (hs : Same m a s) (hm_whistle : m.whistle = true := by first | rfl | assumption) :
    Same m a (pulse s n) := by
  unfold pulse
  simp (maxDischargeDepth := 30) [hs, hm_whistle]

@[simp] theorem emit_same (s : State) (o : Output) (hs : Same m a s) (hm_out : m.out = true := by first | rfl | assumption) :
    Same m a (emit s o) := by
  unfold emit
  simp (maxDischargeDepth := 30) [hs, hm_out]

@[simp] theorem logEvent_same (s : State) (code : Nat) (hs : Same m a s) (hm_free : m.free = true := by first | rfl | assumption)
    (hm_whistle : m.whistle = true := by first | rfl | assumption) (hm_log : m.log = true := by first | rfl | assumption)
    (hm_logSeq : m.logSeq = true := by first | rfl | assumption) :
    Same m a (logEvent s code) := by
  unfold logEvent
  simp (maxDischargeDepth := 30) [hs, hm_free, hm_whistle, hm_log, hm_logSeq]

@[simp] theorem logLimited_same (s : State) (code : Nat) (port : Nat) (hs : Same m a s)
    (hm_free : m.free = true := by first | rfl | assumption) (hm_whistle : m.whistle = true := by first | rfl | assumption)
    (hm_log : m.log = true := by first | rfl | assumption) (hm_logSeq : m.logSeq = true := by first | rfl | assumption)
    (hm_logged : m.logged = true := by first | rfl | assumption) :
    Same m a (logLimited s code port) := by
  unfold logLimited
  simp (maxDischargeDepth := 30) [hs, hm_free, hm_whistle, hm_log, hm_logSeq, hm_logged]

@[simp] theorem captureAt_same (s : State) (units : Nat) (kind : Nat) (data : Nat) (hs : Same m a s)
    (hm_free : m.free = true := by first | rfl | assumption) (hm_regs : m.regs = true := by first | rfl | assumption)
    (hm_compass : m.compass = true := by first | rfl | assumption) (hm_whistle : m.whistle = true := by first | rfl | assumption)
    (hm_log : m.log = true := by first | rfl | assumption) (hm_logSeq : m.logSeq = true := by first | rfl | assumption) :
    Same m a (captureAt s units kind data) := by
  unfold captureAt
  simp (maxDischargeDepth := 30) [hs, hm_free, hm_regs, hm_compass, hm_whistle, hm_log, hm_logSeq]

@[simp] theorem capture_same (s : State) (kind : Nat) (data : Nat) (hs : Same m a s)
    (hm_free : m.free = true := by first | rfl | assumption) (hm_regs : m.regs = true := by first | rfl | assumption)
    (hm_compass : m.compass = true := by first | rfl | assumption) (hm_whistle : m.whistle = true := by first | rfl | assumption)
    (hm_log : m.log = true := by first | rfl | assumption) (hm_logSeq : m.logSeq = true := by first | rfl | assumption) :
    Same m a (capture s kind data) := by
  unfold capture
  simp (maxDischargeDepth := 30) [hs, hm_free, hm_regs, hm_compass, hm_whistle, hm_log, hm_logSeq]

@[simp] theorem lnAdd_same (s : State) (r : Nat) (k : Nat) (n : Nat) (hs : Same m a s)
    (hm_whistle : m.whistle = true := by first | rfl | assumption) (hm_lantern : m.lantern = true := by first | rfl | assumption) :
    Same m a (lnAdd s r k n) := by
  unfold lnAdd
  simp (maxDischargeDepth := 30) [hs, hm_whistle, hm_lantern]

@[simp] theorem lnAccess_same (s : State) (r : Nat) (cls : Nat) (addr : Nat) (bytes : Nat) (priv : Nat) (master : Nat) (hs : Same m a s)
    (hm_whistle : m.whistle = true := by first | rfl | assumption) (hm_lantern : m.lantern = true := by first | rfl | assumption) :
    Same m a (lnAccess s r cls addr bytes priv master) := by
  unfold lnAccess
  apply foldl_same _ _ _ hs
  intro s x hs
  dsimp only
  (repeat' split) <;> simp (maxDischargeDepth := 30) [hs, hm_whistle, hm_lantern]

@[simp] theorem lnHbm_same (s : State) (cls : Nat) (y2 : Nat) (n : Nat) (priv : Nat) (master : Nat) (hs : Same m a s)
    (hm_whistle : m.whistle = true := by first | rfl | assumption) (hm_lantern : m.lantern = true := by first | rfl | assumption) :
    Same m a (lnHbm s cls y2 n priv master) := by
  unfold lnHbm
  simp (maxDischargeDepth := 30) +contextual [hs, hm_whistle, hm_lantern]

@[simp] theorem refreshMap_same (s : State) (hs : Same m a s) (hm_regs : m.regs = true := by first | rfl | assumption) :
    Same m a (refreshMap s) := by
  unfold refreshMap
  simp (maxDischargeDepth := 30) [hs, hm_regs]

@[simp] theorem mergeMap_same (s : State) (hs : Same m a s) (hm_free : m.free = true := by first | rfl | assumption)
    (hm_regs : m.regs = true := by first | rfl | assumption) (hm_whistle : m.whistle = true := by first | rfl | assumption)
    (hm_startup : m.startup = true := by first | rfl | assumption) (hm_log : m.log = true := by first | rfl | assumption)
    (hm_logSeq : m.logSeq = true := by first | rfl | assumption) :
    Same m a (mergeMap s) := by
  unfold mergeMap
  simp (maxDischargeDepth := 30) +contextual [hs, hm_free, hm_regs, hm_whistle, hm_startup, hm_log, hm_logSeq]

@[simp] theorem addFailures_same (s : State) (fs : List (Nat × Nat)) (hs : Same m a s)
    (hm_free : m.free = true := by first | rfl | assumption) (hm_regs : m.regs = true := by first | rfl | assumption)
    (hm_whistle : m.whistle = true := by first | rfl | assumption) (hm_startup : m.startup = true := by first | rfl | assumption)
    (hm_log : m.log = true := by first | rfl | assumption) (hm_logSeq : m.logSeq = true := by first | rfl | assumption) :
    Same m a (addFailures s fs) := by
  unfold addFailures
  simp (maxDischargeDepth := 30) +contextual [hs, hm_free, hm_regs, hm_whistle, hm_startup, hm_log, hm_logSeq]

@[simp] theorem dropWrite_same (s : State) (p : Fin 2) (hs : Same m a s) (hm_free : m.free = true := by first | rfl | assumption)
    (hm_regs : m.regs = true := by first | rfl | assumption) (hm_whistle : m.whistle = true := by first | rfl | assumption)
    (hm_log : m.log = true := by first | rfl | assumption) (hm_logSeq : m.logSeq = true := by first | rfl | assumption)
    (hm_logged : m.logged = true := by first | rfl | assumption) :
    Same m a (dropWrite s p) := by
  unfold dropWrite
  simp (maxDischargeDepth := 30) [hs, hm_free, hm_regs, hm_whistle, hm_log, hm_logSeq, hm_logged]

@[simp] theorem byWriter_same (s : State) (q : Requester) (f : State → State) (hs : Same m a s)
    (hf : ∀ (z0 : State), Same m a z0 → Same m a (f z0)) (hm_free : m.free = true := by first | rfl | assumption)
    (hm_regs : m.regs = true := by first | rfl | assumption) (hm_whistle : m.whistle = true := by first | rfl | assumption)
    (hm_lantern : m.lantern = true := by first | rfl | assumption) (hm_log : m.log = true := by first | rfl | assumption)
    (hm_logSeq : m.logSeq = true := by first | rfl | assumption) (hm_logged : m.logged = true := by first | rfl | assumption) :
    Same m a (byWriter s q f) := by
  unfold byWriter
  (repeat' split) <;> simp (maxDischargeDepth := 30) [hs, hf, hm_free, hm_regs, hm_whistle, hm_lantern, hm_log, hm_logSeq, hm_logged]

/-! ### Machine/Symbols.lean -/

@[simp] theorem modPort_same (s : State) (p : Fin 10) (f : Port → Port) (hs : Same m a s)
    (hm_ports : m.ports = true := by first | rfl | assumption) :
    Same m a (modPort s p f) := by
  unfold modPort
  simp (maxDischargeDepth := 30) [hs, hm_ports]

@[simp] theorem forPorts_same (s : State) (f : Fin 10 → State → State) (hs : Same m a s)
    (hf : ∀ (z0 : Fin 10) (z1 : State), Same m a z1 → Same m a (f z0 z1)) :
    Same m a (forPorts s f) := by
  unfold forPorts
  simp (maxDischargeDepth := 30) +contextual [hs, hf]

@[simp] theorem limitedEvent_same (s : State) (p : Fin 10) (code : Nat) (hs : Same m a s)
    (hm_free : m.free = true := by first | rfl | assumption) (hm_ports : m.ports = true := by first | rfl | assumption)
    (hm_whistle : m.whistle = true := by first | rfl | assumption) (hm_log : m.log = true := by first | rfl | assumption)
    (hm_logSeq : m.logSeq = true := by first | rfl | assumption) :
    Same m a (limitedEvent s p code) := by
  unfold limitedEvent
  simp (maxDischargeDepth := 30) [hs, hm_free, hm_ports, hm_whistle, hm_log, hm_logSeq]

@[simp] theorem symbolLost_same (s : State) (p : Fin 10) (hs : Same m a s) (hm_free : m.free = true := by first | rfl | assumption)
    (hm_regs : m.regs = true := by first | rfl | assumption) (hm_ports : m.ports = true := by first | rfl | assumption)
    (hm_whistle : m.whistle = true := by first | rfl | assumption) (hm_log : m.log = true := by first | rfl | assumption)
    (hm_logSeq : m.logSeq = true := by first | rfl | assumption) :
    Same m a (symbolLost s p) := by
  unfold symbolLost
  simp (maxDischargeDepth := 30) [hs, hm_free, hm_regs, hm_ports, hm_whistle, hm_log, hm_logSeq]

@[simp] theorem putSymbol_same (s : State) (p : Fin 10) (type : Nat) (payload : BitVec 40) (hs : Same m a s)
    (hm_ports : m.ports = true := by first | rfl | assumption) (hm_out : m.out = true := by first | rfl | assumption) :
    Same m a (putSymbol s p type payload) := by
  unfold putSymbol
  simp (maxDischargeDepth := 30) +contextual [hs, hm_ports, hm_out]

@[simp] theorem sendSymbol_same (s : State) (p : Fin 10) (type : Nat) (payload : BitVec 40) (hs : Same m a s)
    (hm_free : m.free = true := by first | rfl | assumption) (hm_regs : m.regs = true := by first | rfl | assumption)
    (hm_ports : m.ports = true := by first | rfl | assumption) (hm_whistle : m.whistle = true := by first | rfl | assumption)
    (hm_log : m.log = true := by first | rfl | assumption) (hm_logSeq : m.logSeq = true := by first | rfl | assumption)
    (hm_out : m.out = true := by first | rfl | assumption) :
    Same m a (sendSymbol s p type payload) := by
  unfold sendSymbol
  dsimp only
  (repeat' split) <;> simp (maxDischargeDepth := 30) [hs, hm_free, hm_regs, hm_ports, hm_whistle, hm_log, hm_logSeq, hm_out]

@[simp] theorem takeSymbol_same (s : State) (p : Fin 10) (type : Nat) (v : W64) (f : BitVec 40 → State → State) (hs : Same m a s)
    (hf : ∀ (z0 : BitVec 40) (z1 : State), Same m a z1 → Same m a (f z0 z1)) (hm_free : m.free = true := by first | rfl | assumption)
    (hm_regs : m.regs = true := by first | rfl | assumption) (hm_ports : m.ports = true := by first | rfl | assumption)
    (hm_whistle : m.whistle = true := by first | rfl | assumption) (hm_log : m.log = true := by first | rfl | assumption)
    (hm_logSeq : m.logSeq = true := by first | rfl | assumption) :
    Same m a (takeSymbol s p type v f) := by
  unfold takeSymbol
  simp (maxDischargeDepth := 30) [hs, hf, hm_free, hm_regs, hm_ports, hm_whistle, hm_log, hm_logSeq]

@[simp] theorem sendCamp_same (s : State) (not_ : Option (Fin 10)) (type : Nat) (payload : BitVec 40) (hs : Same m a s)
    (hm_free : m.free = true := by first | rfl | assumption) (hm_regs : m.regs = true := by first | rfl | assumption)
    (hm_ports : m.ports = true := by first | rfl | assumption) (hm_whistle : m.whistle = true := by first | rfl | assumption)
    (hm_log : m.log = true := by first | rfl | assumption) (hm_logSeq : m.logSeq = true := by first | rfl | assumption)
    (hm_out : m.out = true := by first | rfl | assumption) :
    Same m a (sendCamp s not_ type payload) := by
  unfold sendCamp
  apply foldl_same _ _ _ hs
  intro s x hs
  dsimp only
  (repeat' split) <;> simp (maxDischargeDepth := 30) [hs, hm_free, hm_regs, hm_ports, hm_whistle, hm_log, hm_logSeq, hm_out]

@[simp] theorem dropCamp_same (s : State) (p : Fin 10) (hs : Same m a s) (hm_free : m.free = true := by first | rfl | assumption)
    (hm_ports : m.ports = true := by first | rfl | assumption) (hm_whistle : m.whistle = true := by first | rfl | assumption)
    (hm_log : m.log = true := by first | rfl | assumption) (hm_logSeq : m.logSeq = true := by first | rfl | assumption) :
    Same m a (dropCamp s p) := by
  unfold dropCamp
  simp (maxDischargeDepth := 30) [hs, hm_free, hm_ports, hm_whistle, hm_log, hm_logSeq]

@[simp] theorem takeCamp_same (s : State) (p : Fin 10) (type : Nat) (v : W64) (f : BitVec 40 → State → State) (hs : Same m a s)
    (hf : ∀ (z0 : BitVec 40) (z1 : State), Same m a z1 → Same m a (f z0 z1)) (hm_free : m.free = true := by first | rfl | assumption)
    (hm_regs : m.regs = true := by first | rfl | assumption) (hm_ports : m.ports = true := by first | rfl | assumption)
    (hm_whistle : m.whistle = true := by first | rfl | assumption) (hm_log : m.log = true := by first | rfl | assumption)
    (hm_logSeq : m.logSeq = true := by first | rfl | assumption) :
    Same m a (takeCamp s p type v f) := by
  unfold takeCamp
  simp (maxDischargeDepth := 30) +contextual [hs, hf, hm_free, hm_regs, hm_ports, hm_whistle, hm_log, hm_logSeq]

@[simp] theorem discardPort_same (ingress : Bool) (count : Bool) (p : Fin 10) (s : State) (hs : Same m a s)
    (hm_regs : m.regs = true := by first | rfl | assumption) (hm_ports : m.ports = true := by first | rfl | assumption) :
    Same m a (discardPort ingress count p s) := by
  unfold discardPort
  simp (maxDischargeDepth := 30) [hs, hm_regs, hm_ports]

@[simp] theorem discardRecords_same (s : State) (ingress : Bool) (count : Bool) (hs : Same m a s)
    (hm_regs : m.regs = true := by first | rfl | assumption) (hm_ports : m.ports = true := by first | rfl | assumption) :
    Same m a (discardRecords s ingress count) := by
  unfold discardRecords
  simp (maxDischargeDepth := 30) +contextual [hs, hm_regs, hm_ports]

/-! ### Machine/RegionOps.lean -/

@[simp] theorem putSackLine_same (s : State) (r : Fin 32) (k : Nat) (line : Nat) (v : Line) (hs : Same m a s)
    (hm_regions : m.regions = true := by first | rfl | assumption) (hm_flaws : m.flaws = true := by first | rfl | assumption) :
    Same m a (putSackLine s r k line v) := by
  unfold putSackLine
  simp (maxDischargeDepth := 30) [hs, hm_regions, hm_flaws]

@[simp] theorem setPeg_same (s : State) (r : Fin 32) (p : Nat) (f : Peg → Peg) (hs : Same m a s)
    (hm_regions : m.regions = true := by first | rfl | assumption) :
    Same m a (setPeg s r p f) := by
  unfold setPeg
  simp (maxDischargeDepth := 30) [hs, hm_regions]

@[simp] theorem modStove_same (s : State) (r : Fin 32) (c : Fin 8) (f : Stove → Stove) (hs : Same m a s)
    (hm_regions : m.regions = true := by first | rfl | assumption) :
    Same m a (modStove s r c f) := by
  unfold modStove
  simp (maxDischargeDepth := 30) [hs, hm_regions]

@[simp] theorem modKettle_same (s : State) (r : Fin 32) (u : Fin 16) (f : Kettle → Kettle) (hs : Same m a s)
    (hm_regions : m.regions = true := by first | rfl | assumption) :
    Same m a (modKettle s r u f) := by
  unfold modKettle
  simp (maxDischargeDepth := 30) [hs, hm_regions]

@[simp] theorem undefineHub_same (s : State) (y1 : Nat) (wid : Nat) (seq : Nat) (hs : Same m a s)
    (hm_free : m.free = true := by first | rfl | assumption) (hm_far : m.far = true := by first | rfl | assumption) :
    Same m a (undefineHub s y1 wid seq) := by
  unfold undefineHub
  simp (maxDischargeDepth := 30) [hs, hm_free, hm_far]

@[simp] theorem putHbmRaw_same (s : State) (y1 : Nat) (bs : List Byte) (hs : Same m a s)
    (hm_hbm : m.hbm = true := by first | rfl | assumption) (hm_flaws : m.flaws = true := by first | rfl | assumption) :
    Same m a (putHbmRaw s y1 bs) := by
  unfold putHbmRaw; simp (maxDischargeDepth := 30) [hs, *]

@[simp] theorem touchWeights_same (s : State) (y1 : Nat) (n : Nat) (hs : Same m a s)
    (hm_free : m.free = true := by first | rfl | assumption) (hm_regs : m.regs = true := by first | rfl | assumption)
    (hm_whistle : m.whistle = true := by first | rfl | assumption) (hm_log : m.log = true := by first | rfl | assumption)
    (hm_logSeq : m.logSeq = true := by first | rfl | assumption) :
    Same m a (touchWeights s y1 n) := by
  unfold touchWeights
  simp (maxDischargeDepth := 30) [hs, hm_free, hm_regs, hm_whistle, hm_log, hm_logSeq]

@[simp] theorem putHbm_same (s : State) (y1 : Nat) (bs : List Byte) (hs : Same m a s)
    (hm_free : m.free = true := by first | rfl | assumption) (hm_regs : m.regs = true := by first | rfl | assumption)
    (hm_hbm : m.hbm = true := by first | rfl | assumption) (hm_flaws : m.flaws = true := by first | rfl | assumption)
    (hm_whistle : m.whistle = true := by first | rfl | assumption) (hm_log : m.log = true := by first | rfl | assumption)
    (hm_logSeq : m.logSeq = true := by first | rfl | assumption) :
    Same m a (putHbm s y1 bs) := by
  unfold putHbm
  simp (maxDischargeDepth := 30) [hs, hm_free, hm_regs, hm_hbm, hm_flaws, hm_whistle, hm_log, hm_logSeq]

@[simp] theorem emptySlot_same (s : State) (k : Nat) (hs : Same m a s) (hm_regs : m.regs = true := by first | rfl | assumption) :
    Same m a (emptySlot s k) := by
  unfold emptySlot
  simp (maxDischargeDepth := 30) +contextual [hs, hm_regs]

@[simp] theorem storeHbm_same (s : State) (y1 : Nat) (bs : List Byte) (hs : Same m a s)
    (hm_free : m.free = true := by first | rfl | assumption) (hm_regs : m.regs = true := by first | rfl | assumption)
    (hm_hbm : m.hbm = true := by first | rfl | assumption) (hm_flaws : m.flaws = true := by first | rfl | assumption)
    (hm_whistle : m.whistle = true := by first | rfl | assumption) (hm_log : m.log = true := by first | rfl | assumption)
    (hm_logSeq : m.logSeq = true := by first | rfl | assumption) :
    Same m a (storeHbm s y1 bs) := by
  unfold storeHbm
  simp (maxDischargeDepth := 30) +contextual [hs, hm_free, hm_regs, hm_hbm, hm_flaws, hm_whistle, hm_log, hm_logSeq]

@[simp] theorem undefine_same (s : State) (p : Place) (hs : Same m a s) (hm_free : m.free = true := by first | rfl | assumption)
    (hm_regs : m.regs = true := by first | rfl | assumption) (hm_regions : m.regions = true := by first | rfl | assumption)
    (hm_hbm : m.hbm = true := by first | rfl | assumption) (hm_far : m.far = true := by first | rfl | assumption)
    (hm_flaws : m.flaws = true := by first | rfl | assumption) (hm_whistle : m.whistle = true := by first | rfl | assumption)
    (hm_log : m.log = true := by first | rfl | assumption) (hm_logSeq : m.logSeq = true := by first | rfl | assumption) :
    Same m a (undefine s p) := by
  unfold undefine
  dsimp only
  (repeat' split) <;> simp (maxDischargeDepth := 30) +contextual [hs, hm_free, hm_regs, hm_regions, hm_hbm, hm_far, hm_flaws, hm_whistle, hm_log, hm_logSeq]

@[simp] theorem undefineAll_same (s : State) (ps : List Place) (hs : Same m a s) (hm_free : m.free = true := by first | rfl | assumption)
    (hm_regs : m.regs = true := by first | rfl | assumption) (hm_regions : m.regions = true := by first | rfl | assumption)
    (hm_hbm : m.hbm = true := by first | rfl | assumption) (hm_far : m.far = true := by first | rfl | assumption)
    (hm_flaws : m.flaws = true := by first | rfl | assumption) (hm_whistle : m.whistle = true := by first | rfl | assumption)
    (hm_log : m.log = true := by first | rfl | assumption) (hm_logSeq : m.logSeq = true := by first | rfl | assumption) :
    Same m a (undefineAll s ps) := by
  unfold undefineAll
  exact foldl_same _ _ _ hs (fun s p h => undefine_same s p h)

@[simp] theorem enterHeld_same (s : State) (hs : Same m a s) (hm_regs : m.regs = true := by first | rfl | assumption)
    (hm_pacer : m.pacer = true := by first | rfl | assumption) (hm_tarp : m.tarp = true := by first | rfl | assumption)
    (hm_lantern : m.lantern = true := by first | rfl | assumption) :
    Same m a (enterHeld s) := by
  unfold enterHeld
  simp (maxDischargeDepth := 30) [hs, hm_regs, hm_pacer, hm_tarp, hm_lantern]

@[simp] theorem touchPeg_same (s : State) (r : Fin 32) (p : Nat) (hs : Same m a s)
    (hm_pegTouched : m.pegTouched = true := by first | rfl | assumption) :
    Same m a (touchPeg s r p) := by
  unfold touchPeg
  simp (maxDischargeDepth := 30) [hs, hm_pegTouched]

@[simp] theorem notifyPegs_same (s : State) (r : Fin 32) (hs : Same m a s) (hm_regions : m.regions = true := by first | rfl | assumption)
    (hm_whistle : m.whistle = true := by first | rfl | assumption) :
    Same m a (notifyPegs s r) := by
  unfold notifyPegs
  simp (maxDischargeDepth := 30) +contextual [hs, hm_regions, hm_whistle]

@[simp] theorem flushLater_same (s : State) (r : Fin 32) (hs : Same m a s) (hm_free : m.free = true := by first | rfl | assumption)
    (hm_regs : m.regs = true := by first | rfl | assumption) (hm_regions : m.regions = true := by first | rfl | assumption)
    (hm_hbm : m.hbm = true := by first | rfl | assumption) (hm_far : m.far = true := by first | rfl | assumption)
    (hm_flaws : m.flaws = true := by first | rfl | assumption) (hm_whistle : m.whistle = true := by first | rfl | assumption)
    (hm_log : m.log = true := by first | rfl | assumption) (hm_logSeq : m.logSeq = true := by first | rfl | assumption) :
    Same m a (flushLater s r) := by
  unfold flushLater
  dsimp only
  (repeat' split) <;> simp (maxDischargeDepth := 30) +contextual [hs, hm_free, hm_regs, hm_regions, hm_hbm, hm_far, hm_flaws, hm_whistle, hm_log, hm_logSeq]

@[simp] theorem setHubEntries_same (s : State) (r : Fin 32) (l : List Entry) (hs : Same m a s)
    (hm_hubIn : m.hubIn = true := by first | rfl | assumption) :
    Same m a (setHubEntries s r l) := by
  unfold setHubEntries
  simp (maxDischargeDepth := 30) [hs, hm_hubIn]

@[simp] theorem settleRegion_same (s : State) (r : Fin 32) (hs : Same m a s) (hm_free : m.free = true := by first | rfl | assumption)
    (hm_regs : m.regs = true := by first | rfl | assumption) (hm_regions : m.regions = true := by first | rfl | assumption)
    (hm_hubIn : m.hubIn = true := by first | rfl | assumption) (hm_hbm : m.hbm = true := by first | rfl | assumption)
    (hm_far : m.far = true := by first | rfl | assumption) (hm_flaws : m.flaws = true := by first | rfl | assumption)
    (hm_whistle : m.whistle = true := by first | rfl | assumption) (hm_log : m.log = true := by first | rfl | assumption)
    (hm_logSeq : m.logSeq = true := by first | rfl | assumption) :
    Same m a (settleRegion s r) := by
  unfold settleRegion
  simp (maxDischargeDepth := 30) [hs, hm_free, hm_regs, hm_regions, hm_hubIn, hm_hbm, hm_far, hm_flaws, hm_whistle, hm_log, hm_logSeq]

@[simp] theorem cancelArm_same (s : State) (hs : Same m a s) (hm_free : m.free = true := by first | rfl | assumption)
    (hm_regs : m.regs = true := by first | rfl | assumption) (hm_whistle : m.whistle = true := by first | rfl | assumption)
    (hm_lantern : m.lantern = true := by first | rfl | assumption) (hm_log : m.log = true := by first | rfl | assumption)
    (hm_logSeq : m.logSeq = true := by first | rfl | assumption) :
    Same m a (cancelArm s) := by
  unfold cancelArm
  simp (maxDischargeDepth := 30) [hs, hm_free, hm_regs, hm_whistle, hm_lantern, hm_log, hm_logSeq]

@[simp] theorem goLocal_same (s : State) (hs : Same m a s) (hm_pacer : m.pacer = true := by first | rfl | assumption) :
    Same m a (goLocal s) := by
  unfold goLocal
  simp (maxDischargeDepth := 30) [hs, hm_pacer]

@[simp] theorem enterCal_same (s : State) (hs : Same m a s) (hm_pacer : m.pacer = true := by first | rfl | assumption) :
    Same m a (enterCal s) := by
  unfold enterCal
  simp (maxDischargeDepth := 30) [hs, hm_pacer]

@[simp] theorem quitCal_same (s : State) (hs : Same m a s) (hm_pacer : m.pacer = true := by first | rfl | assumption) :
    Same m a (quitCal s) := by
  unfold quitCal
  simp (maxDischargeDepth := 30) [hs, hm_pacer]

@[simp] theorem refreshTest_same (s : State) (hs : Same m a s) (hm_regs : m.regs = true := by first | rfl | assumption) :
    Same m a (refreshTest s) := by
  unfold refreshTest
  simp (maxDischargeDepth := 30) [hs, hm_regs]

@[simp] theorem noteTest_same (s : State) (ticket : Nat) (result : Nat) (hs : Same m a s)
    (hm_regs : m.regs = true := by first | rfl | assumption) (hm_startup : m.startup = true := by first | rfl | assumption) :
    Same m a (noteTest s ticket result) := by
  unfold noteTest
  simp (maxDischargeDepth := 30) [hs, hm_regs, hm_startup]

@[simp] theorem abortTest_same (s : State) (hs : Same m a s) (hm_free : m.free = true := by first | rfl | assumption)
    (hm_regs : m.regs = true := by first | rfl | assumption) (hm_pacer : m.pacer = true := by first | rfl | assumption)
    (hm_whistle : m.whistle = true := by first | rfl | assumption) (hm_startup : m.startup = true := by first | rfl | assumption)
    (hm_log : m.log = true := by first | rfl | assumption) (hm_logSeq : m.logSeq = true := by first | rfl | assumption) :
    Same m a (abortTest s) := by
  unfold abortTest
  (repeat' split) <;> simp (maxDischargeDepth := 30) [hs, hm_free, hm_regs, hm_pacer, hm_whistle, hm_startup, hm_log, hm_logSeq]

@[simp] theorem evalLaunchPeg_same (s : State) (hs : Same m a s) (hm_free : m.free = true := by first | rfl | assumption)
    (hm_regs : m.regs = true := by first | rfl | assumption) (hm_pacer : m.pacer = true := by first | rfl | assumption)
    (hm_trail : m.trail = true := by first | rfl | assumption) (hm_whistle : m.whistle = true := by first | rfl | assumption)
    (hm_startup : m.startup = true := by first | rfl | assumption) (hm_log : m.log = true := by first | rfl | assumption)
    (hm_logSeq : m.logSeq = true := by first | rfl | assumption) :
    Same m a (evalLaunchPeg s) := by
  unfold evalLaunchPeg
  simp (maxDischargeDepth := 30) [hs, hm_free, hm_regs, hm_pacer, hm_trail, hm_whistle, hm_startup, hm_log, hm_logSeq]

@[simp] theorem leaveCal_same (s : State) (hs : Same m a s) (hm_free : m.free = true := by first | rfl | assumption)
    (hm_regs : m.regs = true := by first | rfl | assumption) (hm_pacer : m.pacer = true := by first | rfl | assumption)
    (hm_trail : m.trail = true := by first | rfl | assumption) (hm_whistle : m.whistle = true := by first | rfl | assumption)
    (hm_startup : m.startup = true := by first | rfl | assumption) (hm_log : m.log = true := by first | rfl | assumption)
    (hm_logSeq : m.logSeq = true := by first | rfl | assumption) :
    Same m a (leaveCal s) := by
  unfold leaveCal
  simp (maxDischargeDepth := 30) [hs, hm_free, hm_regs, hm_pacer, hm_trail, hm_whistle, hm_startup, hm_log, hm_logSeq]

@[simp] theorem gearAppend_same (s : State) (w0 : Nat) (w1 : Nat) (hs : Same m a s) (hm_free : m.free = true := by first | rfl | assumption)
    (hm_regs : m.regs = true := by first | rfl | assumption) (hm_gearLog : m.gearLog = true := by first | rfl | assumption)
    (hm_whistle : m.whistle = true := by first | rfl | assumption) (hm_log : m.log = true := by first | rfl | assumption)
    (hm_logSeq : m.logSeq = true := by first | rfl | assumption) :
    Same m a (gearAppend s w0 w1) := by
  unfold gearAppend
  simp (maxDischargeDepth := 30) [hs, hm_free, hm_regs, hm_gearLog, hm_whistle, hm_log, hm_logSeq]

@[simp] theorem enterArmed_same (s : State) (hs : Same m a s) (hm_free : m.free = true := by first | rfl | assumption)
    (hm_regs : m.regs = true := by first | rfl | assumption) (hm_pacer : m.pacer = true := by first | rfl | assumption)
    (hm_trail : m.trail = true := by first | rfl | assumption) (hm_regions : m.regions = true := by first | rfl | assumption)
    (hm_hubIn : m.hubIn = true := by first | rfl | assumption) (hm_hbm : m.hbm = true := by first | rfl | assumption)
    (hm_far : m.far = true := by first | rfl | assumption) (hm_flaws : m.flaws = true := by first | rfl | assumption)
    (hm_whistle : m.whistle = true := by first | rfl | assumption) (hm_lantern : m.lantern = true := by first | rfl | assumption)
    (hm_startup : m.startup = true := by first | rfl | assumption) (hm_log : m.log = true := by first | rfl | assumption)
    (hm_logSeq : m.logSeq = true := by first | rfl | assumption) :
    Same m a (enterArmed s) := by
  unfold enterArmed
  simp (maxDischargeDepth := 30) +contextual [hs, hm_free, hm_regs, hm_pacer, hm_trail, hm_regions, hm_hubIn, hm_hbm, hm_far, hm_flaws, hm_whistle, hm_lantern, hm_startup, hm_log, hm_logSeq]

@[simp] theorem settleStop_same (s : State) (hs : Same m a s) (hm_free : m.free = true := by first | rfl | assumption)
    (hm_regs : m.regs = true := by first | rfl | assumption) (hm_pacer : m.pacer = true := by first | rfl | assumption)
    (hm_trail : m.trail = true := by first | rfl | assumption) (hm_regions : m.regions = true := by first | rfl | assumption)
    (hm_hubIn : m.hubIn = true := by first | rfl | assumption) (hm_hbm : m.hbm = true := by first | rfl | assumption)
    (hm_far : m.far = true := by first | rfl | assumption) (hm_flaws : m.flaws = true := by first | rfl | assumption)
    (hm_whistle : m.whistle = true := by first | rfl | assumption) (hm_lantern : m.lantern = true := by first | rfl | assumption)
    (hm_startup : m.startup = true := by first | rfl | assumption) (hm_log : m.log = true := by first | rfl | assumption)
    (hm_logSeq : m.logSeq = true := by first | rfl | assumption) :
    Same m a (settleStop s) := by
  unfold settleStop
  (repeat' split) <;> simp (maxDischargeDepth := 30) [hs, hm_free, hm_regs, hm_pacer, hm_trail, hm_regions, hm_hubIn, hm_hbm, hm_far, hm_flaws, hm_whistle, hm_lantern, hm_startup, hm_log, hm_logSeq]

@[simp] theorem dropLater_same (s : State) (r : Fin 32) (hs : Same m a s) (hm_free : m.free = true := by first | rfl | assumption)
    (hm_regs : m.regs = true := by first | rfl | assumption) (hm_regions : m.regions = true := by first | rfl | assumption)
    (hm_hbm : m.hbm = true := by first | rfl | assumption) (hm_far : m.far = true := by first | rfl | assumption)
    (hm_flaws : m.flaws = true := by first | rfl | assumption) (hm_whistle : m.whistle = true := by first | rfl | assumption)
    (hm_log : m.log = true := by first | rfl | assumption) (hm_logSeq : m.logSeq = true := by first | rfl | assumption) :
    Same m a (dropLater s r) := by
  unfold dropLater
  simp (maxDischargeDepth := 30) [hs, hm_free, hm_regs, hm_regions, hm_hbm, hm_far, hm_flaws, hm_whistle, hm_log, hm_logSeq]

@[simp] theorem settleStrike_same (s : State) (hs : Same m a s) (hm_free : m.free = true := by first | rfl | assumption)
    (hm_regs : m.regs = true := by first | rfl | assumption) (hm_pacer : m.pacer = true := by first | rfl | assumption)
    (hm_trail : m.trail = true := by first | rfl | assumption) (hm_whistle : m.whistle = true := by first | rfl | assumption)
    (hm_lantern : m.lantern = true := by first | rfl | assumption) (hm_startup : m.startup = true := by first | rfl | assumption)
    (hm_log : m.log = true := by first | rfl | assumption) (hm_logSeq : m.logSeq = true := by first | rfl | assumption) :
    Same m a (settleStrike s) := by
  unfold settleStrike
  simp (maxDischargeDepth := 30) [hs, hm_free, hm_regs, hm_pacer, hm_trail, hm_whistle, hm_lantern, hm_startup, hm_log, hm_logSeq]

@[simp] theorem strikeSteps_same (s : State) (code : Nat) (origin : Nat) (mode : TrailMode) (hs : Same m a s)
    (hm_free : m.free = true := by first | rfl | assumption) (hm_regs : m.regs = true := by first | rfl | assumption)
    (hm_pacer : m.pacer = true := by first | rfl | assumption) (hm_trail : m.trail = true := by first | rfl | assumption)
    (hm_tarp : m.tarp = true := by first | rfl | assumption) (hm_regions : m.regions = true := by first | rfl | assumption)
    (hm_hubIn : m.hubIn = true := by first | rfl | assumption) (hm_ports : m.ports = true := by first | rfl | assumption)
    (hm_hbm : m.hbm = true := by first | rfl | assumption) (hm_far : m.far = true := by first | rfl | assumption)
    (hm_flaws : m.flaws = true := by first | rfl | assumption) (hm_firewatch : m.firewatch = true := by first | rfl | assumption)
    (hm_whistle : m.whistle = true := by first | rfl | assumption) (hm_lantern : m.lantern = true := by first | rfl | assumption)
    (hm_startup : m.startup = true := by first | rfl | assumption) (hm_log : m.log = true := by first | rfl | assumption)
    (hm_logSeq : m.logSeq = true := by first | rfl | assumption) :
    Same m a (strikeSteps s code origin mode) := by
  unfold strikeSteps
  simp (maxDischargeDepth := 30) +contextual [hs, hm_free, hm_regs, hm_pacer, hm_trail, hm_tarp, hm_regions, hm_hubIn, hm_ports, hm_hbm, hm_far, hm_flaws, hm_firewatch, hm_whistle, hm_lantern, hm_startup, hm_log, hm_logSeq]

@[simp] theorem strike_same (s : State) (code : Nat) (hs : Same m a s) (hm_free : m.free = true := by first | rfl | assumption)
    (hm_regs : m.regs = true := by first | rfl | assumption) (hm_pacer : m.pacer = true := by first | rfl | assumption)
    (hm_trail : m.trail = true := by first | rfl | assumption) (hm_tarp : m.tarp = true := by first | rfl | assumption)
    (hm_regions : m.regions = true := by first | rfl | assumption) (hm_hubIn : m.hubIn = true := by first | rfl | assumption)
    (hm_ports : m.ports = true := by first | rfl | assumption) (hm_hbm : m.hbm = true := by first | rfl | assumption)
    (hm_far : m.far = true := by first | rfl | assumption) (hm_flaws : m.flaws = true := by first | rfl | assumption)
    (hm_firewatch : m.firewatch = true := by first | rfl | assumption) (hm_whistle : m.whistle = true := by first | rfl | assumption)
    (hm_lantern : m.lantern = true := by first | rfl | assumption) (hm_startup : m.startup = true := by first | rfl | assumption)
    (hm_log : m.log = true := by first | rfl | assumption) (hm_logSeq : m.logSeq = true := by first | rfl | assumption)
    (hm_out : m.out = true := by first | rfl | assumption) :
    Same m a (strike s code) := by
  unfold strike
  simp (maxDischargeDepth := 30) [hs, hm_free, hm_regs, hm_pacer, hm_trail, hm_tarp, hm_regions, hm_hubIn, hm_ports, hm_hbm, hm_far, hm_flaws, hm_firewatch, hm_whistle, hm_lantern, hm_startup, hm_log, hm_logSeq, hm_out]

@[simp] theorem noteReset_same (s : State) (code : Nat) (hs : Same m a s) (hm_regs : m.regs = true := by first | rfl | assumption) :
    Same m a (noteReset s code) := by
  unfold noteReset
  simp (maxDischargeDepth := 30) [hs, hm_regs]

@[simp] theorem latchFault_same (s : State) (code : Nat) (y2 : FaultAt) (hs : Same m a s)
    (hm_regs : m.regs = true := by first | rfl | assumption) :
    Same m a (latchFault s code y2) := by
  unfold latchFault
  simp (maxDischargeDepth := 30) [hs, hm_regs]

/-! ### Machine/Observe.lean -/

@[simp] theorem zipNote_same (s : State) (r : Nat) (slot : Nat) (beat : Nat) (y4 : Nat) (b : Nat) (kind : Nat) (bytes : List Byte)
    (hs : Same m a s) (hm_zipper : m.zipper = true := by first | rfl | assumption) :
    Same m a (zipNote s r slot beat y4 b kind bytes) := by
  unfold zipNote
  simp (maxDischargeDepth := 30) [hs, hm_zipper]

@[simp] theorem snapRegion_same (s : State) (r : Nat) (hs : Same m a s) (hm_lantern : m.lantern = true := by first | rfl | assumption) :
    Same m a (snapRegion s r) := by
  unfold snapRegion
  simp (maxDischargeDepth := 30) [hs, hm_lantern]

@[simp] theorem lnBeatCounts_same (s : State) (r : Fin 32) (beat : Nat) (hs : Same m a s)
    (hm_whistle : m.whistle = true := by first | rfl | assumption) (hm_lantern : m.lantern = true := by first | rfl | assumption) :
    Same m a (lnBeatCounts s r beat) := by
  unfold lnBeatCounts
  extract_lets g s1 s2 s3 s4 s5 s6 s7
  have h1 : Same m a s1 := lnAdd_same _ _ _ _ hs
  clear_value s1
  have h2 : Same m a s2 := foldl_same _ _ _ h1 fun t c ht => ite_same _ _ _ (fun _ => lnAdd_same _ _ _ _ ht) (fun _ => ht)
  clear_value s2
  have h3 : Same m a s3 := lnAdd_same _ _ _ _ (lnAdd_same _ _ _ _ h2)
  clear_value s3
  have h4 : Same m a s4 := foldl_same _ _ _ h3 fun t c ht => lnAdd_same _ _ _ _ ht
  clear_value s4
  have h5 : Same m a s5 := ite_same _ _ _ (fun _ => lnAdd_same _ _ _ _ h4) (fun _ => h4)
  have h7 : Same m a s7 := lnAdd_same _ _ _ _ (lnAdd_same _ _ _ _ h5)
  exact ite_same _ _ _ (fun _ => lnAdd_same _ _ _ _ h7) (fun _ => h7)

/-! ### Machine/Operands.lean -/

@[simp] theorem lnPeg_same (s : State) (r : Nat) (p : Nat) (cls : Nat) (priv : Nat) (master : Nat) (hs : Same m a s)
    (hm_whistle : m.whistle = true := by first | rfl | assumption) (hm_lantern : m.lantern = true := by first | rfl | assumption) :
    Same m a (lnPeg s r p cls priv master) := by
  unfold lnPeg
  simp (maxDischargeDepth := 30) [hs, hm_whistle, hm_lantern]

@[simp] theorem useFace_same (x : Ctx) (s : State) (f : Nat) (hs : Same m a s)
    (hm_regions : m.regions = true := by first | rfl | assumption) :
    Same m a (useFace x s f) := by
  unfold useFace
  simp (maxDischargeDepth := 30) [hs, hm_regions]

@[simp] theorem spoilFace_same (x : Ctx) (s : State) (f : Nat) (hs : Same m a s) (hm_free : m.free = true := by first | rfl | assumption)
    (hm_regions : m.regions = true := by first | rfl | assumption) :
    Same m a (spoilFace x s f) := by
  unfold spoilFace
  simp (maxDischargeDepth := 30) [hs, hm_free, hm_regions]

@[simp] theorem joinCrossing_same (l : List Entry) (entry : Entry) (s : State) (hs : Same m a s)
    (hm_free : m.free = true := by first | rfl | assumption) :
    Same m a (joinCrossing l entry s).2 := by
  unfold joinCrossing
  dsimp only
  (repeat' split) <;> simp (maxDischargeDepth := 30) [hs, hm_free]

/-! ### Machine/UnitWork.lean -/

@[simp] theorem setTrack_same (s : State) (r : Fin 32) (t : Nat) (f : Track → Track) (hs : Same m a s)
    (hm_regions : m.regions = true := by first | rfl | assumption) :
    Same m a (setTrack s r t f) := by
  unfold setTrack
  simp (maxDischargeDepth := 30) [hs, hm_regions]

@[simp] theorem setBank_same (s : State) (r : Fin 32) (t : Nat) (b : Nat) (f : Bank → Bank) (hs : Same m a s)
    (hm_regions : m.regions = true := by first | rfl | assumption) :
    Same m a (setBank s r t b f) := by
  unfold setBank
  simp (maxDischargeDepth := 30) [hs, hm_regions]

@[simp] theorem noteTrackEcc_same (s : State) (r : Nat) (y2 : Nat) (far : Bool) (hs : Same m a s)
    (hm_free : m.free = true := by first | rfl | assumption) (hm_regs : m.regs = true := by first | rfl | assumption)
    (hm_whistle : m.whistle = true := by first | rfl | assumption) (hm_lantern : m.lantern = true := by first | rfl | assumption)
    (hm_log : m.log = true := by first | rfl | assumption) (hm_logSeq : m.logSeq = true := by first | rfl | assumption) :
    Same m a (noteTrackEcc s r y2 far) := by
  unfold noteTrackEcc
  apply foldl_same _ _ _ hs
  intro s x hs
  dsimp only
  (repeat' split) <;> simp (maxDischargeDepth := 30) [hs, hm_free, hm_regs, hm_whistle, hm_lantern, hm_log, hm_logSeq]

@[simp] theorem guardUntil_same (s : State) (r : Fin 32) (t : Nat) (hs : Same m a s)
    (hm_regions : m.regions = true := by first | rfl | assumption) :
    Same m a (guardUntil s r t) := by
  unfold guardUntil
  simp (maxDischargeDepth := 30) [hs, hm_regions]

@[simp] theorem takeBus_same (x : Ctx) (s : State) (t : Nat) (bank : Nat) (nl : Nat) (write : Bool) (sent : Nat) (hs : Same m a s)
    (hm_regions : m.regions = true := by first | rfl | assumption) :
    Same m a (takeBus x s t bank nl write sent) := by
  unfold takeBus
  simp (maxDischargeDepth := 30) [hs, hm_regions]

@[simp] theorem startPrecharges_same (s : State) (r : Fin 32) (n : Nat) (hs : Same m a s)
    (hm_regions : m.regions = true := by first | rfl | assumption) :
    Same m a (startPrecharges s r n) := by
  unfold startPrecharges
  simp (maxDischargeDepth := 30) [hs, hm_regions]

@[simp] theorem enterPort_same (x : Ctx) (s : State) (wid : Nat) (seq : Nat) (v : Line) (hs : Same m a s)
    (hm_regions : m.regions = true := by first | rfl | assumption) (hm_ports : m.ports = true := by first | rfl | assumption) :
    Same m a (enterPort x s wid seq v) := by
  unfold enterPort
  (repeat' split) <;> simp (maxDischargeDepth := 30) [hs, hm_regions, hm_ports]

@[simp] theorem writeHbmLine_same (s : State) (addr : Nat) (v : Line) (hs : Same m a s)
    (hm_free : m.free = true := by first | rfl | assumption) (hm_regs : m.regs = true := by first | rfl | assumption)
    (hm_hbm : m.hbm = true := by first | rfl | assumption) (hm_flaws : m.flaws = true := by first | rfl | assumption)
    (hm_whistle : m.whistle = true := by first | rfl | assumption) (hm_lantern : m.lantern = true := by first | rfl | assumption)
    (hm_log : m.log = true := by first | rfl | assumption) (hm_logSeq : m.logSeq = true := by first | rfl | assumption) :
    Same m a (writeHbmLine s addr v) := by
  unfold writeHbmLine
  simp (maxDischargeDepth := 30) [hs, hm_free, hm_regs, hm_hbm, hm_flaws, hm_whistle, hm_lantern, hm_log, hm_logSeq]

/-! ### Machine/Issue.lean -/

@[simp] theorem noteReads_same (s : State) (r : Fin 32) (slot : Nat) (ks : List Nat) (hs : Same m a s)
    (hm_regions : m.regions = true := by first | rfl | assumption) :
    Same m a (noteReads s r slot ks) := by
  unfold noteReads
  simp (maxDischargeDepth := 30) [hs, hm_regions]

@[simp] theorem lnAction_same (s : State) (r : Fin 32) (i : Instr) (hs : Same m a s)
    (hm_whistle : m.whistle = true := by first | rfl | assumption) (hm_lantern : m.lantern = true := by first | rfl | assumption) :
    Same m a (lnAction s r i) := by
  unfold lnAction
  (repeat' split) <;> simp (maxDischargeDepth := 30) [hs, hm_whistle, hm_lantern]

end Sys2Proof.Machine
end

