-- ==== Sys2Proof/Laws/SameActions.lean ====
section
/-!
SUPPORT. Laws/SameActions.lean: which fields may change in what the actions of a beat do.
-/

namespace Sys2Proof.Machine

set_option Elab.async false

variable {m : Mask} {a : State}

/-! ### Machine/Stoves.lean -/

/-! ### Machine/Kettles.lean -/

/-! ### Machine/Movement.lean -/

@[simp] theorem setWindow_same (x : Ctx) (s : State) (f : Nat) (wid : Nat) (w : Window) (hs : Same m a s)
    (hm_regions : m.regions = true := by first | rfl | assumption) :
    Same m a (setWindow x s f wid w) := by
  unfold setWindow
  simp (maxDischargeDepth := 30) [hs, hm_regions]

@[simp] theorem issueRwinClose_same (f : Fin 7) (wid : BitVec 3) (x : Ctx) (s : State) (hs : Same m a s)
    (hm_regions : m.regions = true := by first | rfl | assumption) :
    Same m a (issueRwinClose f wid x s) := by
  unfold issueRwinClose
  simp (maxDischargeDepth := 30) [hs, hm_regions]

@[simp] theorem issueThru_same (f : Fin 7) (inn : BitVec 3) (nbeats : BitVec 8) (dly : BitVec 4) (x : Ctx) (s : State) (hs : Same m a s)
    (hm_regions : m.regions = true := by first | rfl | assumption) :
    Same m a (issueThru f inn nbeats dly x s) := by
  unfold issueThru
  simp (maxDischargeDepth := 30) [hs, hm_regions]

/-! ### Machine/Sources.lean -/

@[simp] theorem modHost_same (s : State) (p : Fin 2) (f : HostPort → HostPort) (hs : Same m a s)
    (hm_hosts : m.hosts = true := by first | rfl | assumption) :
    Same m a (modHost s p f) := by
  unfold modHost
  simp (maxDischargeDepth := 30) [hs, hm_hosts]

@[simp] theorem msixSend_same (s : State) (p : Fin 2) (v : Nat) (hs : Same m a s) (hm_hosts : m.hosts = true := by first | rfl | assumption)
    (hm_lantern : m.lantern = true := by first | rfl | assumption) (hm_out : m.out = true := by first | rfl | assumption) :
    Same m a (msixSend s p v) := by
  unfold msixSend
  simp (maxDischargeDepth := 30) [hs, hm_hosts, hm_lantern, hm_out]

@[simp] theorem levelOnset_same (s : State) (n : Nat) (hs : Same m a s) (hm_whistle : m.whistle = true := by first | rfl | assumption) :
    Same m a (levelOnset s n) := by
  unfold levelOnset
  simp (maxDischargeDepth := 30) [hs, hm_whistle]

@[simp] theorem latchEvent_same (s : State) (n : Nat) (hs : Same m a s) (hm_whistle : m.whistle = true := by first | rfl | assumption) :
    Same m a (latchEvent s n) := by
  unfold latchEvent
  simp (maxDischargeDepth := 30) [hs, hm_whistle]

@[simp] theorem senseOne_same (s : State) (n : Nat) (now : Bool) (hs : Same m a s)
    (hm_whistle : m.whistle = true := by first | rfl | assumption) :
    Same m a (senseOne s n now) := by
  unfold senseOne
  dsimp only
  (repeat' split) <;> simp (maxDischargeDepth := 30) [hs, hm_whistle]

@[simp] theorem sense_same (s : State) (hs : Same m a s) (hm_whistle : m.whistle = true := by first | rfl | assumption) :
    Same m a (sense s) := by
  unfold sense
  simp (maxDischargeDepth := 30) +contextual [hs, hm_whistle]

@[simp] theorem checkTimer_same (s : State) (n : Nat) (hs : Same m a s) (hm_whistle : m.whistle = true := by first | rfl | assumption) :
    Same m a (checkTimer s n) := by
  unfold checkTimer
  (repeat' split) <;> simp (maxDischargeDepth := 30) [hs, hm_whistle]

@[simp] theorem intoService_same (s : State) (n : Nat) (hs : Same m a s) (hm_whistle : m.whistle = true := by first | rfl | assumption) :
    Same m a (intoService s n) := by
  unfold intoService
  simp (maxDischargeDepth := 30) [hs, hm_whistle]

@[simp] theorem deliverSource_same (s : State) (n : Nat) (hs : Same m a s) (hm_hosts : m.hosts = true := by first | rfl | assumption)
    (hm_whistle : m.whistle = true := by first | rfl | assumption) (hm_lantern : m.lantern = true := by first | rfl | assumption)
    (hm_out : m.out = true := by first | rfl | assumption) :
    Same m a (deliverSource s n) := by
  unfold deliverSource
  dsimp only
  (repeat' split) <;> simp (maxDischargeDepth := 30) +contextual [hs, hm_hosts, hm_whistle, hm_lantern, hm_out]

@[simp] theorem applyLatched_same (s : State) (n : Nat) (hs : Same m a s) (hm_whistle : m.whistle = true := by first | rfl | assumption) :
    Same m a (applyLatched s n) := by
  unfold applyLatched
  simp (maxDischargeDepth := 30) [hs, hm_whistle]

@[simp] theorem wakeWhistle_same (s : State) (hs : Same m a s) (hm_hosts : m.hosts = true := by first | rfl | assumption)
    (hm_whistle : m.whistle = true := by first | rfl | assumption) (hm_lantern : m.lantern = true := by first | rfl | assumption)
    (hm_out : m.out = true := by first | rfl | assumption) :
    Same m a (wakeWhistle s) := by
  unfold wakeWhistle
  simp (maxDischargeDepth := 30) +contextual [hs, hm_hosts, hm_whistle, hm_lantern, hm_out]

/-! ### Machine/Waits.lean -/

@[simp] theorem acceptRelease_same (s : State) (origin : Nat) (y2 : Nat) (tr : Nat) (hs : Same m a s)
    (hm_free : m.free = true := by first | rfl | assumption) (hm_regs : m.regs = true := by first | rfl | assumption)
    (hm_tarp : m.tarp = true := by first | rfl | assumption) (hm_compass : m.compass = true := by first | rfl | assumption)
    (hm_whistle : m.whistle = true := by first | rfl | assumption) (hm_log : m.log = true := by first | rfl | assumption)
    (hm_logSeq : m.logSeq = true := by first | rfl | assumption) :
    Same m a (acceptRelease s origin y2 tr) := by
  unfold acceptRelease
  simp (maxDischargeDepth := 30) [hs, hm_free, hm_regs, hm_tarp, hm_compass, hm_whistle, hm_log, hm_logSeq]

@[simp] theorem releaseHold_same (s : State) (y1 : Nat) (hs : Same m a s) (hm_free : m.free = true := by first | rfl | assumption)
    (hm_regs : m.regs = true := by first | rfl | assumption) (hm_tarp : m.tarp = true := by first | rfl | assumption)
    (hm_compass : m.compass = true := by first | rfl | assumption) (hm_ports : m.ports = true := by first | rfl | assumption)
    (hm_whistle : m.whistle = true := by first | rfl | assumption) (hm_log : m.log = true := by first | rfl | assumption)
    (hm_logSeq : m.logSeq = true := by first | rfl | assumption) (hm_out : m.out = true := by first | rfl | assumption) :
    Same m a (releaseHold s y1) := by
  unfold releaseHold
  simp (maxDischargeDepth := 30) [hs, hm_free, hm_regs, hm_tarp, hm_compass, hm_ports, hm_whistle, hm_log, hm_logSeq, hm_out]

@[simp] theorem causeMet_same (s : State) (cause : HoldCause) (hs : Same m a s) (hm_free : m.free = true := by first | rfl | assumption)
    (hm_regs : m.regs = true := by first | rfl | assumption) (hm_tarp : m.tarp = true := by first | rfl | assumption)
    (hm_compass : m.compass = true := by first | rfl | assumption) (hm_ports : m.ports = true := by first | rfl | assumption)
    (hm_whistle : m.whistle = true := by first | rfl | assumption) (hm_log : m.log = true := by first | rfl | assumption)
    (hm_logSeq : m.logSeq = true := by first | rfl | assumption) (hm_out : m.out = true := by first | rfl | assumption) :
    Same m a (causeMet s cause) := by
  unfold causeMet
  apply foldl_same _ _ _ hs
  intro s x hs
  dsimp only
  (repeat' split) <;> simp (maxDischargeDepth := 30) [hs, hm_free, hm_regs, hm_tarp, hm_compass, hm_ports, hm_whistle, hm_log, hm_logSeq, hm_out]

@[simp] theorem noteOccupancy_same (s : State) (r : Fin 32) (hs : Same m a s) (hm_regions : m.regions = true := by first | rfl | assumption) :
    Same m a (noteOccupancy s r) := by
  unfold noteOccupancy
  apply foldl_same _ _ _ hs
  intro s x hs
  split
  · exact hs
  · exact modRegion_same _ _ _ hs

@[simp] theorem modFire_same (s : State) (f : Firewatch → Firewatch) (hs : Same m a s)
    (hm_firewatch : m.firewatch = true := by first | rfl | assumption) :
    Same m a (modFire s f) := by
  unfold modFire
  simp (maxDischargeDepth := 30) [hs, hm_firewatch]

@[simp] theorem gateUnits_same (s : State) (depth : Nat) (hs : Same m a s) (hm_regions : m.regions = true := by first | rfl | assumption) :
    Same m a (gateUnits s depth) := by
  unfold gateUnits
  simp (maxDischargeDepth := 30) [hs, hm_regions]

@[simp] theorem settleEmergency_same (s : State) (hs : Same m a s) (hm_free : m.free = true := by first | rfl | assumption)
    (hm_regs : m.regs = true := by first | rfl | assumption) (hm_regions : m.regions = true := by first | rfl | assumption)
    (hm_firewatch : m.firewatch = true := by first | rfl | assumption) (hm_whistle : m.whistle = true := by first | rfl | assumption)
    (hm_log : m.log = true := by first | rfl | assumption) (hm_logSeq : m.logSeq = true := by first | rfl | assumption) :
    Same m a (settleEmergency s) := by
  unfold settleEmergency
  (repeat' split) <;> simp (maxDischargeDepth := 30) [hs, hm_free, hm_regs, hm_regions, hm_firewatch, hm_whistle, hm_log, hm_logSeq]

@[simp] theorem setModuleState_same (s : State) (y1 : Nat) (hs : Same m a s) (hm_regs : m.regs = true := by first | rfl | assumption)
    (hm_regions : m.regions = true := by first | rfl | assumption) (hm_firewatch : m.firewatch = true := by first | rfl | assumption)
    (hm_hosts : m.hosts = true := by first | rfl | assumption) (hm_whistle : m.whistle = true := by first | rfl | assumption)
    (hm_lantern : m.lantern = true := by first | rfl | assumption) (hm_out : m.out = true := by first | rfl | assumption) :
    Same m a (setModuleState s y1) := by
  unfold setModuleState
  simp (maxDischargeDepth := 30) [hs, hm_regs, hm_regions, hm_firewatch, hm_hosts, hm_whistle, hm_lantern, hm_out]

@[simp] theorem wakeTo_same (s : State) (y1 : Nat) (hs : Same m a s) (hm_regs : m.regs = true := by first | rfl | assumption)
    (hm_regions : m.regions = true := by first | rfl | assumption) (hm_firewatch : m.firewatch = true := by first | rfl | assumption)
    (hm_hosts : m.hosts = true := by first | rfl | assumption) (hm_whistle : m.whistle = true := by first | rfl | assumption)
    (hm_lantern : m.lantern = true := by first | rfl | assumption) (hm_out : m.out = true := by first | rfl | assumption) :
    Same m a (wakeTo s y1) := by
  unfold wakeTo
  simp (maxDischargeDepth := 30) [hs, hm_regs, hm_regions, hm_firewatch, hm_hosts, hm_whistle, hm_lantern, hm_out]

@[simp] theorem endedBeat_same (s : State) (r : Nat) (beat : Nat) (hs : Same m a s) (hm_free : m.free = true := by first | rfl | assumption)
    (hm_regs : m.regs = true := by first | rfl | assumption) (hm_trail : m.trail = true := by first | rfl | assumption)
    (hm_gearLog : m.gearLog = true := by first | rfl | assumption) (hm_whistle : m.whistle = true := by first | rfl | assumption)
    (hm_log : m.log = true := by first | rfl | assumption) (hm_logSeq : m.logSeq = true := by first | rfl | assumption) :
    Same m a (endedBeat s r beat) := by
  unfold endedBeat
  dsimp only
  (repeat' split) <;> simp (maxDischargeDepth := 30) [hs, hm_free, hm_regs, hm_trail, hm_gearLog, hm_whistle, hm_log, hm_logSeq]

@[simp] theorem restartHang_same (s : State) (r : Fin 32) (hs : Same m a s) (hm_regions : m.regions = true := by first | rfl | assumption) :
    Same m a (restartHang s r) := by
  unfold restartHang
  simp (maxDischargeDepth := 30) [hs, hm_regions]

/-! ### Machine/Pegs.lean -/

@[simp] theorem noteSlack_same (s : State) (r : Fin 32) (slack : Nat) (stall : Bool) (hs : Same m a s)
    (hm_regs : m.regs = true := by first | rfl | assumption) (hm_whistle : m.whistle = true := by first | rfl | assumption)
    (hm_lantern : m.lantern = true := by first | rfl | assumption) :
    Same m a (noteSlack s r slack stall) := by
  unfold noteSlack
  simp (maxDischargeDepth := 30) [hs, hm_regs, hm_whistle, hm_lantern]

@[simp] theorem advanceMark_same (s : State) (r : Fin 32) (peg : Nat) (adv : Bool) (t : Nat) (hs : Same m a s)
    (hm_regions : m.regions = true := by first | rfl | assumption) :
    Same m a (advanceMark s r peg adv t) := by
  unfold advanceMark
  simp (maxDischargeDepth := 30) [hs, hm_regions]

@[simp] theorem zipWait_same (s : State) (r : Fin 32) (beat : Nat) (p : Nat) (rel : Bool) (adv : Bool) (t : Nat) (hs : Same m a s)
    (hm_zipper : m.zipper = true := by first | rfl | assumption) :
    Same m a (zipWait s r beat p rel adv t) := by
  unfold zipWait
  simp (maxDischargeDepth := 30) [hs, hm_zipper]

/-! ### Machine/Far.lean -/

@[simp] theorem queueTracks_same (s : State) (id : Nat) (ts : List Nat) (hs : Same m a s)
    (hm_far : m.far = true := by first | rfl | assumption) :
    Same m a (queueTracks s id ts) := by
  unfold queueTracks
  simp (maxDischargeDepth := 30) [hs, hm_far]

@[simp] theorem setReq_same (s : State) (id : Nat) (f : FarReq → FarReq) (hs : Same m a s)
    (hm_far : m.far = true := by first | rfl | assumption) :
    Same m a (setReq s id f) := by
  unfold setReq
  simp (maxDischargeDepth := 30) [hs, hm_far]

@[simp] theorem awaitTracks_same (s : State) (q : FarReq) (ts : List Nat) (hs : Same m a s)
    (hm_far : m.far = true := by first | rfl | assumption) :
    Same m a (awaitTracks s q ts) := by
  unfold awaitTracks
  simp (maxDischargeDepth := 30) [hs, hm_far]

@[simp] theorem saveBanks_same (s : State) (r : Fin 32) (t : Nat) (hs : Same m a s)
    (hm_regions : m.regions = true := by first | rfl | assumption) :
    Same m a (saveBanks s r t) := by
  unfold saveBanks
  simp (maxDischargeDepth := 30) +contextual [hs, hm_regions]

@[simp] theorem serveTrack_same (s : State) (r : Fin 32) (t : Nat) (hs : Same m a s)
    (hm_regs : m.regs = true := by first | rfl | assumption) (hm_regions : m.regions = true := by first | rfl | assumption)
    (hm_far : m.far = true := by first | rfl | assumption) (hm_firewatch : m.firewatch = true := by first | rfl | assumption)
    (hm_hosts : m.hosts = true := by first | rfl | assumption) (hm_whistle : m.whistle = true := by first | rfl | assumption)
    (hm_lantern : m.lantern = true := by first | rfl | assumption) (hm_out : m.out = true := by first | rfl | assumption) :
    Same m a (serveTrack s r t) := by
  unfold serveTrack
  dsimp only
  (repeat' split) <;> simp (maxDischargeDepth := 30) [hs, hm_regs, hm_regions, hm_far, hm_firewatch, hm_hosts, hm_whistle, hm_lantern, hm_out]

@[simp] theorem noteQueue_same (s : State) (q : Nat) (hs : Same m a s) (hm_regs : m.regs = true := by first | rfl | assumption) :
    Same m a (noteQueue s q) := by
  unfold noteQueue
  simp (maxDischargeDepth := 30) [hs, hm_regs]

@[simp] theorem notePoison_same (s : State) (q : FarReq) (cause : Nat) (hs : Same m a s)
    (hm_free : m.free = true := by first | rfl | assumption) (hm_regs : m.regs = true := by first | rfl | assumption)
    (hm_whistle : m.whistle = true := by first | rfl | assumption) (hm_log : m.log = true := by first | rfl | assumption)
    (hm_logSeq : m.logSeq = true := by first | rfl | assumption) :
    Same m a (notePoison s q cause) := by
  unfold notePoison
  simp (maxDischargeDepth := 30) [hs, hm_free, hm_regs, hm_whistle, hm_log, hm_logSeq]

@[simp] theorem poisonReq_same (s : State) (id : Nat) (cause : Nat) (hs : Same m a s) (hm_far : m.far = true := by first | rfl | assumption) :
    Same m a (poisonReq s id cause) := by
  unfold poisonReq
  simp (maxDischargeDepth := 30) [hs, hm_far]

@[simp] theorem disableEffect_same (s : State) (q : Nat) (hs : Same m a s) (hm_regs : m.regs = true := by first | rfl | assumption) :
    Same m a (disableEffect s q) := by
  unfold disableEffect
  simp (maxDischargeDepth := 30) [hs, hm_regs]

@[simp] theorem disableQueue_same (s : State) (q : Nat) (hs : Same m a s) (hm_regs : m.regs = true := by first | rfl | assumption) :
    Same m a (disableQueue s q) := by
  unfold disableQueue
  simp (maxDischargeDepth := 30) [hs, hm_regs]

@[simp] theorem enableQueue_same (s : State) (q : Nat) (hs : Same m a s) (hm_regs : m.regs = true := by first | rfl | assumption) :
    Same m a (enableQueue s q) := by
  unfold enableQueue
  (repeat' split) <;> simp (maxDischargeDepth := 30) [hs, hm_regs]

/-! ### Machine/FarOps.lean -/

@[simp] theorem putBarrel_same (s : State) (y1 : Nat) (bs : List Byte) (hs : Same m a s)
    (hm_barrel : m.barrel = true := by first | rfl | assumption) (hm_flaws : m.flaws = true := by first | rfl | assumption)
    (hm_lantern : m.lantern = true := by first | rfl | assumption) :
    Same m a (putBarrel s y1 bs) := by
  unfold putBarrel
  simp (maxDischargeDepth := 30) [hs, hm_barrel, hm_flaws, hm_lantern]

@[simp] theorem noteBarrelEcc_same (s : State) (y1 : Nat) (n : Nat) (hs : Same m a s)
    (hm_free : m.free = true := by first | rfl | assumption) (hm_regs : m.regs = true := by first | rfl | assumption)
    (hm_whistle : m.whistle = true := by first | rfl | assumption) (hm_log : m.log = true := by first | rfl | assumption)
    (hm_logSeq : m.logSeq = true := by first | rfl | assumption) :
    Same m a (noteBarrelEcc s y1 n) := by
  unfold noteBarrelEcc
  apply foldl_same _ _ _ hs
  intro s x hs
  dsimp only
  (repeat' split) <;> simp (maxDischargeDepth := 30) [hs, hm_free, hm_regs, hm_whistle, hm_log, hm_logSeq]

@[simp] theorem readBarrel_same (s : State) (y1 : Nat) (n : Nat) (hs : Same m a s) (hm_free : m.free = true := by first | rfl | assumption)
    (hm_regs : m.regs = true := by first | rfl | assumption) (hm_whistle : m.whistle = true := by first | rfl | assumption)
    (hm_lantern : m.lantern = true := by first | rfl | assumption) (hm_log : m.log = true := by first | rfl | assumption)
    (hm_logSeq : m.logSeq = true := by first | rfl | assumption) :
    Same m a (readBarrel s y1 n).2.2 := by
  unfold readBarrel
  simp (maxDischargeDepth := 30) [hs, hm_free, hm_regs, hm_whistle, hm_lantern, hm_log, hm_logSeq]

@[simp] theorem noteHbmEcc_same (s : State) (y1 : Nat) (n : Nat) (hs : Same m a s) (hm_free : m.free = true := by first | rfl | assumption)
    (hm_regs : m.regs = true := by first | rfl | assumption) (hm_whistle : m.whistle = true := by first | rfl | assumption)
    (hm_lantern : m.lantern = true := by first | rfl | assumption) (hm_log : m.log = true := by first | rfl | assumption)
    (hm_logSeq : m.logSeq = true := by first | rfl | assumption) :
    Same m a (noteHbmEcc s y1 n) := by
  unfold noteHbmEcc
  simp (maxDischargeDepth := 30) +contextual [hs, hm_free, hm_regs, hm_whistle, hm_lantern, hm_log, hm_logSeq]

@[simp] theorem readHbm_same (s : State) (y1 : Nat) (n : Nat) (hs : Same m a s) (hm_free : m.free = true := by first | rfl | assumption)
    (hm_regs : m.regs = true := by first | rfl | assumption) (hm_whistle : m.whistle = true := by first | rfl | assumption)
    (hm_lantern : m.lantern = true := by first | rfl | assumption) (hm_log : m.log = true := by first | rfl | assumption)
    (hm_logSeq : m.logSeq = true := by first | rfl | assumption) :
    Same m a (readHbm s y1 n).2.2 := by
  unfold readHbm
  simp (maxDischargeDepth := 30) [hs, hm_free, hm_regs, hm_whistle, hm_lantern, hm_log, hm_logSeq]

@[simp] theorem patrolScrub_same (s : State) (hs : Same m a s) (hm_free : m.free = true := by first | rfl | assumption)
    (hm_regs : m.regs = true := by first | rfl | assumption) (hm_flaws : m.flaws = true := by first | rfl | assumption)
    (hm_whistle : m.whistle = true := by first | rfl | assumption) (hm_log : m.log = true := by first | rfl | assumption)
    (hm_logSeq : m.logSeq = true := by first | rfl | assumption) :
    Same m a (patrolScrub s) := by
  unfold patrolScrub
  simp (maxDischargeDepth := 30) [hs, hm_free, hm_regs, hm_flaws, hm_whistle, hm_log, hm_logSeq]

@[simp] theorem freeBytes_same (s : State) (n : Nat) (hs : Same m a s) (hm_free : m.free = true := by first | rfl | assumption) :
    Same m a (freeBytes s n).2 := by
  unfold freeBytes
  simp (maxDischargeDepth := 30) [hs, hm_free]

@[simp] theorem undefineHbm_same (s : State) (y1 : Nat) (n : Nat) (hs : Same m a s) (hm_free : m.free = true := by first | rfl | assumption)
    (hm_regs : m.regs = true := by first | rfl | assumption) (hm_hbm : m.hbm = true := by first | rfl | assumption)
    (hm_flaws : m.flaws = true := by first | rfl | assumption) (hm_whistle : m.whistle = true := by first | rfl | assumption)
    (hm_log : m.log = true := by first | rfl | assumption) (hm_logSeq : m.logSeq = true := by first | rfl | assumption) :
    Same m a (undefineHbm s y1 n) := by
  unfold undefineHbm
  simp (maxDischargeDepth := 30) [hs, hm_free, hm_regs, hm_hbm, hm_flaws, hm_whistle, hm_log, hm_logSeq]

@[simp] theorem undefineBarrel_same (s : State) (y1 : Nat) (n : Nat) (hs : Same m a s)
    (hm_free : m.free = true := by first | rfl | assumption) (hm_barrel : m.barrel = true := by first | rfl | assumption)
    (hm_flaws : m.flaws = true := by first | rfl | assumption) (hm_lantern : m.lantern = true := by first | rfl | assumption) :
    Same m a (undefineBarrel s y1 n) := by
  unfold undefineBarrel
  simp (maxDischargeDepth := 30) [hs, hm_free, hm_barrel, hm_flaws, hm_lantern]

@[simp] theorem farPut_same (s : State) (y1 : Nat) (bs : List Byte) (hs : Same m a s)
    (hm_free : m.free = true := by first | rfl | assumption) (hm_regs : m.regs = true := by first | rfl | assumption)
    (hm_hbm : m.hbm = true := by first | rfl | assumption) (hm_flaws : m.flaws = true := by first | rfl | assumption)
    (hm_whistle : m.whistle = true := by first | rfl | assumption) (hm_lantern : m.lantern = true := by first | rfl | assumption)
    (hm_log : m.log = true := by first | rfl | assumption) (hm_logSeq : m.logSeq = true := by first | rfl | assumption) :
    Same m a (farPut s y1 bs) := by
  unfold farPut
  simp (maxDischargeDepth := 30) +contextual [hs, hm_free, hm_regs, hm_hbm, hm_flaws, hm_whistle, hm_lantern, hm_log, hm_logSeq]

@[simp] theorem undefineSlot_same (s : State) (p : Pitch) (k : Nat) (hs : Same m a s)
    (hm_free : m.free = true := by first | rfl | assumption) (hm_regs : m.regs = true := by first | rfl | assumption)
    (hm_hbm : m.hbm = true := by first | rfl | assumption) (hm_flaws : m.flaws = true := by first | rfl | assumption)
    (hm_whistle : m.whistle = true := by first | rfl | assumption) (hm_log : m.log = true := by first | rfl | assumption)
    (hm_logSeq : m.logSeq = true := by first | rfl | assumption) :
    Same m a (undefineSlot s p k) := by
  unfold undefineSlot
  simp (maxDischargeDepth := 30) +contextual [hs, hm_free, hm_regs, hm_hbm, hm_flaws, hm_whistle, hm_log, hm_logSeq]

@[simp] theorem setBunkBytes_same (s : State) (i : Nat) (off : Nat) (bs : List Byte) (hs : Same m a s)
    (hm_far : m.far = true := by first | rfl | assumption) :
    Same m a (setBunkBytes s i off bs) := by
  unfold setBunkBytes
  simp (maxDischargeDepth := 30) [hs, hm_far]

@[simp] theorem undefinePages_same (s : State) (q : FarReq) (hs : Same m a s) (hm_free : m.free = true := by first | rfl | assumption)
    (hm_regs : m.regs = true := by first | rfl | assumption) (hm_hbm : m.hbm = true := by first | rfl | assumption)
    (hm_barrel : m.barrel = true := by first | rfl | assumption) (hm_flaws : m.flaws = true := by first | rfl | assumption)
    (hm_whistle : m.whistle = true := by first | rfl | assumption) (hm_lantern : m.lantern = true := by first | rfl | assumption)
    (hm_log : m.log = true := by first | rfl | assumption) (hm_logSeq : m.logSeq = true := by first | rfl | assumption) :
    Same m a (undefinePages s q) := by
  unfold undefinePages
  simp (maxDischargeDepth := 30) +contextual [hs, hm_free, hm_regs, hm_hbm, hm_barrel, hm_flaws, hm_whistle, hm_lantern, hm_log, hm_logSeq]

@[simp] theorem undefineTarget_same (s : State) (q : FarReq) (hs : Same m a s) (hm_free : m.free = true := by first | rfl | assumption)
    (hm_regs : m.regs = true := by first | rfl | assumption) (hm_hbm : m.hbm = true := by first | rfl | assumption)
    (hm_barrel : m.barrel = true := by first | rfl | assumption) (hm_far : m.far = true := by first | rfl | assumption)
    (hm_flaws : m.flaws = true := by first | rfl | assumption) (hm_whistle : m.whistle = true := by first | rfl | assumption)
    (hm_lantern : m.lantern = true := by first | rfl | assumption) (hm_log : m.log = true := by first | rfl | assumption)
    (hm_logSeq : m.logSeq = true := by first | rfl | assumption) :
    Same m a (undefineTarget s q) := by
  unfold undefineTarget
  dsimp only
  (repeat' split) <;> simp (maxDischargeDepth := 30) +contextual [hs, hm_free, hm_regs, hm_hbm, hm_barrel, hm_far, hm_flaws, hm_whistle, hm_lantern, hm_log, hm_logSeq]

@[simp] theorem withFar_same (s : State) (queue : Nat) (k : Nat) (op : Nat) (f : FarReq → State → State) (hs : Same m a s)
    (hf : ∀ (z0 : FarReq) (z1 : State), Same m a z1 → Same m a (f z0 z1)) (hm_regs : m.regs = true := by first | rfl | assumption)
    (hm_regions : m.regions = true := by first | rfl | assumption) (hm_firewatch : m.firewatch = true := by first | rfl | assumption)
    (hm_hosts : m.hosts = true := by first | rfl | assumption) (hm_whistle : m.whistle = true := by first | rfl | assumption)
    (hm_lantern : m.lantern = true := by first | rfl | assumption) (hm_out : m.out = true := by first | rfl | assumption) :
    Same m a (withFar s queue k op f) := by
  unfold withFar
  (repeat' split) <;> simp (maxDischargeDepth := 30) [hs, hf, hm_regs, hm_regions, hm_firewatch, hm_hosts, hm_whistle, hm_lantern, hm_out]

@[simp] theorem finishReq_same (s : State) (q : FarReq) (hs : Same m a s) (hm_far : m.far = true := by first | rfl | assumption) :
    Same m a (finishReq s q) := by
  unfold finishReq
  simp (maxDischargeDepth := 30) [hs, hm_far]

@[simp] theorem moveParts_same (id : Nat) (move : Part → State → Option Nat × State) (y2 : List Part) (y3 : State)
    (hmove : ∀ (z0 : Part) (z1 : State), Same m a z1 → Same m a (move z0 z1).2) (hy3 : Same m a y3)
    (hm_free : m.free = true := by first | rfl | assumption) (hm_regs : m.regs = true := by first | rfl | assumption)
    (hm_hbm : m.hbm = true := by first | rfl | assumption) (hm_barrel : m.barrel = true := by first | rfl | assumption)
    (hm_far : m.far = true := by first | rfl | assumption) (hm_flaws : m.flaws = true := by first | rfl | assumption)
    (hm_whistle : m.whistle = true := by first | rfl | assumption) (hm_lantern : m.lantern = true := by first | rfl | assumption)
    (hm_log : m.log = true := by first | rfl | assumption) (hm_logSeq : m.logSeq = true := by first | rfl | assumption) :
    Same m a (moveParts id move y2 y3) := by
  induction y2 generalizing y3 with
  | nil => exact hy3
  | cons p rest ih =>
    unfold moveParts
    split
    · exact hy3
    · split
      · exact hy3
      · split
        · exact ih _ hy3
        · split
          · split
            · rename_i he
              exact poisonReq_same _ _ _ (undefineTarget_same _ _ (same_of_snd (hmove _ _ hy3) he))
            · rename_i he
              exact ih _ (setReq_same _ _ _ (same_of_snd (hmove _ _ hy3) he))
          · exact ih _ (awaitTracks_same _ _ _ hy3)

@[simp] theorem onceMoved_same (s : State) (id : Nat) (parts : List Part) (f : State → State) (hs : Same m a s)
    (hf : ∀ (z0 : State), Same m a z0 → Same m a (f z0)) :
    Same m a (onceMoved s id parts f) := by
  unfold onceMoved
  (repeat' split) <;> simp (maxDischargeDepth := 30) [hs, hf]

@[simp] theorem loadBlocks_same (p : Pitch) (q : FarReq) (src : Source) (cause : Nat) (y4 : List Nat) (y5 : State)
    (hsrc : ∀ (z0 : Nat) (z1 : Nat) (z2 : State), Same m a z2 → Same m a (src z0 z1 z2).2.2) (hy5 : Same m a y5)
    (hm_free : m.free = true := by first | rfl | assumption) (hm_regs : m.regs = true := by first | rfl | assumption)
    (hm_hbm : m.hbm = true := by first | rfl | assumption) (hm_flaws : m.flaws = true := by first | rfl | assumption)
    (hm_whistle : m.whistle = true := by first | rfl | assumption) (hm_log : m.log = true := by first | rfl | assumption)
    (hm_logSeq : m.logSeq = true := by first | rfl | assumption) :
    Same m a (loadBlocks p q src cause y4 y5).2 := by
  induction y4 generalizing y5 with
  | nil => exact hy5
  | cons i rest ih =>
    unfold loadBlocks
    have h := hsrc (32768 * i) (min 32768 (q.len - 32768 * i)) y5 hy5
    revert h
    generalize src (32768 * i) (min 32768 (q.len - 32768 * i)) y5 = r
    obtain ⟨bs, ok, t⟩ := r
    intro h
    dsimp only at h ⊢
    split
    · exact ih _ (putHbm_same _ _ _ h)
    · exact h

@[simp] theorem loadSlot_same (s : State) (q : FarReq) (src : Source) (cause : Nat) (hs : Same m a s)
    (hsrc : ∀ (z0 : Nat) (z1 : Nat) (z2 : State), Same m a z2 → Same m a (src z0 z1 z2).2.2)
    (hm_free : m.free = true := by first | rfl | assumption) (hm_regs : m.regs = true := by first | rfl | assumption)
    (hm_hbm : m.hbm = true := by first | rfl | assumption) (hm_barrel : m.barrel = true := by first | rfl | assumption)
    (hm_far : m.far = true := by first | rfl | assumption) (hm_flaws : m.flaws = true := by first | rfl | assumption)
    (hm_whistle : m.whistle = true := by first | rfl | assumption) (hm_lantern : m.lantern = true := by first | rfl | assumption)
    (hm_log : m.log = true := by first | rfl | assumption) (hm_logSeq : m.logSeq = true := by first | rfl | assumption) :
    Same m a (loadSlot s q src cause) := by
  unfold loadSlot
  (repeat' split) <;> simp (maxDischargeDepth := 30) +contextual [hs, hsrc, hm_free, hm_regs, hm_hbm, hm_barrel, hm_far, hm_flaws, hm_whistle, hm_lantern, hm_log, hm_logSeq]

@[simp] theorem landRead_same (s : State) (q : FarReq) (src : Source) (cause : Nat) (hs : Same m a s)
    (hsrc : ∀ (z0 : Nat) (z1 : Nat) (z2 : State), Same m a z2 → Same m a (src z0 z1 z2).2.2)
    (hm_free : m.free = true := by first | rfl | assumption) (hm_regs : m.regs = true := by first | rfl | assumption)
    (hm_hbm : m.hbm = true := by first | rfl | assumption) (hm_barrel : m.barrel = true := by first | rfl | assumption)
    (hm_far : m.far = true := by first | rfl | assumption) (hm_flaws : m.flaws = true := by first | rfl | assumption)
    (hm_whistle : m.whistle = true := by first | rfl | assumption) (hm_lantern : m.lantern = true := by first | rfl | assumption)
    (hm_log : m.log = true := by first | rfl | assumption) (hm_logSeq : m.logSeq = true := by first | rfl | assumption) :
    Same m a (landRead s q src cause) := by
  unfold landRead
  simp (maxDischargeDepth := 30) +contextual [hs, hsrc, hm_free, hm_regs, hm_hbm, hm_barrel, hm_far, hm_flaws, hm_whistle, hm_lantern, hm_log, hm_logSeq]

@[simp] theorem doBread_same (q : FarReq) (s : State) (hs : Same m a s) (hm_free : m.free = true := by first | rfl | assumption)
    (hm_regs : m.regs = true := by first | rfl | assumption) (hm_hbm : m.hbm = true := by first | rfl | assumption)
    (hm_barrel : m.barrel = true := by first | rfl | assumption) (hm_far : m.far = true := by first | rfl | assumption)
    (hm_flaws : m.flaws = true := by first | rfl | assumption) (hm_whistle : m.whistle = true := by first | rfl | assumption)
    (hm_lantern : m.lantern = true := by first | rfl | assumption) (hm_log : m.log = true := by first | rfl | assumption)
    (hm_logSeq : m.logSeq = true := by first | rfl | assumption) :
    Same m a (doBread q s) := by
  unfold doBread
  simp (maxDischargeDepth := 30) +contextual [hs, hm_free, hm_regs, hm_hbm, hm_barrel, hm_far, hm_flaws, hm_whistle, hm_lantern, hm_log, hm_logSeq]

@[simp] theorem doHread_same (data : List Byte) (err : Bool) (q : FarReq) (s : State) (hs : Same m a s)
    (hm_free : m.free = true := by first | rfl | assumption) (hm_regs : m.regs = true := by first | rfl | assumption)
    (hm_hbm : m.hbm = true := by first | rfl | assumption) (hm_barrel : m.barrel = true := by first | rfl | assumption)
    (hm_far : m.far = true := by first | rfl | assumption) (hm_flaws : m.flaws = true := by first | rfl | assumption)
    (hm_whistle : m.whistle = true := by first | rfl | assumption) (hm_lantern : m.lantern = true := by first | rfl | assumption)
    (hm_log : m.log = true := by first | rfl | assumption) (hm_logSeq : m.logSeq = true := by first | rfl | assumption) :
    Same m a (doHread data err q s) := by
  unfold doHread
  simp (maxDischargeDepth := 30) +contextual [hs, hm_free, hm_regs, hm_hbm, hm_barrel, hm_far, hm_flaws, hm_whistle, hm_lantern, hm_log, hm_logSeq]

@[simp] theorem windowBytes_same (s : State) (w : HubWin) (n : Nat) (hs : Same m a s)
    (hm_free : m.free = true := by first | rfl | assumption) :
    Same m a (windowBytes s w n).2 := by
  unfold windowBytes
  simp (maxDischargeDepth := 30) [hs, hm_free]

@[simp] theorem sendOut_same (q : FarReq) (put : Nat → List Byte → State → State) (last : State → State) (s : State)
    (hput : ∀ (z0 : Nat) (z1 : List Byte) (z2 : State), Same m a z2 → Same m a (put z0 z1 z2))
    (hlast : ∀ (z0 : State), Same m a z0 → Same m a (last z0)) (hs : Same m a s) (hm_free : m.free = true := by first | rfl | assumption)
    (hm_regs : m.regs = true := by first | rfl | assumption) (hm_hbm : m.hbm = true := by first | rfl | assumption)
    (hm_barrel : m.barrel = true := by first | rfl | assumption) (hm_far : m.far = true := by first | rfl | assumption)
    (hm_flaws : m.flaws = true := by first | rfl | assumption) (hm_whistle : m.whistle = true := by first | rfl | assumption)
    (hm_lantern : m.lantern = true := by first | rfl | assumption) (hm_log : m.log = true := by first | rfl | assumption)
    (hm_logSeq : m.logSeq = true := by first | rfl | assumption) :
    Same m a (sendOut q put last s) := by
  unfold sendOut
  dsimp only
  (repeat' split) <;> simp (maxDischargeDepth := 30) +contextual [hput, hlast, hs, hm_free, hm_regs, hm_hbm, hm_barrel, hm_far, hm_flaws, hm_whistle, hm_lantern, hm_log, hm_logSeq]

@[simp] theorem doBwrite_same (q : FarReq) (s : State) (hs : Same m a s) (hm_free : m.free = true := by first | rfl | assumption)
    (hm_regs : m.regs = true := by first | rfl | assumption) (hm_hbm : m.hbm = true := by first | rfl | assumption)
    (hm_barrel : m.barrel = true := by first | rfl | assumption) (hm_far : m.far = true := by first | rfl | assumption)
    (hm_flaws : m.flaws = true := by first | rfl | assumption) (hm_whistle : m.whistle = true := by first | rfl | assumption)
    (hm_lantern : m.lantern = true := by first | rfl | assumption) (hm_log : m.log = true := by first | rfl | assumption)
    (hm_logSeq : m.logSeq = true := by first | rfl | assumption) :
    Same m a (doBwrite q s) := by
  unfold doBwrite
  simp (maxDischargeDepth := 30) +contextual [hs, hm_free, hm_regs, hm_hbm, hm_barrel, hm_far, hm_flaws, hm_whistle, hm_lantern, hm_log, hm_logSeq]

@[simp] theorem doHwrite_same (err : Bool) (q : FarReq) (s : State) (hs : Same m a s)
    (hm_free : m.free = true := by first | rfl | assumption) (hm_regs : m.regs = true := by first | rfl | assumption)
    (hm_hbm : m.hbm = true := by first | rfl | assumption) (hm_barrel : m.barrel = true := by first | rfl | assumption)
    (hm_far : m.far = true := by first | rfl | assumption) (hm_flaws : m.flaws = true := by first | rfl | assumption)
    (hm_whistle : m.whistle = true := by first | rfl | assumption) (hm_lantern : m.lantern = true := by first | rfl | assumption)
    (hm_log : m.log = true := by first | rfl | assumption) (hm_logSeq : m.logSeq = true := by first | rfl | assumption)
    (hm_out : m.out = true := by first | rfl | assumption) :
    Same m a (doHwrite err q s) := by
  unfold doHwrite
  simp (maxDischargeDepth := 30) +contextual [hs, hm_free, hm_regs, hm_hbm, hm_barrel, hm_far, hm_flaws, hm_whistle, hm_lantern, hm_log, hm_logSeq, hm_out]

@[simp] theorem noteStore_same (s : State) (hs : Same m a s) (hm_regs : m.regs = true := by first | rfl | assumption) :
    Same m a (noteStore s) := by
  unfold noteStore
  simp (maxDischargeDepth := 30) [hs, hm_regs]

@[simp] theorem dropBunk_same (s : State) (i : Nat) (hs : Same m a s) (hm_regs : m.regs = true := by first | rfl | assumption)
    (hm_far : m.far = true := by first | rfl | assumption) (hm_flaws : m.flaws = true := by first | rfl | assumption) :
    Same m a (dropBunk s i) := by
  unfold dropBunk
  simp (maxDischargeDepth := 30) [hs, hm_regs, hm_far, hm_flaws]

@[simp] theorem cacheTopo_same (s : State) (i : Nat) (e : BitVec 128) (hs : Same m a s)
    (hm_free : m.free = true := by first | rfl | assumption) (hm_far : m.far = true := by first | rfl | assumption) :
    Same m a (cacheTopo s i e) := by
  unfold cacheTopo
  simp (maxDischargeDepth := 30) [hs, hm_free, hm_far]

@[simp] theorem writeTopo_same (s : State) (i : Nat) (e : BitVec 128) (hs : Same m a s)
    (hm_free : m.free = true := by first | rfl | assumption) (hm_regs : m.regs = true := by first | rfl | assumption)
    (hm_hbm : m.hbm = true := by first | rfl | assumption) (hm_far : m.far = true := by first | rfl | assumption)
    (hm_flaws : m.flaws = true := by first | rfl | assumption) (hm_whistle : m.whistle = true := by first | rfl | assumption)
    (hm_log : m.log = true := by first | rfl | assumption) (hm_logSeq : m.logSeq = true := by first | rfl | assumption) :
    Same m a (writeTopo s i e) := by
  unfold writeTopo
  (repeat' split) <;> simp (maxDischargeDepth := 30) [hs, hm_free, hm_regs, hm_hbm, hm_far, hm_flaws, hm_whistle, hm_log, hm_logSeq]

@[simp] theorem readPage_same (s : State) (l : PageAt) (hs : Same m a s) (hm_free : m.free = true := by first | rfl | assumption)
    (hm_regs : m.regs = true := by first | rfl | assumption) (hm_whistle : m.whistle = true := by first | rfl | assumption)
    (hm_lantern : m.lantern = true := by first | rfl | assumption) (hm_log : m.log = true := by first | rfl | assumption)
    (hm_logSeq : m.logSeq = true := by first | rfl | assumption) :
    Same m a (readPage s l).2.2 := by
  unfold readPage
  (repeat' split) <;> simp (maxDischargeDepth := 30) [hs, hm_free, hm_regs, hm_whistle, hm_lantern, hm_log, hm_logSeq]

@[simp] theorem writePage_same (s : State) (l : PageAt) (bs : List Byte) (hs : Same m a s)
    (hm_free : m.free = true := by first | rfl | assumption) (hm_regs : m.regs = true := by first | rfl | assumption)
    (hm_hbm : m.hbm = true := by first | rfl | assumption) (hm_barrel : m.barrel = true := by first | rfl | assumption)
    (hm_flaws : m.flaws = true := by first | rfl | assumption) (hm_whistle : m.whistle = true := by first | rfl | assumption)
    (hm_lantern : m.lantern = true := by first | rfl | assumption) (hm_log : m.log = true := by first | rfl | assumption)
    (hm_logSeq : m.logSeq = true := by first | rfl | assumption) :
    Same m a (writePage s l bs) := by
  unfold writePage
  simp (maxDischargeDepth := 30) [hs, hm_free, hm_regs, hm_hbm, hm_barrel, hm_flaws, hm_whistle, hm_lantern, hm_log, hm_logSeq]

@[simp] theorem emitCairn_same (q : FarReq) (step : Nat) (s : State) (hs : Same m a s)
    (hm_free : m.free = true := by first | rfl | assumption) (hm_regs : m.regs = true := by first | rfl | assumption)
    (hm_hbm : m.hbm = true := by first | rfl | assumption) (hm_barrel : m.barrel = true := by first | rfl | assumption)
    (hm_far : m.far = true := by first | rfl | assumption) (hm_flaws : m.flaws = true := by first | rfl | assumption)
    (hm_whistle : m.whistle = true := by first | rfl | assumption) (hm_lantern : m.lantern = true := by first | rfl | assumption)
    (hm_log : m.log = true := by first | rfl | assumption) (hm_logSeq : m.logSeq = true := by first | rfl | assumption) :
    Same m a (emitCairn q step s) := by
  unfold emitCairn
  simp (maxDischargeDepth := 30) +contextual [hs, hm_free, hm_regs, hm_hbm, hm_barrel, hm_far, hm_flaws, hm_whistle, hm_lantern, hm_log, hm_logSeq]

@[simp] theorem refuseBunk_same (s : State) (hs : Same m a s) (hm_free : m.free = true := by first | rfl | assumption)
    (hm_regs : m.regs = true := by first | rfl | assumption) (hm_whistle : m.whistle = true := by first | rfl | assumption)
    (hm_log : m.log = true := by first | rfl | assumption) (hm_logSeq : m.logSeq = true := by first | rfl | assumption) :
    Same m a (refuseBunk s) := by
  unfold refuseBunk
  simp (maxDischargeDepth := 30) [hs, hm_free, hm_regs, hm_whistle, hm_log, hm_logSeq]

@[simp] theorem invalCmd_same (s : State) (i : Nat) (hs : Same m a s) (hm_free : m.free = true := by first | rfl | assumption)
    (hm_regs : m.regs = true := by first | rfl | assumption) (hm_far : m.far = true := by first | rfl | assumption)
    (hm_flaws : m.flaws = true := by first | rfl | assumption) (hm_whistle : m.whistle = true := by first | rfl | assumption)
    (hm_log : m.log = true := by first | rfl | assumption) (hm_logSeq : m.logSeq = true := by first | rfl | assumption) :
    Same m a (invalCmd s i) := by
  unfold invalCmd
  simp (maxDischargeDepth := 30) [hs, hm_free, hm_regs, hm_far, hm_flaws, hm_whistle, hm_log, hm_logSeq]

@[simp] theorem writeList_same (s : State) (i : Nat) (v : W32) (hs : Same m a s) (hm_regs : m.regs = true := by first | rfl | assumption)
    (hm_far : m.far = true := by first | rfl | assumption) :
    Same m a (writeList s i v) := by
  unfold writeList
  simp (maxDischargeDepth := 30) [hs, hm_regs, hm_far]

end Sys2Proof.Machine
end

