-- ==== Sys2Proof/Laws/SameFabric.lean ====
section
/-!
SUPPORT. Laws/SameFabric.lean: which fields may change in links, crossings, the Compass, Zipper, the Pacer and the tracks.
-/

namespace Sys2Proof.Machine

set_option Elab.async false

variable {m : Mask} {a : State}

/-! ### Machine/Links.lean -/

@[simp] theorem putPack_same (s : State) (p : Fin 10) (k : SentPack) (hs : Same m a s)
    (hm_ports : m.ports = true := by first | rfl | assumption) (hm_lantern : m.lantern = true := by first | rfl | assumption)
    (hm_out : m.out = true := by first | rfl | assumption) :
    Same m a (putPack s p k) := by
  unfold putPack
  simp (maxDischargeDepth := 30) [hs, hm_ports, hm_lantern, hm_out]

@[simp] theorem sendPack_same (s : State) (p : Fin 10) (chan : Nat) (bytes : List Byte) (hs : Same m a s)
    (hm_ports : m.ports = true := by first | rfl | assumption) (hm_lantern : m.lantern = true := by first | rfl | assumption)
    (hm_out : m.out = true := by first | rfl | assumption) :
    Same m a (sendPack s p chan bytes) := by
  unfold sendPack
  simp (maxDischargeDepth := 30) [hs, hm_ports, hm_lantern, hm_out]

@[simp] theorem modChan_same (s : State) (p : Fin 10) (c : Fin 4) (f : Channel → Channel) (hs : Same m a s)
    (hm_ports : m.ports = true := by first | rfl | assumption) :
    Same m a (modChan s p c f) := by
  unfold modChan
  simp (maxDischargeDepth := 30) [hs, hm_ports]

@[simp] theorem noteStall_same (s : State) (p : Fin 10) (c : Fin 4) (wanted : Bool) (hs : Same m a s)
    (hm_ports : m.ports = true := by first | rfl | assumption) :
    Same m a (noteStall s p c wanted) := by
  unfold noteStall
  simp (maxDischargeDepth := 30) [hs, hm_ports]

@[simp] theorem noteIngress_same (s : State) (p : Fin 10) (hs : Same m a s) (hm_regs : m.regs = true := by first | rfl | assumption) :
    Same m a (noteIngress s p) := by
  unfold noteIngress
  simp (maxDischargeDepth := 30) [hs, hm_regs]

@[simp] theorem takeMessagePack_same (s : State) (p : Fin 10) (c : Fin 4) (som : Bool) (eom : Bool) (data : List Byte) (hs : Same m a s)
    (hm_ports : m.ports = true := by first | rfl | assumption) :
    Same m a (takeMessagePack s p c som eom data) := by
  unfold takeMessagePack
  simp (maxDischargeDepth := 30) [hs, hm_ports]

@[simp] theorem dropPack_same (s : State) (p : Fin 10) (hs : Same m a s) (hm_regs : m.regs = true := by first | rfl | assumption) :
    Same m a (dropPack s p) := by
  unfold dropPack
  simp (maxDischargeDepth := 30) [hs, hm_regs]

@[simp] theorem noteFec_same (s : State) (p : Fin 10) (corrected : Nat) (lost : Nat) (hs : Same m a s)
    (hm_regs : m.regs = true := by first | rfl | assumption) :
    Same m a (noteFec s p corrected lost) := by
  unfold noteFec
  simp (maxDischargeDepth := 30) [hs, hm_regs]

@[simp] theorem putAck_same (s : State) (p : Fin 10) (hs : Same m a s) (hm_free : m.free = true := by first | rfl | assumption)
    (hm_regs : m.regs = true := by first | rfl | assumption) (hm_ports : m.ports = true := by first | rfl | assumption)
    (hm_whistle : m.whistle = true := by first | rfl | assumption) (hm_log : m.log = true := by first | rfl | assumption)
    (hm_logSeq : m.logSeq = true := by first | rfl | assumption) (hm_out : m.out = true := by first | rfl | assumption) :
    Same m a (putAck s p) := by
  unfold putAck
  simp (maxDischargeDepth := 30) [hs, hm_free, hm_regs, hm_ports, hm_whistle, hm_log, hm_logSeq, hm_out]

@[simp] theorem ackSend_same (s : State) (p : Fin 10) (hs : Same m a s) (hm_free : m.free = true := by first | rfl | assumption)
    (hm_regs : m.regs = true := by first | rfl | assumption) (hm_ports : m.ports = true := by first | rfl | assumption)
    (hm_whistle : m.whistle = true := by first | rfl | assumption) (hm_log : m.log = true := by first | rfl | assumption)
    (hm_logSeq : m.logSeq = true := by first | rfl | assumption) (hm_out : m.out = true := by first | rfl | assumption) :
    Same m a (ackSend s p) := by
  unfold ackSend
  simp (maxDischargeDepth := 30) [hs, hm_free, hm_regs, hm_ports, hm_whistle, hm_log, hm_logSeq, hm_out]

@[simp] theorem replayAll_same (s : State) (p : Fin 10) (hs : Same m a s) (hm_ports : m.ports = true := by first | rfl | assumption) :
    Same m a (replayAll s p) := by
  unfold replayAll
  simp (maxDischargeDepth := 30) [hs, hm_ports]

@[simp] theorem replayTick_same (s : State) (p : Fin 10) (hs : Same m a s) (hm_free : m.free = true := by first | rfl | assumption)
    (hm_regs : m.regs = true := by first | rfl | assumption) (hm_ports : m.ports = true := by first | rfl | assumption)
    (hm_whistle : m.whistle = true := by first | rfl | assumption) (hm_log : m.log = true := by first | rfl | assumption)
    (hm_logSeq : m.logSeq = true := by first | rfl | assumption) :
    Same m a (replayTick s p) := by
  unfold replayTick
  dsimp only
  (repeat' split) <;> simp (maxDischargeDepth := 30) [hs, hm_free, hm_regs, hm_ports, hm_whistle, hm_log, hm_logSeq]

@[simp] theorem putCredit_same (s : State) (p : Fin 10) (c : Fin 4) (init : Bool) (hs : Same m a s)
    (hm_free : m.free = true := by first | rfl | assumption) (hm_regs : m.regs = true := by first | rfl | assumption)
    (hm_ports : m.ports = true := by first | rfl | assumption) (hm_whistle : m.whistle = true := by first | rfl | assumption)
    (hm_log : m.log = true := by first | rfl | assumption) (hm_logSeq : m.logSeq = true := by first | rfl | assumption)
    (hm_out : m.out = true := by first | rfl | assumption) :
    Same m a (putCredit s p c init) := by
  unfold putCredit
  simp (maxDischargeDepth := 30) [hs, hm_free, hm_regs, hm_ports, hm_whistle, hm_log, hm_logSeq, hm_out]

@[simp] theorem creditSend_same (s : State) (p : Fin 10) (c : Fin 4) (hs : Same m a s)
    (hm_free : m.free = true := by first | rfl | assumption) (hm_regs : m.regs = true := by first | rfl | assumption)
    (hm_ports : m.ports = true := by first | rfl | assumption) (hm_whistle : m.whistle = true := by first | rfl | assumption)
    (hm_log : m.log = true := by first | rfl | assumption) (hm_logSeq : m.logSeq = true := by first | rfl | assumption)
    (hm_out : m.out = true := by first | rfl | assumption) :
    Same m a (creditSend s p c) := by
  unfold creditSend
  simp (maxDischargeDepth := 30) [hs, hm_free, hm_regs, hm_ports, hm_whistle, hm_log, hm_logSeq, hm_out]

@[simp] theorem takeCredit_same (s : State) (p : Fin 10) (pl : BitVec 40) (hs : Same m a s)
    (hm_ports : m.ports = true := by first | rfl | assumption) :
    Same m a (takeCredit s p pl) := by
  unfold takeCredit
  simp (maxDischargeDepth := 30) [hs, hm_ports]

@[simp] theorem noteBad_same (s : State) (p : Fin 10) (hs : Same m a s) (hm_ports : m.ports = true := by first | rfl | assumption) :
    Same m a (noteBad s p) := by
  unfold noteBad
  simp (maxDischargeDepth := 30) [hs, hm_ports]

@[simp] theorem setMode_same (s : State) (p : Fin 10) (y2 : LinkMode) (hs : Same m a s)
    (hm_ports : m.ports = true := by first | rfl | assumption) :
    Same m a (setMode s p y2) := by
  unfold setMode
  simp (maxDischargeDepth := 30) [hs, hm_ports]

@[simp] theorem newTraining_same (s : State) (p : Fin 10) (paused : Bool) (hs : Same m a s)
    (hm_ports : m.ports = true := by first | rfl | assumption) :
    Same m a (newTraining s p paused) := by
  unfold newTraining
  simp (maxDischargeDepth := 30) [hs, hm_ports]

@[simp] theorem startRetrain_same (s : State) (p : Fin 10) (hs : Same m a s) (hm_free : m.free = true := by first | rfl | assumption)
    (hm_regs : m.regs = true := by first | rfl | assumption) (hm_ports : m.ports = true := by first | rfl | assumption)
    (hm_whistle : m.whistle = true := by first | rfl | assumption) (hm_log : m.log = true := by first | rfl | assumption)
    (hm_logSeq : m.logSeq = true := by first | rfl | assumption) (hm_out : m.out = true := by first | rfl | assumption) :
    Same m a (startRetrain s p) := by
  unfold startRetrain
  simp (maxDischargeDepth := 30) [hs, hm_free, hm_regs, hm_ports, hm_whistle, hm_log, hm_logSeq, hm_out]

@[simp] theorem startTraining_same (s : State) (p : Fin 10) (hs : Same m a s) (hm_ports : m.ports = true := by first | rfl | assumption) :
    Same m a (startTraining s p) := by
  unfold startTraining
  simp (maxDischargeDepth := 30) [hs, hm_ports]

@[simp] theorem linkDown_same (s : State) (p : Fin 10) (code : Nat) (bits : Nat) (hs : Same m a s)
    (hm_free : m.free = true := by first | rfl | assumption) (hm_regs : m.regs = true := by first | rfl | assumption)
    (hm_ports : m.ports = true := by first | rfl | assumption) (hm_whistle : m.whistle = true := by first | rfl | assumption)
    (hm_log : m.log = true := by first | rfl | assumption) (hm_logSeq : m.logSeq = true := by first | rfl | assumption) :
    Same m a (linkDown s p code bits) := by
  unfold linkDown
  simp (maxDischargeDepth := 30) [hs, hm_free, hm_regs, hm_ports, hm_whistle, hm_log, hm_logSeq]

@[simp] theorem creditTimeout_same (s : State) (p : Fin 10) (c : Fin 4) (hs : Same m a s)
    (hm_free : m.free = true := by first | rfl | assumption) (hm_regs : m.regs = true := by first | rfl | assumption)
    (hm_ports : m.ports = true := by first | rfl | assumption) (hm_whistle : m.whistle = true := by first | rfl | assumption)
    (hm_log : m.log = true := by first | rfl | assumption) (hm_logSeq : m.logSeq = true := by first | rfl | assumption)
    (hm_out : m.out = true := by first | rfl | assumption) :
    Same m a (creditTimeout s p c) := by
  unfold creditTimeout
  (repeat' split) <;> simp (maxDischargeDepth := 30) [hs, hm_free, hm_regs, hm_ports, hm_whistle, hm_log, hm_logSeq, hm_out]

@[simp] theorem noteRemoved_same (s : State) (p : Fin 10) (w : Nat) (hs : Same m a s)
    (hm_free : m.free = true := by first | rfl | assumption) (hm_regs : m.regs = true := by first | rfl | assumption)
    (hm_ports : m.ports = true := by first | rfl | assumption) (hm_whistle : m.whistle = true := by first | rfl | assumption)
    (hm_log : m.log = true := by first | rfl | assumption) (hm_logSeq : m.logSeq = true := by first | rfl | assumption) :
    Same m a (noteRemoved s p w) := by
  unfold noteRemoved
  simp (maxDischargeDepth := 30) [hs, hm_free, hm_regs, hm_ports, hm_whistle, hm_log, hm_logSeq]

@[simp] theorem removeLanes_same (s : State) (p : Fin 10) (mask : BitVec 16) (hs : Same m a s)
    (hm_free : m.free = true := by first | rfl | assumption) (hm_regs : m.regs = true := by first | rfl | assumption)
    (hm_ports : m.ports = true := by first | rfl | assumption) (hm_whistle : m.whistle = true := by first | rfl | assumption)
    (hm_log : m.log = true := by first | rfl | assumption) (hm_logSeq : m.logSeq = true := by first | rfl | assumption)
    (hm_out : m.out = true := by first | rfl | assumption) :
    Same m a (removeLanes s p mask) := by
  unfold removeLanes
  simp (maxDischargeDepth := 30) +contextual [hs, hm_free, hm_regs, hm_ports, hm_whistle, hm_log, hm_logSeq, hm_out]

@[simp] theorem laneBad_same (s : State) (p : Fin 10) (lane : Fin 16) (hs : Same m a s)
    (hm_free : m.free = true := by first | rfl | assumption) (hm_regs : m.regs = true := by first | rfl | assumption)
    (hm_ports : m.ports = true := by first | rfl | assumption) (hm_whistle : m.whistle = true := by first | rfl | assumption)
    (hm_log : m.log = true := by first | rfl | assumption) (hm_logSeq : m.logSeq = true := by first | rfl | assumption)
    (hm_out : m.out = true := by first | rfl | assumption) :
    Same m a (laneBad s p lane) := by
  unfold laneBad
  simp (maxDischargeDepth := 30) [hs, hm_free, hm_regs, hm_ports, hm_whistle, hm_log, hm_logSeq, hm_out]

@[simp] theorem sendIdent_same (s : State) (p : Fin 10) (hs : Same m a s) (hm_free : m.free = true := by first | rfl | assumption)
    (hm_regs : m.regs = true := by first | rfl | assumption) (hm_ports : m.ports = true := by first | rfl | assumption)
    (hm_whistle : m.whistle = true := by first | rfl | assumption) (hm_log : m.log = true := by first | rfl | assumption)
    (hm_logSeq : m.logSeq = true := by first | rfl | assumption) (hm_out : m.out = true := by first | rfl | assumption) :
    Same m a (sendIdent s p) := by
  unfold sendIdent
  simp (maxDischargeDepth := 30) +contextual [hs, hm_free, hm_regs, hm_ports, hm_whistle, hm_log, hm_logSeq, hm_out]

@[simp] theorem identFault_same (s : State) (p : Fin 10) (st : Nat) (hs : Same m a s)
    (hm_free : m.free = true := by first | rfl | assumption) (hm_regs : m.regs = true := by first | rfl | assumption)
    (hm_whistle : m.whistle = true := by first | rfl | assumption) (hm_log : m.log = true := by first | rfl | assumption)
    (hm_logSeq : m.logSeq = true := by first | rfl | assumption) :
    Same m a (identFault s p st) := by
  unfold identFault
  simp (maxDischargeDepth := 30) [hs, hm_free, hm_regs, hm_whistle, hm_log, hm_logSeq]

@[simp] theorem noteNeighbour_same (s : State) (p : Fin 10) (hs : Same m a s) (hm_free : m.free = true := by first | rfl | assumption)
    (hm_regs : m.regs = true := by first | rfl | assumption) (hm_ports : m.ports = true := by first | rfl | assumption)
    (hm_whistle : m.whistle = true := by first | rfl | assumption) (hm_log : m.log = true := by first | rfl | assumption)
    (hm_logSeq : m.logSeq = true := by first | rfl | assumption) :
    Same m a (noteNeighbour s p) := by
  unfold noteNeighbour
  simp (maxDischargeDepth := 30) [hs, hm_free, hm_regs, hm_ports, hm_whistle, hm_log, hm_logSeq]

@[simp] theorem linkResume_same (s : State) (p : Fin 10) (hs : Same m a s) (hm_free : m.free = true := by first | rfl | assumption)
    (hm_regs : m.regs = true := by first | rfl | assumption) (hm_ports : m.ports = true := by first | rfl | assumption)
    (hm_whistle : m.whistle = true := by first | rfl | assumption) (hm_log : m.log = true := by first | rfl | assumption)
    (hm_logSeq : m.logSeq = true := by first | rfl | assumption) (hm_out : m.out = true := by first | rfl | assumption) :
    Same m a (linkResume s p) := by
  unfold linkResume
  simp (maxDischargeDepth := 30) +contextual [hs, hm_free, hm_regs, hm_ports, hm_whistle, hm_log, hm_logSeq, hm_out]

@[simp] theorem resumeOn_same (s : State) (p : Fin 10) (lanes : BitVec 16) (hs : Same m a s)
    (hm_free : m.free = true := by first | rfl | assumption) (hm_regs : m.regs = true := by first | rfl | assumption)
    (hm_ports : m.ports = true := by first | rfl | assumption) (hm_whistle : m.whistle = true := by first | rfl | assumption)
    (hm_log : m.log = true := by first | rfl | assumption) (hm_logSeq : m.logSeq = true := by first | rfl | assumption)
    (hm_out : m.out = true := by first | rfl | assumption) :
    Same m a (resumeOn s p lanes) := by
  unfold resumeOn
  simp (maxDischargeDepth := 30) [hs, hm_free, hm_regs, hm_ports, hm_whistle, hm_log, hm_logSeq, hm_out]

@[simp] theorem agreeIdent_same (s : State) (p : Fin 10) (hs : Same m a s) (hm_free : m.free = true := by first | rfl | assumption)
    (hm_regs : m.regs = true := by first | rfl | assumption) (hm_ports : m.ports = true := by first | rfl | assumption)
    (hm_whistle : m.whistle = true := by first | rfl | assumption) (hm_log : m.log = true := by first | rfl | assumption)
    (hm_logSeq : m.logSeq = true := by first | rfl | assumption) (hm_out : m.out = true := by first | rfl | assumption) :
    Same m a (agreeIdent s p) := by
  unfold agreeIdent
  dsimp only
  (repeat' split) <;> simp (maxDischargeDepth := 30) [hs, hm_free, hm_regs, hm_ports, hm_whistle, hm_log, hm_logSeq, hm_out]

@[simp] theorem noteLanes_same (s : State) (p : Fin 10) (markers : BitVec 64) (ber : BitVec 128) (hs : Same m a s)
    (hm_regs : m.regs = true := by first | rfl | assumption) :
    Same m a (noteLanes s p markers ber) := by
  unfold noteLanes
  simp (maxDischargeDepth := 30) +contextual [hs, hm_regs]

@[simp] theorem trainingComplete_same (s : State) (p : Fin 10) (good : BitVec 16) (markers : BitVec 64) (ber : BitVec 128) (rtt : W32)
    (hs : Same m a s) (hm_free : m.free = true := by first | rfl | assumption) (hm_regs : m.regs = true := by first | rfl | assumption)
    (hm_ports : m.ports = true := by first | rfl | assumption) (hm_whistle : m.whistle = true := by first | rfl | assumption)
    (hm_log : m.log = true := by first | rfl | assumption) (hm_logSeq : m.logSeq = true := by first | rfl | assumption)
    (hm_out : m.out = true := by first | rfl | assumption) :
    Same m a (trainingComplete s p good markers ber rtt) := by
  unfold trainingComplete
  simp (maxDischargeDepth := 30) +contextual [hs, hm_free, hm_regs, hm_ports, hm_whistle, hm_log, hm_logSeq, hm_out]

@[simp] theorem takeIdent_same (s : State) (p : Fin 10) (pl : BitVec 40) (hs : Same m a s)
    (hm_free : m.free = true := by first | rfl | assumption) (hm_regs : m.regs = true := by first | rfl | assumption)
    (hm_ports : m.ports = true := by first | rfl | assumption) (hm_whistle : m.whistle = true := by first | rfl | assumption)
    (hm_log : m.log = true := by first | rfl | assumption) (hm_logSeq : m.logSeq = true := by first | rfl | assumption)
    (hm_out : m.out = true := by first | rfl | assumption) :
    Same m a (takeIdent s p pl) := by
  unfold takeIdent
  dsimp only
  (repeat' split) <;> simp (maxDischargeDepth := 30) [hs, hm_free, hm_regs, hm_ports, hm_whistle, hm_log, hm_logSeq, hm_out]

@[simp] theorem takeResume_same (s : State) (p : Fin 10) (pl : BitVec 40) (hs : Same m a s)
    (hm_free : m.free = true := by first | rfl | assumption) (hm_regs : m.regs = true := by first | rfl | assumption)
    (hm_ports : m.ports = true := by first | rfl | assumption) (hm_whistle : m.whistle = true := by first | rfl | assumption)
    (hm_log : m.log = true := by first | rfl | assumption) (hm_logSeq : m.logSeq = true := by first | rfl | assumption)
    (hm_out : m.out = true := by first | rfl | assumption) :
    Same m a (takeResume s p pl) := by
  unfold takeResume
  simp (maxDischargeDepth := 30) [hs, hm_free, hm_regs, hm_ports, hm_whistle, hm_log, hm_logSeq, hm_out]

@[simp] theorem takePauseReq_same (s : State) (p : Fin 10) (pl : BitVec 40) (hs : Same m a s)
    (hm_free : m.free = true := by first | rfl | assumption) (hm_regs : m.regs = true := by first | rfl | assumption)
    (hm_ports : m.ports = true := by first | rfl | assumption) (hm_whistle : m.whistle = true := by first | rfl | assumption)
    (hm_log : m.log = true := by first | rfl | assumption) (hm_logSeq : m.logSeq = true := by first | rfl | assumption)
    (hm_out : m.out = true := by first | rfl | assumption) :
    Same m a (takePauseReq s p pl) := by
  unfold takePauseReq
  simp (maxDischargeDepth := 30) [hs, hm_free, hm_regs, hm_ports, hm_whistle, hm_log, hm_logSeq, hm_out]

@[simp] theorem takePauseAck_same (s : State) (p : Fin 10) (pl : BitVec 40) (hs : Same m a s)
    (hm_ports : m.ports = true := by first | rfl | assumption) :
    Same m a (takePauseAck s p pl) := by
  unfold takePauseAck
  simp (maxDischargeDepth := 30) [hs, hm_ports]

@[simp] theorem retrainTimeout_same (s : State) (p : Fin 10) (hs : Same m a s) (hm_free : m.free = true := by first | rfl | assumption)
    (hm_regs : m.regs = true := by first | rfl | assumption) (hm_ports : m.ports = true := by first | rfl | assumption)
    (hm_whistle : m.whistle = true := by first | rfl | assumption) (hm_log : m.log = true := by first | rfl | assumption)
    (hm_logSeq : m.logSeq = true := by first | rfl | assumption) (hm_out : m.out = true := by first | rfl | assumption) :
    Same m a (retrainTimeout s p) := by
  unfold retrainTimeout
  simp (maxDischargeDepth := 30) [hs, hm_free, hm_regs, hm_ports, hm_whistle, hm_log, hm_logSeq, hm_out]

@[simp] theorem lockLoss_same (s : State) (p : Fin 10) (hs : Same m a s) (hm_free : m.free = true := by first | rfl | assumption)
    (hm_regs : m.regs = true := by first | rfl | assumption) (hm_ports : m.ports = true := by first | rfl | assumption)
    (hm_whistle : m.whistle = true := by first | rfl | assumption) (hm_log : m.log = true := by first | rfl | assumption)
    (hm_logSeq : m.logSeq = true := by first | rfl | assumption) :
    Same m a (lockLoss s p) := by
  unfold lockLoss
  simp (maxDischargeDepth := 30) [hs, hm_free, hm_regs, hm_ports, hm_whistle, hm_log, hm_logSeq]

@[simp] theorem downRetry_same (s : State) (p : Fin 10) (hs : Same m a s) (hm_ports : m.ports = true := by first | rfl | assumption) :
    Same m a (downRetry s p) := by
  unfold downRetry
  simp (maxDischargeDepth := 30) [hs, hm_ports]

@[simp] theorem lockReturn_same (s : State) (p : Fin 10) (hs : Same m a s) (hm_free : m.free = true := by first | rfl | assumption)
    (hm_regs : m.regs = true := by first | rfl | assumption) (hm_ports : m.ports = true := by first | rfl | assumption)
    (hm_whistle : m.whistle = true := by first | rfl | assumption) (hm_log : m.log = true := by first | rfl | assumption)
    (hm_logSeq : m.logSeq = true := by first | rfl | assumption) (hm_out : m.out = true := by first | rfl | assumption) :
    Same m a (lockReturn s p) := by
  unfold lockReturn
  simp (maxDischargeDepth := 30) [hs, hm_free, hm_regs, hm_ports, hm_whistle, hm_log, hm_logSeq, hm_out]

@[simp] theorem glEnable_same (s : State) (p : Fin 10) (en : Bool) (hs : Same m a s)
    (hm_regs : m.regs = true := by first | rfl | assumption) (hm_ports : m.ports = true := by first | rfl | assumption) :
    Same m a (glEnable s p en) := by
  unfold glEnable
  simp (maxDischargeDepth := 30) [hs, hm_regs, hm_ports]

@[simp] theorem glRestore_same (s : State) (p : Fin 10) (hs : Same m a s) (hm_free : m.free = true := by first | rfl | assumption)
    (hm_regs : m.regs = true := by first | rfl | assumption) (hm_ports : m.ports = true := by first | rfl | assumption)
    (hm_whistle : m.whistle = true := by first | rfl | assumption) (hm_log : m.log = true := by first | rfl | assumption)
    (hm_logSeq : m.logSeq = true := by first | rfl | assumption) (hm_out : m.out = true := by first | rfl | assumption) :
    Same m a (glRestore s p) := by
  unfold glRestore
  simp (maxDischargeDepth := 30) [hs, hm_free, hm_regs, hm_ports, hm_whistle, hm_log, hm_logSeq, hm_out]

@[simp] theorem glSpeed_same (s : State) (p : Fin 10) (half : Bool) (hs : Same m a s)
    (hm_free : m.free = true := by first | rfl | assumption) (hm_regs : m.regs = true := by first | rfl | assumption)
    (hm_ports : m.ports = true := by first | rfl | assumption) (hm_whistle : m.whistle = true := by first | rfl | assumption)
    (hm_log : m.log = true := by first | rfl | assumption) (hm_logSeq : m.logSeq = true := by first | rfl | assumption)
    (hm_out : m.out = true := by first | rfl | assumption) :
    Same m a (glSpeed s p half) := by
  unfold glSpeed
  simp (maxDischargeDepth := 30) [hs, hm_free, hm_regs, hm_ports, hm_whistle, hm_log, hm_logSeq, hm_out]

@[simp] theorem selfCoordWrite_same (s : State) (v : W32) (hs : Same m a s) (hm_free : m.free = true := by first | rfl | assumption)
    (hm_regs : m.regs = true := by first | rfl | assumption) (hm_ports : m.ports = true := by first | rfl | assumption)
    (hm_whistle : m.whistle = true := by first | rfl | assumption) (hm_log : m.log = true := by first | rfl | assumption)
    (hm_logSeq : m.logSeq = true := by first | rfl | assumption) (hm_out : m.out = true := by first | rfl | assumption) :
    Same m a (selfCoordWrite s v) := by
  unfold selfCoordWrite
  simp (maxDischargeDepth := 30) +contextual [hs, hm_free, hm_regs, hm_ports, hm_whistle, hm_log, hm_logSeq, hm_out]

/-! ### Machine/Fabric.lean -/

@[simp] theorem holdRepeat_same (s : State) (hs : Same m a s) (hm_free : m.free = true := by first | rfl | assumption)
    (hm_regs : m.regs = true := by first | rfl | assumption) (hm_tarp : m.tarp = true := by first | rfl | assumption)
    (hm_ports : m.ports = true := by first | rfl | assumption) (hm_whistle : m.whistle = true := by first | rfl | assumption)
    (hm_log : m.log = true := by first | rfl | assumption) (hm_logSeq : m.logSeq = true := by first | rfl | assumption)
    (hm_out : m.out = true := by first | rfl | assumption) :
    Same m a (holdRepeat s) := by
  unfold holdRepeat
  simp (maxDischargeDepth := 30) +contextual [hs, hm_free, hm_regs, hm_tarp, hm_ports, hm_whistle, hm_log, hm_logSeq, hm_out]

@[simp] theorem releaseRepeat_same (s : State) (hs : Same m a s) (hm_free : m.free = true := by first | rfl | assumption)
    (hm_regs : m.regs = true := by first | rfl | assumption) (hm_tarp : m.tarp = true := by first | rfl | assumption)
    (hm_ports : m.ports = true := by first | rfl | assumption) (hm_whistle : m.whistle = true := by first | rfl | assumption)
    (hm_log : m.log = true := by first | rfl | assumption) (hm_logSeq : m.logSeq = true := by first | rfl | assumption)
    (hm_out : m.out = true := by first | rfl | assumption) :
    Same m a (releaseRepeat s) := by
  unfold releaseRepeat
  simp (maxDischargeDepth := 30) +contextual [hs, hm_free, hm_regs, hm_tarp, hm_ports, hm_whistle, hm_log, hm_logSeq, hm_out]

@[simp] theorem takeStrike_same (s : State) (p : Fin 10) (pl : BitVec 40) (hs : Same m a s)
    (hm_free : m.free = true := by first | rfl | assumption) (hm_regs : m.regs = true := by first | rfl | assumption)
    (hm_pacer : m.pacer = true := by first | rfl | assumption) (hm_trail : m.trail = true := by first | rfl | assumption)
    (hm_tarp : m.tarp = true := by first | rfl | assumption) (hm_regions : m.regions = true := by first | rfl | assumption)
    (hm_hubIn : m.hubIn = true := by first | rfl | assumption) (hm_ports : m.ports = true := by first | rfl | assumption)
    (hm_hbm : m.hbm = true := by first | rfl | assumption) (hm_far : m.far = true := by first | rfl | assumption)
    (hm_flaws : m.flaws = true := by first | rfl | assumption) (hm_firewatch : m.firewatch = true := by first | rfl | assumption)
    (hm_whistle : m.whistle = true := by first | rfl | assumption) (hm_lantern : m.lantern = true := by first | rfl | assumption)
    (hm_startup : m.startup = true := by first | rfl | assumption) (hm_log : m.log = true := by first | rfl | assumption)
    (hm_logSeq : m.logSeq = true := by first | rfl | assumption) (hm_out : m.out = true := by first | rfl | assumption) :
    Same m a (takeStrike s p pl) := by
  unfold takeStrike
  simp (maxDischargeDepth := 30) [hs, hm_free, hm_regs, hm_pacer, hm_trail, hm_tarp, hm_regions, hm_hubIn, hm_ports, hm_hbm, hm_far, hm_flaws, hm_firewatch, hm_whistle, hm_lantern, hm_startup, hm_log, hm_logSeq, hm_out]

@[simp] theorem dropMessage_same (s : State) (p : Fin 10) (c : Fin 4) (y3 : Message) (hs : Same m a s)
    (hm_ports : m.ports = true := by first | rfl | assumption) :
    Same m a (dropMessage s p c y3) := by
  unfold dropMessage
  simp (maxDischargeDepth := 30) [hs, hm_ports]

@[simp] theorem sinkMessage_same (s : State) (p : Fin 10) (c : Fin 4) (y3 : Message) (hs : Same m a s)
    (hm_free : m.free = true := by first | rfl | assumption) (hm_regs : m.regs = true := by first | rfl | assumption)
    (hm_ports : m.ports = true := by first | rfl | assumption) (hm_sinks : m.sinks = true := by first | rfl | assumption)
    (hm_whistle : m.whistle = true := by first | rfl | assumption) (hm_log : m.log = true := by first | rfl | assumption)
    (hm_logSeq : m.logSeq = true := by first | rfl | assumption) :
    Same m a (sinkMessage s p c y3) := by
  unfold sinkMessage
  simp (maxDischargeDepth := 30) [hs, hm_free, hm_regs, hm_ports, hm_sinks, hm_whistle, hm_log, hm_logSeq]

@[simp] theorem forwardMessage_same (s : State) (p : Fin 10) (c : Fin 4) (y3 : Message) (hs : Same m a s)
    (hm_free : m.free = true := by first | rfl | assumption) (hm_regs : m.regs = true := by first | rfl | assumption)
    (hm_ports : m.ports = true := by first | rfl | assumption) (hm_sinks : m.sinks = true := by first | rfl | assumption)
    (hm_whistle : m.whistle = true := by first | rfl | assumption) (hm_log : m.log = true := by first | rfl | assumption)
    (hm_logSeq : m.logSeq = true := by first | rfl | assumption) :
    Same m a (forwardMessage s p c y3) := by
  unfold forwardMessage
  (repeat' split) <;> simp (maxDischargeDepth := 30) [hs, hm_free, hm_regs, hm_ports, hm_sinks, hm_whistle, hm_log, hm_logSeq]

@[simp] theorem messageForward_same (s : State) (p : Fin 10) (c : Fin 4) (hs : Same m a s)
    (hm_free : m.free = true := by first | rfl | assumption) (hm_regs : m.regs = true := by first | rfl | assumption)
    (hm_ports : m.ports = true := by first | rfl | assumption) (hm_sinks : m.sinks = true := by first | rfl | assumption)
    (hm_whistle : m.whistle = true := by first | rfl | assumption) (hm_log : m.log = true := by first | rfl | assumption)
    (hm_logSeq : m.logSeq = true := by first | rfl | assumption) :
    Same m a (messageForward s p c) := by
  unfold messageForward
  dsimp only
  (repeat' split) <;> simp (maxDischargeDepth := 30) [hs, hm_free, hm_regs, hm_ports, hm_sinks, hm_whistle, hm_log, hm_logSeq]

@[simp] theorem escapeTimeout_same (s : State) (p : Fin 10) (c : Fin 4) (hs : Same m a s)
    (hm_free : m.free = true := by first | rfl | assumption) (hm_regs : m.regs = true := by first | rfl | assumption)
    (hm_ports : m.ports = true := by first | rfl | assumption) (hm_whistle : m.whistle = true := by first | rfl | assumption)
    (hm_log : m.log = true := by first | rfl | assumption) (hm_logSeq : m.logSeq = true := by first | rfl | assumption) :
    Same m a (escapeTimeout s p c) := by
  unfold escapeTimeout
  simp (maxDischargeDepth := 30) +contextual [hs, hm_free, hm_regs, hm_ports, hm_whistle, hm_log, hm_logSeq]

/-! ### Machine/Compass.lean -/

@[simp] theorem setCompassState_same (s : State) (n : Nat) (hs : Same m a s) (hm_regs : m.regs = true := by first | rfl | assumption) :
    Same m a (setCompassState s n) := by
  unfold setCompassState
  simp (maxDischargeDepth := 30) [hs, hm_regs]

@[simp] theorem rescheduleCycles_same (s : State) (hs : Same m a s) (hm_compass : m.compass = true := by first | rfl | assumption) :
    Same m a (rescheduleCycles s) := by
  unfold rescheduleCycles
  simp (maxDischargeDepth := 30) [hs, hm_compass]

@[simp] theorem takeReference_same (s : State) (diff : Int) (hs : Same m a s) (hm_compass : m.compass = true := by first | rfl | assumption) :
    Same m a (takeReference s diff) := by
  unfold takeReference
  simp (maxDischargeDepth := 30) [hs, hm_compass]

@[simp] theorem enterHoldover_same (s : State) (hs : Same m a s) (hm_free : m.free = true := by first | rfl | assumption)
    (hm_regs : m.regs = true := by first | rfl | assumption) (hm_compass : m.compass = true := by first | rfl | assumption)
    (hm_whistle : m.whistle = true := by first | rfl | assumption) (hm_log : m.log = true := by first | rfl | assumption)
    (hm_logSeq : m.logSeq = true := by first | rfl | assumption) :
    Same m a (enterHoldover s) := by
  unfold enterHoldover
  simp (maxDischargeDepth := 30) [hs, hm_free, hm_regs, hm_compass, hm_whistle, hm_log, hm_logSeq]

@[simp] theorem unlockCompass_same (s : State) (hs : Same m a s) (hm_regs : m.regs = true := by first | rfl | assumption)
    (hm_pacer : m.pacer = true := by first | rfl | assumption) (hm_compass : m.compass = true := by first | rfl | assumption) :
    Same m a (unlockCompass s) := by
  unfold unlockCompass
  simp (maxDischargeDepth := 30) [hs, hm_regs, hm_pacer, hm_compass]

@[simp] theorem slewTo_same (s : State) (diff : Int) (hs : Same m a s) (hm_regs : m.regs = true := by first | rfl | assumption)
    (hm_compass : m.compass = true := by first | rfl | assumption) :
    Same m a (slewTo s diff) := by
  unfold slewTo
  simp (maxDischargeDepth := 30) [hs, hm_regs, hm_compass]

@[simp] theorem echoFrame_same (s : State) (hs : Same m a s) (hm_out : m.out = true := by first | rfl | assumption) :
    Same m a (echoFrame s) := by
  unfold echoFrame
  simp (maxDischargeDepth := 30) [hs, hm_out]

@[simp] theorem takeBadFrame_same (s : State) (violations : Nat) (hs : Same m a s) (hm_free : m.free = true := by first | rfl | assumption)
    (hm_regs : m.regs = true := by first | rfl | assumption) (hm_compass : m.compass = true := by first | rfl | assumption)
    (hm_whistle : m.whistle = true := by first | rfl | assumption) (hm_log : m.log = true := by first | rfl | assumption)
    (hm_logSeq : m.logSeq = true := by first | rfl | assumption) (hm_logged : m.logged = true := by first | rfl | assumption) :
    Same m a (takeBadFrame s violations) := by
  unfold takeBadFrame
  simp (maxDischargeDepth := 30) [hs, hm_free, hm_regs, hm_compass, hm_whistle, hm_log, hm_logSeq, hm_logged]

@[simp] theorem noteHub_same (s : State) (frame : List Byte) (hs : Same m a s) (hm_free : m.free = true := by first | rfl | assumption)
    (hm_regs : m.regs = true := by first | rfl | assumption) (hm_compass : m.compass = true := by first | rfl | assumption)
    (hm_whistle : m.whistle = true := by first | rfl | assumption) (hm_log : m.log = true := by first | rfl | assumption)
    (hm_logSeq : m.logSeq = true := by first | rfl | assumption) :
    Same m a (noteHub s frame) := by
  unfold noteHub
  simp (maxDischargeDepth := 30) [hs, hm_free, hm_regs, hm_compass, hm_whistle, hm_log, hm_logSeq]

@[simp] theorem acquireFrame_same (s : State) (c : Nat) (diff : Int) (hs : Same m a s)
    (hm_regs : m.regs = true := by first | rfl | assumption) (hm_compass : m.compass = true := by first | rfl | assumption) :
    Same m a (acquireFrame s c diff) := by
  unfold acquireFrame
  simp (maxDischargeDepth := 30) [hs, hm_regs, hm_compass]

@[simp] theorem symbolLock_same (s : State) (hs : Same m a s) (hm_regs : m.regs = true := by first | rfl | assumption) :
    Same m a (symbolLock s) := by
  unfold symbolLock
  simp (maxDischargeDepth := 30) [hs, hm_regs]

@[simp] theorem symbolLockLoss_same (s : State) (hs : Same m a s) (hm_free : m.free = true := by first | rfl | assumption)
    (hm_regs : m.regs = true := by first | rfl | assumption) (hm_pacer : m.pacer = true := by first | rfl | assumption)
    (hm_compass : m.compass = true := by first | rfl | assumption) (hm_whistle : m.whistle = true := by first | rfl | assumption)
    (hm_log : m.log = true := by first | rfl | assumption) (hm_logSeq : m.logSeq = true := by first | rfl | assumption) :
    Same m a (symbolLockLoss s) := by
  unfold symbolLockLoss
  (repeat' split) <;> simp (maxDischargeDepth := 30) [hs, hm_free, hm_regs, hm_pacer, hm_compass, hm_whistle, hm_log, hm_logSeq]

@[simp] theorem slewComplete_same (s : State) (hs : Same m a s) (hm_regs : m.regs = true := by first | rfl | assumption) :
    Same m a (slewComplete s) := by
  unfold slewComplete
  simp (maxDischargeDepth := 30) [hs, hm_regs]

@[simp] theorem settleCompass_same (s : State) (hs : Same m a s) (hm_compass : m.compass = true := by first | rfl | assumption) :
    Same m a (settleCompass s) := by
  unfold settleCompass
  (repeat' split) <;> simp (maxDischargeDepth := 30) [hs, hm_compass]

@[simp] theorem tickCompass_same (s : State) (hs : Same m a s) (hm_compass : m.compass = true := by first | rfl | assumption) :
    Same m a (tickCompass s) := by
  unfold tickCompass
  simp (maxDischargeDepth := 30) [hs, hm_compass]

@[simp] theorem syncTimeout_same (s : State) (hs : Same m a s) (hm_compass : m.compass = true := by first | rfl | assumption) :
    Same m a (syncTimeout s) := by
  unfold syncTimeout
  simp (maxDischargeDepth := 30) [hs, hm_compass]

@[simp] theorem writePtpOffset_same (s : State) (q : Requester) (w : HalfWrite) (hs : Same m a s)
    (hm_regs : m.regs = true := by first | rfl | assumption) (hm_halves : m.halves = true := by first | rfl | assumption)
    (hm_compass : m.compass = true := by first | rfl | assumption) :
    Same m a (writePtpOffset s q w) := by
  unfold writePtpOffset
  simp (maxDischargeDepth := 30) [hs, hm_regs, hm_halves, hm_compass]

@[simp] theorem writeCycle_same (s : State) (j : Nat) (v : W32) (hs : Same m a s) (hm_regs : m.regs = true := by first | rfl | assumption)
    (hm_compass : m.compass = true := by first | rfl | assumption) :
    Same m a (writeCycle s j v) := by
  unfold writeCycle; (try dsimp only); (repeat' split) <;> simp (maxDischargeDepth := 30) [hs, *]

@[simp] theorem answer_same (s : State) (n : Nat) (v : Nat) (hs : Same m a s) (hm_out : m.out = true := by first | rfl | assumption) :
    Same m a (answer s n v) := by
  unfold answer
  simp (maxDischargeDepth := 30) [hs, hm_out]

@[simp] theorem takeRead_same (s : State) (q : Requester) (f : State → State) (hs : Same m a s)
    (hf : ∀ (z0 : State), Same m a z0 → Same m a (f z0)) (hm_lantern : m.lantern = true := by first | rfl | assumption)
    (hm_out : m.out = true := by first | rfl | assumption) :
    Same m a (takeRead s q f) := by
  unfold takeRead
  (repeat' split) <;> simp (maxDischargeDepth := 30) [hs, hf, hm_lantern, hm_out]

@[simp] theorem capturePop_same (s : State) (hs : Same m a s) (hm_compass : m.compass = true := by first | rfl | assumption)
    (hm_out : m.out = true := by first | rfl | assumption) :
    Same m a (capturePop s) := by
  unfold capturePop
  (repeat' split) <;> simp (maxDischargeDepth := 30) [hs, hm_compass, hm_out]

/-! ### Machine/Replay.lean -/

@[simp] theorem gearLogPop_same (s : State) (hs : Same m a s) (hm_gearLog : m.gearLog = true := by first | rfl | assumption)
    (hm_out : m.out = true := by first | rfl | assumption) :
    Same m a (gearLogPop s) := by
  unfold gearLogPop
  (repeat' split) <;> simp (maxDischargeDepth := 30) [hs, hm_gearLog, hm_out]

@[simp] theorem gearPush_same (s : State) (q : Requester) (w : HalfWrite) (hs : Same m a s)
    (hm_regs : m.regs = true := by first | rfl | assumption) (hm_halves : m.halves = true := by first | rfl | assumption)
    (hm_gearScript : m.gearScript = true := by first | rfl | assumption) :
    Same m a (gearPush s q w) := by
  unfold gearPush
  simp (maxDischargeDepth := 30) [hs, hm_regs, hm_halves, hm_gearScript]

@[simp] theorem gearEnable_same (s : State) (en : Bool) (hs : Same m a s) (hm_regs : m.regs = true := by first | rfl | assumption)
    (hm_gearScript : m.gearScript = true := by first | rfl | assumption) :
    Same m a (gearEnable s en) := by
  unfold gearEnable
  simp (maxDischargeDepth := 30) [hs, hm_regs, hm_gearScript]

@[simp] theorem scriptGear_same (s : State) (n : Nat) (holds : Bool) (hs : Same m a s)
    (hm_gearScript : m.gearScript = true := by first | rfl | assumption) :
    Same m a (scriptGear s n holds).2 := by
  unfold scriptGear
  dsimp only
  (repeat' split) <;> simp (maxDischargeDepth := 30) [hs, hm_gearScript]

@[simp] theorem openWeights_same (s : State) (hs : Same m a s) (hm_free : m.free = true := by first | rfl | assumption)
    (hm_regs : m.regs = true := by first | rfl | assumption) (hm_far : m.far = true := by first | rfl | assumption)
    (hm_whistle : m.whistle = true := by first | rfl | assumption) (hm_log : m.log = true := by first | rfl | assumption)
    (hm_logSeq : m.logSeq = true := by first | rfl | assumption) :
    Same m a (openWeights s) := by
  unfold openWeights
  simp (maxDischargeDepth := 30) [hs, hm_free, hm_regs, hm_far, hm_whistle, hm_log, hm_logSeq]

@[simp] theorem closeWeights_same (s : State) (hs : Same m a s) (hm_regs : m.regs = true := by first | rfl | assumption) :
    Same m a (closeWeights s) := by
  unfold closeWeights
  simp (maxDischargeDepth := 30) [hs, hm_regs]

@[simp] theorem deliverWeights_same (s : State) (priv : Nat) (w : Nat) (data : List Byte) (hs : Same m a s)
    (hm_free : m.free = true := by first | rfl | assumption) (hm_regs : m.regs = true := by first | rfl | assumption)
    (hm_hbm : m.hbm = true := by first | rfl | assumption) (hm_far : m.far = true := by first | rfl | assumption)
    (hm_flaws : m.flaws = true := by first | rfl | assumption) (hm_whistle : m.whistle = true := by first | rfl | assumption)
    (hm_lantern : m.lantern = true := by first | rfl | assumption) (hm_log : m.log = true := by first | rfl | assumption)
    (hm_logSeq : m.logSeq = true := by first | rfl | assumption) :
    Same m a (deliverWeights s priv w data) := by
  unfold deliverWeights
  extract_lets present wl s1 s2
  have h1 : Same m a s1 := by simp (maxDischargeDepth := 30) [s1, hs, *]
  clear_value s1
  have h2 : Same m a s2 := setReg_same _ _ _ h1
  clear_value s2
  apply foldl_same
  · exact mk_same s2 h2 ..
  · intro t i ht
    split
    · rename_i b _
      extract_lets s3 s4
      have h3 : Same m a s3 := by
        apply ite_same
        · intro _
          exact foldl_same _ _ _ (lnHbm_same _ _ _ _ _ _ ht hm_whistle hm_lantern) (fun u n hu => emptySlot_same _ _ hu hm_regs)
        · intro _; exact ht
      clear_value s3
      have h4 : Same m a s4 := putHbmRaw_same _ b [data.getD i 0] h3 (hm_hbm := hm_hbm) (hm_flaws := hm_flaws)
      exact ite_same _ _ _ (fun _ => h4) (fun _ => mk_same _ h4 _ _ _ _ _ _ _ _ _ _ _ _ _ _ _ _ _ _ _ _ _ _ _ _ _ _ _ _ _ _ _ _ _ _ _ (h_far := Or.inl hm_far))
    · exact ht

/-! ### Machine/Pacer.lean -/

@[simp] theorem followVolt_same (s : State) (mv : Nat) (hs : Same m a s) (hm_pacer : m.pacer = true := by first | rfl | assumption) :
    Same m a (followVolt s mv) := by
  unfold followVolt
  simp (maxDischargeDepth := 30) [hs, hm_pacer]

@[simp] theorem noteResume_same (s : State) (hs : Same m a s) (hm_free : m.free = true := by first | rfl | assumption)
    (hm_regs : m.regs = true := by first | rfl | assumption) (hm_pacer : m.pacer = true := by first | rfl | assumption)
    (hm_compass : m.compass = true := by first | rfl | assumption) (hm_whistle : m.whistle = true := by first | rfl | assumption)
    (hm_log : m.log = true := by first | rfl | assumption) (hm_logSeq : m.logSeq = true := by first | rfl | assumption) :
    Same m a (noteResume s) := by
  unfold noteResume
  simp (maxDischargeDepth := 30) [hs, hm_free, hm_regs, hm_pacer, hm_compass, hm_whistle, hm_log, hm_logSeq]

@[simp] theorem releasePermit_same (s : State) (hs : Same m a s) (hm_free : m.free = true := by first | rfl | assumption)
    (hm_regs : m.regs = true := by first | rfl | assumption) (hm_pacer : m.pacer = true := by first | rfl | assumption)
    (hm_compass : m.compass = true := by first | rfl | assumption) (hm_whistle : m.whistle = true := by first | rfl | assumption)
    (hm_log : m.log = true := by first | rfl | assumption) (hm_logSeq : m.logSeq = true := by first | rfl | assumption) :
    Same m a (releasePermit s) := by
  unfold releasePermit
  (repeat' split) <;> simp (maxDischargeDepth := 30) [hs, hm_free, hm_regs, hm_pacer, hm_compass, hm_whistle, hm_log, hm_logSeq]

@[simp] theorem startEpoch_same (s : State) (at_ : Nat) (e : Nat) (hs : Same m a s) (hm_free : m.free = true := by first | rfl | assumption)
    (hm_regs : m.regs = true := by first | rfl | assumption) (hm_pacer : m.pacer = true := by first | rfl | assumption)
    (hm_compass : m.compass = true := by first | rfl | assumption) (hm_whistle : m.whistle = true := by first | rfl | assumption)
    (hm_log : m.log = true := by first | rfl | assumption) (hm_logSeq : m.logSeq = true := by first | rfl | assumption) :
    Same m a (startEpoch s at_ e) := by
  unfold startEpoch
  simp (maxDischargeDepth := 30) [hs, hm_free, hm_regs, hm_pacer, hm_compass, hm_whistle, hm_log, hm_logSeq]

@[simp] theorem takePace_same (s : State) (e : Nat) (hs : Same m a s) (hm_free : m.free = true := by first | rfl | assumption)
    (hm_regs : m.regs = true := by first | rfl | assumption) (hm_pacer : m.pacer = true := by first | rfl | assumption)
    (hm_whistle : m.whistle = true := by first | rfl | assumption) (hm_log : m.log = true := by first | rfl | assumption)
    (hm_logSeq : m.logSeq = true := by first | rfl | assumption) :
    Same m a (takePace s e) := by
  unfold takePace
  (repeat' split) <;> simp (maxDischargeDepth := 30) [hs, hm_free, hm_regs, hm_pacer, hm_whistle, hm_log, hm_logSeq]

@[simp] theorem armPace_same (s : State) (n : Nat) (epoch : Nat) (hs : Same m a s) (hm_free : m.free = true := by first | rfl | assumption)
    (hm_regs : m.regs = true := by first | rfl | assumption) (hm_pacer : m.pacer = true := by first | rfl | assumption)
    (hm_whistle : m.whistle = true := by first | rfl | assumption) (hm_log : m.log = true := by first | rfl | assumption)
    (hm_logSeq : m.logSeq = true := by first | rfl | assumption) :
    Same m a (armPace s n epoch) := by
  unfold armPace
  simp (maxDischargeDepth := 30) [hs, hm_free, hm_regs, hm_pacer, hm_whistle, hm_log, hm_logSeq]

@[simp] theorem writePaceAt_same (s : State) (q : Requester) (w : HalfWrite) (hs : Same m a s)
    (hm_free : m.free = true := by first | rfl | assumption) (hm_regs : m.regs = true := by first | rfl | assumption)
    (hm_halves : m.halves = true := by first | rfl | assumption) (hm_pacer : m.pacer = true := by first | rfl | assumption)
    (hm_whistle : m.whistle = true := by first | rfl | assumption) (hm_log : m.log = true := by first | rfl | assumption)
    (hm_logSeq : m.logSeq = true := by first | rfl | assumption) :
    Same m a (writePaceAt s q w) := by
  unfold writePaceAt
  simp (maxDischargeDepth := 30) [hs, hm_free, hm_regs, hm_halves, hm_pacer, hm_whistle, hm_log, hm_logSeq]

@[simp] theorem cancelPace_same (s : State) (q : Requester) (hs : Same m a s) (hm_pacer : m.pacer = true := by first | rfl | assumption) :
    Same m a (cancelPace s q) := by
  unfold cancelPace
  simp (maxDischargeDepth := 30) [hs, hm_pacer]

@[simp] theorem calBeat_same (s : State) (r : Fin 32) (hs : Same m a s) (hm_pacer : m.pacer = true := by first | rfl | assumption) :
    Same m a (calBeat s r) := by
  unfold calBeat
  simp (maxDischargeDepth := 30) [hs, hm_pacer]

@[simp] theorem noteLag_same (s : State) (hs : Same m a s) (hm_pacer : m.pacer = true := by first | rfl | assumption) :
    Same m a (noteLag s) := by
  unfold noteLag
  simp (maxDischargeDepth := 30) [hs, hm_pacer]

@[simp] theorem noteRaised_same (s : State) (hs : Same m a s) (hm_firewatch : m.firewatch = true := by first | rfl | assumption) :
    Same m a (noteRaised s) := by
  unfold noteRaised
  simp (maxDischargeDepth := 30) [hs, hm_firewatch]

/-! ### Machine/Tracks.lean -/

@[simp] theorem refreshBank_same (s : State) (r : Fin 32) (t : Nat) (bank : Nat) (sent : Nat) (hs : Same m a s)
    (hm_regions : m.regions = true := by first | rfl | assumption) :
    Same m a (refreshBank s r t bank sent) := by
  unfold refreshBank
  simp (maxDischargeDepth := 30) [hs, hm_regions]

@[simp] theorem heldRefreshBank_same (s : State) (r : Fin 32) (t : Nat) (bank : Nat) (hs : Same m a s)
    (hm_regions : m.regions = true := by first | rfl | assumption) :
    Same m a (heldRefreshBank s r t bank) := by
  unfold heldRefreshBank
  simp (maxDischargeDepth := 30) [hs, hm_regions]

@[simp] theorem closeTrack_same (s : State) (r : Fin 32) (t : Nat) (hs : Same m a s)
    (hm_regions : m.regions = true := by first | rfl | assumption) :
    Same m a (closeTrack s r t) := by
  unfold closeTrack
  simp (maxDischargeDepth := 30) +contextual [hs, hm_regions]

@[simp] theorem idleRefreshBank_same (s : State) (r : Fin 32) (t : Nat) (bank : Nat) (hs : Same m a s)
    (hm_regions : m.regions = true := by first | rfl | assumption) :
    Same m a (idleRefreshBank s r t bank) := by
  unfold idleRefreshBank
  simp (maxDischargeDepth := 30) [hs, hm_regions]

@[simp] theorem restoreTrack_same (s : State) (r : Fin 32) (t : Nat) (hs : Same m a s)
    (hm_regions : m.regions = true := by first | rfl | assumption) :
    Same m a (restoreTrack s r t) := by
  unfold restoreTrack
  simp (maxDischargeDepth := 30) +contextual [hs, hm_regions]

@[simp] theorem quiesceTrack_same (s : State) (r : Fin 32) (t : Nat) (hs : Same m a s)
    (hm_regions : m.regions = true := by first | rfl | assumption) :
    Same m a (quiesceTrack s r t) := by
  unfold quiesceTrack
  (repeat' split) <;> simp (maxDischargeDepth := 30) [hs, hm_regions]

end Sys2Proof.Machine
end

