-- ==== Sys2Proof/Laws/SameBeats.lean ====
section
/-!
SUPPORT. Laws/SameBeats.lean: which fields may change in Firewatch, the boundary, beats, Pitch, Trail, launch and Whistle.
-/

namespace Sys2Proof.Machine

set_option Elab.async false

variable {m : Mask} {a : State}

/-! ### Machine/Firewatch.lean -/

@[simp] theorem noteSensors_same (s : State) (x : Sensors) (hs : Same m a s) (hm_regs : m.regs = true := by first | rfl | assumption)
    (hm_regions : m.regions = true := by first | rfl | assumption) :
    Same m a (noteSensors s x) := by
  unfold noteSensors
  simp (maxDischargeDepth := 30) +contextual [hs, hm_regs, hm_regions]

@[simp] theorem effectiveCap_same (s : State) (hs : Same m a s) (hm_regs : m.regs = true := by first | rfl | assumption) :
    Same m a (effectiveCap s) := by
  unfold effectiveCap
  simp (maxDischargeDepth := 30) [hs, hm_regs]

@[simp] theorem setGwant_same (s : State) (g : Nat) (spell : Bool) (hs : Same m a s)
    (hm_regs : m.regs = true := by first | rfl | assumption) (hm_firewatch : m.firewatch = true := by first | rfl | assumption) :
    Same m a (setGwant s g spell) := by
  unfold setGwant
  simp (maxDischargeDepth := 30) [hs, hm_regs, hm_firewatch]

@[simp] theorem setWant_same (s : State) (w : Nat) (spell : Bool) (hs : Same m a s) (hm_regs : m.regs = true := by first | rfl | assumption)
    (hm_firewatch : m.firewatch = true := by first | rfl | assumption) :
    Same m a (setWant s w spell) := by
  unfold setWant
  simp (maxDischargeDepth := 30) [hs, hm_regs, hm_firewatch]

@[simp] theorem lowerWant_same (s : State) (hs : Same m a s) (hm_regs : m.regs = true := by first | rfl | assumption)
    (hm_firewatch : m.firewatch = true := by first | rfl | assumption) :
    Same m a (lowerWant s) := by
  unfold lowerWant
  simp (maxDischargeDepth := 30) [hs, hm_regs, hm_firewatch]

@[simp] theorem keepRange_same (s : State) (hs : Same m a s) (hm_regs : m.regs = true := by first | rfl | assumption)
    (hm_firewatch : m.firewatch = true := by first | rfl | assumption) :
    Same m a (keepRange s) := by
  unfold keepRange
  simp (maxDischargeDepth := 30) [hs, hm_regs, hm_firewatch]

@[simp] theorem emergencyHold_same (s : State) (power : Bool) (atFloor : Bool) (hs : Same m a s)
    (hm_regions : m.regions = true := by first | rfl | assumption) (hm_firewatch : m.firewatch = true := by first | rfl | assumption) :
    Same m a (emergencyHold s power atFloor) := by
  unfold emergencyHold
  simp (maxDischargeDepth := 30) [hs, hm_regions, hm_firewatch]

@[simp] theorem ladder_same (s : State) (zone : Nat) (power : Bool) (hs : Same m a s)
    (hm_regs : m.regs = true := by first | rfl | assumption) (hm_regions : m.regions = true := by first | rfl | assumption)
    (hm_firewatch : m.firewatch = true := by first | rfl | assumption) :
    Same m a (ladder s zone power) := by
  unfold ladder
  simp (maxDischargeDepth := 30) [hs, hm_regs, hm_regions, hm_firewatch]

@[simp] theorem sendUfm_same (s : State) (p : Pitch) (dst : Nat) (type : Nat) (body : List Byte) (hs : Same m a s)
    (hm_ports : m.ports = true := by first | rfl | assumption) (hm_sinks : m.sinks = true := by first | rfl | assumption) :
    Same m a (sendUfm s p dst type body) := by
  unfold sendUfm
  dsimp only
  (repeat' split) <;> simp (maxDischargeDepth := 30) [hs, hm_ports, hm_sinks]

@[simp] theorem takeUfm_same (s : State) (type : Nat) (f : List Nat → List Byte → State → State) (hs : Same m a s)
    (hf : ∀ (z0 : List Nat) (z1 : List Byte) (z2 : State), Same m a z2 → Same m a (f z0 z1 z2))
    (hm_regs : m.regs = true := by first | rfl | assumption) (hm_sinks : m.sinks = true := by first | rfl | assumption) :
    Same m a (takeUfm s type f) := by
  unfold takeUfm
  (repeat' split) <;> simp (maxDischargeDepth := 30) [hs, hf, hm_regs, hm_sinks]

@[simp] theorem sendAsk_same (s : State) (hs : Same m a s) (hm_ports : m.ports = true := by first | rfl | assumption)
    (hm_sinks : m.sinks = true := by first | rfl | assumption) (hm_firewatch : m.firewatch = true := by first | rfl | assumption) :
    Same m a (sendAsk s) := by
  unfold sendAsk
  (repeat' split) <;> simp (maxDischargeDepth := 30) [hs, hm_ports, hm_sinks, hm_firewatch]

@[simp] theorem noteQuiet_same (s : State) (hs : Same m a s) (hm_firewatch : m.firewatch = true := by first | rfl | assumption) :
    Same m a (noteQuiet s) := by
  exact modFire_same _ _ hs

@[simp] theorem noteFire_same (s : State) (hs : Same m a s) (hm_regs : m.regs = true := by first | rfl | assumption) :
    Same m a (noteFire s) := by
  exact setReg_same _ _ _ (setReg_same _ _ _ hs)

@[simp] theorem enterZone_same (s : State) (z : Nat × Nat) (hs : Same m a s) (hm_free : m.free = true := by first | rfl | assumption)
    (hm_regs : m.regs = true := by first | rfl | assumption) (hm_whistle : m.whistle = true := by first | rfl | assumption)
    (hm_log : m.log = true := by first | rfl | assumption) (hm_logSeq : m.logSeq = true := by first | rfl | assumption) :
    Same m a (enterZone s z) := by
  unfold enterZone
  simp (maxDischargeDepth := 30) [hs, hm_free, hm_regs, hm_whistle, hm_log, hm_logSeq]

@[simp] theorem endEmergency_same (s : State) (hs : Same m a s) (hm_free : m.free = true := by first | rfl | assumption)
    (hm_regs : m.regs = true := by first | rfl | assumption) (hm_tarp : m.tarp = true := by first | rfl | assumption)
    (hm_compass : m.compass = true := by first | rfl | assumption) (hm_regions : m.regions = true := by first | rfl | assumption)
    (hm_ports : m.ports = true := by first | rfl | assumption) (hm_firewatch : m.firewatch = true := by first | rfl | assumption)
    (hm_whistle : m.whistle = true := by first | rfl | assumption) (hm_log : m.log = true := by first | rfl | assumption)
    (hm_logSeq : m.logSeq = true := by first | rfl | assumption) (hm_out : m.out = true := by first | rfl | assumption) :
    Same m a (endEmergency s) := by
  unfold endEmergency
  dsimp only
  (repeat' split) <;> simp (maxDischargeDepth := 30) [hs, hm_free, hm_regs, hm_tarp, hm_compass, hm_regions, hm_ports, hm_firewatch, hm_whistle, hm_log, hm_logSeq, hm_out]

@[simp] theorem takeAsk_same (s : State) (hs : Same m a s) (hm_regs : m.regs = true := by first | rfl | assumption)
    (hm_sinks : m.sinks = true := by first | rfl | assumption) (hm_firewatch : m.firewatch = true := by first | rfl | assumption) :
    Same m a (takeAsk s) := by
  unfold takeAsk
  apply takeUfm_same _ _ _ hs
  intro src body t ht
  split
  · split
    · exact modFire_same _ _ ht
    · exact ht
  · exact ht

@[simp] theorem lookoutEpoch_same (s : State) (hs : Same m a s) (hm_ports : m.ports = true := by first | rfl | assumption)
    (hm_sinks : m.sinks = true := by first | rfl | assumption) (hm_firewatch : m.firewatch = true := by first | rfl | assumption) :
    Same m a (lookoutEpoch s) := by
  unfold lookoutEpoch
  (repeat' split) <;> simp (maxDischargeDepth := 30) +contextual [hs, hm_ports, hm_sinks, hm_firewatch]

@[simp] theorem takePaceAck_same (s : State) (hs : Same m a s) (hm_regs : m.regs = true := by first | rfl | assumption)
    (hm_sinks : m.sinks = true := by first | rfl | assumption) (hm_firewatch : m.firewatch = true := by first | rfl | assumption) :
    Same m a (takePaceAck s) := by
  unfold takePaceAck
  apply takeUfm_same _ _ _ hs
  intro src body t ht
  split
  · split
    · exact modFire_same _ _ ht
    · exact ht
  · exact ht

@[simp] theorem addVote_same (s : State) (v : Vote) (hs : Same m a s) (hm_firewatch : m.firewatch = true := by first | rfl | assumption) :
    Same m a (addVote s v) := by
  unfold addVote
  simp (maxDischargeDepth := 30) [hs, hm_firewatch]

@[simp] theorem castVote_same (s : State) (hs : Same m a s) (hm_free : m.free = true := by first | rfl | assumption)
    (hm_regs : m.regs = true := by first | rfl | assumption) (hm_ports : m.ports = true := by first | rfl | assumption)
    (hm_gearScript : m.gearScript = true := by first | rfl | assumption) (hm_firewatch : m.firewatch = true := by first | rfl | assumption)
    (hm_whistle : m.whistle = true := by first | rfl | assumption) (hm_log : m.log = true := by first | rfl | assumption)
    (hm_logSeq : m.logSeq = true := by first | rfl | assumption) (hm_out : m.out = true := by first | rfl | assumption) :
    Same m a (castVote s) := by
  unfold castVote
  simp (maxDischargeDepth := 30) [hs, hm_free, hm_regs, hm_ports, hm_gearScript, hm_firewatch, hm_whistle, hm_log, hm_logSeq, hm_out]

@[simp] theorem thermalRecovery_same (s : State) (junction : List (BitVec 10)) (hbm : List (BitVec 8)) (hs : Same m a s)
    (hm_startup : m.startup = true := by first | rfl | assumption) :
    Same m a (thermalRecovery s junction hbm) := by
  unfold thermalRecovery
  simp (maxDischargeDepth := 30) [hs, hm_startup]

@[simp] theorem moduleState_same (s : State) (hs : Same m a s) (hm_regs : m.regs = true := by first | rfl | assumption)
    (hm_regions : m.regions = true := by first | rfl | assumption) (hm_firewatch : m.firewatch = true := by first | rfl | assumption)
    (hm_hosts : m.hosts = true := by first | rfl | assumption) (hm_whistle : m.whistle = true := by first | rfl | assumption)
    (hm_lantern : m.lantern = true := by first | rfl | assumption) (hm_out : m.out = true := by first | rfl | assumption) :
    Same m a (moduleState s) := by
  unfold moduleState
  simp (maxDischargeDepth := 30) [hs, hm_regs, hm_regions, hm_firewatch, hm_hosts, hm_whistle, hm_lantern, hm_out]

@[simp] theorem wakeSignal_same (s : State) (hs : Same m a s) (hm_regs : m.regs = true := by first | rfl | assumption)
    (hm_compass : m.compass = true := by first | rfl | assumption) (hm_regions : m.regions = true := by first | rfl | assumption)
    (hm_firewatch : m.firewatch = true := by first | rfl | assumption) (hm_hosts : m.hosts = true := by first | rfl | assumption)
    (hm_whistle : m.whistle = true := by first | rfl | assumption) (hm_lantern : m.lantern = true := by first | rfl | assumption)
    (hm_out : m.out = true := by first | rfl | assumption) :
    Same m a (wakeSignal s) := by
  unfold wakeSignal
  (repeat' split) <;> simp (maxDischargeDepth := 30) [hs, hm_regs, hm_compass, hm_regions, hm_firewatch, hm_hosts, hm_whistle, hm_lantern, hm_out]

/-! ### Machine/Boundary.lean -/

@[simp] theorem issueCidle_same (count : BitVec 32) (x : Ctx) (s : State) (hs : Same m a s)
    (hm_regions : m.regions = true := by first | rfl | assumption) :
    Same m a (issueCidle count x s) := by
  unfold issueCidle
  simp (maxDischargeDepth := 30) [hs, hm_regions]

@[simp] theorem issueCrep_same (body : BitVec 12) (total : BitVec 32) (x : Ctx) (s : State) (hs : Same m a s)
    (hm_regions : m.regions = true := by first | rfl | assumption) :
    Same m a (issueCrep body total x s) := by
  unfold issueCrep
  simp (maxDischargeDepth := 30) [hs, hm_regions]

@[simp] theorem boundaryNote_same (s : State) (r : Nat) (n : NextSeg) (hs : Same m a s)
    (hm_zipper : m.zipper = true := by first | rfl | assumption) :
    Same m a (boundaryNote s r n) := by
  unfold boundaryNote
  simp (maxDischargeDepth := 30) [hs, hm_zipper]

@[simp] theorem logGear_same (s : State) (c : Crossroad) (w : Nat) (hs : Same m a s)
    (hm_free : m.free = true := by first | rfl | assumption) (hm_regs : m.regs = true := by first | rfl | assumption)
    (hm_trail : m.trail = true := by first | rfl | assumption) (hm_gearLog : m.gearLog = true := by first | rfl | assumption)
    (hm_whistle : m.whistle = true := by first | rfl | assumption) (hm_log : m.log = true := by first | rfl | assumption)
    (hm_logSeq : m.logSeq = true := by first | rfl | assumption) :
    Same m a (logGear s c w) := by
  unfold logGear
  (repeat' split) <;> simp (maxDischargeDepth := 30) [hs, hm_free, hm_regs, hm_trail, hm_gearLog, hm_whistle, hm_log, hm_logSeq]

@[simp] theorem checkScript_same (s : State) (bnd : Nat) (open_ : Bool) (gear : Nat) (hs : Same m a s)
    (hm_free : m.free = true := by first | rfl | assumption) (hm_regs : m.regs = true := by first | rfl | assumption)
    (hm_gearScript : m.gearScript = true := by first | rfl | assumption) (hm_whistle : m.whistle = true := by first | rfl | assumption)
    (hm_log : m.log = true := by first | rfl | assumption) (hm_logSeq : m.logSeq = true := by first | rfl | assumption) :
    Same m a (checkScript s bnd open_ gear) := by
  unfold checkScript
  dsimp only
  (repeat' split) <;> simp (maxDischargeDepth := 30) [hs, hm_free, hm_regs, hm_gearScript, hm_whistle, hm_log, hm_logSeq]

@[simp] theorem closeVote_same (s : State) (c : Crossroad) (bnd : Nat) (gear : Nat) (open_ : Bool) (hs : Same m a s)
    (hm_free : m.free = true := by first | rfl | assumption) (hm_regs : m.regs = true := by first | rfl | assumption)
    (hm_gearScript : m.gearScript = true := by first | rfl | assumption) (hm_firewatch : m.firewatch = true := by first | rfl | assumption)
    (hm_whistle : m.whistle = true := by first | rfl | assumption) (hm_log : m.log = true := by first | rfl | assumption)
    (hm_logSeq : m.logSeq = true := by first | rfl | assumption) :
    Same m a (closeVote s c bnd gear open_) := by
  unfold closeVote
  simp (maxDischargeDepth := 30) [hs, hm_free, hm_regs, hm_gearScript, hm_firewatch, hm_whistle, hm_log, hm_logSeq]

@[simp] theorem stopBoundary_same (s : State) (n : NextSeg) (hs : Same m a s) (hm_regs : m.regs = true := by first | rfl | assumption)
    (hm_pacer : m.pacer = true := by first | rfl | assumption) :
    Same m a (stopBoundary s n) := by
  unfold stopBoundary
  simp (maxDischargeDepth := 30) [hs, hm_regs, hm_pacer]

/-! ### Machine/Beats.lean -/

@[simp] theorem startSegment_same (s : State) (r : Fin 32) (b : Nat) (hs : Same m a s)
    (hm_regions : m.regions = true := by first | rfl | assumption) :
    Same m a (startSegment s r b) := by
  unfold startSegment
  (repeat' split) <;> simp (maxDischargeDepth := 30) [hs, hm_regions]

@[simp] theorem tagDraw_same (s : State) (r : Nat) (b : Nat) (hs : Same m a s) (hm_free : m.free = true := by first | rfl | assumption) :
    Same m a (tagDraw s r b).2 := by
  unfold tagDraw
  simp (maxDischargeDepth := 30) [hs, hm_free]

@[simp] theorem tagRow_same (s : State) (r : Fin 32) (b : Nat) (hs : Same m a s) (hm_free : m.free = true := by first | rfl | assumption)
    (hm_regs : m.regs = true := by first | rfl | assumption) (hm_whistle : m.whistle = true := by first | rfl | assumption)
    (hm_lantern : m.lantern = true := by first | rfl | assumption) :
    Same m a (tagRow s r b) := by
  unfold tagRow
  simp (maxDischargeDepth := 30) [hs, hm_free, hm_regs, hm_whistle, hm_lantern]

@[simp] theorem issueRow_same (s : State) (r : Fin 32) (b : Nat) (hs : Same m a s)
    (hm_regions : m.regions = true := by first | rfl | assumption) :
    Same m a (issueRow s r b).2.2 := by
  unfold issueRow
  dsimp only
  (repeat' split) <;> simp (maxDischargeDepth := 30) [hs, hm_regions]

@[simp] theorem thawRegion_same (s : State) (r : Nat) (hs : Same m a s) (hm_lantern : m.lantern = true := by first | rfl | assumption) :
    Same m a (thawRegion s r) := by
  unfold thawRegion
  simp (maxDischargeDepth := 30) [hs, hm_lantern]

@[simp] theorem thruAhead_same (s : State) (r : Fin 32) (b : Nat) (hs : Same m a s)
    (hm_regions : m.regions = true := by first | rfl | assumption) :
    Same m a (thruAhead s r b) := by
  unfold thruAhead
  apply foldl_same _ _ _ hs
  intro t _ ht
  split
  · exact issueThru_same _ _ _ _ _ _ ht
  · split
    · exact ht
    · exact issueThru_same _ _ _ _ _ _ ht
  · exact ht

@[simp] theorem unitIdle_same (s : State) (r : Fin 32) (slot : Fin 64) (depth : Fin 4) (hs : Same m a s)
    (hm_regions : m.regions = true := by first | rfl | assumption) :
    Same m a (unitIdle s r slot depth) := by
  unfold unitIdle
  (repeat' split) <;> simp (maxDischargeDepth := 30) [hs, hm_regions]

/-! ### Machine/Pitch.lean -/

@[simp] theorem refusePitch_same (s : State) (cause : Nat) (hs : Same m a s) (hm_free : m.free = true := by first | rfl | assumption)
    (hm_regs : m.regs = true := by first | rfl | assumption) (hm_whistle : m.whistle = true := by first | rfl | assumption)
    (hm_log : m.log = true := by first | rfl | assumption) (hm_logSeq : m.logSeq = true := by first | rfl | assumption) :
    Same m a (refusePitch s cause) := by
  unfold refusePitch
  simp (maxDischargeDepth := 30) [hs, hm_free, hm_regs, hm_whistle, hm_log, hm_logSeq]

@[simp] theorem applyTracks_same (s : State) (p : Pitch) (nd : Nat) (hs : Same m a s)
    (hm_regs : m.regs = true := by first | rfl | assumption) :
    Same m a (applyTracks s p nd) := by
  unfold applyTracks
  apply foldl_same _ _ _ hs
  intro s x hs
  dsimp only
  (repeat' split) <;> simp (maxDischargeDepth := 30) [hs, hm_regs]

@[simp] theorem applyQueues_same (s : State) (p : Pitch) (hs : Same m a s) (hm_regs : m.regs = true := by first | rfl | assumption) :
    Same m a (applyQueues s p) := by
  unfold applyQueues
  apply foldl_same _ _ _ hs
  intro s x hs
  dsimp only
  (repeat' split) <;> simp (maxDischargeDepth := 30) [hs, hm_regs]

@[simp] theorem applyFields_same (s : State) (p : Pitch) (pace : List Byte) (hs : Same m a s)
    (hm_regs : m.regs = true := by first | rfl | assumption) :
    Same m a (applyFields s p pace) := by
  unfold applyFields
  simp (maxDischargeDepth := 30) [hs, hm_regs]

@[simp] theorem applyPitch_same (s : State) (p : Pitch) (pace : List Byte) (hs : Same m a s)
    (hm_free : m.free = true := by first | rfl | assumption) (hm_regs : m.regs = true := by first | rfl | assumption)
    (hm_pacer : m.pacer = true := by first | rfl | assumption) (hm_pitch : m.pitch = true := by first | rfl | assumption)
    (hm_trail : m.trail = true := by first | rfl | assumption) (hm_regions : m.regions = true := by first | rfl | assumption)
    (hm_pegTouched : m.pegTouched = true := by first | rfl | assumption) (hm_firewatch : m.firewatch = true := by first | rfl | assumption)
    (hm_whistle : m.whistle = true := by first | rfl | assumption) (hm_startup : m.startup = true := by first | rfl | assumption)
    (hm_log : m.log = true := by first | rfl | assumption) (hm_logSeq : m.logSeq = true := by first | rfl | assumption) :
    Same m a (applyPitch s p pace) := by
  unfold applyPitch
  simp (maxDischargeDepth := 30) [hs, hm_free, hm_regs, hm_pacer, hm_pitch, hm_trail, hm_regions, hm_pegTouched, hm_firewatch, hm_whistle, hm_startup, hm_log, hm_logSeq]

@[simp] theorem pitchApply_same (s : State) (hs : Same m a s) (hm_free : m.free = true := by first | rfl | assumption)
    (hm_regs : m.regs = true := by first | rfl | assumption) (hm_pacer : m.pacer = true := by first | rfl | assumption)
    (hm_pitch : m.pitch = true := by first | rfl | assumption) (hm_trail : m.trail = true := by first | rfl | assumption)
    (hm_regions : m.regions = true := by first | rfl | assumption) (hm_pegTouched : m.pegTouched = true := by first | rfl | assumption)
    (hm_firewatch : m.firewatch = true := by first | rfl | assumption) (hm_whistle : m.whistle = true := by first | rfl | assumption)
    (hm_startup : m.startup = true := by first | rfl | assumption) (hm_log : m.log = true := by first | rfl | assumption)
    (hm_logSeq : m.logSeq = true := by first | rfl | assumption) :
    Same m a (pitchApply s) := by
  unfold pitchApply
  dsimp only
  (repeat' split) <;> simp (maxDischargeDepth := 30) [hs, hm_free, hm_regs, hm_pacer, hm_pitch, hm_trail, hm_regions, hm_pegTouched, hm_firewatch, hm_whistle, hm_startup, hm_log, hm_logSeq]

@[simp] theorem applyHeld_same (s : State) (hs : Same m a s) (hm_regs : m.regs = true := by first | rfl | assumption)
    (hm_startup : m.startup = true := by first | rfl | assumption) :
    Same m a (applyHeld s) := by
  unfold applyHeld
  simp (maxDischargeDepth := 30) +contextual [hs, hm_regs, hm_startup]

@[simp] theorem unloadTrail_same (s : State) (hs : Same m a s) (hm_trail : m.trail = true := by first | rfl | assumption) :
    Same m a (unloadTrail s) := by
  unfold unloadTrail
  simp (maxDischargeDepth := 30) [hs, hm_trail]

/-! ### Machine/TrailImage.lean -/

@[simp] theorem trailLoad_same (s : State) (hs : Same m a s) (hm_free : m.free = true := by first | rfl | assumption)
    (hm_trail : m.trail = true := by first | rfl | assumption) :
    Same m a (trailLoad s) := by
  unfold trailLoad
  dsimp only
  (repeat' split) <;> simp (maxDischargeDepth := 30) [hs, hm_free, hm_trail]

@[simp] theorem trailLoaded_same (s : State) (hs : Same m a s) (hm_free : m.free = true := by first | rfl | assumption)
    (hm_regs : m.regs = true := by first | rfl | assumption) (hm_trail : m.trail = true := by first | rfl | assumption)
    (hm_whistle : m.whistle = true := by first | rfl | assumption) (hm_log : m.log = true := by first | rfl | assumption)
    (hm_logSeq : m.logSeq = true := by first | rfl | assumption) :
    Same m a (trailLoaded s) := by
  unfold trailLoaded
  dsimp only
  (repeat' split) <;> simp (maxDischargeDepth := 30) [hs, hm_free, hm_regs, hm_trail, hm_whistle, hm_log, hm_logSeq]

@[simp] theorem trailUnload_same (s : State) (hs : Same m a s) (hm_trail : m.trail = true := by first | rfl | assumption)
    (hm_whistle : m.whistle = true := by first | rfl | assumption) :
    Same m a (trailUnload s) := by
  unfold trailUnload
  simp (maxDischargeDepth := 30) [hs, hm_trail, hm_whistle]

/-! ### Machine/Launch.lean -/

@[simp] theorem clearFaults_same (s : State) (hs : Same m a s) (hm_regs : m.regs = true := by first | rfl | assumption)
    (hm_tarp : m.tarp = true := by first | rfl | assumption) :
    Same m a (clearFaults s) := by
  unfold clearFaults
  simp (maxDischargeDepth := 30) [hs, hm_regs, hm_tarp]

@[simp] theorem launchState_same (s : State) (p : Pitch) (seg : Nat) (gear : Nat) (ta : Nat) (hs : Same m a s)
    (hm_regs : m.regs = true := by first | rfl | assumption) (hm_pacer : m.pacer = true := by first | rfl | assumption)
    (hm_trail : m.trail = true := by first | rfl | assumption) (hm_tarp : m.tarp = true := by first | rfl | assumption)
    (hm_regions : m.regions = true := by first | rfl | assumption) (hm_pegTouched : m.pegTouched = true := by first | rfl | assumption)
    (hm_hubIn : m.hubIn = true := by first | rfl | assumption) (hm_ports : m.ports = true := by first | rfl | assumption)
    (hm_far : m.far = true := by first | rfl | assumption) (hm_zipper : m.zipper = true := by first | rfl | assumption)
    (hm_firewatch : m.firewatch = true := by first | rfl | assumption) (hm_lantern : m.lantern = true := by first | rfl | assumption) :
    Same m a (launchState s p seg gear ta) := by
  unfold launchState
  simp (maxDischargeDepth := 30) +contextual [hs, hm_regs, hm_pacer, hm_trail, hm_tarp, hm_regions, hm_pegTouched, hm_hubIn, hm_ports, hm_far, hm_zipper, hm_firewatch, hm_lantern]

@[simp] theorem noteFiring_same (s : State) (j : Fin 4) (t : Nat) (missed : Bool) (hs : Same m a s)
    (hm_free : m.free = true := by first | rfl | assumption) (hm_regs : m.regs = true := by first | rfl | assumption)
    (hm_compass : m.compass = true := by first | rfl | assumption) (hm_whistle : m.whistle = true := by first | rfl | assumption)
    (hm_log : m.log = true := by first | rfl | assumption) (hm_logSeq : m.logSeq = true := by first | rfl | assumption) :
    Same m a (noteFiring s j t missed) := by
  unfold noteFiring
  simp (maxDischargeDepth := 30) [hs, hm_free, hm_regs, hm_compass, hm_whistle, hm_log, hm_logSeq]

@[simp] theorem armLaunch_same (s : State) (q : Requester) (w : HalfWrite) (hs : Same m a s)
    (hm_free : m.free = true := by first | rfl | assumption) (hm_regs : m.regs = true := by first | rfl | assumption)
    (hm_halves : m.halves = true := by first | rfl | assumption) (hm_pacer : m.pacer = true := by first | rfl | assumption)
    (hm_trail : m.trail = true := by first | rfl | assumption) (hm_whistle : m.whistle = true := by first | rfl | assumption)
    (hm_startup : m.startup = true := by first | rfl | assumption) (hm_log : m.log = true := by first | rfl | assumption)
    (hm_logSeq : m.logSeq = true := by first | rfl | assumption) :
    Same m a (armLaunch s q w) := by
  unfold armLaunch
  dsimp only
  (repeat' split) <;> simp (maxDischargeDepth := 30) [hs, hm_free, hm_regs, hm_halves, hm_pacer, hm_trail, hm_whistle, hm_startup, hm_log, hm_logSeq]

/-! ### Machine/Whistle.lean -/

@[simp] theorem msixFlush_same (s : State) (p : Fin 2) (hs : Same m a s) (hm_hosts : m.hosts = true := by first | rfl | assumption)
    (hm_lantern : m.lantern = true := by first | rfl | assumption) (hm_out : m.out = true := by first | rfl | assumption) :
    Same m a (msixFlush s p) := by
  unfold msixFlush
  simp (maxDischargeDepth := 30) +contextual [hs, hm_hosts, hm_lantern, hm_out]

@[simp] theorem msixUnblock_same (s : State) (p : Fin 2) (c : MsixGate) (hs : Same m a s)
    (hm_regs : m.regs = true := by first | rfl | assumption) (hm_hosts : m.hosts = true := by first | rfl | assumption)
    (hm_lantern : m.lantern = true := by first | rfl | assumption) (hm_out : m.out = true := by first | rfl | assumption) :
    Same m a (msixUnblock s p c) := by
  unfold msixUnblock
  (repeat' split) <;> simp (maxDischargeDepth := 30) [hs, hm_regs, hm_hosts, hm_lantern, hm_out]

@[simp] theorem settleSources_same (s : State) (hs : Same m a s) (hm_whistle : m.whistle = true := by first | rfl | assumption) :
    Same m a (settleSources s) := by
  unfold settleSources
  simp (maxDischargeDepth := 30) +contextual [hs, hm_whistle]

@[simp] theorem serviceEnd_same (s : State) (w : Fin 32) (v : W32) (hw : W32) (hs : Same m a s)
    (hm_hosts : m.hosts = true := by first | rfl | assumption) (hm_whistle : m.whistle = true := by first | rfl | assumption)
    (hm_lantern : m.lantern = true := by first | rfl | assumption) (hm_out : m.out = true := by first | rfl | assumption) :
    Same m a (serviceEnd s w v hw) := by
  unfold serviceEnd
  simp (maxDischargeDepth := 30) +contextual [hs, hm_hosts, hm_whistle, hm_lantern, hm_out]

@[simp] theorem pendSet_same (s : State) (w : Fin 32) (v : W32) (hs : Same m a s)
    (hm_whistle : m.whistle = true := by first | rfl | assumption) :
    Same m a (pendSet s w v) := by
  unfold pendSet
  simp (maxDischargeDepth := 30) +contextual [hs, hm_whistle]

@[simp] theorem pendClear_same (s : State) (w : Fin 32) (v : W32) (hw : W32) (hs : Same m a s)
    (hm_whistle : m.whistle = true := by first | rfl | assumption) :
    Same m a (pendClear s w v hw) := by
  unfold pendClear
  simp (maxDischargeDepth := 30) +contextual [hs, hm_whistle]

@[simp] theorem sourceConfig_same (s : State) (n : Fin 1024) (time : Bool) (v : W32) (hs : Same m a s)
    (hm_free : m.free = true := by first | rfl | assumption) (hm_regs : m.regs = true := by first | rfl | assumption)
    (hm_whistle : m.whistle = true := by first | rfl | assumption) (hm_log : m.log = true := by first | rfl | assumption)
    (hm_logSeq : m.logSeq = true := by first | rfl | assumption) :
    Same m a (sourceConfig s n time v) := by
  unfold sourceConfig
  dsimp only
  (repeat' split) <;> simp (maxDischargeDepth := 30) [hs, hm_free, hm_regs, hm_whistle, hm_log, hm_logSeq]

@[simp] theorem resetWhistle_same (s : State) (hs : Same m a s) (hm_regs : m.regs = true := by first | rfl | assumption)
    (hm_whistle : m.whistle = true := by first | rfl | assumption) :
    Same m a (resetWhistle s) := by
  unfold resetWhistle
  simp (maxDischargeDepth := 30) [hs, hm_regs, hm_whistle]

@[simp] theorem retentionWake_same (s : State) (ok : Bool) (hs : Same m a s) (hm_free : m.free = true := by first | rfl | assumption)
    (hm_regs : m.regs = true := by first | rfl | assumption) (hm_hosts : m.hosts = true := by first | rfl | assumption)
    (hm_whistle : m.whistle = true := by first | rfl | assumption) (hm_lantern : m.lantern = true := by first | rfl | assumption)
    (hm_log : m.log = true := by first | rfl | assumption) (hm_logSeq : m.logSeq = true := by first | rfl | assumption)
    (hm_out : m.out = true := by first | rfl | assumption) :
    Same m a (retentionWake s ok) := by
  unfold retentionWake
  simp (maxDischargeDepth := 30) [hs, hm_free, hm_regs, hm_hosts, hm_whistle, hm_lantern, hm_log, hm_logSeq, hm_out]

@[simp] theorem lanternClear_same (s : State) (hs : Same m a s) (hm_regs : m.regs = true := by first | rfl | assumption)
    (hm_lantern : m.lantern = true := by first | rfl | assumption) :
    Same m a (lanternClear s) := by
  unfold lanternClear
  simp (maxDischargeDepth := 30) +contextual [hs, hm_regs, hm_lantern]

@[simp] theorem lanternThaw_same (s : State) (hs : Same m a s) (hm_regs : m.regs = true := by first | rfl | assumption)
    (hm_lantern : m.lantern = true := by first | rfl | assumption) :
    Same m a (lanternThaw s) := by
  unfold lanternThaw
  simp (maxDischargeDepth := 30) [hs, hm_regs, hm_lantern]

@[simp] theorem finishSnapshot_same (s : State) (b : Nat) (freeze : Bool) (count : W64) (hs : Same m a s)
    (hm_regs : m.regs = true := by first | rfl | assumption) (hm_whistle : m.whistle = true := by first | rfl | assumption)
    (hm_lantern : m.lantern = true := by first | rfl | assumption) :
    Same m a (finishSnapshot s b freeze count) := by
  unfold finishSnapshot
  simp (maxDischargeDepth := 30) +contextual [hs, hm_regs, hm_whistle, hm_lantern]

@[simp] theorem freezeArm_same (s : State) (q : Requester) (w : HalfWrite) (hs : Same m a s)
    (hm_free : m.free = true := by first | rfl | assumption) (hm_regs : m.regs = true := by first | rfl | assumption)
    (hm_halves : m.halves = true := by first | rfl | assumption) (hm_whistle : m.whistle = true := by first | rfl | assumption)
    (hm_lantern : m.lantern = true := by first | rfl | assumption) (hm_log : m.log = true := by first | rfl | assumption)
    (hm_logSeq : m.logSeq = true := by first | rfl | assumption) :
    Same m a (freezeArm s q w) := by
  unfold freezeArm
  have h := formHalf_same s q Reg.LN_FREEZE w hs
  revert h
  generalize formHalf s q Reg.LN_FREEZE w = p
  obtain ⟨v, t⟩ := p
  intro h
  dsimp only at h
  have h1 : Same m a (setReg t Reg.LN_FREEZE (v &&& 0xC000FFFFFFFFFFFF)) := setReg_same _ _ _ h
  revert h1
  dsimp only
  generalize setReg t Reg.LN_FREEZE (v &&& 0xC000FFFFFFFFFFFF) = u
  intro h1
  have h2 : Same m a (forRegions u fun r s => snapRegion s r.val) :=
    forRegions_same _ _ h1 fun r z hz => snapRegion_same _ _ hz
  refine ite_same _ _ _ (fun _ => finishSnapshot_same _ _ _ _ ?_) (fun _ => ite_same _ _ _ (fun _ => logEvent_same _ _ h1) (fun _ => mk_same _ (setField_same _ _ _ _ _ h1) ..))
  exact ite_same _ _ _ (fun _ => mk_same _ h2 ..) (fun _ => h2)

@[simp] theorem lanternSnapshot_same (s : State) (hs : Same m a s) (hm_regs : m.regs = true := by first | rfl | assumption)
    (hm_whistle : m.whistle = true := by first | rfl | assumption) (hm_lantern : m.lantern = true := by first | rfl | assumption) :
    Same m a (lanternSnapshot s) := by
  unfold lanternSnapshot
  (repeat' split) <;> simp (maxDischargeDepth := 30) [hs, hm_regs, hm_whistle, hm_lantern]

@[simp] theorem bandwidthWindow_same (s : State) (hs : Same m a s) (hm_regs : m.regs = true := by first | rfl | assumption)
    (hm_lantern : m.lantern = true := by first | rfl | assumption) :
    Same m a (bandwidthWindow s) := by
  unfold bandwidthWindow
  simp (maxDischargeDepth := 30) +contextual [hs, hm_regs, hm_lantern]

@[simp] theorem traceRecord_same (s : State) (r : Fin 32) (hs : Same m a s) (hm_free : m.free = true := by first | rfl | assumption)
    (hm_regs : m.regs = true := by first | rfl | assumption) (hm_whistle : m.whistle = true := by first | rfl | assumption)
    (hm_lantern : m.lantern = true := by first | rfl | assumption) (hm_log : m.log = true := by first | rfl | assumption)
    (hm_logSeq : m.logSeq = true := by first | rfl | assumption) :
    Same m a (traceRecord s r) := by
  unfold traceRecord
  (repeat' split) <;> simp (maxDischargeDepth := 30) [hs, hm_free, hm_regs, hm_whistle, hm_lantern, hm_log, hm_logSeq]

@[simp] theorem traceReset_same (s : State) (hs : Same m a s) (hm_regs : m.regs = true := by first | rfl | assumption)
    (hm_lantern : m.lantern = true := by first | rfl | assumption) :
    Same m a (traceReset s) := by
  unfold traceReset
  simp (maxDischargeDepth := 30) [hs, hm_regs, hm_lantern]

end Sys2Proof.Machine
end

