-- ==== Sys2Proof/Laws/SameHost.lean ====
section
/-!
SUPPORT. Laws/SameHost.lean: which fields may change in the host link, start-up, self-test, firmware and the host's accesses.
-/

namespace Sys2Proof.Machine

set_option Elab.async false

variable {m : Mask} {a : State}

/-! ### Machine/HostLink.lean -/

@[simp] theorem setHostState_same (s : State) (p : Fin 2) (st : Nat) (hs : Same m a s)
    (hm_regs : m.regs = true := by first | rfl | assumption) (hm_whistle : m.whistle = true := by first | rfl | assumption) :
    Same m a (setHostState s p st) := by
  unfold setHostState
  simp (maxDischargeDepth := 30) [hs, hm_regs, hm_whistle]

@[simp] theorem hostTrained_same (s : State) (p : Fin 2) (speed : Fin 3) (width : Fin 4) (hs : Same m a s)
    (hm_free : m.free = true := by first | rfl | assumption) (hm_regs : m.regs = true := by first | rfl | assumption)
    (hm_whistle : m.whistle = true := by first | rfl | assumption) (hm_log : m.log = true := by first | rfl | assumption)
    (hm_logSeq : m.logSeq = true := by first | rfl | assumption) :
    Same m a (hostTrained s p speed width) := by
  unfold hostTrained
  simp (maxDischargeDepth := 30) [hs, hm_free, hm_regs, hm_whistle, hm_log, hm_logSeq]

@[simp] theorem hostLinkOff_same (s : State) (p : Fin 2) (hs : Same m a s) (hm_regs : m.regs = true := by first | rfl | assumption)
    (hm_whistle : m.whistle = true := by first | rfl | assumption) :
    Same m a (hostLinkOff s p) := by
  unfold hostLinkOff
  simp (maxDischargeDepth := 30) [hs, hm_regs, hm_whistle]

@[simp] theorem trainHost_same (s : State) (p : Fin 2) (hs : Same m a s) (hm_regs : m.regs = true := by first | rfl | assumption)
    (hm_whistle : m.whistle = true := by first | rfl | assumption) :
    Same m a (trainHost s p) := by
  unfold trainHost
  simp (maxDischargeDepth := 30) [hs, hm_regs, hm_whistle]

@[simp] theorem setHolder_same (s : State) (h : Nat) (hs : Same m a s) (hm_free : m.free = true := by first | rfl | assumption)
    (hm_regs : m.regs = true := by first | rfl | assumption) (hm_whistle : m.whistle = true := by first | rfl | assumption)
    (hm_log : m.log = true := by first | rfl | assumption) (hm_logSeq : m.logSeq = true := by first | rfl | assumption) :
    Same m a (setHolder s h) := by
  unfold setHolder
  simp (maxDischargeDepth := 30) [hs, hm_free, hm_regs, hm_whistle, hm_log, hm_logSeq]

@[simp] theorem acquireLease_same (s : State) (p : Fin 2) (hs : Same m a s) (hm_free : m.free = true := by first | rfl | assumption)
    (hm_regs : m.regs = true := by first | rfl | assumption) (hm_firmware : m.firmware = true := by first | rfl | assumption)
    (hm_whistle : m.whistle = true := by first | rfl | assumption) (hm_log : m.log = true := by first | rfl | assumption)
    (hm_logSeq : m.logSeq = true := by first | rfl | assumption) :
    Same m a (acquireLease s p) := by
  unfold acquireLease
  simp (maxDischargeDepth := 30) [hs, hm_free, hm_regs, hm_firmware, hm_whistle, hm_log, hm_logSeq]

@[simp] theorem renewLease_same (s : State) (p : Fin 2) (hs : Same m a s) (hm_firmware : m.firmware = true := by first | rfl | assumption) :
    Same m a (renewLease s p) := by
  unfold renewLease
  simp (maxDischargeDepth := 30) [hs, hm_firmware]

@[simp] theorem releaseLease_same (s : State) (p : Fin 2) (hs : Same m a s) (hm_free : m.free = true := by first | rfl | assumption)
    (hm_regs : m.regs = true := by first | rfl | assumption) (hm_whistle : m.whistle = true := by first | rfl | assumption)
    (hm_log : m.log = true := by first | rfl | assumption) (hm_logSeq : m.logSeq = true := by first | rfl | assumption) :
    Same m a (releaseLease s p) := by
  unfold releaseLease
  simp (maxDischargeDepth := 30) [hs, hm_free, hm_regs, hm_whistle, hm_log, hm_logSeq]

@[simp] theorem expireLease_same (s : State) (hs : Same m a s) (hm_free : m.free = true := by first | rfl | assumption)
    (hm_regs : m.regs = true := by first | rfl | assumption) (hm_whistle : m.whistle = true := by first | rfl | assumption)
    (hm_log : m.log = true := by first | rfl | assumption) (hm_logSeq : m.logSeq = true := by first | rfl | assumption) :
    Same m a (expireLease s) := by
  unfold expireLease
  simp (maxDischargeDepth := 30) [hs, hm_free, hm_regs, hm_whistle, hm_log, hm_logSeq]

@[simp] theorem ethUp_same (s : State) (e : Fin 2) (lanes : BitVec 4) (hs : Same m a s)
    (hm_regs : m.regs = true := by first | rfl | assumption) :
    Same m a (ethUp s e lanes) := by
  unfold ethUp
  simp (maxDischargeDepth := 30) [hs, hm_regs]

@[simp] theorem ethDown_same (s : State) (e : Fin 2) (lanes : BitVec 4) (hs : Same m a s)
    (hm_free : m.free = true := by first | rfl | assumption) (hm_regs : m.regs = true := by first | rfl | assumption)
    (hm_whistle : m.whistle = true := by first | rfl | assumption) (hm_log : m.log = true := by first | rfl | assumption)
    (hm_logSeq : m.logSeq = true := by first | rfl | assumption) :
    Same m a (ethDown s e lanes) := by
  unfold ethDown
  simp (maxDischargeDepth := 30) [hs, hm_free, hm_regs, hm_whistle, hm_log, hm_logSeq]

@[simp] theorem sendDelayReq_same (s : State) (e : Fin 2) (hs : Same m a s) (hm_free : m.free = true := by first | rfl | assumption)
    (hm_regs : m.regs = true := by first | rfl | assumption) (hm_compass : m.compass = true := by first | rfl | assumption)
    (hm_whistle : m.whistle = true := by first | rfl | assumption) (hm_log : m.log = true := by first | rfl | assumption)
    (hm_logSeq : m.logSeq = true := by first | rfl | assumption) (hm_out : m.out = true := by first | rfl | assumption) :
    Same m a (sendDelayReq s e) := by
  unfold sendDelayReq
  simp (maxDischargeDepth := 30) [hs, hm_free, hm_regs, hm_compass, hm_whistle, hm_log, hm_logSeq, hm_out]

@[simp] theorem ethFrame_same (s : State) (e : Fin 2) (f : List Byte) (check : FrameCheck) (hs : Same m a s)
    (hm_free : m.free = true := by first | rfl | assumption) (hm_regs : m.regs = true := by first | rfl | assumption)
    (hm_compass : m.compass = true := by first | rfl | assumption) (hm_whistle : m.whistle = true := by first | rfl | assumption)
    (hm_log : m.log = true := by first | rfl | assumption) (hm_logSeq : m.logSeq = true := by first | rfl | assumption)
    (hm_logged : m.logged = true := by first | rfl | assumption) (hm_out : m.out = true := by first | rfl | assumption) :
    Same m a (ethFrame s e f check) := by
  unfold ethFrame
  (repeat' split) <;> simp (maxDischargeDepth := 30) [hs, hm_free, hm_regs, hm_compass, hm_whistle, hm_log, hm_logSeq, hm_logged, hm_out]

/-! ### Machine/Startup.lean -/

@[simp] theorem powerUp_same (s : State) (hs : Same m a s) (hm_regs : m.regs = true := by first | rfl | assumption)
    (hm_startup : m.startup = true := by first | rfl | assumption) :
    Same m a (powerUp s) := by
  unfold powerUp
  simp (maxDischargeDepth := 30) [hs, hm_regs, hm_startup]

@[simp] theorem entryLimit_same (s : State) (hs : Same m a s) (hm_regs : m.regs = true := by first | rfl | assumption) :
    Same m a (entryLimit s) := by
  unfold entryLimit
  simp (maxDischargeDepth := 30) [hs, hm_regs]

@[simp] theorem setGood_same (s : State) (i : Nat) (good : Bool) (hs : Same m a s) (hm_regs : m.regs = true := by first | rfl | assumption)
    (hm_startup : m.startup = true := by first | rfl | assumption) :
    Same m a (setGood s i good) := by
  unfold setGood
  simp (maxDischargeDepth := 30) [hs, hm_regs, hm_startup]

@[simp] theorem pairLost_same (s : State) (i : Nat) (hs : Same m a s) (hm_free : m.free = true := by first | rfl | assumption)
    (hm_regs : m.regs = true := by first | rfl | assumption) (hm_whistle : m.whistle = true := by first | rfl | assumption)
    (hm_log : m.log = true := by first | rfl | assumption) (hm_logSeq : m.logSeq = true := by first | rfl | assumption)
    (hm_startup : m.startup = true := by first | rfl | assumption) :
    Same m a (pairLost s i) := by
  unfold pairLost
  simp (maxDischargeDepth := 30) [hs, hm_free, hm_regs, hm_whistle, hm_log, hm_startup, hm_logSeq]

@[simp] theorem pairReturn_same (s : State) (i : Nat) (hs : Same m a s) (hm_free : m.free = true := by first | rfl | assumption)
    (hm_regs : m.regs = true := by first | rfl | assumption) (hm_whistle : m.whistle = true := by first | rfl | assumption)
    (hm_log : m.log = true := by first | rfl | assumption) (hm_logSeq : m.logSeq = true := by first | rfl | assumption)
    (hm_startup : m.startup = true := by first | rfl | assumption) :
    Same m a (pairReturn s i) := by
  unfold pairReturn
  simp (maxDischargeDepth := 30) [hs, hm_free, hm_regs, hm_whistle, hm_log, hm_startup, hm_logSeq]

@[simp] theorem notePairs_same (s : State) (pairs : List Pair) (hs : Same m a s) (hm_regs : m.regs = true := by first | rfl | assumption) :
    Same m a (notePairs s pairs) := by
  unfold notePairs
  apply foldl_same _ _ _ hs
  intro t i ht
  split
  · exact setReg_same _ _ _ ht
  · exact ht

@[simp] theorem entryUpdate_same (s : State) (volt : BitVec 16) (pairs : List Pair) (hs : Same m a s)
    (hm_free : m.free = true := by first | rfl | assumption) (hm_regs : m.regs = true := by first | rfl | assumption)
    (hm_firewatch : m.firewatch = true := by first | rfl | assumption) (hm_whistle : m.whistle = true := by first | rfl | assumption)
    (hm_log : m.log = true := by first | rfl | assumption) (hm_logSeq : m.logSeq = true := by first | rfl | assumption)
    (hm_startup : m.startup = true := by first | rfl | assumption) :
    Same m a (entryUpdate s volt pairs) := by
  unfold entryUpdate
  extract_lets good volts s1 s2
  have h1 : Same m a s1 := setReg_same _ _ _ (notePairs_same _ _ (modFire_same _ _ hs))
  apply entryLimit_same
  apply foldl_same _ _ _ h1
  intro t i ht
  split
  · exact pairReturn_same _ _ ht
  · exact pairLost_same _ _ ht
  · exact ht
  all_goals assumption

@[simp] theorem pairChange_same (s : State) (i : Nat) (pairs : List Pair) (good : Bool) (hs : Same m a s)
    (hm_free : m.free = true := by first | rfl | assumption)
    (hm_regs : m.regs = true := by first | rfl | assumption) (hm_whistle : m.whistle = true := by first | rfl | assumption)
    (hm_log : m.log = true := by first | rfl | assumption) (hm_logSeq : m.logSeq = true := by first | rfl | assumption)
    (hm_startup : m.startup = true := by first | rfl | assumption) :
    Same m a (pairChange s i pairs good) := by
  unfold pairChange
  simp (maxDischargeDepth := 30) [hs, hm_free, hm_regs, hm_whistle, hm_log, hm_logSeq, hm_startup]

@[simp] theorem pairRestored_same (s : State) (hs : Same m a s) (hm_regs : m.regs = true := by first | rfl | assumption)
    (hm_startup : m.startup = true := by first | rfl | assumption) :
    Same m a (pairRestored s) := by
  unfold pairRestored
  simp (maxDischargeDepth := 30) [hs, hm_regs, hm_startup]

@[simp] theorem inputRestored_same (s : State) (low high ms : Nat) (hs : Same m a s) (hm_regs : m.regs = true := by first | rfl | assumption)
    (hm_startup : m.startup = true := by first | rfl | assumption) :
    Same m a (inputRestored s low high ms) := by
  unfold inputRestored
  simp (maxDischargeDepth := 30) [hs, hm_regs, hm_startup]

@[simp] theorem lampInsert_same (s : State) (l : Nat) (typeOk : Bool) (serial : W64) (hs : Same m a s)
    (hm_free : m.free = true := by first | rfl | assumption) (hm_regs : m.regs = true := by first | rfl | assumption)
    (hm_whistle : m.whistle = true := by first | rfl | assumption) (hm_startup : m.startup = true := by first | rfl | assumption)
    (hm_log : m.log = true := by first | rfl | assumption) (hm_logSeq : m.logSeq = true := by first | rfl | assumption) :
    Same m a (lampInsert s l typeOk serial) := by
  unfold lampInsert
  simp (maxDischargeDepth := 30) [hs, hm_free, hm_regs, hm_whistle, hm_startup, hm_log, hm_logSeq]

@[simp] theorem lightPorts_same (s : State) (hs : Same m a s) (hm_regs : m.regs = true := by first | rfl | assumption)
    (hm_ports : m.ports = true := by first | rfl | assumption) :
    Same m a (lightPorts s) := by
  unfold lightPorts
  simp (maxDischargeDepth := 30) +contextual [hs, hm_regs, hm_ports]

@[simp] theorem lampRampDone_same (s : State) (l : Nat) (own : Nat) (other : Nat) (hs : Same m a s)
    (hm_regs : m.regs = true := by first | rfl | assumption) (hm_ports : m.ports = true := by first | rfl | assumption)
    (hm_startup : m.startup = true := by first | rfl | assumption) :
    Same m a (lampRampDone s l own other) := by
  unfold lampRampDone
  simp (maxDischargeDepth := 30) [hs, hm_regs, hm_ports, hm_startup]

@[simp] theorem fibreOpen_same (s : State) (q us : Nat) (hs : Same m a s) (hm_free : m.free = true := by first | rfl | assumption)
    (hm_regs : m.regs = true := by first | rfl | assumption) (hm_ports : m.ports = true := by first | rfl | assumption)
    (hm_whistle : m.whistle = true := by first | rfl | assumption) (hm_log : m.log = true := by first | rfl | assumption)
    (hm_logSeq : m.logSeq = true := by first | rfl | assumption) (hm_out : m.out = true := by first | rfl | assumption)
    (hm_startup : m.startup = true := by first | rfl | assumption) :
    Same m a (fibreOpen s q us) := by
  unfold fibreOpen
  simp (maxDischargeDepth := 30) [hs, hm_free, hm_regs, hm_ports, hm_whistle, hm_log, hm_logSeq, hm_out, hm_startup]

@[simp] theorem fibreProbe_same (s : State) (q : Nat) (hs : Same m a s) (hm_out : m.out = true := by first | rfl | assumption)
    (hm_startup : m.startup = true := by first | rfl | assumption) :
    Same m a (fibreProbe s q) := by
  unfold fibreProbe
  simp (maxDischargeDepth := 30) [hs, hm_out, hm_startup]

@[simp] theorem fibreRestored_same (s : State) (q us : Nat) (hs : Same m a s) (hm_regs : m.regs = true := by first | rfl | assumption)
    (hm_startup : m.startup = true := by first | rfl | assumption) :
    Same m a (fibreRestored s q us) := by
  unfold fibreRestored
  simp (maxDischargeDepth := 30) [hs, hm_regs, hm_startup]

@[simp] theorem enterStep_same (s : State) (k : Nat) (hs : Same m a s) (hm_regs : m.regs = true := by first | rfl | assumption)
    (hm_pacer : m.pacer = true := by first | rfl | assumption) (hm_ports : m.ports = true := by first | rfl | assumption)
    (hm_whistle : m.whistle = true := by first | rfl | assumption) (hm_flash : m.flash = true := by first | rfl | assumption)
    (hm_startup : m.startup = true := by first | rfl | assumption) :
    Same m a (enterStep s k) := by
  unfold enterStep
  simp (maxDischargeDepth := 30) [hs, hm_regs, hm_pacer, hm_ports, hm_whistle, hm_flash, hm_startup]

@[simp] theorem bootImage_same (s : State) (b : Bool) (hs : Same m a s) (hm_regs : m.regs = true := by first | rfl | assumption) :
    Same m a (bootImage s b) := by
  unfold bootImage
  simp (maxDischargeDepth := 30) [hs, hm_regs]

@[simp] theorem fitDimms_same (s : State) (dimms : List Dimm) (hs : Same m a s) (hm_free : m.free = true := by first | rfl | assumption)
    (hm_regs : m.regs = true := by first | rfl | assumption) (hm_whistle : m.whistle = true := by first | rfl | assumption)
    (hm_log : m.log = true := by first | rfl | assumption) (hm_logSeq : m.logSeq = true := by first | rfl | assumption) :
    Same m a (fitDimms s dimms) := by
  unfold fitDimms
  extract_lets
  apply setReg_same
  apply setReg_same
  apply foldl_same _ _ _ hs
  intro t k ht
  extract_lets
  split
  · exact setReg_same _ _ _ ht
  · exact logEvent_same _ _ (setReg_same _ _ _ ht)
  all_goals assumption

@[simp] theorem setCrossing_same (s : State) (y1 : Measure) (r : Nat) (i : Nat) (d : Nat) (hs : Same m a s)
    (hm_regs : m.regs = true := by first | rfl | assumption) :
    Same m a (setCrossing s y1 r i d) := by
  unfold setCrossing
  simp (maxDischargeDepth := 30) [hs, hm_regs]

@[simp] theorem noteCalibration_same (s : State) (y1 : Measure) (hs : Same m a s) (hm_regs : m.regs = true := by first | rfl | assumption)
    (hm_regions : m.regions = true := by first | rfl | assumption) :
    Same m a (noteCalibration s y1) := by
  unfold noteCalibration
  simp (maxDischargeDepth := 30) +contextual [hs, hm_regs, hm_regions]

@[simp] theorem stepLanes_same (s : State) (bad : List (BitVec 16)) (eth : List (BitVec 4)) (hs : Same m a s)
    (hm_regs : m.regs = true := by first | rfl | assumption) (hm_pacer : m.pacer = true := by first | rfl | assumption)
    (hm_ports : m.ports = true := by first | rfl | assumption) (hm_whistle : m.whistle = true := by first | rfl | assumption)
    (hm_flash : m.flash = true := by first | rfl | assumption) (hm_startup : m.startup = true := by first | rfl | assumption) :
    Same m a (stepLanes s bad eth) := by
  unfold stepLanes
  simp (maxDischargeDepth := 30) +contextual [hs, hm_regs, hm_pacer, hm_ports, hm_whistle, hm_flash, hm_startup]

@[simp] theorem stepPcie_same (s : State) (ports : List (Option (Fin 3 × Fin 4))) (hs : Same m a s)
    (hm_free : m.free = true := by first | rfl | assumption) (hm_regs : m.regs = true := by first | rfl | assumption)
    (hm_pacer : m.pacer = true := by first | rfl | assumption) (hm_ports : m.ports = true := by first | rfl | assumption)
    (hm_whistle : m.whistle = true := by first | rfl | assumption) (hm_flash : m.flash = true := by first | rfl | assumption)
    (hm_startup : m.startup = true := by first | rfl | assumption) (hm_log : m.log = true := by first | rfl | assumption)
    (hm_logSeq : m.logSeq = true := by first | rfl | assumption) :
    Same m a (stepPcie s ports) := by
  unfold stepPcie
  extract_lets s1
  have h1 : Same m a s1 := by
    apply foldl_same _ _ _ hs
    intro t e ht
    split
    · exact hostTrained_same _ _ _ _ ht
    · exact ht
  exact enterStep_same _ _ h1

@[simp] theorem stepEthernet_same (s : State) (up : BitVec 2) (hs : Same m a s) (hm_free : m.free = true := by first | rfl | assumption)
    (hm_regs : m.regs = true := by first | rfl | assumption) (hm_pacer : m.pacer = true := by first | rfl | assumption)
    (hm_ports : m.ports = true := by first | rfl | assumption) (hm_whistle : m.whistle = true := by first | rfl | assumption)
    (hm_flash : m.flash = true := by first | rfl | assumption) (hm_startup : m.startup = true := by first | rfl | assumption)
    (hm_log : m.log = true := by first | rfl | assumption) (hm_logSeq : m.logSeq = true := by first | rfl | assumption) :
    Same m a (stepEthernet s up) := by
  unfold stepEthernet
  extract_lets s1
  have h1 : Same m a s1 := by
    apply foldl_same _ _ _ hs
    intro t e ht
    split
    · exact setField_same _ _ _ _ _ ht
    · split
      · exact ht
      · exact logEvent_same _ _ ht
  exact enterStep_same _ _ h1

@[simp] theorem spareSweep_same (s : State) (r : Fin 32) (k : Fin 9) (pass : Bool) (hs : Same m a s)
    (hm_free : m.free = true := by first | rfl | assumption) (hm_regs : m.regs = true := by first | rfl | assumption)
    (hm_whistle : m.whistle = true := by first | rfl | assumption) (hm_startup : m.startup = true := by first | rfl | assumption)
    (hm_log : m.log = true := by first | rfl | assumption) (hm_logSeq : m.logSeq = true := by first | rfl | assumption) :
    Same m a (spareSweep s r k pass) := by
  unfold spareSweep
  simp (maxDischargeDepth := 30) [hs, hm_free, hm_regs, hm_whistle, hm_startup, hm_log, hm_logSeq]

/-! ### Machine/SelfTest.lean -/

@[simp] theorem setTest_same (s : State) (t : Option SelfTest) (hs : Same m a s) (hm_regs : m.regs = true := by first | rfl | assumption)
    (hm_startup : m.startup = true := by first | rfl | assumption) :
    Same m a (setTest s t) := by
  unfold setTest
  simp (maxDischargeDepth := 30) [hs, hm_regs, hm_startup]

@[simp] theorem startTest_same (s : State) (t : SelfTest) (hs : Same m a s) (hm_regs : m.regs = true := by first | rfl | assumption)
    (hm_pacer : m.pacer = true := by first | rfl | assumption) (hm_startup : m.startup = true := by first | rfl | assumption) :
    Same m a (startTest s t) := by
  unfold startTest
  simp (maxDischargeDepth := 30) [hs, hm_regs, hm_pacer, hm_startup]

@[simp] theorem runTest_same (s : State) (hs : Same m a s) (hm_regs : m.regs = true := by first | rfl | assumption)
    (hm_pacer : m.pacer = true := by first | rfl | assumption) (hm_startup : m.startup = true := by first | rfl | assumption) :
    Same m a (runTest s) := by
  unfold runTest
  (repeat' split) <;> simp (maxDischargeDepth := 30) [hs, hm_regs, hm_pacer, hm_startup]

@[simp] theorem cancelTest_same (s : State) (t : SelfTest) (hs : Same m a s) (hm_free : m.free = true := by first | rfl | assumption)
    (hm_regs : m.regs = true := by first | rfl | assumption) (hm_whistle : m.whistle = true := by first | rfl | assumption)
    (hm_startup : m.startup = true := by first | rfl | assumption) (hm_log : m.log = true := by first | rfl | assumption)
    (hm_logSeq : m.logSeq = true := by first | rfl | assumption) :
    Same m a (cancelTest s t) := by
  unfold cancelTest
  simp (maxDischargeDepth := 30) [hs, hm_free, hm_regs, hm_whistle, hm_startup, hm_log, hm_logSeq]

@[simp] theorem timeoutTest_same (s : State) (hs : Same m a s) (hm_free : m.free = true := by first | rfl | assumption)
    (hm_regs : m.regs = true := by first | rfl | assumption) (hm_whistle : m.whistle = true := by first | rfl | assumption)
    (hm_startup : m.startup = true := by first | rfl | assumption) (hm_log : m.log = true := by first | rfl | assumption)
    (hm_logSeq : m.logSeq = true := by first | rfl | assumption) :
    Same m a (timeoutTest s) := by
  unfold timeoutTest
  (repeat' split) <;> simp (maxDischargeDepth := 30) [hs, hm_free, hm_regs, hm_whistle, hm_startup, hm_log, hm_logSeq]

/-! ### Machine/Commands.lean -/

@[simp] theorem fcRet_same (s : State) (i : Nat) (v : Nat) (hs : Same m a s) (hm_regs : m.regs = true := by first | rfl | assumption) :
    Same m a (fcRet s i v) := by
  unfold fcRet
  simp (maxDischargeDepth := 30) [hs, hm_regs]

@[simp] theorem fcPut_same (s : State) (bs : List Byte) (hs : Same m a s) (hm_regs : m.regs = true := by first | rfl | assumption) :
    Same m a (fcPut s bs) := by
  unfold fcPut
  apply foldl_same _ _ _ hs
  intro s x hs
  dsimp only
  (repeat' split) <;> simp (maxDischargeDepth := 30) [hs, hm_regs]

@[simp] theorem fcFinish_same (s : State) (p : Fin 2) (seq : Nat) (result : Nat) (hs : Same m a s)
    (hm_regs : m.regs = true := by first | rfl | assumption) (hm_whistle : m.whistle = true := by first | rfl | assumption) :
    Same m a (fcFinish s p seq result) := by
  unfold fcFinish
  simp (maxDischargeDepth := 30) [hs, hm_regs, hm_whistle]

@[simp] theorem fcStart_same (s : State) (p : Fin 2) (seq : Nat) (op : Nat) (classS : Bool) (f : State → State) (hs : Same m a s)
    (hf : ∀ (z0 : State), Same m a z0 → Same m a (f z0)) (hm_free : m.free = true := by first | rfl | assumption)
    (hm_regs : m.regs = true := by first | rfl | assumption) (hm_whistle : m.whistle = true := by first | rfl | assumption)
    (hm_log : m.log = true := by first | rfl | assumption) (hm_logSeq : m.logSeq = true := by first | rfl | assumption) :
    Same m a (fcStart s p seq op classS f) := by
  unfold fcStart
  (repeat' split) <;> simp (maxDischargeDepth := 30) [hs, hf, hm_free, hm_regs, hm_whistle, hm_log, hm_logSeq]

@[simp] theorem fcAtOnce_same (s : State) (p : Fin 2) (seq : BitVec 8) (op : Nat) (classS : Bool) (f : State → Nat × State)
    (hs : Same m a s) (hf : ∀ (z0 : State), Same m a z0 → Same m a (f z0).2) (hm_free : m.free = true := by first | rfl | assumption)
    (hm_regs : m.regs = true := by first | rfl | assumption) (hm_whistle : m.whistle = true := by first | rfl | assumption)
    (hm_log : m.log = true := by first | rfl | assumption) (hm_logSeq : m.logSeq = true := by first | rfl | assumption) :
    Same m a (fcAtOnce s p seq op classS f) := by
  unfold fcAtOnce
  simp (maxDischargeDepth := 30) +contextual [hs, hf, hm_free, hm_regs, hm_whistle, hm_log, hm_logSeq]

@[simp] theorem fcUnknown_same (s : State) (p : Fin 2) (seq : BitVec 8) (op : Nat) (hs : Same m a s)
    (hm_free : m.free = true := by first | rfl | assumption) (hm_regs : m.regs = true := by first | rfl | assumption)
    (hm_whistle : m.whistle = true := by first | rfl | assumption) (hm_log : m.log = true := by first | rfl | assumption)
    (hm_logSeq : m.logSeq = true := by first | rfl | assumption) :
    Same m a (fcUnknown s p seq op) := by
  unfold fcUnknown
  simp (maxDischargeDepth := 30) [hs, hm_free, hm_regs, hm_whistle, hm_log, hm_logSeq]

@[simp] theorem fcInfo_same (s : State) (hs : Same m a s) (hm_regs : m.regs = true := by first | rfl | assumption) :
    Same m a (fcInfo s).2 := by
  unfold fcInfo
  simp (maxDischargeDepth := 30) [hs, hm_regs]

@[simp] theorem fcEvents_same (s : State) (hs : Same m a s) (hm_regs : m.regs = true := by first | rfl | assumption) :
    Same m a (fcEvents s).2 := by
  unfold fcEvents
  simp (maxDischargeDepth := 30) [hs, hm_regs]

@[simp] theorem fcCoord_same (s : State) (hs : Same m a s) (hm_free : m.free = true := by first | rfl | assumption)
    (hm_regs : m.regs = true := by first | rfl | assumption) (hm_ports : m.ports = true := by first | rfl | assumption)
    (hm_whistle : m.whistle = true := by first | rfl | assumption) (hm_log : m.log = true := by first | rfl | assumption)
    (hm_logSeq : m.logSeq = true := by first | rfl | assumption) (hm_out : m.out = true := by first | rfl | assumption) :
    Same m a (fcCoord s).2 := by
  unfold fcCoord
  simp (maxDischargeDepth := 30) [hs, hm_free, hm_regs, hm_ports, hm_whistle, hm_log, hm_logSeq, hm_out]

@[simp] theorem fcAttest_same (s : State) (hs : Same m a s) (hm_regs : m.regs = true := by first | rfl | assumption) :
    Same m a (fcAttest s).2 := by
  unfold fcAttest
  simp (maxDischargeDepth := 30) [hs, hm_regs]

@[simp] theorem fcCert_same (s : State) (hs : Same m a s) (hm_regs : m.regs = true := by first | rfl | assumption) :
    Same m a (fcCert s).2 := by
  unfold fcCert
  simp (maxDischargeDepth := 30) [hs, hm_regs]

@[simp] theorem fcMap_same (s : State) (hs : Same m a s) (hm_regs : m.regs = true := by first | rfl | assumption) :
    Same m a (fcMap s).2 := by
  unfold fcMap
  simp (maxDischargeDepth := 30) [hs, hm_regs]

@[simp] theorem fcNetCfg_same (s : State) (hs : Same m a s) (hm_firmware : m.firmware = true := by first | rfl | assumption) :
    Same m a (fcNetCfg s).2 := by
  unfold fcNetCfg
  simp (maxDischargeDepth := 30) [hs, hm_firmware]

@[simp] theorem fcTlmCfg_same (s : State) (hs : Same m a s) (hm_firmware : m.firmware = true := by first | rfl | assumption) :
    Same m a (fcTlmCfg s).2 := by
  unfold fcTlmCfg
  simp (maxDischargeDepth := 30) [hs, hm_firmware]

@[simp] theorem fcLaunch_same (s : State) (p : Fin 2) (seq : Nat) (op : Nat) (ts : List Nat) (hs : Same m a s)
    (hm_regs : m.regs = true := by first | rfl | assumption) (hm_far : m.far = true := by first | rfl | assumption)
    (hm_firmware : m.firmware = true := by first | rfl | assumption) :
    Same m a (fcLaunch s p seq op ts) := by
  unfold fcLaunch
  simp (maxDischargeDepth := 30) [hs, hm_regs, hm_far, hm_firmware]

@[simp] theorem fcNetLoad_same (p : Fin 2) (seq : Nat) (s : State) (hs : Same m a s)
    (hm_free : m.free = true := by first | rfl | assumption) (hm_regs : m.regs = true := by first | rfl | assumption)
    (hm_far : m.far = true := by first | rfl | assumption) (hm_firmware : m.firmware = true := by first | rfl | assumption)
    (hm_whistle : m.whistle = true := by first | rfl | assumption) (hm_log : m.log = true := by first | rfl | assumption)
    (hm_logSeq : m.logSeq = true := by first | rfl | assumption) :
    Same m a (fcNetLoad p seq s) := by
  unfold fcNetLoad
  simp (maxDischargeDepth := 30) [hs, hm_free, hm_regs, hm_far, hm_firmware, hm_whistle, hm_log, hm_logSeq]

@[simp] theorem fcTransfer_same (op : Nat) (p : Fin 2) (seq : Nat) (s : State) (hs : Same m a s)
    (hm_regs : m.regs = true := by first | rfl | assumption) (hm_far : m.far = true := by first | rfl | assumption)
    (hm_firmware : m.firmware = true := by first | rfl | assumption) (hm_whistle : m.whistle = true := by first | rfl | assumption) :
    Same m a (fcTransfer op p seq s) := by
  unfold fcTransfer
  simp (maxDischargeDepth := 30) [hs, hm_regs, hm_far, hm_firmware, hm_whistle]

@[simp] theorem fcEnd_same (s : State) (r : FcRun) (result : Nat) (hs : Same m a s) (hm_regs : m.regs = true := by first | rfl | assumption)
    (hm_far : m.far = true := by first | rfl | assumption) (hm_firmware : m.firmware = true := by first | rfl | assumption)
    (hm_whistle : m.whistle = true := by first | rfl | assumption) :
    Same m a (fcEnd s r result) := by
  unfold fcEnd
  simp (maxDischargeDepth := 30) [hs, hm_regs, hm_far, hm_firmware, hm_whistle]

@[simp] theorem fcFail_same (s : State) (r : FcRun) (hs : Same m a s) (hm_free : m.free = true := by first | rfl | assumption)
    (hm_regs : m.regs = true := by first | rfl | assumption) (hm_far : m.far = true := by first | rfl | assumption)
    (hm_firmware : m.firmware = true := by first | rfl | assumption) (hm_whistle : m.whistle = true := by first | rfl | assumption)
    (hm_log : m.log = true := by first | rfl | assumption) (hm_logSeq : m.logSeq = true := by first | rfl | assumption) :
    Same m a (fcFail s r) := by
  unfold fcFail
  simp (maxDischargeDepth := 30) [hs, hm_free, hm_regs, hm_far, hm_firmware, hm_whistle, hm_log, hm_logSeq]

@[simp] theorem abandonLoad_same (s : State) (hs : Same m a s) (hm_regs : m.regs = true := by first | rfl | assumption) :
    Same m a (abandonLoad s) := by
  unfold abandonLoad
  simp (maxDischargeDepth := 30) [hs, hm_regs]

@[simp] theorem networkComplete_same (s : State) (ok : Bool) (data : List Byte) (e : Fin 2) (frames : BitVec 64) (hs : Same m a s)
    (hm_free : m.free = true := by first | rfl | assumption) (hm_regs : m.regs = true := by first | rfl | assumption)
    (hm_hbm : m.hbm = true := by first | rfl | assumption) (hm_barrel : m.barrel = true := by first | rfl | assumption)
    (hm_far : m.far = true := by first | rfl | assumption) (hm_flaws : m.flaws = true := by first | rfl | assumption)
    (hm_firmware : m.firmware = true := by first | rfl | assumption) (hm_whistle : m.whistle = true := by first | rfl | assumption)
    (hm_lantern : m.lantern = true := by first | rfl | assumption) (hm_log : m.log = true := by first | rfl | assumption)
    (hm_logSeq : m.logSeq = true := by first | rfl | assumption) (hm_out : m.out = true := by first | rfl | assumption) :
    Same m a (networkComplete s ok data e frames) := by
  unfold networkComplete
  dsimp only
  (repeat' split) <;> simp (maxDischargeDepth := 30) [hs, hm_free, hm_regs, hm_hbm, hm_barrel, hm_far, hm_flaws, hm_firmware, hm_whistle, hm_lantern, hm_log, hm_logSeq, hm_out]

@[simp] theorem fcCancel_same (s : State) (p : Fin 2) (seq : Nat) (hs : Same m a s) (hm_free : m.free = true := by first | rfl | assumption)
    (hm_regs : m.regs = true := by first | rfl | assumption) (hm_far : m.far = true := by first | rfl | assumption)
    (hm_firmware : m.firmware = true := by first | rfl | assumption) (hm_whistle : m.whistle = true := by first | rfl | assumption)
    (hm_log : m.log = true := by first | rfl | assumption) (hm_logSeq : m.logSeq = true := by first | rfl | assumption) :
    Same m a (fcCancel s p seq) := by
  unfold fcCancel
  (repeat' split) <;> simp (maxDischargeDepth := 30) [hs, hm_free, hm_regs, hm_far, hm_firmware, hm_whistle, hm_log, hm_logSeq]

@[simp] theorem fcStage_same (s : State) (hs : Same m a s) (hm_free : m.free = true := by first | rfl | assumption)
    (hm_regs : m.regs = true := by first | rfl | assumption) (hm_whistle : m.whistle = true := by first | rfl | assumption)
    (hm_flash : m.flash = true := by first | rfl | assumption) (hm_log : m.log = true := by first | rfl | assumption)
    (hm_logSeq : m.logSeq = true := by first | rfl | assumption) :
    Same m a (fcStage s).2 := by
  unfold fcStage
  simp (maxDischargeDepth := 30) [hs, hm_free, hm_regs, hm_whistle, hm_flash, hm_log, hm_logSeq]

@[simp] theorem fcStStatus_same (s : State) (hs : Same m a s) (hm_regs : m.regs = true := by first | rfl | assumption) :
    Same m a (fcStStatus s).2 := by
  unfold fcStStatus
  dsimp only
  (repeat' split) <;> simp (maxDischargeDepth := 30) [hs, hm_regs]

@[simp] theorem fcStCancel_same (s : State) (hs : Same m a s) (hm_free : m.free = true := by first | rfl | assumption)
    (hm_regs : m.regs = true := by first | rfl | assumption) (hm_whistle : m.whistle = true := by first | rfl | assumption)
    (hm_startup : m.startup = true := by first | rfl | assumption) (hm_log : m.log = true := by first | rfl | assumption)
    (hm_logSeq : m.logSeq = true := by first | rfl | assumption) :
    Same m a (fcStCancel s).2 := by
  unfold fcStCancel
  (repeat' split) <;> simp (maxDischargeDepth := 30) [hs, hm_free, hm_regs, hm_whistle, hm_startup, hm_log, hm_logSeq]

@[simp] theorem telemetrySend_same (s : State) (hs : Same m a s) (hm_free : m.free = true := by first | rfl | assumption)
    (hm_regs : m.regs = true := by first | rfl | assumption) (hm_firmware : m.firmware = true := by first | rfl | assumption)
    (hm_whistle : m.whistle = true := by first | rfl | assumption) (hm_log : m.log = true := by first | rfl | assumption)
    (hm_logSeq : m.logSeq = true := by first | rfl | assumption) (hm_out : m.out = true := by first | rfl | assumption) :
    Same m a (telemetrySend s) := by
  unfold telemetrySend
  (repeat' split) <;> simp (maxDischargeDepth := 30) [hs, hm_free, hm_regs, hm_firmware, hm_whistle, hm_log, hm_logSeq, hm_out]

/-! ### Machine/HostAccess.lean -/

@[simp] theorem dropTopo_same (s : State) (y1 : Nat) (n : Nat) (hs : Same m a s) (hm_far : m.far = true := by first | rfl | assumption) :
    Same m a (dropTopo s y1 n) := by
  unfold dropTopo
  (repeat' split) <;> simp (maxDischargeDepth := 30) [hs, hm_far]

@[simp] theorem landVestibule_same (s : State) (p : Fin 2) (priv : Nat) (y3 : Nat) (bs : List Byte) (hs : Same m a s)
    (hm_free : m.free = true := by first | rfl | assumption) (hm_regs : m.regs = true := by first | rfl | assumption)
    (hm_hbm : m.hbm = true := by first | rfl | assumption) (hm_far : m.far = true := by first | rfl | assumption)
    (hm_flaws : m.flaws = true := by first | rfl | assumption) (hm_whistle : m.whistle = true := by first | rfl | assumption)
    (hm_lantern : m.lantern = true := by first | rfl | assumption) (hm_log : m.log = true := by first | rfl | assumption)
    (hm_logSeq : m.logSeq = true := by first | rfl | assumption) :
    Same m a (landVestibule s p priv y3 bs) := by
  unfold landVestibule
  simp (maxDischargeDepth := 30) +contextual [hs, hm_free, hm_regs, hm_hbm, hm_far, hm_flaws, hm_whistle, hm_lantern, hm_log, hm_logSeq]

@[simp] theorem answerRead_same (s : State) (p : Fin 2) (bs : List Byte) (ok : Bool) (hs : Same m a s)
    (hm_lantern : m.lantern = true := by first | rfl | assumption) (hm_out : m.out = true := by first | rfl | assumption) :
    Same m a (answerRead s p bs ok) := by
  unfold answerRead
  simp (maxDischargeDepth := 30) [hs, hm_lantern, hm_out]

@[simp] theorem drainReads_same (s : State) (p : Fin 2) (hs : Same m a s) (hm_free : m.free = true := by first | rfl | assumption)
    (hm_regs : m.regs = true := by first | rfl | assumption) (hm_hosts : m.hosts = true := by first | rfl | assumption)
    (hm_whistle : m.whistle = true := by first | rfl | assumption) (hm_lantern : m.lantern = true := by first | rfl | assumption)
    (hm_log : m.log = true := by first | rfl | assumption) (hm_logSeq : m.logSeq = true := by first | rfl | assumption)
    (hm_out : m.out = true := by first | rfl | assumption) :
    Same m a (drainReads s p) := by
  unfold drainReads
  apply foldl_same _ _ _ hs
  intro s x hs
  dsimp only
  (repeat' split) <;> simp (maxDischargeDepth := 30) [hs, hm_free, hm_regs, hm_hosts, hm_whistle, hm_lantern, hm_log, hm_logSeq, hm_out]

@[simp] theorem unsupported_same (s : State) (p : Fin 2) (event : Bool) (hs : Same m a s)
    (hm_free : m.free = true := by first | rfl | assumption) (hm_regs : m.regs = true := by first | rfl | assumption)
    (hm_whistle : m.whistle = true := by first | rfl | assumption) (hm_log : m.log = true := by first | rfl | assumption)
    (hm_logSeq : m.logSeq = true := by first | rfl | assumption) (hm_logged : m.logged = true := by first | rfl | assumption) :
    Same m a (unsupported s p event) := by
  unfold unsupported
  simp (maxDischargeDepth := 30) [hs, hm_free, hm_regs, hm_whistle, hm_log, hm_logSeq, hm_logged]

@[simp] theorem postWrite_same (s : State) (p : Fin 2) (w : Posted) (hs : Same m a s)
    (hm_hosts : m.hosts = true := by first | rfl | assumption) :
    Same m a (postWrite s p w) := by
  unfold postWrite
  simp (maxDischargeDepth := 30) [hs, hm_hosts]

@[simp] theorem vestPart_same (s : State) (p : Fin 2) (off : Nat) (bs : List Byte) (hs : Same m a s)
    (hm_free : m.free = true := by first | rfl | assumption) (hm_regs : m.regs = true := by first | rfl | assumption)
    (hm_regions : m.regions = true := by first | rfl | assumption) (hm_barrel : m.barrel = true := by first | rfl | assumption)
    (hm_far : m.far = true := by first | rfl | assumption) (hm_flaws : m.flaws = true := by first | rfl | assumption)
    (hm_firewatch : m.firewatch = true := by first | rfl | assumption) (hm_hosts : m.hosts = true := by first | rfl | assumption)
    (hm_whistle : m.whistle = true := by first | rfl | assumption) (hm_lantern : m.lantern = true := by first | rfl | assumption)
    (hm_log : m.log = true := by first | rfl | assumption) (hm_logSeq : m.logSeq = true := by first | rfl | assumption)
    (hm_logged : m.logged = true := by first | rfl | assumption) (hm_out : m.out = true := by first | rfl | assumption) :
    Same m a (vestPart s p off bs) := by
  unfold vestPart
  simp (maxDischargeDepth := 30) [hs, hm_free, hm_regs, hm_regions, hm_barrel, hm_far, hm_flaws, hm_firewatch, hm_hosts, hm_whistle, hm_lantern, hm_log, hm_logSeq, hm_logged, hm_out]

@[simp] theorem readPart_same (s : State) (p : Fin 2) (req : Nat) (off : Nat) (n : Nat) (hs : Same m a s)
    (hm_free : m.free = true := by first | rfl | assumption) (hm_regs : m.regs = true := by first | rfl | assumption)
    (hm_regions : m.regions = true := by first | rfl | assumption) (hm_far : m.far = true := by first | rfl | assumption)
    (hm_firewatch : m.firewatch = true := by first | rfl | assumption) (hm_hosts : m.hosts = true := by first | rfl | assumption)
    (hm_whistle : m.whistle = true := by first | rfl | assumption) (hm_lantern : m.lantern = true := by first | rfl | assumption)
    (hm_log : m.log = true := by first | rfl | assumption) (hm_logSeq : m.logSeq = true := by first | rfl | assumption)
    (hm_logged : m.logged = true := by first | rfl | assumption) (hm_out : m.out = true := by first | rfl | assumption) :
    Same m a (readPart s p req off n) := by
  unfold readPart
  simp (maxDischargeDepth := 30) [hs, hm_free, hm_regs, hm_regions, hm_far, hm_firewatch, hm_hosts, hm_whistle, hm_lantern, hm_log, hm_logSeq, hm_logged, hm_out]

@[simp] theorem vestTimeout_same (s : State) (p : Fin 2) (hs : Same m a s) (hm_free : m.free = true := by first | rfl | assumption)
    (hm_regs : m.regs = true := by first | rfl | assumption) (hm_far : m.far = true := by first | rfl | assumption)
    (hm_hosts : m.hosts = true := by first | rfl | assumption) (hm_whistle : m.whistle = true := by first | rfl | assumption)
    (hm_log : m.log = true := by first | rfl | assumption) (hm_logSeq : m.logSeq = true := by first | rfl | assumption)
    (hm_out : m.out = true := by first | rfl | assumption) :
    Same m a (vestTimeout s p) := by
  unfold vestTimeout
  (repeat' split) <;> simp (maxDischargeDepth := 30) [hs, hm_free, hm_regs, hm_far, hm_hosts, hm_whistle, hm_log, hm_logSeq, hm_out]

/-! ### Machine/RegisterAccess.lean -/

@[simp] theorem setLatch_same (s : State) (q : Requester) (off : Nat) (v : Option W32) (hs : Same m a s)
    (hm_latches : m.latches = true := by first | rfl | assumption) :
    Same m a (setLatch s q off v) := by
  unfold setLatch
  simp (maxDischargeDepth := 30) [hs, hm_latches]

@[simp] theorem clearRegion_same (s : State) (r : Fin 32) (o : Nat) (hw : W64) (hs : Same m a s)
    (hm_regions : m.regions = true := by first | rfl | assumption) :
    Same m a (clearRegion s r o hw) := by
  unfold clearRegion
  simp (maxDischargeDepth := 30) [hs, hm_regions]

@[simp] theorem countStalls_same (s : State) (q : Nat) (hs : Same m a s) (hm_ports : m.ports = true := by first | rfl | assumption) :
    Same m a (countStalls s q) := by
  unfold countStalls
  simp (maxDischargeDepth := 30) +contextual [hs, hm_ports]

@[simp] theorem clearRead_same (s : State) (sp : RegSpec) (off : Nat) (hw : W64) (hs : Same m a s)
    (hm_regs : m.regs = true := by first | rfl | assumption) (hm_pacer : m.pacer = true := by first | rfl | assumption)
    (hm_compass : m.compass = true := by first | rfl | assumption) (hm_regions : m.regions = true := by first | rfl | assumption)
    (hm_ports : m.ports = true := by first | rfl | assumption) (hm_gearLog : m.gearLog = true := by first | rfl | assumption) :
    Same m a (clearRead s sp off hw) := by
  unfold clearRead
  simp (maxDischargeDepth := 30) [hs, hm_regs, hm_pacer, hm_compass, hm_regions, hm_ports, hm_gearLog]

@[simp] theorem clearUpper_same (s : State) (sp : RegSpec) (off : Nat) (hw : W64) (hs : Same m a s)
    (hm_regs : m.regs = true := by first | rfl | assumption) (hm_pacer : m.pacer = true := by first | rfl | assumption)
    (hm_compass : m.compass = true := by first | rfl | assumption) (hm_regions : m.regions = true := by first | rfl | assumption)
    (hm_ports : m.ports = true := by first | rfl | assumption) (hm_gearLog : m.gearLog = true := by first | rfl | assumption) :
    Same m a (clearUpper s sp off hw) := by
  unfold clearUpper
  simp (maxDischargeDepth := 30) [hs, hm_regs, hm_pacer, hm_compass, hm_regions, hm_ports, hm_gearLog]

@[simp] theorem read4_same (s : State) (q : Requester) (off : Nat) (hw : W64) (hs : Same m a s)
    (hm_regs : m.regs = true := by first | rfl | assumption) (hm_latches : m.latches = true := by first | rfl | assumption)
    (hm_pacer : m.pacer = true := by first | rfl | assumption) (hm_compass : m.compass = true := by first | rfl | assumption)
    (hm_regions : m.regions = true := by first | rfl | assumption) (hm_ports : m.ports = true := by first | rfl | assumption)
    (hm_gearLog : m.gearLog = true := by first | rfl | assumption) :
    Same m a (read4 s q off hw).2 := by
  unfold read4
  (repeat' split) <;> simp (maxDischargeDepth := 30) [hs, hm_regs, hm_latches, hm_pacer, hm_compass, hm_regions, hm_ports, hm_gearLog]

@[simp] theorem readBoth_same (s : State) (q : Requester) (off : Nat) (hw : W64) (hs : Same m a s)
    (hm_regs : m.regs = true := by first | rfl | assumption) (hm_latches : m.latches = true := by first | rfl | assumption)
    (hm_pacer : m.pacer = true := by first | rfl | assumption) (hm_compass : m.compass = true := by first | rfl | assumption)
    (hm_regions : m.regions = true := by first | rfl | assumption) (hm_ports : m.ports = true := by first | rfl | assumption)
    (hm_gearLog : m.gearLog = true := by first | rfl | assumption) :
    Same m a (readBoth s q off hw).2 := by
  unfold readBoth; dsimp only; exact read4_same _ _ _ _ (read4_same _ _ _ _ hs)

@[simp] theorem read8_same (s : State) (q : Requester) (off : Nat) (hw : W64) (hs : Same m a s)
    (hm_regs : m.regs = true := by first | rfl | assumption) (hm_latches : m.latches = true := by first | rfl | assumption)
    (hm_pacer : m.pacer = true := by first | rfl | assumption) (hm_compass : m.compass = true := by first | rfl | assumption)
    (hm_regions : m.regions = true := by first | rfl | assumption) (hm_ports : m.ports = true := by first | rfl | assumption)
    (hm_gearLog : m.gearLog = true := by first | rfl | assumption) :
    Same m a (read8 s q off hw).2 := by
  unfold read8
  split
  · split
    · exact clearRead_same _ _ _ _ hs
    · exact readBoth_same _ _ _ _ hs
  · exact readBoth_same _ _ _ _ hs

@[simp] theorem lnRegister_same (s : State) (q : Requester) (cls : Nat) (off : Nat) (n : Nat) (hs : Same m a s)
    (hm_whistle : m.whistle = true := by first | rfl | assumption) (hm_lantern : m.lantern = true := by first | rfl | assumption) :
    Same m a (lnRegister s q cls off n) := by
  unfold lnRegister
  simp (maxDischargeDepth := 30) [hs, hm_whistle, hm_lantern]

@[simp] theorem readPeg_same (s : State) (q : Requester) (off : Nat) (size8 : Bool) (hs : Same m a s)
    (hm_whistle : m.whistle = true := by first | rfl | assumption) (hm_lantern : m.lantern = true := by first | rfl | assumption) :
    Same m a (readPeg s q off size8).2 := by
  unfold readPeg
  simp (maxDischargeDepth := 30) [hs, hm_whistle, hm_lantern]

@[simp] theorem readAccess_same (s : State) (q : Requester) (off : Nat) (size8 : Bool) (hw : W64) (hs : Same m a s)
    (hm_free : m.free = true := by first | rfl | assumption) (hm_regs : m.regs = true := by first | rfl | assumption)
    (hm_latches : m.latches = true := by first | rfl | assumption) (hm_pacer : m.pacer = true := by first | rfl | assumption)
    (hm_compass : m.compass = true := by first | rfl | assumption) (hm_regions : m.regions = true := by first | rfl | assumption)
    (hm_ports : m.ports = true := by first | rfl | assumption) (hm_gearLog : m.gearLog = true := by first | rfl | assumption)
    (hm_whistle : m.whistle = true := by first | rfl | assumption) (hm_lantern : m.lantern = true := by first | rfl | assumption)
    (hm_log : m.log = true := by first | rfl | assumption) (hm_logSeq : m.logSeq = true := by first | rfl | assumption)
    (hm_out : m.out = true := by first | rfl | assumption) :
    Same m a (readAccess s q off size8 hw) := by
  unfold readAccess
  simp (maxDischargeDepth := 30) [hs, hm_free, hm_regs, hm_latches, hm_pacer, hm_compass, hm_regions, hm_ports, hm_gearLog, hm_whistle, hm_lantern, hm_log, hm_logSeq, hm_out]

@[simp] theorem rangeRefused_same (s : State) (off : Nat) (hs : Same m a s) (hm_free : m.free = true := by first | rfl | assumption)
    (hm_regs : m.regs = true := by first | rfl | assumption) (hm_whistle : m.whistle = true := by first | rfl | assumption)
    (hm_log : m.log = true := by first | rfl | assumption) (hm_logSeq : m.logSeq = true := by first | rfl | assumption) :
    Same m a (rangeRefused s off) := by
  unfold rangeRefused
  simp (maxDischargeDepth := 30) [hs, hm_free, hm_regs, hm_whistle, hm_log, hm_logSeq]

@[simp] theorem codedWrite_same (s : State) (sp : RegSpec) (off : Nat) (v : W64) (hw : W64) (hs : Same m a s)
    (hm_free : m.free = true := by first | rfl | assumption) (hm_regs : m.regs = true := by first | rfl | assumption)
    (hm_whistle : m.whistle = true := by first | rfl | assumption) (hm_log : m.log = true := by first | rfl | assumption)
    (hm_logSeq : m.logSeq = true := by first | rfl | assumption) :
    Same m a (codedWrite s sp off v hw) := by
  unfold codedWrite
  simp (maxDischargeDepth := 30) [hs, hm_free, hm_regs, hm_whistle, hm_log, hm_logSeq]

@[simp] theorem writeRegion_same (s : State) (r : Fin 32) (o : Nat) (v : W64) (hw : W64) (hs : Same m a s)
    (hm_regions : m.regions = true := by first | rfl | assumption) :
    Same m a (writeRegion s r o v hw) := by
  unfold writeRegion
  simp (maxDischargeDepth := 30) +contextual [hs, hm_regions]

@[simp] theorem leaseCommand_same (s : State) (p : Fin 2) (op : Nat) (hs : Same m a s)
    (hm_free : m.free = true := by first | rfl | assumption) (hm_regs : m.regs = true := by first | rfl | assumption)
    (hm_firmware : m.firmware = true := by first | rfl | assumption) (hm_whistle : m.whistle = true := by first | rfl | assumption)
    (hm_log : m.log = true := by first | rfl | assumption) (hm_logSeq : m.logSeq = true := by first | rfl | assumption) :
    Same m a (leaseCommand s p op) := by
  unfold leaseCommand
  (repeat' split) <;> simp (maxDischargeDepth := 30) [hs, hm_free, hm_regs, hm_firmware, hm_whistle, hm_log, hm_logSeq]

@[simp] theorem trailCommand_same (s : State) (v : W32) (hs : Same m a s) (hm_free : m.free = true := by first | rfl | assumption)
    (hm_trail : m.trail = true := by first | rfl | assumption) (hm_whistle : m.whistle = true := by first | rfl | assumption) :
    Same m a (trailCommand s v) := by
  unfold trailCommand; (try dsimp only); (repeat' split) <;> simp (maxDischargeDepth := 30) [hs, *]

@[simp] theorem paceNext_same (s : State) (q : Requester) (v : W32) (hs : Same m a s)
    (hm_regs : m.regs = true := by first | rfl | assumption) (hm_pacer : m.pacer = true := by first | rfl | assumption) :
    Same m a (paceNext s q v) := by
  unfold paceNext; (try dsimp only); (repeat' split) <;> simp (maxDischargeDepth := 30) [hs, *]

@[simp] theorem portCommand_same (s : State) (p : Fin 10) (v : W32) (hs : Same m a s)
    (hm_free : m.free = true := by first | rfl | assumption) (hm_regs : m.regs = true := by first | rfl | assumption)
    (hm_ports : m.ports = true := by first | rfl | assumption) (hm_whistle : m.whistle = true := by first | rfl | assumption)
    (hm_log : m.log = true := by first | rfl | assumption) (hm_logSeq : m.logSeq = true := by first | rfl | assumption)
    (hm_out : m.out = true := by first | rfl | assumption) :
    Same m a (portCommand s p v) := by
  unfold portCommand; (try dsimp only); (repeat' split) <;> simp (maxDischargeDepth := 30) [hs, *]

@[simp] theorem actAfter_same (s : State) (off : Nat) (v : W32) (hs : Same m a s) (hm_free : m.free = true := by first | rfl | assumption)
    (hm_regs : m.regs = true := by first | rfl | assumption) (hm_pacer : m.pacer = true := by first | rfl | assumption)
    (hm_compass : m.compass = true := by first | rfl | assumption) (hm_far : m.far = true := by first | rfl | assumption)
    (hm_gearScript : m.gearScript = true := by first | rfl | assumption) (hm_whistle : m.whistle = true := by first | rfl | assumption)
    (hm_lantern : m.lantern = true := by first | rfl | assumption) (hm_log : m.log = true := by first | rfl | assumption)
    (hm_logSeq : m.logSeq = true := by first | rfl | assumption) :
    Same m a (actAfter s off v) := by
  unfold actAfter; (try dsimp only); (repeat' split) <;> simp (maxDischargeDepth := 30) [hs, *]

theorem whistleWrite_same (s : State) (o : Nat) (v : W32) (hw : W32) (hs : Same m a s)
    (hm_free : m.free = true := by first | rfl | assumption) (hm_regs : m.regs = true := by first | rfl | assumption)
    (hm_hosts : m.hosts = true := by first | rfl | assumption) (hm_whistle : m.whistle = true := by first | rfl | assumption)
    (hm_lantern : m.lantern = true := by first | rfl | assumption) (hm_log : m.log = true := by first | rfl | assumption)
    (hm_logSeq : m.logSeq = true := by first | rfl | assumption) (hm_out : m.out = true := by first | rfl | assumption) :
    ∀ t', (whistleWrite s o v hw) = some t' → Same m a t' := by
  unfold whistleWrite
  (repeat' split) <;> simp (maxDischargeDepth := 30) [hs, hm_free, hm_regs, hm_hosts, hm_whistle, hm_lantern, hm_log, hm_logSeq, hm_out]

@[simp] theorem writeMsix_same (s : State) (q : Requester) (off : Nat) (v : W32) (hs : Same m a s)
    (hm_hosts : m.hosts = true := by first | rfl | assumption) (hm_lantern : m.lantern = true := by first | rfl | assumption)
    (hm_out : m.out = true := by first | rfl | assumption) :
    Same m a (writeMsix s q off v) := by
  unfold writeMsix
  split
  · exact hs
  · exact msixFlush_same _ _ (modHost_same _ _ _ hs)

@[simp] theorem writeBuffer_same (s : State) (off : Nat) (v : W32) (hs : Same m a s)
    (hm_regs : m.regs = true := by first | rfl | assumption) :
    Same m a (writeBuffer s off v) := by
  exact setField_same _ _ _ _ _ hs

theorem writeBarred_same (s : State) (q : Requester) (off : Nat) (hs : Same m a s) (hm_free : m.free = true := by first | rfl | assumption)
    (hm_regs : m.regs = true := by first | rfl | assumption) (hm_whistle : m.whistle = true := by first | rfl | assumption)
    (hm_log : m.log = true := by first | rfl | assumption) (hm_logSeq : m.logSeq = true := by first | rfl | assumption)
    (hm_logged : m.logged = true := by first | rfl | assumption) :
    ∀ t', (writeBarred s q off) = some t' → Same m a t' := by
  intro t ht
  unfold writeBarred at ht
  split at ht
  · cases ht; exact hs
  · split at ht
    · exact absurd ht (by simp)
    · split at ht
      · exact absurd ht (by simp)
      · cases ht; exact dropWrite_same _ _ hs

@[simp] theorem oddAccess_same (s : State) (q : Requester) (off : Nat) (size : Size) (write : Bool) (hs : Same m a s)
    (hm_free : m.free = true := by first | rfl | assumption) (hm_regs : m.regs = true := by first | rfl | assumption)
    (hm_whistle : m.whistle = true := by first | rfl | assumption) (hm_lantern : m.lantern = true := by first | rfl | assumption)
    (hm_log : m.log = true := by first | rfl | assumption) (hm_logSeq : m.logSeq = true := by first | rfl | assumption)
    (hm_logged : m.logged = true := by first | rfl | assumption) (hm_out : m.out = true := by first | rfl | assumption) :
    Same m a (oddAccess s q off size write) := by
  unfold oddAccess
  extract_lets peg
  have hp : ∀ t, Same m a t → Same m a (peg t) := fun t ht => ite_same _ _ _ (fun _ => logEvent_same _ _ ht) (fun _ => ht)
  clear_value peg
  split
  · split
    · rename_i t e
      have hb := writeBarred_same _ q off (hostBytes_same _ q 0 (Size.bytes size) hs)
      exact hb t e
    · exact hp _ (hostBytes_same _ _ _ _ hs)
  · exact answer_same _ _ _ (hp _ (hostBytes_same _ _ _ _ hs))

/-! ### Machine/Idle.lean -/

@[simp] theorem countHeld_same (s : State) (hs : Same m a s) (hm_regs : m.regs = true := by first | rfl | assumption) :
    Same m a (countHeld s) := by
  unfold countHeld
  simp (maxDischargeDepth := 30) [hs, hm_regs]

end Sys2Proof.Machine
end

