-- ==== Sys2Proof/Laws/SameMeanings.lean ====
section
/-!
SUPPORT. Laws/SameMeanings.lean: which fields may change in each meaning that cannot reset the module.
-/

namespace Sys2Proof.Machine

set_option Elab.async false

variable {m : Mask} {a : State}

theorem direct_same (s : State) (r : Fin 32) (i : Instr) (f : Ctx → State → State) (hs : Same m a s)
    (hf : ∀ (z0 : Ctx) (z1 : State), Same m a z1 → Same m a (f z0 z1)) (hm_regions : m.regions = true := by first | rfl | assumption)
    (hm_whistle : m.whistle = true := by first | rfl | assumption) (hm_lantern : m.lantern = true := by first | rfl | assumption) :
    ∀ t', (direct s r i f) = .next t' → Same m a t' := by
  intro t ht; unfold direct at ht; (repeat' split at ht) <;> simp at ht <;> subst ht <;> simp (maxDischargeDepth := 30) +contextual [hs, hf, hm_regions, hm_whistle, hm_lantern]

theorem directThru_same (s : State) (r : Fin 32) (i : Instr) (f : Ctx → State → State) (hs : Same m a s)
    (hf : ∀ (z0 : Ctx) (z1 : State), Same m a z1 → Same m a (f z0 z1)) :
    ∀ t', (directThru s r i f) = .next t' → Same m a t' := by
  intro t ht; unfold directThru at ht; (repeat' split at ht) <;> simp at ht <;> subst ht <;> simp (maxDischargeDepth := 30) +contextual [hs, hf]

theorem execRwinClose_same (r : Fin 32) (f : Fin 7) (wid : BitVec 3) (s : State) (hs : Same m a s)
    (hm_regions : m.regions = true := by first | rfl | assumption) (hm_whistle : m.whistle = true := by first | rfl | assumption)
    (hm_lantern : m.lantern = true := by first | rfl | assumption) :
    ∀ t', (execRwinClose r f wid s) = .next t' → Same m a t' := by
  intro t' ht
  unfold execRwinClose at ht
  exact direct_same _ _ _ _ hs (by simp (maxDischargeDepth := 30) +contextual [hm_regions, hm_whistle, hm_lantern]) hm_regions hm_whistle hm_lantern t' ht

theorem execThru_same (r : Fin 32) (f : Fin 7) (inn : BitVec 3) (nbeats : BitVec 8) (dly : BitVec 4) (s : State) (hs : Same m a s)
    (hm_regions : m.regions = true := by first | rfl | assumption) :
    ∀ t', (execThru r f inn nbeats dly s) = .next t' → Same m a t' := by
  intro t' ht
  unfold execThru at ht
  exact directThru_same _ _ _ _ hs (by simp (maxDischargeDepth := 30) +contextual [hm_regions]) t' ht

theorem execPatrolScrub_same (s : State) (hs : Same m a s) (hm_free : m.free = true := by first | rfl | assumption)
    (hm_regs : m.regs = true := by first | rfl | assumption) (hm_flaws : m.flaws = true := by first | rfl | assumption)
    (hm_whistle : m.whistle = true := by first | rfl | assumption) (hm_log : m.log = true := by first | rfl | assumption)
    (hm_logSeq : m.logSeq = true := by first | rfl | assumption) :
    ∀ t', (execPatrolScrub s) = .next t' → Same m a t' := by
  intro t' ht
  unfold execPatrolScrub at ht
  injection ht with ht
  subst ht
  simp (maxDischargeDepth := 30) [hs, hm_free, hm_regs, hm_flaws, hm_whistle, hm_log, hm_logSeq]

theorem execBread_same (q : Fin 64) (k : Fin 32) (s : State) (hs : Same m a s) (hm_free : m.free = true := by first | rfl | assumption)
    (hm_regs : m.regs = true := by first | rfl | assumption) (hm_regions : m.regions = true := by first | rfl | assumption)
    (hm_hbm : m.hbm = true := by first | rfl | assumption) (hm_barrel : m.barrel = true := by first | rfl | assumption)
    (hm_far : m.far = true := by first | rfl | assumption) (hm_flaws : m.flaws = true := by first | rfl | assumption)
    (hm_firewatch : m.firewatch = true := by first | rfl | assumption) (hm_hosts : m.hosts = true := by first | rfl | assumption)
    (hm_whistle : m.whistle = true := by first | rfl | assumption) (hm_lantern : m.lantern = true := by first | rfl | assumption)
    (hm_log : m.log = true := by first | rfl | assumption) (hm_logSeq : m.logSeq = true := by first | rfl | assumption)
    (hm_out : m.out = true := by first | rfl | assumption) :
    ∀ t', (execBread q k s) = .next t' → Same m a t' := by
  intro t' ht
  unfold execBread at ht
  injection ht with ht
  subst ht
  simp (maxDischargeDepth := 30) +contextual [hs, hm_free, hm_regs, hm_regions, hm_hbm, hm_barrel, hm_far, hm_flaws, hm_firewatch, hm_hosts, hm_whistle, hm_lantern, hm_log, hm_logSeq, hm_out]

theorem execBwrite_same (q : Fin 64) (k : Fin 32) (s : State) (hs : Same m a s) (hm_free : m.free = true := by first | rfl | assumption)
    (hm_regs : m.regs = true := by first | rfl | assumption) (hm_regions : m.regions = true := by first | rfl | assumption)
    (hm_hbm : m.hbm = true := by first | rfl | assumption) (hm_barrel : m.barrel = true := by first | rfl | assumption)
    (hm_far : m.far = true := by first | rfl | assumption) (hm_flaws : m.flaws = true := by first | rfl | assumption)
    (hm_firewatch : m.firewatch = true := by first | rfl | assumption) (hm_hosts : m.hosts = true := by first | rfl | assumption)
    (hm_whistle : m.whistle = true := by first | rfl | assumption) (hm_lantern : m.lantern = true := by first | rfl | assumption)
    (hm_log : m.log = true := by first | rfl | assumption) (hm_logSeq : m.logSeq = true := by first | rfl | assumption)
    (hm_out : m.out = true := by first | rfl | assumption) :
    ∀ t', (execBwrite q k s) = .next t' → Same m a t' := by
  intro t' ht
  unfold execBwrite at ht
  injection ht with ht
  subst ht
  simp (maxDischargeDepth := 30) +contextual [hs, hm_free, hm_regs, hm_regions, hm_hbm, hm_barrel, hm_far, hm_flaws, hm_firewatch, hm_hosts, hm_whistle, hm_lantern, hm_log, hm_logSeq, hm_out]

theorem execHread_same (q : Fin 64) (k : Fin 32) (data : List Byte) (err : Bool) (s : State) (hs : Same m a s)
    (hm_free : m.free = true := by first | rfl | assumption) (hm_regs : m.regs = true := by first | rfl | assumption)
    (hm_regions : m.regions = true := by first | rfl | assumption) (hm_hbm : m.hbm = true := by first | rfl | assumption)
    (hm_barrel : m.barrel = true := by first | rfl | assumption) (hm_far : m.far = true := by first | rfl | assumption)
    (hm_flaws : m.flaws = true := by first | rfl | assumption) (hm_firewatch : m.firewatch = true := by first | rfl | assumption)
    (hm_hosts : m.hosts = true := by first | rfl | assumption) (hm_whistle : m.whistle = true := by first | rfl | assumption)
    (hm_lantern : m.lantern = true := by first | rfl | assumption) (hm_log : m.log = true := by first | rfl | assumption)
    (hm_logSeq : m.logSeq = true := by first | rfl | assumption) (hm_out : m.out = true := by first | rfl | assumption) :
    ∀ t', (execHread q k data err s) = .next t' → Same m a t' := by
  intro t' ht
  unfold execHread at ht
  injection ht with ht
  subst ht
  simp (maxDischargeDepth := 30) +contextual [hs, hm_free, hm_regs, hm_regions, hm_hbm, hm_barrel, hm_far, hm_flaws, hm_firewatch, hm_hosts, hm_whistle, hm_lantern, hm_log, hm_logSeq, hm_out]

theorem execHwrite_same (q : Fin 64) (k : Fin 32) (err : Bool) (s : State) (hs : Same m a s)
    (hm_free : m.free = true := by first | rfl | assumption) (hm_regs : m.regs = true := by first | rfl | assumption)
    (hm_regions : m.regions = true := by first | rfl | assumption) (hm_hbm : m.hbm = true := by first | rfl | assumption)
    (hm_barrel : m.barrel = true := by first | rfl | assumption) (hm_far : m.far = true := by first | rfl | assumption)
    (hm_flaws : m.flaws = true := by first | rfl | assumption) (hm_firewatch : m.firewatch = true := by first | rfl | assumption)
    (hm_hosts : m.hosts = true := by first | rfl | assumption) (hm_whistle : m.whistle = true := by first | rfl | assumption)
    (hm_lantern : m.lantern = true := by first | rfl | assumption) (hm_log : m.log = true := by first | rfl | assumption)
    (hm_logSeq : m.logSeq = true := by first | rfl | assumption) (hm_out : m.out = true := by first | rfl | assumption) :
    ∀ t', (execHwrite q k err s) = .next t' → Same m a t' := by
  intro t' ht
  unfold execHwrite at ht
  injection ht with ht
  subst ht
  simp (maxDischargeDepth := 30) +contextual [hs, hm_free, hm_regs, hm_regions, hm_hbm, hm_barrel, hm_far, hm_flaws, hm_firewatch, hm_hosts, hm_whistle, hm_lantern, hm_log, hm_logSeq, hm_out]

theorem execFqEnable_same (w : Requester) (q : Fin 64) (s : State) (hs : Same m a s)
    (hm_free : m.free = true := by first | rfl | assumption) (hm_regs : m.regs = true := by first | rfl | assumption)
    (hm_whistle : m.whistle = true := by first | rfl | assumption) (hm_lantern : m.lantern = true := by first | rfl | assumption)
    (hm_log : m.log = true := by first | rfl | assumption) (hm_logSeq : m.logSeq = true := by first | rfl | assumption)
    (hm_logged : m.logged = true := by first | rfl | assumption) :
    ∀ t', (execFqEnable w q s) = .next t' → Same m a t' := by
  intro t' ht
  unfold execFqEnable at ht
  injection ht with ht
  subst ht
  simp (maxDischargeDepth := 30) +contextual [hs, hm_free, hm_regs, hm_whistle, hm_lantern, hm_log, hm_logSeq, hm_logged]

theorem execFqDisable_same (w : Requester) (q : Fin 64) (s : State) (hs : Same m a s)
    (hm_free : m.free = true := by first | rfl | assumption) (hm_regs : m.regs = true := by first | rfl | assumption)
    (hm_whistle : m.whistle = true := by first | rfl | assumption) (hm_lantern : m.lantern = true := by first | rfl | assumption)
    (hm_log : m.log = true := by first | rfl | assumption) (hm_logSeq : m.logSeq = true := by first | rfl | assumption)
    (hm_logged : m.logged = true := by first | rfl | assumption) :
    ∀ t', (execFqDisable w q s) = .next t' → Same m a t' := by
  intro t' ht
  unfold execFqDisable at ht
  injection ht with ht
  subst ht
  simp (maxDischargeDepth := 30) +contextual [hs, hm_free, hm_regs, hm_whistle, hm_lantern, hm_log, hm_logSeq, hm_logged]

theorem execFqDisableEffect_same (q : Fin 64) (s : State) (hs : Same m a s) (hm_regs : m.regs = true := by first | rfl | assumption) :
    ∀ t', (execFqDisableEffect q s) = .next t' → Same m a t' := by
  intro t' ht
  unfold execFqDisableEffect at ht
  injection ht with ht
  subst ht
  simp (maxDischargeDepth := 30) [hs, hm_regs]

theorem execInval_same (w : Requester) (i : BitVec 16) (s : State) (hs : Same m a s)
    (hm_free : m.free = true := by first | rfl | assumption) (hm_regs : m.regs = true := by first | rfl | assumption)
    (hm_far : m.far = true := by first | rfl | assumption) (hm_flaws : m.flaws = true := by first | rfl | assumption)
    (hm_whistle : m.whistle = true := by first | rfl | assumption) (hm_lantern : m.lantern = true := by first | rfl | assumption)
    (hm_log : m.log = true := by first | rfl | assumption) (hm_logSeq : m.logSeq = true := by first | rfl | assumption)
    (hm_logged : m.logged = true := by first | rfl | assumption) :
    ∀ t', (execInval w i s) = .next t' → Same m a t' := by
  intro t' ht
  unfold execInval at ht
  injection ht with ht
  subst ht
  simp (maxDischargeDepth := 30) +contextual [hs, hm_free, hm_regs, hm_far, hm_flaws, hm_whistle, hm_lantern, hm_log, hm_logSeq, hm_logged]

theorem execBkListWrite_same (w : Requester) (i : Fin 33) (v : BitVec 32) (s : State) (hs : Same m a s)
    (hm_free : m.free = true := by first | rfl | assumption) (hm_regs : m.regs = true := by first | rfl | assumption)
    (hm_far : m.far = true := by first | rfl | assumption) (hm_whistle : m.whistle = true := by first | rfl | assumption)
    (hm_lantern : m.lantern = true := by first | rfl | assumption) (hm_log : m.log = true := by first | rfl | assumption)
    (hm_logSeq : m.logSeq = true := by first | rfl | assumption) (hm_logged : m.logged = true := by first | rfl | assumption) :
    ∀ t', (execBkListWrite w i v s) = .next t' → Same m a t' := by
  intro t' ht
  unfold execBkListWrite at ht
  injection ht with ht
  subst ht
  simp (maxDischargeDepth := 30) +contextual [hs, hm_free, hm_regs, hm_far, hm_whistle, hm_lantern, hm_log, hm_logSeq, hm_logged]

theorem execAckSend_same (p : Fin 10) (s : State) (hs : Same m a s) (hm_free : m.free = true := by first | rfl | assumption)
    (hm_regs : m.regs = true := by first | rfl | assumption) (hm_ports : m.ports = true := by first | rfl | assumption)
    (hm_whistle : m.whistle = true := by first | rfl | assumption) (hm_log : m.log = true := by first | rfl | assumption)
    (hm_logSeq : m.logSeq = true := by first | rfl | assumption) (hm_out : m.out = true := by first | rfl | assumption) :
    ∀ t', (execAckSend p s) = .next t' → Same m a t' := by
  intro t' ht
  unfold execAckSend at ht
  injection ht with ht
  subst ht
  simp (maxDischargeDepth := 30) [hs, hm_free, hm_regs, hm_ports, hm_whistle, hm_log, hm_logSeq, hm_out]

theorem execReplayTimeout_same (p : Fin 10) (s : State) (hs : Same m a s) (hm_free : m.free = true := by first | rfl | assumption)
    (hm_regs : m.regs = true := by first | rfl | assumption) (hm_ports : m.ports = true := by first | rfl | assumption)
    (hm_whistle : m.whistle = true := by first | rfl | assumption) (hm_log : m.log = true := by first | rfl | assumption)
    (hm_logSeq : m.logSeq = true := by first | rfl | assumption) :
    ∀ t', (execReplayTimeout p s) = .next t' → Same m a t' := by
  intro t' ht
  unfold execReplayTimeout at ht
  injection ht with ht
  subst ht
  simp (maxDischargeDepth := 30) [hs, hm_free, hm_regs, hm_ports, hm_whistle, hm_log, hm_logSeq]

theorem execCreditSend_same (p : Fin 10) (c : Fin 4) (s : State) (hs : Same m a s) (hm_free : m.free = true := by first | rfl | assumption)
    (hm_regs : m.regs = true := by first | rfl | assumption) (hm_ports : m.ports = true := by first | rfl | assumption)
    (hm_whistle : m.whistle = true := by first | rfl | assumption) (hm_log : m.log = true := by first | rfl | assumption)
    (hm_logSeq : m.logSeq = true := by first | rfl | assumption) (hm_out : m.out = true := by first | rfl | assumption) :
    ∀ t', (execCreditSend p c s) = .next t' → Same m a t' := by
  intro t' ht
  unfold execCreditSend at ht
  injection ht with ht
  subst ht
  simp (maxDischargeDepth := 30) [hs, hm_free, hm_regs, hm_ports, hm_whistle, hm_log, hm_logSeq, hm_out]

theorem execCredit_same (p : Fin 10) (v : BitVec 64) (s : State) (hs : Same m a s) (hm_free : m.free = true := by first | rfl | assumption)
    (hm_regs : m.regs = true := by first | rfl | assumption) (hm_ports : m.ports = true := by first | rfl | assumption)
    (hm_whistle : m.whistle = true := by first | rfl | assumption) (hm_log : m.log = true := by first | rfl | assumption)
    (hm_logSeq : m.logSeq = true := by first | rfl | assumption) :
    ∀ t', (execCredit p v s) = .next t' → Same m a t' := by
  intro t' ht
  unfold execCredit at ht
  injection ht with ht
  subst ht
  simp (maxDischargeDepth := 30) +contextual [hs, hm_free, hm_regs, hm_ports, hm_whistle, hm_log, hm_logSeq]

theorem execCreditTimeout_same (p : Fin 10) (c : Fin 4) (s : State) (hs : Same m a s)
    (hm_free : m.free = true := by first | rfl | assumption) (hm_regs : m.regs = true := by first | rfl | assumption)
    (hm_ports : m.ports = true := by first | rfl | assumption) (hm_whistle : m.whistle = true := by first | rfl | assumption)
    (hm_log : m.log = true := by first | rfl | assumption) (hm_logSeq : m.logSeq = true := by first | rfl | assumption)
    (hm_out : m.out = true := by first | rfl | assumption) :
    ∀ t', (execCreditTimeout p c s) = .next t' → Same m a t' := by
  intro t' ht
  unfold execCreditTimeout at ht
  injection ht with ht
  subst ht
  simp (maxDischargeDepth := 30) [hs, hm_free, hm_regs, hm_ports, hm_whistle, hm_log, hm_logSeq, hm_out]

theorem execLaneBad_same (p : Fin 10) (lane : Fin 16) (s : State) (hs : Same m a s) (hm_free : m.free = true := by first | rfl | assumption)
    (hm_regs : m.regs = true := by first | rfl | assumption) (hm_ports : m.ports = true := by first | rfl | assumption)
    (hm_whistle : m.whistle = true := by first | rfl | assumption) (hm_log : m.log = true := by first | rfl | assumption)
    (hm_logSeq : m.logSeq = true := by first | rfl | assumption) (hm_out : m.out = true := by first | rfl | assumption) :
    ∀ t', (execLaneBad p lane s) = .next t' → Same m a t' := by
  intro t' ht
  unfold execLaneBad at ht
  injection ht with ht
  subst ht
  simp (maxDischargeDepth := 30) [hs, hm_free, hm_regs, hm_ports, hm_whistle, hm_log, hm_logSeq, hm_out]

theorem execPauseReq_same (p : Fin 10) (v : BitVec 64) (s : State) (hs : Same m a s)
    (hm_free : m.free = true := by first | rfl | assumption) (hm_regs : m.regs = true := by first | rfl | assumption)
    (hm_ports : m.ports = true := by first | rfl | assumption) (hm_whistle : m.whistle = true := by first | rfl | assumption)
    (hm_log : m.log = true := by first | rfl | assumption) (hm_logSeq : m.logSeq = true := by first | rfl | assumption)
    (hm_out : m.out = true := by first | rfl | assumption) :
    ∀ t', (execPauseReq p v s) = .next t' → Same m a t' := by
  intro t' ht
  unfold execPauseReq at ht
  injection ht with ht
  subst ht
  simp (maxDischargeDepth := 30) +contextual [hs, hm_free, hm_regs, hm_ports, hm_whistle, hm_log, hm_logSeq, hm_out]

theorem execPauseAck_same (p : Fin 10) (v : BitVec 64) (s : State) (hs : Same m a s)
    (hm_free : m.free = true := by first | rfl | assumption) (hm_regs : m.regs = true := by first | rfl | assumption)
    (hm_ports : m.ports = true := by first | rfl | assumption) (hm_whistle : m.whistle = true := by first | rfl | assumption)
    (hm_log : m.log = true := by first | rfl | assumption) (hm_logSeq : m.logSeq = true := by first | rfl | assumption) :
    ∀ t', (execPauseAck p v s) = .next t' → Same m a t' := by
  intro t' ht
  unfold execPauseAck at ht
  injection ht with ht
  subst ht
  simp (maxDischargeDepth := 30) +contextual [hs, hm_free, hm_regs, hm_ports, hm_whistle, hm_log, hm_logSeq]

theorem execResume_same (p : Fin 10) (v : BitVec 64) (s : State) (hs : Same m a s) (hm_free : m.free = true := by first | rfl | assumption)
    (hm_regs : m.regs = true := by first | rfl | assumption) (hm_ports : m.ports = true := by first | rfl | assumption)
    (hm_whistle : m.whistle = true := by first | rfl | assumption) (hm_log : m.log = true := by first | rfl | assumption)
    (hm_logSeq : m.logSeq = true := by first | rfl | assumption) (hm_out : m.out = true := by first | rfl | assumption) :
    ∀ t', (execResume p v s) = .next t' → Same m a t' := by
  intro t' ht
  unfold execResume at ht
  injection ht with ht
  subst ht
  simp (maxDischargeDepth := 30) +contextual [hs, hm_free, hm_regs, hm_ports, hm_whistle, hm_log, hm_logSeq, hm_out]

theorem execIdent_same (p : Fin 10) (v : BitVec 64) (s : State) (hs : Same m a s) (hm_free : m.free = true := by first | rfl | assumption)
    (hm_regs : m.regs = true := by first | rfl | assumption) (hm_ports : m.ports = true := by first | rfl | assumption)
    (hm_whistle : m.whistle = true := by first | rfl | assumption) (hm_log : m.log = true := by first | rfl | assumption)
    (hm_logSeq : m.logSeq = true := by first | rfl | assumption) (hm_out : m.out = true := by first | rfl | assumption) :
    ∀ t', (execIdent p v s) = .next t' → Same m a t' := by
  intro t' ht
  unfold execIdent at ht
  injection ht with ht
  subst ht
  simp (maxDischargeDepth := 30) +contextual [hs, hm_free, hm_regs, hm_ports, hm_whistle, hm_log, hm_logSeq, hm_out]

theorem execLinkTrainingComplete_same (p : Fin 10) (good : BitVec 16) (markers : BitVec 64) (ber : BitVec 128) (rtt : BitVec 32) (s : State)
    (hs : Same m a s) (hm_free : m.free = true := by first | rfl | assumption) (hm_regs : m.regs = true := by first | rfl | assumption)
    (hm_ports : m.ports = true := by first | rfl | assumption) (hm_whistle : m.whistle = true := by first | rfl | assumption)
    (hm_log : m.log = true := by first | rfl | assumption) (hm_logSeq : m.logSeq = true := by first | rfl | assumption)
    (hm_out : m.out = true := by first | rfl | assumption) :
    ∀ t', (execLinkTrainingComplete p good markers ber rtt s) = .next t' → Same m a t' := by
  intro t' ht
  unfold execLinkTrainingComplete at ht
  injection ht with ht
  subst ht
  simp (maxDischargeDepth := 30) [hs, hm_free, hm_regs, hm_ports, hm_whistle, hm_log, hm_logSeq, hm_out]

theorem execRetrainTimeout_same (p : Fin 10) (s : State) (hs : Same m a s) (hm_free : m.free = true := by first | rfl | assumption)
    (hm_regs : m.regs = true := by first | rfl | assumption) (hm_ports : m.ports = true := by first | rfl | assumption)
    (hm_whistle : m.whistle = true := by first | rfl | assumption) (hm_log : m.log = true := by first | rfl | assumption)
    (hm_logSeq : m.logSeq = true := by first | rfl | assumption) (hm_out : m.out = true := by first | rfl | assumption) :
    ∀ t', (execRetrainTimeout p s) = .next t' → Same m a t' := by
  intro t' ht
  unfold execRetrainTimeout at ht
  injection ht with ht
  subst ht
  simp (maxDischargeDepth := 30) [hs, hm_free, hm_regs, hm_ports, hm_whistle, hm_log, hm_logSeq, hm_out]

theorem execLockLossTimeout_same (p : Fin 10) (s : State) (hs : Same m a s) (hm_free : m.free = true := by first | rfl | assumption)
    (hm_regs : m.regs = true := by first | rfl | assumption) (hm_ports : m.ports = true := by first | rfl | assumption)
    (hm_whistle : m.whistle = true := by first | rfl | assumption) (hm_log : m.log = true := by first | rfl | assumption)
    (hm_logSeq : m.logSeq = true := by first | rfl | assumption) :
    ∀ t', (execLockLossTimeout p s) = .next t' → Same m a t' := by
  intro t' ht
  unfold execLockLossTimeout at ht
  injection ht with ht
  subst ht
  simp (maxDischargeDepth := 30) [hs, hm_free, hm_regs, hm_ports, hm_whistle, hm_log, hm_logSeq]

theorem execDownRetry_same (p : Fin 10) (s : State) (hs : Same m a s) (hm_ports : m.ports = true := by first | rfl | assumption) :
    ∀ t', (execDownRetry p s) = .next t' → Same m a t' := by
  intro t' ht
  unfold execDownRetry at ht
  injection ht with ht
  subst ht
  simp (maxDischargeDepth := 30) [hs, hm_ports]

theorem execGlEnable_same (w : Requester) (p : Fin 10) (en : Bool) (s : State) (hs : Same m a s)
    (hm_free : m.free = true := by first | rfl | assumption) (hm_regs : m.regs = true := by first | rfl | assumption)
    (hm_ports : m.ports = true := by first | rfl | assumption) (hm_whistle : m.whistle = true := by first | rfl | assumption)
    (hm_lantern : m.lantern = true := by first | rfl | assumption) (hm_log : m.log = true := by first | rfl | assumption)
    (hm_logSeq : m.logSeq = true := by first | rfl | assumption) (hm_logged : m.logged = true := by first | rfl | assumption) :
    ∀ t', (execGlEnable w p en s) = .next t' → Same m a t' := by
  intro t' ht
  unfold execGlEnable at ht
  injection ht with ht
  subst ht
  simp (maxDischargeDepth := 30) +contextual [hs, hm_free, hm_regs, hm_ports, hm_whistle, hm_lantern, hm_log, hm_logSeq, hm_logged]

theorem execGlRetrain_same (w : Requester) (p : Fin 10) (s : State) (hs : Same m a s)
    (hm_free : m.free = true := by first | rfl | assumption) (hm_regs : m.regs = true := by first | rfl | assumption)
    (hm_ports : m.ports = true := by first | rfl | assumption) (hm_whistle : m.whistle = true := by first | rfl | assumption)
    (hm_lantern : m.lantern = true := by first | rfl | assumption) (hm_log : m.log = true := by first | rfl | assumption)
    (hm_logSeq : m.logSeq = true := by first | rfl | assumption) (hm_logged : m.logged = true := by first | rfl | assumption)
    (hm_out : m.out = true := by first | rfl | assumption) :
    ∀ t', (execGlRetrain w p s) = .next t' → Same m a t' := by
  intro t' ht
  unfold execGlRetrain at ht
  injection ht with ht
  subst ht
  simp (maxDischargeDepth := 30) +contextual [hs, hm_free, hm_regs, hm_ports, hm_whistle, hm_lantern, hm_log, hm_logSeq, hm_logged, hm_out]

theorem execGlRestore_same (w : Requester) (p : Fin 10) (s : State) (hs : Same m a s)
    (hm_free : m.free = true := by first | rfl | assumption) (hm_regs : m.regs = true := by first | rfl | assumption)
    (hm_ports : m.ports = true := by first | rfl | assumption) (hm_whistle : m.whistle = true := by first | rfl | assumption)
    (hm_lantern : m.lantern = true := by first | rfl | assumption) (hm_log : m.log = true := by first | rfl | assumption)
    (hm_logSeq : m.logSeq = true := by first | rfl | assumption) (hm_logged : m.logged = true := by first | rfl | assumption)
    (hm_out : m.out = true := by first | rfl | assumption) :
    ∀ t', (execGlRestore w p s) = .next t' → Same m a t' := by
  intro t' ht
  unfold execGlRestore at ht
  injection ht with ht
  subst ht
  simp (maxDischargeDepth := 30) +contextual [hs, hm_free, hm_regs, hm_ports, hm_whistle, hm_lantern, hm_log, hm_logSeq, hm_logged, hm_out]

theorem execGlSpeed_same (w : Requester) (p : Fin 10) (half : Bool) (s : State) (hs : Same m a s)
    (hm_free : m.free = true := by first | rfl | assumption) (hm_regs : m.regs = true := by first | rfl | assumption)
    (hm_ports : m.ports = true := by first | rfl | assumption) (hm_whistle : m.whistle = true := by first | rfl | assumption)
    (hm_lantern : m.lantern = true := by first | rfl | assumption) (hm_log : m.log = true := by first | rfl | assumption)
    (hm_logSeq : m.logSeq = true := by first | rfl | assumption) (hm_logged : m.logged = true := by first | rfl | assumption)
    (hm_out : m.out = true := by first | rfl | assumption) :
    ∀ t', (execGlSpeed w p half s) = .next t' → Same m a t' := by
  intro t' ht
  unfold execGlSpeed at ht
  injection ht with ht
  subst ht
  simp (maxDischargeDepth := 30) +contextual [hs, hm_free, hm_regs, hm_ports, hm_whistle, hm_lantern, hm_log, hm_logSeq, hm_logged, hm_out]

theorem execSelfCoordWrite_same (w : Requester) (v : BitVec 32) (s : State) (hs : Same m a s)
    (hm_free : m.free = true := by first | rfl | assumption) (hm_regs : m.regs = true := by first | rfl | assumption)
    (hm_ports : m.ports = true := by first | rfl | assumption) (hm_whistle : m.whistle = true := by first | rfl | assumption)
    (hm_lantern : m.lantern = true := by first | rfl | assumption) (hm_log : m.log = true := by first | rfl | assumption)
    (hm_logSeq : m.logSeq = true := by first | rfl | assumption) (hm_logged : m.logged = true := by first | rfl | assumption)
    (hm_out : m.out = true := by first | rfl | assumption) :
    ∀ t', (execSelfCoordWrite w v s) = .next t' → Same m a t' := by
  intro t' ht
  unfold execSelfCoordWrite at ht
  injection ht with ht
  subst ht
  simp (maxDischargeDepth := 30) +contextual [hs, hm_free, hm_regs, hm_ports, hm_whistle, hm_lantern, hm_log, hm_logSeq, hm_logged, hm_out]

theorem execLinkLockReturn_same (p : Fin 10) (s : State) (hs : Same m a s) (hm_free : m.free = true := by first | rfl | assumption)
    (hm_regs : m.regs = true := by first | rfl | assumption) (hm_ports : m.ports = true := by first | rfl | assumption)
    (hm_whistle : m.whistle = true := by first | rfl | assumption) (hm_log : m.log = true := by first | rfl | assumption)
    (hm_logSeq : m.logSeq = true := by first | rfl | assumption) (hm_out : m.out = true := by first | rfl | assumption) :
    ∀ t', (execLinkLockReturn p s) = .next t' → Same m a t' := by
  intro t' ht
  unfold execLinkLockReturn at ht
  injection ht with ht
  subst ht
  simp (maxDischargeDepth := 30) [hs, hm_free, hm_regs, hm_ports, hm_whistle, hm_log, hm_logSeq, hm_out]

theorem execHoldRepeat_same (s : State) (hs : Same m a s) (hm_free : m.free = true := by first | rfl | assumption)
    (hm_regs : m.regs = true := by first | rfl | assumption) (hm_tarp : m.tarp = true := by first | rfl | assumption)
    (hm_ports : m.ports = true := by first | rfl | assumption) (hm_whistle : m.whistle = true := by first | rfl | assumption)
    (hm_log : m.log = true := by first | rfl | assumption) (hm_logSeq : m.logSeq = true := by first | rfl | assumption)
    (hm_out : m.out = true := by first | rfl | assumption) :
    ∀ t', (execHoldRepeat s) = .next t' → Same m a t' := by
  intro t' ht
  unfold execHoldRepeat at ht
  injection ht with ht
  subst ht
  simp (maxDischargeDepth := 30) [hs, hm_free, hm_regs, hm_tarp, hm_ports, hm_whistle, hm_log, hm_logSeq, hm_out]

theorem execReleaseRepeat_same (s : State) (hs : Same m a s) (hm_free : m.free = true := by first | rfl | assumption)
    (hm_regs : m.regs = true := by first | rfl | assumption) (hm_tarp : m.tarp = true := by first | rfl | assumption)
    (hm_ports : m.ports = true := by first | rfl | assumption) (hm_whistle : m.whistle = true := by first | rfl | assumption)
    (hm_log : m.log = true := by first | rfl | assumption) (hm_logSeq : m.logSeq = true := by first | rfl | assumption)
    (hm_out : m.out = true := by first | rfl | assumption) :
    ∀ t', (execReleaseRepeat s) = .next t' → Same m a t' := by
  intro t' ht
  unfold execReleaseRepeat at ht
  injection ht with ht
  subst ht
  simp (maxDischargeDepth := 30) [hs, hm_free, hm_regs, hm_tarp, hm_ports, hm_whistle, hm_log, hm_logSeq, hm_out]

theorem execStrike_same (p : Fin 10) (v : BitVec 64) (s : State) (hs : Same m a s) (hm_free : m.free = true := by first | rfl | assumption)
    (hm_regs : m.regs = true := by first | rfl | assumption) (hm_pacer : m.pacer = true := by first | rfl | assumption)
    (hm_trail : m.trail = true := by first | rfl | assumption) (hm_tarp : m.tarp = true := by first | rfl | assumption)
    (hm_regions : m.regions = true := by first | rfl | assumption) (hm_hubIn : m.hubIn = true := by first | rfl | assumption)
    (hm_ports : m.ports = true := by first | rfl | assumption) (hm_hbm : m.hbm = true := by first | rfl | assumption)
    (hm_far : m.far = true := by first | rfl | assumption) (hm_flaws : m.flaws = true := by first | rfl | assumption)
    (hm_firewatch : m.firewatch = true := by first | rfl | assumption) (hm_whistle : m.whistle = true := by first | rfl | assumption)
    (hm_lantern : m.lantern = true := by first | rfl | assumption) (hm_startup : m.startup = true := by first | rfl | assumption)
    (hm_log : m.log = true := by first | rfl | assumption) (hm_logSeq : m.logSeq = true := by first | rfl | assumption)
    (hm_out : m.out = true := by first | rfl | assumption) :
    ∀ t', (execStrike p v s) = .next t' → Same m a t' := by
  intro t' ht
  unfold execStrike at ht
  injection ht with ht
  subst ht
  simp (maxDischargeDepth := 30) +contextual [hs, hm_free, hm_regs, hm_pacer, hm_trail, hm_tarp, hm_regions, hm_hubIn, hm_ports, hm_hbm, hm_far, hm_flaws, hm_firewatch, hm_whistle, hm_lantern, hm_startup, hm_log, hm_logSeq, hm_out]

theorem execMessageForward_same (p : Fin 10) (c : Fin 4) (s : State) (hs : Same m a s)
    (hm_free : m.free = true := by first | rfl | assumption) (hm_regs : m.regs = true := by first | rfl | assumption)
    (hm_ports : m.ports = true := by first | rfl | assumption) (hm_sinks : m.sinks = true := by first | rfl | assumption)
    (hm_whistle : m.whistle = true := by first | rfl | assumption) (hm_log : m.log = true := by first | rfl | assumption)
    (hm_logSeq : m.logSeq = true := by first | rfl | assumption) :
    ∀ t', (execMessageForward p c s) = .next t' → Same m a t' := by
  intro t' ht
  unfold execMessageForward at ht
  injection ht with ht
  subst ht
  simp (maxDischargeDepth := 30) [hs, hm_free, hm_regs, hm_ports, hm_sinks, hm_whistle, hm_log, hm_logSeq]

theorem execEscapeTimeout_same (p : Fin 10) (c : Fin 4) (s : State) (hs : Same m a s)
    (hm_free : m.free = true := by first | rfl | assumption) (hm_regs : m.regs = true := by first | rfl | assumption)
    (hm_ports : m.ports = true := by first | rfl | assumption) (hm_whistle : m.whistle = true := by first | rfl | assumption)
    (hm_log : m.log = true := by first | rfl | assumption) (hm_logSeq : m.logSeq = true := by first | rfl | assumption) :
    ∀ t', (execEscapeTimeout p c s) = .next t' → Same m a t' := by
  intro t' ht
  unfold execEscapeTimeout at ht
  injection ht with ht
  subst ht
  simp (maxDischargeDepth := 30) [hs, hm_free, hm_regs, hm_ports, hm_whistle, hm_log, hm_logSeq]

theorem execSymbolLock_same (s : State) (hs : Same m a s) (hm_regs : m.regs = true := by first | rfl | assumption) :
    ∀ t', (execSymbolLock s) = .next t' → Same m a t' := by
  intro t' ht
  unfold execSymbolLock at ht
  injection ht with ht
  subst ht
  simp (maxDischargeDepth := 30) [hs, hm_regs]

theorem execSymbolLockLoss_same (s : State) (hs : Same m a s) (hm_free : m.free = true := by first | rfl | assumption)
    (hm_regs : m.regs = true := by first | rfl | assumption) (hm_pacer : m.pacer = true := by first | rfl | assumption)
    (hm_compass : m.compass = true := by first | rfl | assumption) (hm_whistle : m.whistle = true := by first | rfl | assumption)
    (hm_log : m.log = true := by first | rfl | assumption) (hm_logSeq : m.logSeq = true := by first | rfl | assumption) :
    ∀ t', (execSymbolLockLoss s) = .next t' → Same m a t' := by
  intro t' ht
  unfold execSymbolLockLoss at ht
  injection ht with ht
  subst ht
  simp (maxDischargeDepth := 30) [hs, hm_free, hm_regs, hm_pacer, hm_compass, hm_whistle, hm_log, hm_logSeq]

theorem execSlewComplete_same (s : State) (hs : Same m a s) (hm_regs : m.regs = true := by first | rfl | assumption) :
    ∀ t', (execSlewComplete s) = .next t' → Same m a t' := by
  intro t' ht
  unfold execSlewComplete at ht
  injection ht with ht
  subst ht
  simp (maxDischargeDepth := 30) [hs, hm_regs]

theorem execPtpSyncTimeout_same (s : State) (hs : Same m a s) (hm_compass : m.compass = true := by first | rfl | assumption) :
    ∀ t', (execPtpSyncTimeout s) = .next t' → Same m a t' := by
  intro t' ht
  unfold execPtpSyncTimeout at ht
  injection ht with ht
  subst ht
  simp (maxDischargeDepth := 30) [hs, hm_compass]

theorem execPtpOffsetWrite_same (q : Requester) (w : HalfWrite) (s : State) (hs : Same m a s)
    (hm_free : m.free = true := by first | rfl | assumption) (hm_regs : m.regs = true := by first | rfl | assumption)
    (hm_halves : m.halves = true := by first | rfl | assumption) (hm_compass : m.compass = true := by first | rfl | assumption)
    (hm_whistle : m.whistle = true := by first | rfl | assumption) (hm_lantern : m.lantern = true := by first | rfl | assumption)
    (hm_log : m.log = true := by first | rfl | assumption) (hm_logSeq : m.logSeq = true := by first | rfl | assumption)
    (hm_logged : m.logged = true := by first | rfl | assumption) :
    ∀ t', (execPtpOffsetWrite q w s) = .next t' → Same m a t' := by
  intro t' ht
  unfold execPtpOffsetWrite at ht
  injection ht with ht
  subst ht
  simp (maxDischargeDepth := 30) +contextual [hs, hm_free, hm_regs, hm_halves, hm_compass, hm_whistle, hm_lantern, hm_log, hm_logSeq, hm_logged]

theorem execCycleConfigWrite_same (q : Requester) (j : Fin 4) (v : BitVec 32) (s : State) (hs : Same m a s)
    (hm_free : m.free = true := by first | rfl | assumption) (hm_regs : m.regs = true := by first | rfl | assumption)
    (hm_compass : m.compass = true := by first | rfl | assumption) (hm_whistle : m.whistle = true := by first | rfl | assumption)
    (hm_lantern : m.lantern = true := by first | rfl | assumption) (hm_log : m.log = true := by first | rfl | assumption)
    (hm_logSeq : m.logSeq = true := by first | rfl | assumption) (hm_logged : m.logged = true := by first | rfl | assumption) :
    ∀ t', (execCycleConfigWrite q j v s) = .next t' → Same m a t' := by
  intro t' ht
  unfold execCycleConfigWrite at ht
  injection ht with ht
  subst ht
  simp (maxDischargeDepth := 30) +contextual [hs, hm_free, hm_regs, hm_compass, hm_whistle, hm_lantern, hm_log, hm_logSeq, hm_logged]

theorem execCapturePop_same (q : Requester) (s : State) (hs : Same m a s) (hm_compass : m.compass = true := by first | rfl | assumption)
    (hm_lantern : m.lantern = true := by first | rfl | assumption) (hm_out : m.out = true := by first | rfl | assumption) :
    ∀ t', (execCapturePop q s) = .next t' → Same m a t' := by
  intro t' ht
  unfold execCapturePop at ht
  injection ht with ht
  subst ht
  simp (maxDischargeDepth := 30) +contextual [hs, hm_compass, hm_lantern, hm_out]

theorem execGearLogPop_same (q : Requester) (s : State) (hs : Same m a s) (hm_gearLog : m.gearLog = true := by first | rfl | assumption)
    (hm_lantern : m.lantern = true := by first | rfl | assumption) (hm_out : m.out = true := by first | rfl | assumption) :
    ∀ t', (execGearLogPop q s) = .next t' → Same m a t' := by
  intro t' ht
  unfold execGearLogPop at ht
  injection ht with ht
  subst ht
  simp (maxDischargeDepth := 30) +contextual [hs, hm_gearLog, hm_lantern, hm_out]

theorem execGearScriptPush_same (q : Requester) (w : HalfWrite) (s : State) (hs : Same m a s)
    (hm_free : m.free = true := by first | rfl | assumption) (hm_regs : m.regs = true := by first | rfl | assumption)
    (hm_halves : m.halves = true := by first | rfl | assumption) (hm_gearScript : m.gearScript = true := by first | rfl | assumption)
    (hm_whistle : m.whistle = true := by first | rfl | assumption) (hm_lantern : m.lantern = true := by first | rfl | assumption)
    (hm_log : m.log = true := by first | rfl | assumption) (hm_logSeq : m.logSeq = true := by first | rfl | assumption)
    (hm_logged : m.logged = true := by first | rfl | assumption) :
    ∀ t', (execGearScriptPush q w s) = .next t' → Same m a t' := by
  intro t' ht
  unfold execGearScriptPush at ht
  injection ht with ht
  subst ht
  simp (maxDischargeDepth := 30) +contextual [hs, hm_free, hm_regs, hm_halves, hm_gearScript, hm_whistle, hm_lantern, hm_log, hm_logSeq, hm_logged]

theorem execGearScriptEnable_same (q : Requester) (en : Bool) (s : State) (hs : Same m a s)
    (hm_free : m.free = true := by first | rfl | assumption) (hm_regs : m.regs = true := by first | rfl | assumption)
    (hm_gearScript : m.gearScript = true := by first | rfl | assumption) (hm_whistle : m.whistle = true := by first | rfl | assumption)
    (hm_lantern : m.lantern = true := by first | rfl | assumption) (hm_log : m.log = true := by first | rfl | assumption)
    (hm_logSeq : m.logSeq = true := by first | rfl | assumption) (hm_logged : m.logged = true := by first | rfl | assumption) :
    ∀ t', (execGearScriptEnable q en s) = .next t' → Same m a t' := by
  intro t' ht
  unfold execGearScriptEnable at ht
  injection ht with ht
  subst ht
  simp (maxDischargeDepth := 30) +contextual [hs, hm_free, hm_regs, hm_gearScript, hm_whistle, hm_lantern, hm_log, hm_logSeq, hm_logged]

theorem execWeightLoadOpen_same (q : Requester) (s : State) (hs : Same m a s) (hm_free : m.free = true := by first | rfl | assumption)
    (hm_regs : m.regs = true := by first | rfl | assumption) (hm_far : m.far = true := by first | rfl | assumption)
    (hm_whistle : m.whistle = true := by first | rfl | assumption) (hm_lantern : m.lantern = true := by first | rfl | assumption)
    (hm_log : m.log = true := by first | rfl | assumption) (hm_logSeq : m.logSeq = true := by first | rfl | assumption)
    (hm_logged : m.logged = true := by first | rfl | assumption) :
    ∀ t', (execWeightLoadOpen q s) = .next t' → Same m a t' := by
  intro t' ht
  unfold execWeightLoadOpen at ht
  injection ht with ht
  subst ht
  simp (maxDischargeDepth := 30) +contextual [hs, hm_free, hm_regs, hm_far, hm_whistle, hm_lantern, hm_log, hm_logSeq, hm_logged]

theorem execWeightLoadClose_same (q : Requester) (s : State) (hs : Same m a s) (hm_free : m.free = true := by first | rfl | assumption)
    (hm_regs : m.regs = true := by first | rfl | assumption) (hm_whistle : m.whistle = true := by first | rfl | assumption)
    (hm_lantern : m.lantern = true := by first | rfl | assumption) (hm_log : m.log = true := by first | rfl | assumption)
    (hm_logSeq : m.logSeq = true := by first | rfl | assumption) (hm_logged : m.logged = true := by first | rfl | assumption) :
    ∀ t', (execWeightLoadClose q s) = .next t' → Same m a t' := by
  intro t' ht
  unfold execWeightLoadClose at ht
  injection ht with ht
  subst ht
  simp (maxDischargeDepth := 30) +contextual [hs, hm_free, hm_regs, hm_whistle, hm_lantern, hm_log, hm_logSeq, hm_logged]

theorem execPermitRelease_same (s : State) (hs : Same m a s) (hm_free : m.free = true := by first | rfl | assumption)
    (hm_regs : m.regs = true := by first | rfl | assumption) (hm_pacer : m.pacer = true := by first | rfl | assumption)
    (hm_compass : m.compass = true := by first | rfl | assumption) (hm_whistle : m.whistle = true := by first | rfl | assumption)
    (hm_log : m.log = true := by first | rfl | assumption) (hm_logSeq : m.logSeq = true := by first | rfl | assumption) :
    ∀ t', (execPermitRelease s) = .next t' → Same m a t' := by
  intro t' ht
  unfold execPermitRelease at ht
  injection ht with ht
  subst ht
  simp (maxDischargeDepth := 30) [hs, hm_free, hm_regs, hm_pacer, hm_compass, hm_whistle, hm_log, hm_logSeq]

theorem execPaceArm_same (q : Requester) (w : HalfWrite) (s : State) (hs : Same m a s)
    (hm_free : m.free = true := by first | rfl | assumption) (hm_regs : m.regs = true := by first | rfl | assumption)
    (hm_halves : m.halves = true := by first | rfl | assumption) (hm_pacer : m.pacer = true := by first | rfl | assumption)
    (hm_whistle : m.whistle = true := by first | rfl | assumption) (hm_lantern : m.lantern = true := by first | rfl | assumption)
    (hm_log : m.log = true := by first | rfl | assumption) (hm_logSeq : m.logSeq = true := by first | rfl | assumption)
    (hm_logged : m.logged = true := by first | rfl | assumption) :
    ∀ t', (execPaceArm q w s) = .next t' → Same m a t' := by
  intro t' ht
  unfold execPaceArm at ht
  injection ht with ht
  subst ht
  simp (maxDischargeDepth := 30) +contextual [hs, hm_free, hm_regs, hm_halves, hm_pacer, hm_whistle, hm_lantern, hm_log, hm_logSeq, hm_logged]

theorem execPaceCancel_same (q : Requester) (s : State) (hs : Same m a s) (hm_free : m.free = true := by first | rfl | assumption)
    (hm_regs : m.regs = true := by first | rfl | assumption) (hm_pacer : m.pacer = true := by first | rfl | assumption)
    (hm_whistle : m.whistle = true := by first | rfl | assumption) (hm_lantern : m.lantern = true := by first | rfl | assumption)
    (hm_log : m.log = true := by first | rfl | assumption) (hm_logSeq : m.logSeq = true := by first | rfl | assumption)
    (hm_logged : m.logged = true := by first | rfl | assumption) :
    ∀ t', (execPaceCancel q s) = .next t' → Same m a t' := by
  intro t' ht
  unfold execPaceCancel at ht
  injection ht with ht
  subst ht
  simp (maxDischargeDepth := 30) +contextual [hs, hm_free, hm_regs, hm_pacer, hm_whistle, hm_lantern, hm_log, hm_logSeq, hm_logged]

theorem directSlot_same (s : State) (r : Fin 32) (mask : BitVec 24) (i : Instr) (f : Ctx → State → State) (hs : Same m a s)
    (hf : ∀ (z0 : Ctx) (z1 : State), Same m a z1 → Same m a (f z0 z1)) (hm_regions : m.regions = true := by first | rfl | assumption)
    (hm_whistle : m.whistle = true := by first | rfl | assumption) (hm_lantern : m.lantern = true := by first | rfl | assumption) :
    ∀ t', (directSlot s r mask i f) = .next t' → Same m a t' := by
  intro t' ht
  unfold directSlot at ht
  (repeat' split at ht) <;> first | exact direct_same _ _ _ _ hs hf hm_regions hm_whistle hm_lantern t' ht | cases ht

theorem execHeldRefresh_same (r : Fin 32) (t : Fin 24) (bank : Fin 16) (s : State) (hs : Same m a s)
    (hm_regions : m.regions = true := by first | rfl | assumption) :
    ∀ t', (execHeldRefresh r t bank s) = .next t' → Same m a t' := by
  intro t' ht
  unfold execHeldRefresh at ht
  injection ht with ht
  subst ht
  simp (maxDischargeDepth := 30) [hs, hm_regions]

theorem execBankRestore_same (r : Fin 32) (t : Fin 24) (s : State) (hs : Same m a s)
    (hm_regions : m.regions = true := by first | rfl | assumption) :
    ∀ t', (execBankRestore r t s) = .next t' → Same m a t' := by
  intro t' ht
  unfold execBankRestore at ht
  injection ht with ht
  subst ht
  simp (maxDischargeDepth := 30) [hs, hm_regions]

theorem execIdleTrackRefresh_same (r : Fin 32) (t : Fin 24) (bank : Fin 16) (s : State) (hs : Same m a s)
    (hm_regions : m.regions = true := by first | rfl | assumption) :
    ∀ t', (execIdleTrackRefresh r t bank s) = .next t' → Same m a t' := by
  intro t' ht
  unfold execIdleTrackRefresh at ht
  injection ht with ht
  subst ht
  simp (maxDischargeDepth := 30) [hs, hm_regions]

theorem execTrackLaunchQuiesce_same (r : Fin 32) (t : Fin 24) (s : State) (hs : Same m a s)
    (hm_regions : m.regions = true := by first | rfl | assumption) :
    ∀ t', (execTrackLaunchQuiesce r t s) = .next t' → Same m a t' := by
  intro t' ht
  unfold execTrackLaunchQuiesce at ht
  injection ht with ht
  subst ht
  simp (maxDischargeDepth := 30) [hs, hm_regions]

theorem execEmergencyHoldEnd_same (s : State) (hs : Same m a s) (hm_free : m.free = true := by first | rfl | assumption)
    (hm_regs : m.regs = true := by first | rfl | assumption) (hm_tarp : m.tarp = true := by first | rfl | assumption)
    (hm_compass : m.compass = true := by first | rfl | assumption) (hm_regions : m.regions = true := by first | rfl | assumption)
    (hm_ports : m.ports = true := by first | rfl | assumption) (hm_firewatch : m.firewatch = true := by first | rfl | assumption)
    (hm_whistle : m.whistle = true := by first | rfl | assumption) (hm_log : m.log = true := by first | rfl | assumption)
    (hm_logSeq : m.logSeq = true := by first | rfl | assumption) (hm_out : m.out = true := by first | rfl | assumption) :
    ∀ t', (execEmergencyHoldEnd s) = .next t' → Same m a t' := by
  intro t' ht
  unfold execEmergencyHoldEnd at ht
  injection ht with ht
  subst ht
  simp (maxDischargeDepth := 30) [hs, hm_free, hm_regs, hm_tarp, hm_compass, hm_regions, hm_ports, hm_firewatch, hm_whistle, hm_log, hm_logSeq, hm_out]

theorem execPaceAsk_same (s : State) (hs : Same m a s) (hm_regs : m.regs = true := by first | rfl | assumption)
    (hm_sinks : m.sinks = true := by first | rfl | assumption) (hm_firewatch : m.firewatch = true := by first | rfl | assumption) :
    ∀ t', (execPaceAsk s) = .next t' → Same m a t' := by
  intro t' ht
  unfold execPaceAsk at ht
  injection ht with ht
  subst ht
  simp (maxDischargeDepth := 30) [hs, hm_regs, hm_sinks, hm_firewatch]

theorem execLookoutEpoch_same (s : State) (hs : Same m a s) (hm_ports : m.ports = true := by first | rfl | assumption)
    (hm_sinks : m.sinks = true := by first | rfl | assumption) (hm_firewatch : m.firewatch = true := by first | rfl | assumption) :
    ∀ t', (execLookoutEpoch s) = .next t' → Same m a t' := by
  intro t' ht
  unfold execLookoutEpoch at ht
  injection ht with ht
  subst ht
  simp (maxDischargeDepth := 30) [hs, hm_ports, hm_sinks, hm_firewatch]

theorem execPaceAck_same (s : State) (hs : Same m a s) (hm_regs : m.regs = true := by first | rfl | assumption)
    (hm_sinks : m.sinks = true := by first | rfl | assumption) (hm_firewatch : m.firewatch = true := by first | rfl | assumption) :
    ∀ t', (execPaceAck s) = .next t' → Same m a t' := by
  intro t' ht
  unfold execPaceAck at ht
  injection ht with ht
  subst ht
  simp (maxDischargeDepth := 30) [hs, hm_regs, hm_sinks, hm_firewatch]

theorem execGearVoteCast_same (s : State) (hs : Same m a s) (hm_free : m.free = true := by first | rfl | assumption)
    (hm_regs : m.regs = true := by first | rfl | assumption) (hm_ports : m.ports = true := by first | rfl | assumption)
    (hm_gearScript : m.gearScript = true := by first | rfl | assumption) (hm_firewatch : m.firewatch = true := by first | rfl | assumption)
    (hm_whistle : m.whistle = true := by first | rfl | assumption) (hm_log : m.log = true := by first | rfl | assumption)
    (hm_logSeq : m.logSeq = true := by first | rfl | assumption) (hm_out : m.out = true := by first | rfl | assumption) :
    ∀ t', (execGearVoteCast s) = .next t' → Same m a t' := by
  intro t' ht
  unfold execGearVoteCast at ht
  injection ht with ht
  subst ht
  simp (maxDischargeDepth := 30) [hs, hm_free, hm_regs, hm_ports, hm_gearScript, hm_firewatch, hm_whistle, hm_log, hm_logSeq, hm_out]

theorem execThermalRecovery_same (junction : List (BitVec 10)) (hbm : List (BitVec 8)) (s : State) (hs : Same m a s)
    (hm_startup : m.startup = true := by first | rfl | assumption) :
    ∀ t', (execThermalRecovery junction hbm s) = .next t' → Same m a t' := by
  intro t' ht
  unfold execThermalRecovery at ht
  injection ht with ht
  subst ht
  simp (maxDischargeDepth := 30) [hs, hm_startup]

theorem execModuleStateChange_same (s : State) (hs : Same m a s) (hm_regs : m.regs = true := by first | rfl | assumption)
    (hm_regions : m.regions = true := by first | rfl | assumption) (hm_firewatch : m.firewatch = true := by first | rfl | assumption)
    (hm_hosts : m.hosts = true := by first | rfl | assumption) (hm_whistle : m.whistle = true := by first | rfl | assumption)
    (hm_lantern : m.lantern = true := by first | rfl | assumption) (hm_out : m.out = true := by first | rfl | assumption) :
    ∀ t', (execModuleStateChange s) = .next t' → Same m a t' := by
  intro t' ht
  unfold execModuleStateChange at ht
  injection ht with ht
  subst ht
  simp (maxDischargeDepth := 30) [hs, hm_regs, hm_regions, hm_firewatch, hm_hosts, hm_whistle, hm_lantern, hm_out]

theorem execWakeSignal_same (s : State) (hs : Same m a s) (hm_regs : m.regs = true := by first | rfl | assumption)
    (hm_compass : m.compass = true := by first | rfl | assumption) (hm_regions : m.regions = true := by first | rfl | assumption)
    (hm_firewatch : m.firewatch = true := by first | rfl | assumption) (hm_hosts : m.hosts = true := by first | rfl | assumption)
    (hm_whistle : m.whistle = true := by first | rfl | assumption) (hm_lantern : m.lantern = true := by first | rfl | assumption)
    (hm_out : m.out = true := by first | rfl | assumption) :
    ∀ t', (execWakeSignal s) = .next t' → Same m a t' := by
  intro t' ht
  unfold execWakeSignal at ht
  injection ht with ht
  subst ht
  simp (maxDischargeDepth := 30) [hs, hm_regs, hm_compass, hm_regions, hm_firewatch, hm_hosts, hm_whistle, hm_lantern, hm_out]

theorem execCidle_same (r : Fin 32) (count : BitVec 32) (s : State) (hs : Same m a s)
    (hm_regions : m.regions = true := by first | rfl | assumption) (hm_whistle : m.whistle = true := by first | rfl | assumption)
    (hm_lantern : m.lantern = true := by first | rfl | assumption) :
    ∀ t', (execCidle r count s) = .next t' → Same m a t' := by
  intro t' ht
  unfold execCidle at ht
  exact direct_same _ _ _ _ hs (by simp (maxDischargeDepth := 30) +contextual [hm_regions, hm_whistle, hm_lantern]) hm_regions hm_whistle hm_lantern t' ht

theorem execCrep_same (r : Fin 32) (body : BitVec 12) (total : BitVec 32) (s : State) (hs : Same m a s)
    (hm_regions : m.regions = true := by first | rfl | assumption) (hm_whistle : m.whistle = true := by first | rfl | assumption)
    (hm_lantern : m.lantern = true := by first | rfl | assumption) :
    ∀ t', (execCrep r body total s) = .next t' → Same m a t' := by
  intro t' ht
  unfold execCrep at ht
  exact direct_same _ _ _ _ hs (by simp (maxDischargeDepth := 30) +contextual [hm_regions, hm_whistle, hm_lantern]) hm_regions hm_whistle hm_lantern t' ht

theorem execUnitIdleEntry_same (r : Fin 32) (slot : Fin 64) (depth : Fin 4) (s : State) (hs : Same m a s)
    (hm_regions : m.regions = true := by first | rfl | assumption) :
    ∀ t', (execUnitIdleEntry r slot depth s) = .next t' → Same m a t' := by
  intro t' ht
  unfold execUnitIdleEntry at ht
  injection ht with ht
  subst ht
  simp (maxDischargeDepth := 30) [hs, hm_regions]

theorem execPitchApply_same (q : Requester) (s : State) (hs : Same m a s) (hm_free : m.free = true := by first | rfl | assumption)
    (hm_regs : m.regs = true := by first | rfl | assumption) (hm_pacer : m.pacer = true := by first | rfl | assumption)
    (hm_pitch : m.pitch = true := by first | rfl | assumption) (hm_trail : m.trail = true := by first | rfl | assumption)
    (hm_regions : m.regions = true := by first | rfl | assumption) (hm_pegTouched : m.pegTouched = true := by first | rfl | assumption)
    (hm_firewatch : m.firewatch = true := by first | rfl | assumption) (hm_whistle : m.whistle = true := by first | rfl | assumption)
    (hm_lantern : m.lantern = true := by first | rfl | assumption) (hm_startup : m.startup = true := by first | rfl | assumption)
    (hm_log : m.log = true := by first | rfl | assumption) (hm_logSeq : m.logSeq = true := by first | rfl | assumption)
    (hm_logged : m.logged = true := by first | rfl | assumption) :
    ∀ t', (execPitchApply q s) = .next t' → Same m a t' := by
  intro t' ht
  unfold execPitchApply at ht
  (repeat' split at ht) <;> first | cases ht; done | (injection ht with ht; subst ht; simp (maxDischargeDepth := 30) +contextual [hs, hm_free, hm_regs, hm_pacer, hm_pitch, hm_trail, hm_regions, hm_pegTouched, hm_firewatch, hm_whistle, hm_lantern, hm_startup, hm_log, hm_logSeq, hm_logged])

theorem execTrailLoad_same (q : Requester) (s : State) (hs : Same m a s) (hm_free : m.free = true := by first | rfl | assumption)
    (hm_regs : m.regs = true := by first | rfl | assumption) (hm_trail : m.trail = true := by first | rfl | assumption)
    (hm_whistle : m.whistle = true := by first | rfl | assumption) (hm_lantern : m.lantern = true := by first | rfl | assumption)
    (hm_log : m.log = true := by first | rfl | assumption) (hm_logSeq : m.logSeq = true := by first | rfl | assumption)
    (hm_logged : m.logged = true := by first | rfl | assumption) :
    ∀ t', (execTrailLoad q s) = .next t' → Same m a t' := by
  intro t' ht
  unfold execTrailLoad at ht
  injection ht with ht
  subst ht
  simp (maxDischargeDepth := 30) +contextual [hs, hm_free, hm_regs, hm_trail, hm_whistle, hm_lantern, hm_log, hm_logSeq, hm_logged]

theorem execTrailLoadComplete_same (s : State) (hs : Same m a s) (hm_free : m.free = true := by first | rfl | assumption)
    (hm_regs : m.regs = true := by first | rfl | assumption) (hm_trail : m.trail = true := by first | rfl | assumption)
    (hm_whistle : m.whistle = true := by first | rfl | assumption) (hm_log : m.log = true := by first | rfl | assumption)
    (hm_logSeq : m.logSeq = true := by first | rfl | assumption) :
    ∀ t', (execTrailLoadComplete s) = .next t' → Same m a t' := by
  intro t' ht
  unfold execTrailLoadComplete at ht
  injection ht with ht
  subst ht
  simp (maxDischargeDepth := 30) [hs, hm_free, hm_regs, hm_trail, hm_whistle, hm_log, hm_logSeq]

theorem execTrailUnload_same (q : Requester) (s : State) (hs : Same m a s) (hm_free : m.free = true := by first | rfl | assumption)
    (hm_regs : m.regs = true := by first | rfl | assumption) (hm_trail : m.trail = true := by first | rfl | assumption)
    (hm_whistle : m.whistle = true := by first | rfl | assumption) (hm_lantern : m.lantern = true := by first | rfl | assumption)
    (hm_log : m.log = true := by first | rfl | assumption) (hm_logSeq : m.logSeq = true := by first | rfl | assumption)
    (hm_logged : m.logged = true := by first | rfl | assumption) :
    ∀ t', (execTrailUnload q s) = .next t' → Same m a t' := by
  intro t' ht
  unfold execTrailUnload at ht
  injection ht with ht
  subst ht
  simp (maxDischargeDepth := 30) +contextual [hs, hm_free, hm_regs, hm_trail, hm_whistle, hm_lantern, hm_log, hm_logSeq, hm_logged]

theorem execLaunchArm_same (q : Requester) (w : HalfWrite) (s : State) (hs : Same m a s)
    (hm_free : m.free = true := by first | rfl | assumption) (hm_regs : m.regs = true := by first | rfl | assumption)
    (hm_halves : m.halves = true := by first | rfl | assumption) (hm_pacer : m.pacer = true := by first | rfl | assumption)
    (hm_trail : m.trail = true := by first | rfl | assumption) (hm_whistle : m.whistle = true := by first | rfl | assumption)
    (hm_lantern : m.lantern = true := by first | rfl | assumption) (hm_startup : m.startup = true := by first | rfl | assumption)
    (hm_log : m.log = true := by first | rfl | assumption) (hm_logSeq : m.logSeq = true := by first | rfl | assumption)
    (hm_logged : m.logged = true := by first | rfl | assumption) :
    ∀ t', (execLaunchArm q w s) = .next t' → Same m a t' := by
  intro t' ht
  unfold execLaunchArm at ht
  injection ht with ht
  subst ht
  simp (maxDischargeDepth := 30) +contextual [hs, hm_free, hm_regs, hm_halves, hm_pacer, hm_trail, hm_whistle, hm_lantern, hm_startup, hm_log, hm_logSeq, hm_logged]

theorem execMsixUnblock_same (p : Fin 2) (c : MsixGate) (s : State) (hs : Same m a s)
    (hm_regs : m.regs = true := by first | rfl | assumption) (hm_hosts : m.hosts = true := by first | rfl | assumption)
    (hm_lantern : m.lantern = true := by first | rfl | assumption) (hm_out : m.out = true := by first | rfl | assumption) :
    ∀ t', (execMsixUnblock p c s) = .next t' → Same m a t' := by
  intro t' ht
  unfold execMsixUnblock at ht
  injection ht with ht
  subst ht
  simp (maxDischargeDepth := 30) [hs, hm_regs, hm_hosts, hm_lantern, hm_out]

theorem execWhistleTimer_same (n : Fin 1024) (s : State) (hs : Same m a s) (hm_whistle : m.whistle = true := by first | rfl | assumption) :
    ∀ t', (execWhistleTimer n s) = .next t' → Same m a t' := by
  intro t' ht
  unfold execWhistleTimer at ht
  injection ht with ht
  subst ht
  simp (maxDischargeDepth := 30) [hs, hm_whistle]

theorem execWhistleDeliver_same (n : Fin 1024) (s : State) (hs : Same m a s) (hm_hosts : m.hosts = true := by first | rfl | assumption)
    (hm_whistle : m.whistle = true := by first | rfl | assumption) (hm_lantern : m.lantern = true := by first | rfl | assumption)
    (hm_out : m.out = true := by first | rfl | assumption) :
    ∀ t', (execWhistleDeliver n s) = .next t' → Same m a t' := by
  intro t' ht
  unfold execWhistleDeliver at ht
  injection ht with ht
  subst ht
  simp (maxDischargeDepth := 30) [hs, hm_hosts, hm_whistle, hm_lantern, hm_out]

theorem execWhistleServiceEnd_same (q : Requester) (w : Fin 32) (v : BitVec 32) (s : State) (hs : Same m a s)
    (hm_free : m.free = true := by first | rfl | assumption) (hm_regs : m.regs = true := by first | rfl | assumption)
    (hm_hosts : m.hosts = true := by first | rfl | assumption) (hm_whistle : m.whistle = true := by first | rfl | assumption)
    (hm_lantern : m.lantern = true := by first | rfl | assumption) (hm_log : m.log = true := by first | rfl | assumption)
    (hm_logSeq : m.logSeq = true := by first | rfl | assumption) (hm_logged : m.logged = true := by first | rfl | assumption)
    (hm_out : m.out = true := by first | rfl | assumption) :
    ∀ t', (execWhistleServiceEnd q w v s) = .next t' → Same m a t' := by
  intro t' ht
  unfold execWhistleServiceEnd at ht
  injection ht with ht
  subst ht
  simp (maxDischargeDepth := 30) +contextual [hs, hm_free, hm_regs, hm_hosts, hm_whistle, hm_lantern, hm_log, hm_logSeq, hm_logged, hm_out]

theorem execWhistlePendSet_same (q : Requester) (w : Fin 32) (v : BitVec 32) (s : State) (hs : Same m a s)
    (hm_free : m.free = true := by first | rfl | assumption) (hm_regs : m.regs = true := by first | rfl | assumption)
    (hm_whistle : m.whistle = true := by first | rfl | assumption) (hm_lantern : m.lantern = true := by first | rfl | assumption)
    (hm_log : m.log = true := by first | rfl | assumption) (hm_logSeq : m.logSeq = true := by first | rfl | assumption)
    (hm_logged : m.logged = true := by first | rfl | assumption) :
    ∀ t', (execWhistlePendSet q w v s) = .next t' → Same m a t' := by
  intro t' ht
  unfold execWhistlePendSet at ht
  injection ht with ht
  subst ht
  simp (maxDischargeDepth := 30) +contextual [hs, hm_free, hm_regs, hm_whistle, hm_lantern, hm_log, hm_logSeq, hm_logged]

theorem execWhistlePendClear_same (q : Requester) (w : Fin 32) (v : BitVec 32) (s : State) (hs : Same m a s)
    (hm_free : m.free = true := by first | rfl | assumption) (hm_regs : m.regs = true := by first | rfl | assumption)
    (hm_whistle : m.whistle = true := by first | rfl | assumption) (hm_lantern : m.lantern = true := by first | rfl | assumption)
    (hm_log : m.log = true := by first | rfl | assumption) (hm_logSeq : m.logSeq = true := by first | rfl | assumption)
    (hm_logged : m.logged = true := by first | rfl | assumption) :
    ∀ t', (execWhistlePendClear q w v s) = .next t' → Same m a t' := by
  intro t' ht
  unfold execWhistlePendClear at ht
  injection ht with ht
  subst ht
  simp (maxDischargeDepth := 30) +contextual [hs, hm_free, hm_regs, hm_whistle, hm_lantern, hm_log, hm_logSeq, hm_logged]

theorem execWhistleSourceConfig_same (q : Requester) (n : Fin 1024) (time : Bool) (v : BitVec 32) (s : State) (hs : Same m a s)
    (hm_free : m.free = true := by first | rfl | assumption) (hm_regs : m.regs = true := by first | rfl | assumption)
    (hm_whistle : m.whistle = true := by first | rfl | assumption) (hm_lantern : m.lantern = true := by first | rfl | assumption)
    (hm_log : m.log = true := by first | rfl | assumption) (hm_logSeq : m.logSeq = true := by first | rfl | assumption)
    (hm_logged : m.logged = true := by first | rfl | assumption) :
    ∀ t', (execWhistleSourceConfig q n time v s) = .next t' → Same m a t' := by
  intro t' ht
  unfold execWhistleSourceConfig at ht
  injection ht with ht
  subst ht
  simp (maxDischargeDepth := 30) +contextual [hs, hm_free, hm_regs, hm_whistle, hm_lantern, hm_log, hm_logSeq, hm_logged]

theorem execWhistleRetentionWake_same (ok : Bool) (s : State) (hs : Same m a s) (hm_free : m.free = true := by first | rfl | assumption)
    (hm_regs : m.regs = true := by first | rfl | assumption) (hm_hosts : m.hosts = true := by first | rfl | assumption)
    (hm_whistle : m.whistle = true := by first | rfl | assumption) (hm_lantern : m.lantern = true := by first | rfl | assumption)
    (hm_log : m.log = true := by first | rfl | assumption) (hm_logSeq : m.logSeq = true := by first | rfl | assumption)
    (hm_out : m.out = true := by first | rfl | assumption) :
    ∀ t', (execWhistleRetentionWake ok s) = .next t' → Same m a t' := by
  intro t' ht
  unfold execWhistleRetentionWake at ht
  injection ht with ht
  subst ht
  simp (maxDischargeDepth := 30) [hs, hm_free, hm_regs, hm_hosts, hm_whistle, hm_lantern, hm_log, hm_logSeq, hm_out]

theorem execLanternClear_same (q : Requester) (s : State) (hs : Same m a s) (hm_free : m.free = true := by first | rfl | assumption)
    (hm_regs : m.regs = true := by first | rfl | assumption) (hm_whistle : m.whistle = true := by first | rfl | assumption)
    (hm_lantern : m.lantern = true := by first | rfl | assumption) (hm_log : m.log = true := by first | rfl | assumption)
    (hm_logSeq : m.logSeq = true := by first | rfl | assumption) (hm_logged : m.logged = true := by first | rfl | assumption) :
    ∀ t', (execLanternClear q s) = .next t' → Same m a t' := by
  intro t' ht
  unfold execLanternClear at ht
  injection ht with ht
  subst ht
  simp (maxDischargeDepth := 30) +contextual [hs, hm_free, hm_regs, hm_whistle, hm_lantern, hm_log, hm_logSeq, hm_logged]

theorem execLanternThaw_same (q : Requester) (s : State) (hs : Same m a s) (hm_free : m.free = true := by first | rfl | assumption)
    (hm_regs : m.regs = true := by first | rfl | assumption) (hm_whistle : m.whistle = true := by first | rfl | assumption)
    (hm_lantern : m.lantern = true := by first | rfl | assumption) (hm_log : m.log = true := by first | rfl | assumption)
    (hm_logSeq : m.logSeq = true := by first | rfl | assumption) (hm_logged : m.logged = true := by first | rfl | assumption) :
    ∀ t', (execLanternThaw q s) = .next t' → Same m a t' := by
  intro t' ht
  unfold execLanternThaw at ht
  injection ht with ht
  subst ht
  simp (maxDischargeDepth := 30) +contextual [hs, hm_free, hm_regs, hm_whistle, hm_lantern, hm_log, hm_logSeq, hm_logged]

theorem execLanternFreezeArm_same (q : Requester) (w : HalfWrite) (s : State) (hs : Same m a s)
    (hm_free : m.free = true := by first | rfl | assumption) (hm_regs : m.regs = true := by first | rfl | assumption)
    (hm_halves : m.halves = true := by first | rfl | assumption) (hm_whistle : m.whistle = true := by first | rfl | assumption)
    (hm_lantern : m.lantern = true := by first | rfl | assumption) (hm_log : m.log = true := by first | rfl | assumption)
    (hm_logSeq : m.logSeq = true := by first | rfl | assumption) (hm_logged : m.logged = true := by first | rfl | assumption) :
    ∀ t', (execLanternFreezeArm q w s) = .next t' → Same m a t' := by
  intro t' ht
  unfold execLanternFreezeArm at ht
  injection ht with ht
  subst ht
  simp (maxDischargeDepth := 30) +contextual [hs, hm_free, hm_regs, hm_halves, hm_whistle, hm_lantern, hm_log, hm_logSeq, hm_logged]

theorem execLanternSnapshot_same (s : State) (hs : Same m a s) (hm_regs : m.regs = true := by first | rfl | assumption)
    (hm_whistle : m.whistle = true := by first | rfl | assumption) (hm_lantern : m.lantern = true := by first | rfl | assumption) :
    ∀ t', (execLanternSnapshot s) = .next t' → Same m a t' := by
  intro t' ht
  unfold execLanternSnapshot at ht
  injection ht with ht
  subst ht
  simp (maxDischargeDepth := 30) [hs, hm_regs, hm_whistle, hm_lantern]

theorem execBandwidthWindow_same (s : State) (hs : Same m a s) (hm_regs : m.regs = true := by first | rfl | assumption)
    (hm_lantern : m.lantern = true := by first | rfl | assumption) :
    ∀ t', (execBandwidthWindow s) = .next t' → Same m a t' := by
  intro t' ht
  unfold execBandwidthWindow at ht
  injection ht with ht
  subst ht
  simp (maxDischargeDepth := 30) [hs, hm_regs, hm_lantern]

theorem execTraceRecord_same (r : Fin 32) (s : State) (hs : Same m a s) (hm_free : m.free = true := by first | rfl | assumption)
    (hm_regs : m.regs = true := by first | rfl | assumption) (hm_whistle : m.whistle = true := by first | rfl | assumption)
    (hm_lantern : m.lantern = true := by first | rfl | assumption) (hm_log : m.log = true := by first | rfl | assumption)
    (hm_logSeq : m.logSeq = true := by first | rfl | assumption) :
    ∀ t', (execTraceRecord r s) = .next t' → Same m a t' := by
  intro t' ht
  unfold execTraceRecord at ht
  injection ht with ht
  subst ht
  simp (maxDischargeDepth := 30) [hs, hm_free, hm_regs, hm_whistle, hm_lantern, hm_log, hm_logSeq]

theorem execTraceReset_same (q : Requester) (s : State) (hs : Same m a s) (hm_free : m.free = true := by first | rfl | assumption)
    (hm_regs : m.regs = true := by first | rfl | assumption) (hm_whistle : m.whistle = true := by first | rfl | assumption)
    (hm_lantern : m.lantern = true := by first | rfl | assumption) (hm_log : m.log = true := by first | rfl | assumption)
    (hm_logSeq : m.logSeq = true := by first | rfl | assumption) (hm_logged : m.logged = true := by first | rfl | assumption) :
    ∀ t', (execTraceReset q s) = .next t' → Same m a t' := by
  intro t' ht
  unfold execTraceReset at ht
  injection ht with ht
  subst ht
  simp (maxDischargeDepth := 30) +contextual [hs, hm_free, hm_regs, hm_whistle, hm_lantern, hm_log, hm_logSeq, hm_logged]

theorem execHostLinkTrained_same (p : Fin 2) (speed : Fin 3) (width : Fin 4) (s : State) (hs : Same m a s)
    (hm_free : m.free = true := by first | rfl | assumption) (hm_regs : m.regs = true := by first | rfl | assumption)
    (hm_whistle : m.whistle = true := by first | rfl | assumption) (hm_log : m.log = true := by first | rfl | assumption)
    (hm_logSeq : m.logSeq = true := by first | rfl | assumption) :
    ∀ t', (execHostLinkTrained p speed width s) = .next t' → Same m a t' := by
  intro t' ht
  unfold execHostLinkTrained at ht
  injection ht with ht
  subst ht
  simp (maxDischargeDepth := 30) [hs, hm_free, hm_regs, hm_whistle, hm_log, hm_logSeq]

theorem execAcquire_same (p : Fin 2) (s : State) (hs : Same m a s) (hm_free : m.free = true := by first | rfl | assumption)
    (hm_regs : m.regs = true := by first | rfl | assumption) (hm_firmware : m.firmware = true := by first | rfl | assumption)
    (hm_whistle : m.whistle = true := by first | rfl | assumption) (hm_log : m.log = true := by first | rfl | assumption)
    (hm_logSeq : m.logSeq = true := by first | rfl | assumption) :
    ∀ t', (execAcquire p s) = .next t' → Same m a t' := by
  intro t' ht
  unfold execAcquire at ht
  injection ht with ht
  subst ht
  simp (maxDischargeDepth := 30) [hs, hm_free, hm_regs, hm_firmware, hm_whistle, hm_log, hm_logSeq]

theorem execRenew_same (p : Fin 2) (s : State) (hs : Same m a s) (hm_firmware : m.firmware = true := by first | rfl | assumption) :
    ∀ t', (execRenew p s) = .next t' → Same m a t' := by
  intro t' ht
  unfold execRenew at ht
  injection ht with ht
  subst ht
  simp (maxDischargeDepth := 30) [hs, hm_firmware]

theorem execReleaseLease_same (p : Fin 2) (s : State) (hs : Same m a s) (hm_free : m.free = true := by first | rfl | assumption)
    (hm_regs : m.regs = true := by first | rfl | assumption) (hm_whistle : m.whistle = true := by first | rfl | assumption)
    (hm_log : m.log = true := by first | rfl | assumption) (hm_logSeq : m.logSeq = true := by first | rfl | assumption) :
    ∀ t', (execReleaseLease p s) = .next t' → Same m a t' := by
  intro t' ht
  unfold execReleaseLease at ht
  injection ht with ht
  subst ht
  simp (maxDischargeDepth := 30) [hs, hm_free, hm_regs, hm_whistle, hm_log, hm_logSeq]

theorem execLeaseExpiry_same (s : State) (hs : Same m a s) (hm_free : m.free = true := by first | rfl | assumption)
    (hm_regs : m.regs = true := by first | rfl | assumption) (hm_whistle : m.whistle = true := by first | rfl | assumption)
    (hm_log : m.log = true := by first | rfl | assumption) (hm_logSeq : m.logSeq = true := by first | rfl | assumption) :
    ∀ t', (execLeaseExpiry s) = .next t' → Same m a t' := by
  intro t' ht
  unfold execLeaseExpiry at ht
  injection ht with ht
  subst ht
  simp (maxDischargeDepth := 30) [hs, hm_free, hm_regs, hm_whistle, hm_log, hm_logSeq]

theorem execEthernetFrame_same (e : Fin 2) (frame : List Byte) (check : FrameCheck) (s : State) (hs : Same m a s)
    (hm_free : m.free = true := by first | rfl | assumption) (hm_regs : m.regs = true := by first | rfl | assumption)
    (hm_compass : m.compass = true := by first | rfl | assumption) (hm_whistle : m.whistle = true := by first | rfl | assumption)
    (hm_log : m.log = true := by first | rfl | assumption) (hm_logSeq : m.logSeq = true := by first | rfl | assumption)
    (hm_logged : m.logged = true := by first | rfl | assumption) (hm_out : m.out = true := by first | rfl | assumption) :
    ∀ t', (execEthernetFrame e frame check s) = .next t' → Same m a t' := by
  intro t' ht
  unfold execEthernetFrame at ht
  injection ht with ht
  subst ht
  simp (maxDischargeDepth := 30) [hs, hm_free, hm_regs, hm_compass, hm_whistle, hm_log, hm_logSeq, hm_logged, hm_out]

theorem execEthernetLinkDown_same (e : Fin 2) (lanes : BitVec 4) (s : State) (hs : Same m a s)
    (hm_free : m.free = true := by first | rfl | assumption) (hm_regs : m.regs = true := by first | rfl | assumption)
    (hm_whistle : m.whistle = true := by first | rfl | assumption) (hm_log : m.log = true := by first | rfl | assumption)
    (hm_logSeq : m.logSeq = true := by first | rfl | assumption) :
    ∀ t', (execEthernetLinkDown e lanes s) = .next t' → Same m a t' := by
  intro t' ht
  unfold execEthernetLinkDown at ht
  injection ht with ht
  subst ht
  simp (maxDischargeDepth := 30) [hs, hm_free, hm_regs, hm_whistle, hm_log, hm_logSeq]

theorem execEthernetLinkUp_same (e : Fin 2) (lanes : BitVec 4) (s : State) (hs : Same m a s)
    (hm_regs : m.regs = true := by first | rfl | assumption) :
    ∀ t', (execEthernetLinkUp e lanes s) = .next t' → Same m a t' := by
  intro t' ht
  unfold execEthernetLinkUp at ht
  injection ht with ht
  subst ht
  simp (maxDischargeDepth := 30) [hs, hm_regs]

theorem execSpareSweep_same (r : Fin 32) (k : Fin 9) (pass : Bool) (s : State) (hs : Same m a s)
    (hm_free : m.free = true := by first | rfl | assumption) (hm_regs : m.regs = true := by first | rfl | assumption)
    (hm_whistle : m.whistle = true := by first | rfl | assumption) (hm_startup : m.startup = true := by first | rfl | assumption)
    (hm_log : m.log = true := by first | rfl | assumption) (hm_logSeq : m.logSeq = true := by first | rfl | assumption) :
    ∀ t', (execSpareSweep r k pass s) = .next t' → Same m a t' := by
  intro t' ht
  unfold execSpareSweep at ht
  injection ht with ht
  subst ht
  simp (maxDischargeDepth := 30) [hs, hm_free, hm_regs, hm_whistle, hm_startup, hm_log, hm_logSeq]

theorem execInputRestored_same (low high : BitVec 16) (ms : BitVec 32) (s : State) (hs : Same m a s) (hm_regs : m.regs = true := by first | rfl | assumption)
    (hm_startup : m.startup = true := by first | rfl | assumption) :
    ∀ t', (execInputRestored low high ms s) = .next t' → Same m a t' := by
  intro t' ht
  unfold execInputRestored at ht
  injection ht with ht
  subst ht
  simp (maxDischargeDepth := 30) [hs, hm_regs, hm_startup]

theorem execEntryLimitUpdate_same (volt : BitVec 16) (pairs : List Pair) (s : State) (hs : Same m a s)
    (hm_free : m.free = true := by first | rfl | assumption) (hm_regs : m.regs = true := by first | rfl | assumption)
    (hm_firewatch : m.firewatch = true := by first | rfl | assumption) (hm_whistle : m.whistle = true := by first | rfl | assumption)
    (hm_log : m.log = true := by first | rfl | assumption) (hm_logSeq : m.logSeq = true := by first | rfl | assumption)
    (hm_startup : m.startup = true := by first | rfl | assumption) :
    ∀ t', (execEntryLimitUpdate volt pairs s) = .next t' → Same m a t' := by
  intro t' ht
  unfold execEntryLimitUpdate at ht
  injection ht with ht
  subst ht
  simp (maxDischargeDepth := 30) [hs, hm_free, hm_regs, hm_firewatch, hm_whistle, hm_log, hm_startup, hm_logSeq]

theorem execPairLost_same (i : Fin 4) (pairs : List Pair) (s : State) (hs : Same m a s) (hm_free : m.free = true := by first | rfl | assumption)
    (hm_regs : m.regs = true := by first | rfl | assumption) (hm_whistle : m.whistle = true := by first | rfl | assumption)
    (hm_log : m.log = true := by first | rfl | assumption) (hm_logSeq : m.logSeq = true := by first | rfl | assumption)
    (hm_startup : m.startup = true := by first | rfl | assumption) :
    ∀ t', (execPairLost i pairs s) = .next t' → Same m a t' := by
  intro t' ht
  unfold execPairLost at ht
  injection ht with ht
  subst ht
  simp (maxDischargeDepth := 30) [hs, hm_free, hm_regs, hm_whistle, hm_log, hm_startup, hm_logSeq]

theorem execPairReturn_same (i : Fin 4) (pairs : List Pair) (s : State) (hs : Same m a s) (hm_free : m.free = true := by first | rfl | assumption)
    (hm_regs : m.regs = true := by first | rfl | assumption) (hm_whistle : m.whistle = true := by first | rfl | assumption)
    (hm_log : m.log = true := by first | rfl | assumption) (hm_logSeq : m.logSeq = true := by first | rfl | assumption)
    (hm_startup : m.startup = true := by first | rfl | assumption) :
    ∀ t', (execPairReturn i pairs s) = .next t' → Same m a t' := by
  intro t' ht
  unfold execPairReturn at ht
  injection ht with ht
  subst ht
  simp (maxDischargeDepth := 30) [hs, hm_free, hm_regs, hm_whistle, hm_log, hm_startup, hm_logSeq]

theorem execPairRestored_same (s : State) (hs : Same m a s) (hm_regs : m.regs = true := by first | rfl | assumption)
    (hm_startup : m.startup = true := by first | rfl | assumption) :
    ∀ t', (execPairRestored s) = .next t' → Same m a t' := by
  intro t' ht
  unfold execPairRestored at ht
  injection ht with ht
  subst ht
  simp (maxDischargeDepth := 30) [hs, hm_regs, hm_startup]

theorem execLampInsert_same (l : Fin 8) (typeOk : Bool) (serial : BitVec 64) (s : State) (hs : Same m a s)
    (hm_free : m.free = true := by first | rfl | assumption) (hm_regs : m.regs = true := by first | rfl | assumption)
    (hm_whistle : m.whistle = true := by first | rfl | assumption) (hm_startup : m.startup = true := by first | rfl | assumption)
    (hm_log : m.log = true := by first | rfl | assumption) (hm_logSeq : m.logSeq = true := by first | rfl | assumption) :
    ∀ t', (execLampInsert l typeOk serial s) = .next t' → Same m a t' := by
  intro t' ht
  unfold execLampInsert at ht
  injection ht with ht
  subst ht
  simp (maxDischargeDepth := 30) [hs, hm_free, hm_regs, hm_whistle, hm_startup, hm_log, hm_logSeq]

theorem execLampRampDone_same (l : Fin 8) (own : BitVec 16) (other : BitVec 16) (s : State) (hs : Same m a s)
    (hm_regs : m.regs = true := by first | rfl | assumption) (hm_ports : m.ports = true := by first | rfl | assumption)
    (hm_startup : m.startup = true := by first | rfl | assumption) :
    ∀ t', (execLampRampDone l own other s) = .next t' → Same m a t' := by
  intro t' ht
  unfold execLampRampDone at ht
  injection ht with ht
  subst ht
  simp (maxDischargeDepth := 30) [hs, hm_regs, hm_ports, hm_startup]

theorem execFibreOpen_same (q : Fin 55) (us : BitVec 32) (s : State) (hs : Same m a s) (hm_free : m.free = true := by first | rfl | assumption)
    (hm_regs : m.regs = true := by first | rfl | assumption) (hm_ports : m.ports = true := by first | rfl | assumption)
    (hm_whistle : m.whistle = true := by first | rfl | assumption) (hm_log : m.log = true := by first | rfl | assumption)
    (hm_logSeq : m.logSeq = true := by first | rfl | assumption) (hm_out : m.out = true := by first | rfl | assumption)
    (hm_startup : m.startup = true := by first | rfl | assumption) :
    ∀ t', (execFibreOpen q us s) = .next t' → Same m a t' := by
  intro t' ht
  unfold execFibreOpen at ht
  injection ht with ht
  subst ht
  simp (maxDischargeDepth := 30) [hs, hm_free, hm_regs, hm_ports, hm_whistle, hm_log, hm_logSeq, hm_out, hm_startup]

theorem execFibreProbe_same (q : Fin 55) (s : State) (hs : Same m a s) (hm_out : m.out = true := by first | rfl | assumption)
    (hm_startup : m.startup = true := by first | rfl | assumption) :
    ∀ t', (execFibreProbe q s) = .next t' → Same m a t' := by
  intro t' ht
  unfold execFibreProbe at ht
  injection ht with ht
  subst ht
  simp (maxDischargeDepth := 30) [hs, hm_out, hm_startup]

theorem execFibreRestored_same (q : Fin 55) (us : BitVec 32) (s : State) (hs : Same m a s) (hm_regs : m.regs = true := by first | rfl | assumption)
    (hm_startup : m.startup = true := by first | rfl | assumption) :
    ∀ t', (execFibreRestored q us s) = .next t' → Same m a t' := by
  intro t' ht
  unfold execFibreRestored at ht
  injection ht with ht
  subst ht
  simp (maxDischargeDepth := 30) [hs, hm_regs, hm_startup]

theorem execSelftestRun_same (s : State) (hs : Same m a s) (hm_regs : m.regs = true := by first | rfl | assumption)
    (hm_pacer : m.pacer = true := by first | rfl | assumption) (hm_startup : m.startup = true := by first | rfl | assumption) :
    ∀ t', (execSelftestRun s) = .next t' → Same m a t' := by
  intro t' ht
  unfold execSelftestRun at ht
  injection ht with ht
  subst ht
  simp (maxDischargeDepth := 30) [hs, hm_regs, hm_pacer, hm_startup]

theorem execSelftestTimeout_same (s : State) (hs : Same m a s) (hm_free : m.free = true := by first | rfl | assumption)
    (hm_regs : m.regs = true := by first | rfl | assumption) (hm_whistle : m.whistle = true := by first | rfl | assumption)
    (hm_startup : m.startup = true := by first | rfl | assumption) (hm_log : m.log = true := by first | rfl | assumption)
    (hm_logSeq : m.logSeq = true := by first | rfl | assumption) :
    ∀ t', (execSelftestTimeout s) = .next t' → Same m a t' := by
  intro t' ht
  unfold execSelftestTimeout at ht
  injection ht with ht
  subst ht
  simp (maxDischargeDepth := 30) [hs, hm_free, hm_regs, hm_whistle, hm_startup, hm_log, hm_logSeq]

theorem execInfo_same (p : Fin 2) (seq : BitVec 8) (s : State) (hs : Same m a s) (hm_free : m.free = true := by first | rfl | assumption)
    (hm_regs : m.regs = true := by first | rfl | assumption) (hm_whistle : m.whistle = true := by first | rfl | assumption)
    (hm_log : m.log = true := by first | rfl | assumption) (hm_logSeq : m.logSeq = true := by first | rfl | assumption) :
    ∀ t', (execInfo p seq s) = .next t' → Same m a t' := by
  intro t' ht
  unfold execInfo at ht
  injection ht with ht
  subst ht
  simp (maxDischargeDepth := 30) +contextual [hs, hm_free, hm_regs, hm_whistle, hm_log, hm_logSeq]

theorem execEvents_same (p : Fin 2) (seq : BitVec 8) (s : State) (hs : Same m a s) (hm_free : m.free = true := by first | rfl | assumption)
    (hm_regs : m.regs = true := by first | rfl | assumption) (hm_whistle : m.whistle = true := by first | rfl | assumption)
    (hm_log : m.log = true := by first | rfl | assumption) (hm_logSeq : m.logSeq = true := by first | rfl | assumption) :
    ∀ t', (execEvents p seq s) = .next t' → Same m a t' := by
  intro t' ht
  unfold execEvents at ht
  injection ht with ht
  subst ht
  simp (maxDischargeDepth := 30) +contextual [hs, hm_free, hm_regs, hm_whistle, hm_log, hm_logSeq]

theorem execCoord_same (p : Fin 2) (seq : BitVec 8) (s : State) (hs : Same m a s) (hm_free : m.free = true := by first | rfl | assumption)
    (hm_regs : m.regs = true := by first | rfl | assumption) (hm_ports : m.ports = true := by first | rfl | assumption)
    (hm_whistle : m.whistle = true := by first | rfl | assumption) (hm_log : m.log = true := by first | rfl | assumption)
    (hm_logSeq : m.logSeq = true := by first | rfl | assumption) (hm_out : m.out = true := by first | rfl | assumption) :
    ∀ t', (execCoord p seq s) = .next t' → Same m a t' := by
  intro t' ht
  unfold execCoord at ht
  injection ht with ht
  subst ht
  simp (maxDischargeDepth := 30) +contextual [hs, hm_free, hm_regs, hm_ports, hm_whistle, hm_log, hm_logSeq, hm_out]

theorem execNetCfg_same (p : Fin 2) (seq : BitVec 8) (s : State) (hs : Same m a s) (hm_free : m.free = true := by first | rfl | assumption)
    (hm_regs : m.regs = true := by first | rfl | assumption) (hm_firmware : m.firmware = true := by first | rfl | assumption)
    (hm_whistle : m.whistle = true := by first | rfl | assumption) (hm_log : m.log = true := by first | rfl | assumption)
    (hm_logSeq : m.logSeq = true := by first | rfl | assumption) :
    ∀ t', (execNetCfg p seq s) = .next t' → Same m a t' := by
  intro t' ht
  unfold execNetCfg at ht
  injection ht with ht
  subst ht
  simp (maxDischargeDepth := 30) +contextual [hs, hm_free, hm_regs, hm_firmware, hm_whistle, hm_log, hm_logSeq]

theorem execNetLoad_same (p : Fin 2) (seq : BitVec 8) (s : State) (hs : Same m a s) (hm_free : m.free = true := by first | rfl | assumption)
    (hm_regs : m.regs = true := by first | rfl | assumption) (hm_far : m.far = true := by first | rfl | assumption)
    (hm_firmware : m.firmware = true := by first | rfl | assumption) (hm_whistle : m.whistle = true := by first | rfl | assumption)
    (hm_log : m.log = true := by first | rfl | assumption) (hm_logSeq : m.logSeq = true := by first | rfl | assumption) :
    ∀ t', (execNetLoad p seq s) = .next t' → Same m a t' := by
  intro t' ht
  unfold execNetLoad at ht
  injection ht with ht
  subst ht
  simp (maxDischargeDepth := 30) +contextual [hs, hm_free, hm_regs, hm_far, hm_firmware, hm_whistle, hm_log, hm_logSeq]

theorem execNetPut_same (p : Fin 2) (seq : BitVec 8) (s : State) (hs : Same m a s) (hm_free : m.free = true := by first | rfl | assumption)
    (hm_regs : m.regs = true := by first | rfl | assumption) (hm_far : m.far = true := by first | rfl | assumption)
    (hm_firmware : m.firmware = true := by first | rfl | assumption) (hm_whistle : m.whistle = true := by first | rfl | assumption)
    (hm_log : m.log = true := by first | rfl | assumption) (hm_logSeq : m.logSeq = true := by first | rfl | assumption) :
    ∀ t', (execNetPut p seq s) = .next t' → Same m a t' := by
  intro t' ht
  unfold execNetPut at ht
  injection ht with ht
  subst ht
  simp (maxDischargeDepth := 30) +contextual [hs, hm_free, hm_regs, hm_far, hm_firmware, hm_whistle, hm_log, hm_logSeq]

theorem execNetGet_same (p : Fin 2) (seq : BitVec 8) (s : State) (hs : Same m a s) (hm_free : m.free = true := by first | rfl | assumption)
    (hm_regs : m.regs = true := by first | rfl | assumption) (hm_far : m.far = true := by first | rfl | assumption)
    (hm_firmware : m.firmware = true := by first | rfl | assumption) (hm_whistle : m.whistle = true := by first | rfl | assumption)
    (hm_log : m.log = true := by first | rfl | assumption) (hm_logSeq : m.logSeq = true := by first | rfl | assumption) :
    ∀ t', (execNetGet p seq s) = .next t' → Same m a t' := by
  intro t' ht
  unfold execNetGet at ht
  injection ht with ht
  subst ht
  simp (maxDischargeDepth := 30) +contextual [hs, hm_free, hm_regs, hm_far, hm_firmware, hm_whistle, hm_log, hm_logSeq]

theorem execNetworkCommandComplete_same (ok : Bool) (data : List Byte) (e : Fin 2) (frames : BitVec 64) (s : State) (hs : Same m a s)
    (hm_free : m.free = true := by first | rfl | assumption) (hm_regs : m.regs = true := by first | rfl | assumption)
    (hm_hbm : m.hbm = true := by first | rfl | assumption) (hm_barrel : m.barrel = true := by first | rfl | assumption)
    (hm_far : m.far = true := by first | rfl | assumption) (hm_flaws : m.flaws = true := by first | rfl | assumption)
    (hm_firmware : m.firmware = true := by first | rfl | assumption) (hm_whistle : m.whistle = true := by first | rfl | assumption)
    (hm_lantern : m.lantern = true := by first | rfl | assumption) (hm_log : m.log = true := by first | rfl | assumption)
    (hm_logSeq : m.logSeq = true := by first | rfl | assumption) (hm_out : m.out = true := by first | rfl | assumption) :
    ∀ t', (execNetworkCommandComplete ok data e frames s) = .next t' → Same m a t' := by
  intro t' ht
  unfold execNetworkCommandComplete at ht
  injection ht with ht
  subst ht
  simp (maxDischargeDepth := 30) [hs, hm_free, hm_regs, hm_hbm, hm_barrel, hm_far, hm_flaws, hm_firmware, hm_whistle, hm_lantern, hm_log, hm_logSeq, hm_out]

theorem execTlmCfg_same (p : Fin 2) (seq : BitVec 8) (s : State) (hs : Same m a s) (hm_free : m.free = true := by first | rfl | assumption)
    (hm_regs : m.regs = true := by first | rfl | assumption) (hm_firmware : m.firmware = true := by first | rfl | assumption)
    (hm_whistle : m.whistle = true := by first | rfl | assumption) (hm_log : m.log = true := by first | rfl | assumption)
    (hm_logSeq : m.logSeq = true := by first | rfl | assumption) :
    ∀ t', (execTlmCfg p seq s) = .next t' → Same m a t' := by
  intro t' ht
  unfold execTlmCfg at ht
  injection ht with ht
  subst ht
  simp (maxDischargeDepth := 30) +contextual [hs, hm_free, hm_regs, hm_firmware, hm_whistle, hm_log, hm_logSeq]

theorem execCancel_same (p : Fin 2) (seq : BitVec 8) (s : State) (hs : Same m a s) (hm_free : m.free = true := by first | rfl | assumption)
    (hm_regs : m.regs = true := by first | rfl | assumption) (hm_far : m.far = true := by first | rfl | assumption)
    (hm_firmware : m.firmware = true := by first | rfl | assumption) (hm_whistle : m.whistle = true := by first | rfl | assumption)
    (hm_log : m.log = true := by first | rfl | assumption) (hm_logSeq : m.logSeq = true := by first | rfl | assumption) :
    ∀ t', (execCancel p seq s) = .next t' → Same m a t' := by
  intro t' ht
  unfold execCancel at ht
  injection ht with ht
  subst ht
  simp (maxDischargeDepth := 30) [hs, hm_free, hm_regs, hm_far, hm_firmware, hm_whistle, hm_log, hm_logSeq]

theorem execAttest_same (p : Fin 2) (seq : BitVec 8) (s : State) (hs : Same m a s) (hm_free : m.free = true := by first | rfl | assumption)
    (hm_regs : m.regs = true := by first | rfl | assumption) (hm_whistle : m.whistle = true := by first | rfl | assumption)
    (hm_log : m.log = true := by first | rfl | assumption) (hm_logSeq : m.logSeq = true := by first | rfl | assumption) :
    ∀ t', (execAttest p seq s) = .next t' → Same m a t' := by
  intro t' ht
  unfold execAttest at ht
  injection ht with ht
  subst ht
  simp (maxDischargeDepth := 30) +contextual [hs, hm_free, hm_regs, hm_whistle, hm_log, hm_logSeq]

theorem execCert_same (p : Fin 2) (seq : BitVec 8) (s : State) (hs : Same m a s) (hm_free : m.free = true := by first | rfl | assumption)
    (hm_regs : m.regs = true := by first | rfl | assumption) (hm_whistle : m.whistle = true := by first | rfl | assumption)
    (hm_log : m.log = true := by first | rfl | assumption) (hm_logSeq : m.logSeq = true := by first | rfl | assumption) :
    ∀ t', (execCert p seq s) = .next t' → Same m a t' := by
  intro t' ht
  unfold execCert at ht
  injection ht with ht
  subst ht
  simp (maxDischargeDepth := 30) +contextual [hs, hm_free, hm_regs, hm_whistle, hm_log, hm_logSeq]

theorem execMap_same (p : Fin 2) (seq : BitVec 8) (s : State) (hs : Same m a s) (hm_free : m.free = true := by first | rfl | assumption)
    (hm_regs : m.regs = true := by first | rfl | assumption) (hm_whistle : m.whistle = true := by first | rfl | assumption)
    (hm_log : m.log = true := by first | rfl | assumption) (hm_logSeq : m.logSeq = true := by first | rfl | assumption) :
    ∀ t', (execMap p seq s) = .next t' → Same m a t' := by
  intro t' ht
  unfold execMap at ht
  injection ht with ht
  subst ht
  simp (maxDischargeDepth := 30) +contextual [hs, hm_free, hm_regs, hm_whistle, hm_log, hm_logSeq]

theorem execFwStage_same (p : Fin 2) (seq : BitVec 8) (s : State) (hs : Same m a s) (hm_free : m.free = true := by first | rfl | assumption)
    (hm_regs : m.regs = true := by first | rfl | assumption) (hm_whistle : m.whistle = true := by first | rfl | assumption)
    (hm_flash : m.flash = true := by first | rfl | assumption) (hm_log : m.log = true := by first | rfl | assumption)
    (hm_logSeq : m.logSeq = true := by first | rfl | assumption) :
    ∀ t', (execFwStage p seq s) = .next t' → Same m a t' := by
  intro t' ht
  unfold execFwStage at ht
  injection ht with ht
  subst ht
  simp (maxDischargeDepth := 30) +contextual [hs, hm_free, hm_regs, hm_whistle, hm_flash, hm_log, hm_logSeq]

theorem execStStatus_same (p : Fin 2) (seq : BitVec 8) (s : State) (hs : Same m a s)
    (hm_free : m.free = true := by first | rfl | assumption) (hm_regs : m.regs = true := by first | rfl | assumption)
    (hm_whistle : m.whistle = true := by first | rfl | assumption) (hm_log : m.log = true := by first | rfl | assumption)
    (hm_logSeq : m.logSeq = true := by first | rfl | assumption) :
    ∀ t', (execStStatus p seq s) = .next t' → Same m a t' := by
  intro t' ht
  unfold execStStatus at ht
  injection ht with ht
  subst ht
  simp (maxDischargeDepth := 30) +contextual [hs, hm_free, hm_regs, hm_whistle, hm_log, hm_logSeq]

theorem execStCancel_same (p : Fin 2) (seq : BitVec 8) (s : State) (hs : Same m a s)
    (hm_free : m.free = true := by first | rfl | assumption) (hm_regs : m.regs = true := by first | rfl | assumption)
    (hm_whistle : m.whistle = true := by first | rfl | assumption) (hm_startup : m.startup = true := by first | rfl | assumption)
    (hm_log : m.log = true := by first | rfl | assumption) (hm_logSeq : m.logSeq = true := by first | rfl | assumption) :
    ∀ t', (execStCancel p seq s) = .next t' → Same m a t' := by
  intro t' ht
  unfold execStCancel at ht
  injection ht with ht
  subst ht
  simp (maxDischargeDepth := 30) +contextual [hs, hm_free, hm_regs, hm_whistle, hm_startup, hm_log, hm_logSeq]

theorem execTelemetrySend_same (s : State) (hs : Same m a s) (hm_free : m.free = true := by first | rfl | assumption)
    (hm_regs : m.regs = true := by first | rfl | assumption) (hm_firmware : m.firmware = true := by first | rfl | assumption)
    (hm_whistle : m.whistle = true := by first | rfl | assumption) (hm_log : m.log = true := by first | rfl | assumption)
    (hm_logSeq : m.logSeq = true := by first | rfl | assumption) (hm_out : m.out = true := by first | rfl | assumption) :
    ∀ t', (execTelemetrySend s) = .next t' → Same m a t' := by
  intro t' ht
  unfold execTelemetrySend at ht
  injection ht with ht
  subst ht
  simp (maxDischargeDepth := 30) [hs, hm_free, hm_regs, hm_firmware, hm_whistle, hm_log, hm_logSeq, hm_out]

theorem execPegWlimWrite_same (q : Requester) (r : Fin 32) (v : BitVec 32) (s : State) (hs : Same m a s)
    (hm_free : m.free = true := by first | rfl | assumption) (hm_regs : m.regs = true := by first | rfl | assumption)
    (hm_whistle : m.whistle = true := by first | rfl | assumption) (hm_lantern : m.lantern = true := by first | rfl | assumption)
    (hm_log : m.log = true := by first | rfl | assumption) (hm_logSeq : m.logSeq = true := by first | rfl | assumption)
    (hm_logged : m.logged = true := by first | rfl | assumption) :
    ∀ t', (execPegWlimWrite q r v s) = .next t' → Same m a t' := by
  intro t' ht
  unfold execPegWlimWrite at ht
  injection ht with ht
  subst ht
  simp (maxDischargeDepth := 30) +contextual [hs, hm_free, hm_regs, hm_whistle, hm_lantern, hm_log, hm_logSeq, hm_logged]

theorem execVestibuleReadTimeout_same (p : Fin 2) (s : State) (hs : Same m a s) (hm_free : m.free = true := by first | rfl | assumption)
    (hm_regs : m.regs = true := by first | rfl | assumption) (hm_far : m.far = true := by first | rfl | assumption)
    (hm_hosts : m.hosts = true := by first | rfl | assumption) (hm_whistle : m.whistle = true := by first | rfl | assumption)
    (hm_log : m.log = true := by first | rfl | assumption) (hm_logSeq : m.logSeq = true := by first | rfl | assumption)
    (hm_out : m.out = true := by first | rfl | assumption) :
    ∀ t', (execVestibuleReadTimeout p s) = .next t' → Same m a t' := by
  intro t' ht
  unfold execVestibuleReadTimeout at ht
  injection ht with ht
  subst ht
  simp (maxDischargeDepth := 30) [hs, hm_free, hm_regs, hm_far, hm_hosts, hm_whistle, hm_log, hm_logSeq, hm_out]

theorem execRegisterReadClear_same (q : Requester) (off : BitVec 26) (size8 : Bool) (hw : BitVec 64) (s : State) (hs : Same m a s)
    (hm_free : m.free = true := by first | rfl | assumption) (hm_regs : m.regs = true := by first | rfl | assumption)
    (hm_latches : m.latches = true := by first | rfl | assumption) (hm_pacer : m.pacer = true := by first | rfl | assumption)
    (hm_compass : m.compass = true := by first | rfl | assumption) (hm_regions : m.regions = true := by first | rfl | assumption)
    (hm_ports : m.ports = true := by first | rfl | assumption) (hm_gearLog : m.gearLog = true := by first | rfl | assumption)
    (hm_whistle : m.whistle = true := by first | rfl | assumption) (hm_lantern : m.lantern = true := by first | rfl | assumption)
    (hm_log : m.log = true := by first | rfl | assumption) (hm_logSeq : m.logSeq = true := by first | rfl | assumption)
    (hm_out : m.out = true := by first | rfl | assumption) :
    ∀ t', (execRegisterReadClear q off size8 hw s) = .next t' → Same m a t' := by
  intro t' ht
  unfold execRegisterReadClear at ht
  injection ht with ht
  subst ht
  simp (maxDischargeDepth := 30) [hs, hm_free, hm_regs, hm_latches, hm_pacer, hm_compass, hm_regions, hm_ports, hm_gearLog, hm_whistle, hm_lantern, hm_log, hm_logSeq, hm_out]

theorem execLowerHalfReadLatch_same (q : Requester) (off : BitVec 26) (s : State) (hs : Same m a s)
    (hm_free : m.free = true := by first | rfl | assumption) (hm_regs : m.regs = true := by first | rfl | assumption)
    (hm_latches : m.latches = true := by first | rfl | assumption) (hm_pacer : m.pacer = true := by first | rfl | assumption)
    (hm_compass : m.compass = true := by first | rfl | assumption) (hm_regions : m.regions = true := by first | rfl | assumption)
    (hm_ports : m.ports = true := by first | rfl | assumption) (hm_gearLog : m.gearLog = true := by first | rfl | assumption)
    (hm_whistle : m.whistle = true := by first | rfl | assumption) (hm_lantern : m.lantern = true := by first | rfl | assumption)
    (hm_log : m.log = true := by first | rfl | assumption) (hm_logSeq : m.logSeq = true := by first | rfl | assumption)
    (hm_out : m.out = true := by first | rfl | assumption) :
    ∀ t', (execLowerHalfReadLatch q off s) = .next t' → Same m a t' := by
  intro t' ht
  unfold execLowerHalfReadLatch at ht
  injection ht with ht
  subst ht
  simp (maxDischargeDepth := 30) [hs, hm_free, hm_regs, hm_latches, hm_pacer, hm_compass, hm_regions, hm_ports, hm_gearLog, hm_whistle, hm_lantern, hm_log, hm_logSeq, hm_out]

end Sys2Proof.Machine
end

