-- ==== Sys2Proof/Laws/State.lean ====
section
/-!
SUPPORT. Laws/State.lean: one lemma for each field of State under each base update, and what a register, a field of a register, a
region and a port read as after one.
-/

namespace Sys2Proof.Machine

set_option Elab.async false

/-! ## Fields under the base updates -/

@[simp] theorem setReg_time (s : State) (off : Nat) (v : W64) : (setReg s off v).time = s.time := rfl
@[simp] theorem setReg_free (s : State) (off : Nat) (v : W64) : (setReg s off v).free = s.free := rfl
@[simp] theorem setReg_halves (s : State) (off : Nat) (v : W64) : (setReg s off v).halves = s.halves := rfl
@[simp] theorem setReg_latches (s : State) (off : Nat) (v : W64) : (setReg s off v).latches = s.latches := rfl
@[simp] theorem setReg_pacer (s : State) (off : Nat) (v : W64) : (setReg s off v).pacer = s.pacer := rfl
@[simp] theorem setReg_pitch (s : State) (off : Nat) (v : W64) : (setReg s off v).pitch = s.pitch := rfl
@[simp] theorem setReg_trail (s : State) (off : Nat) (v : W64) : (setReg s off v).trail = s.trail := rfl
@[simp] theorem setReg_tarp (s : State) (off : Nat) (v : W64) : (setReg s off v).tarp = s.tarp := rfl
@[simp] theorem setReg_compass (s : State) (off : Nat) (v : W64) : (setReg s off v).compass = s.compass := rfl
@[simp] theorem setReg_identity (s : State) (off : Nat) (v : W64) : (setReg s off v).identity = s.identity := rfl
@[simp] theorem setReg_regions (s : State) (off : Nat) (v : W64) : (setReg s off v).regions = s.regions := rfl
@[simp] theorem setReg_pegTouched (s : State) (off : Nat) (v : W64) : (setReg s off v).pegTouched = s.pegTouched := rfl
@[simp] theorem setReg_hubIn (s : State) (off : Nat) (v : W64) : (setReg s off v).hubIn = s.hubIn := rfl
@[simp] theorem setReg_ports (s : State) (off : Nat) (v : W64) : (setReg s off v).ports = s.ports := rfl
@[simp] theorem setReg_sinks (s : State) (off : Nat) (v : W64) : (setReg s off v).sinks = s.sinks := rfl
@[simp] theorem setReg_hbm (s : State) (off : Nat) (v : W64) : (setReg s off v).hbm = s.hbm := rfl
@[simp] theorem setReg_barrel (s : State) (off : Nat) (v : W64) : (setReg s off v).barrel = s.barrel := rfl
@[simp] theorem setReg_far (s : State) (off : Nat) (v : W64) : (setReg s off v).far = s.far := rfl
@[simp] theorem setReg_tset (s : State) (off : Nat) (v : W64) : (setReg s off v).tset = s.tset := rfl
@[simp] theorem setReg_flaws (s : State) (off : Nat) (v : W64) : (setReg s off v).flaws = s.flaws := rfl
@[simp] theorem setReg_zipper (s : State) (off : Nat) (v : W64) : (setReg s off v).zipper = s.zipper := rfl
@[simp] theorem setReg_gearLog (s : State) (off : Nat) (v : W64) : (setReg s off v).gearLog = s.gearLog := rfl
@[simp] theorem setReg_gearScript (s : State) (off : Nat) (v : W64) : (setReg s off v).gearScript = s.gearScript := rfl
@[simp] theorem setReg_firewatch (s : State) (off : Nat) (v : W64) : (setReg s off v).firewatch = s.firewatch := rfl
@[simp] theorem setReg_hosts (s : State) (off : Nat) (v : W64) : (setReg s off v).hosts = s.hosts := rfl
@[simp] theorem setReg_firmware (s : State) (off : Nat) (v : W64) : (setReg s off v).firmware = s.firmware := rfl
@[simp] theorem setReg_whistle (s : State) (off : Nat) (v : W64) : (setReg s off v).whistle = s.whistle := rfl
@[simp] theorem setReg_lantern (s : State) (off : Nat) (v : W64) : (setReg s off v).lantern = s.lantern := rfl
@[simp] theorem setReg_flash (s : State) (off : Nat) (v : W64) : (setReg s off v).flash = s.flash := rfl
@[simp] theorem setReg_startup (s : State) (off : Nat) (v : W64) : (setReg s off v).startup = s.startup := rfl
@[simp] theorem setReg_log (s : State) (off : Nat) (v : W64) : (setReg s off v).log = s.log := rfl
@[simp] theorem setReg_logSeq (s : State) (off : Nat) (v : W64) : (setReg s off v).logSeq = s.logSeq := rfl
@[simp] theorem setReg_logged (s : State) (off : Nat) (v : W64) : (setReg s off v).logged = s.logged := rfl
@[simp] theorem setReg_out (s : State) (off : Nat) (v : W64) : (setReg s off v).out = s.out := rfl
@[simp] theorem setReg_pending (s : State) (off : Nat) (v : W64) : (setReg s off v).pending = s.pending := rfl

@[simp] theorem setField_time (s : State) (off lo len x : Nat) : (setField s off lo len x).time = s.time := rfl
@[simp] theorem setField_free (s : State) (off lo len x : Nat) : (setField s off lo len x).free = s.free := rfl
@[simp] theorem setField_halves (s : State) (off lo len x : Nat) : (setField s off lo len x).halves = s.halves := rfl
@[simp] theorem setField_latches (s : State) (off lo len x : Nat) : (setField s off lo len x).latches = s.latches := rfl
@[simp] theorem setField_pacer (s : State) (off lo len x : Nat) : (setField s off lo len x).pacer = s.pacer := rfl
@[simp] theorem setField_pitch (s : State) (off lo len x : Nat) : (setField s off lo len x).pitch = s.pitch := rfl
@[simp] theorem setField_trail (s : State) (off lo len x : Nat) : (setField s off lo len x).trail = s.trail := rfl
@[simp] theorem setField_tarp (s : State) (off lo len x : Nat) : (setField s off lo len x).tarp = s.tarp := rfl
@[simp] theorem setField_compass (s : State) (off lo len x : Nat) : (setField s off lo len x).compass = s.compass := rfl
@[simp] theorem setField_identity (s : State) (off lo len x : Nat) : (setField s off lo len x).identity = s.identity := rfl
@[simp] theorem setField_regions (s : State) (off lo len x : Nat) : (setField s off lo len x).regions = s.regions := rfl
@[simp] theorem setField_pegTouched (s : State) (off lo len x : Nat) : (setField s off lo len x).pegTouched = s.pegTouched := rfl
@[simp] theorem setField_hubIn (s : State) (off lo len x : Nat) : (setField s off lo len x).hubIn = s.hubIn := rfl
@[simp] theorem setField_ports (s : State) (off lo len x : Nat) : (setField s off lo len x).ports = s.ports := rfl
@[simp] theorem setField_sinks (s : State) (off lo len x : Nat) : (setField s off lo len x).sinks = s.sinks := rfl
@[simp] theorem setField_hbm (s : State) (off lo len x : Nat) : (setField s off lo len x).hbm = s.hbm := rfl
@[simp] theorem setField_barrel (s : State) (off lo len x : Nat) : (setField s off lo len x).barrel = s.barrel := rfl
@[simp] theorem setField_far (s : State) (off lo len x : Nat) : (setField s off lo len x).far = s.far := rfl
@[simp] theorem setField_tset (s : State) (off lo len x : Nat) : (setField s off lo len x).tset = s.tset := rfl
@[simp] theorem setField_flaws (s : State) (off lo len x : Nat) : (setField s off lo len x).flaws = s.flaws := rfl
@[simp] theorem setField_zipper (s : State) (off lo len x : Nat) : (setField s off lo len x).zipper = s.zipper := rfl
@[simp] theorem setField_gearLog (s : State) (off lo len x : Nat) : (setField s off lo len x).gearLog = s.gearLog := rfl
@[simp] theorem setField_gearScript (s : State) (off lo len x : Nat) : (setField s off lo len x).gearScript = s.gearScript := rfl
@[simp] theorem setField_firewatch (s : State) (off lo len x : Nat) : (setField s off lo len x).firewatch = s.firewatch := rfl
@[simp] theorem setField_hosts (s : State) (off lo len x : Nat) : (setField s off lo len x).hosts = s.hosts := rfl
@[simp] theorem setField_firmware (s : State) (off lo len x : Nat) : (setField s off lo len x).firmware = s.firmware := rfl
@[simp] theorem setField_whistle (s : State) (off lo len x : Nat) : (setField s off lo len x).whistle = s.whistle := rfl
@[simp] theorem setField_lantern (s : State) (off lo len x : Nat) : (setField s off lo len x).lantern = s.lantern := rfl
@[simp] theorem setField_flash (s : State) (off lo len x : Nat) : (setField s off lo len x).flash = s.flash := rfl
@[simp] theorem setField_startup (s : State) (off lo len x : Nat) : (setField s off lo len x).startup = s.startup := rfl
@[simp] theorem setField_log (s : State) (off lo len x : Nat) : (setField s off lo len x).log = s.log := rfl
@[simp] theorem setField_logSeq (s : State) (off lo len x : Nat) : (setField s off lo len x).logSeq = s.logSeq := rfl
@[simp] theorem setField_logged (s : State) (off lo len x : Nat) : (setField s off lo len x).logged = s.logged := rfl
@[simp] theorem setField_out (s : State) (off lo len x : Nat) : (setField s off lo len x).out = s.out := rfl
@[simp] theorem setField_pending (s : State) (off lo len x : Nat) : (setField s off lo len x).pending = s.pending := rfl

@[simp] theorem setBits_time (s : State) (off bits : Nat) : (setBits s off bits).time = s.time := rfl
@[simp] theorem setBits_free (s : State) (off bits : Nat) : (setBits s off bits).free = s.free := rfl
@[simp] theorem setBits_halves (s : State) (off bits : Nat) : (setBits s off bits).halves = s.halves := rfl
@[simp] theorem setBits_latches (s : State) (off bits : Nat) : (setBits s off bits).latches = s.latches := rfl
@[simp] theorem setBits_pacer (s : State) (off bits : Nat) : (setBits s off bits).pacer = s.pacer := rfl
@[simp] theorem setBits_pitch (s : State) (off bits : Nat) : (setBits s off bits).pitch = s.pitch := rfl
@[simp] theorem setBits_trail (s : State) (off bits : Nat) : (setBits s off bits).trail = s.trail := rfl
@[simp] theorem setBits_tarp (s : State) (off bits : Nat) : (setBits s off bits).tarp = s.tarp := rfl
@[simp] theorem setBits_compass (s : State) (off bits : Nat) : (setBits s off bits).compass = s.compass := rfl
@[simp] theorem setBits_identity (s : State) (off bits : Nat) : (setBits s off bits).identity = s.identity := rfl
@[simp] theorem setBits_regions (s : State) (off bits : Nat) : (setBits s off bits).regions = s.regions := rfl
@[simp] theorem setBits_pegTouched (s : State) (off bits : Nat) : (setBits s off bits).pegTouched = s.pegTouched := rfl
@[simp] theorem setBits_hubIn (s : State) (off bits : Nat) : (setBits s off bits).hubIn = s.hubIn := rfl
@[simp] theorem setBits_ports (s : State) (off bits : Nat) : (setBits s off bits).ports = s.ports := rfl
@[simp] theorem setBits_sinks (s : State) (off bits : Nat) : (setBits s off bits).sinks = s.sinks := rfl
@[simp] theorem setBits_hbm (s : State) (off bits : Nat) : (setBits s off bits).hbm = s.hbm := rfl
@[simp] theorem setBits_barrel (s : State) (off bits : Nat) : (setBits s off bits).barrel = s.barrel := rfl
@[simp] theorem setBits_far (s : State) (off bits : Nat) : (setBits s off bits).far = s.far := rfl
@[simp] theorem setBits_tset (s : State) (off bits : Nat) : (setBits s off bits).tset = s.tset := rfl
@[simp] theorem setBits_flaws (s : State) (off bits : Nat) : (setBits s off bits).flaws = s.flaws := rfl
@[simp] theorem setBits_zipper (s : State) (off bits : Nat) : (setBits s off bits).zipper = s.zipper := rfl
@[simp] theorem setBits_gearLog (s : State) (off bits : Nat) : (setBits s off bits).gearLog = s.gearLog := rfl
@[simp] theorem setBits_gearScript (s : State) (off bits : Nat) : (setBits s off bits).gearScript = s.gearScript := rfl
@[simp] theorem setBits_firewatch (s : State) (off bits : Nat) : (setBits s off bits).firewatch = s.firewatch := rfl
@[simp] theorem setBits_hosts (s : State) (off bits : Nat) : (setBits s off bits).hosts = s.hosts := rfl
@[simp] theorem setBits_firmware (s : State) (off bits : Nat) : (setBits s off bits).firmware = s.firmware := rfl
@[simp] theorem setBits_whistle (s : State) (off bits : Nat) : (setBits s off bits).whistle = s.whistle := rfl
@[simp] theorem setBits_lantern (s : State) (off bits : Nat) : (setBits s off bits).lantern = s.lantern := rfl
@[simp] theorem setBits_flash (s : State) (off bits : Nat) : (setBits s off bits).flash = s.flash := rfl
@[simp] theorem setBits_startup (s : State) (off bits : Nat) : (setBits s off bits).startup = s.startup := rfl
@[simp] theorem setBits_log (s : State) (off bits : Nat) : (setBits s off bits).log = s.log := rfl
@[simp] theorem setBits_logSeq (s : State) (off bits : Nat) : (setBits s off bits).logSeq = s.logSeq := rfl
@[simp] theorem setBits_logged (s : State) (off bits : Nat) : (setBits s off bits).logged = s.logged := rfl
@[simp] theorem setBits_out (s : State) (off bits : Nat) : (setBits s off bits).out = s.out := rfl
@[simp] theorem setBits_pending (s : State) (off bits : Nat) : (setBits s off bits).pending = s.pending := rfl

@[simp] theorem countField_time (s : State) (off lo len n : Nat) : (countField s off lo len n).time = s.time := rfl
@[simp] theorem countField_free (s : State) (off lo len n : Nat) : (countField s off lo len n).free = s.free := rfl
@[simp] theorem countField_halves (s : State) (off lo len n : Nat) : (countField s off lo len n).halves = s.halves := rfl
@[simp] theorem countField_latches (s : State) (off lo len n : Nat) : (countField s off lo len n).latches = s.latches := rfl
@[simp] theorem countField_pacer (s : State) (off lo len n : Nat) : (countField s off lo len n).pacer = s.pacer := rfl
@[simp] theorem countField_pitch (s : State) (off lo len n : Nat) : (countField s off lo len n).pitch = s.pitch := rfl
@[simp] theorem countField_trail (s : State) (off lo len n : Nat) : (countField s off lo len n).trail = s.trail := rfl
@[simp] theorem countField_tarp (s : State) (off lo len n : Nat) : (countField s off lo len n).tarp = s.tarp := rfl
@[simp] theorem countField_compass (s : State) (off lo len n : Nat) : (countField s off lo len n).compass = s.compass := rfl
@[simp] theorem countField_identity (s : State) (off lo len n : Nat) : (countField s off lo len n).identity = s.identity := rfl
@[simp] theorem countField_regions (s : State) (off lo len n : Nat) : (countField s off lo len n).regions = s.regions := rfl
@[simp] theorem countField_pegTouched (s : State) (off lo len n : Nat) : (countField s off lo len n).pegTouched = s.pegTouched := rfl
@[simp] theorem countField_hubIn (s : State) (off lo len n : Nat) : (countField s off lo len n).hubIn = s.hubIn := rfl
@[simp] theorem countField_ports (s : State) (off lo len n : Nat) : (countField s off lo len n).ports = s.ports := rfl
@[simp] theorem countField_sinks (s : State) (off lo len n : Nat) : (countField s off lo len n).sinks = s.sinks := rfl
@[simp] theorem countField_hbm (s : State) (off lo len n : Nat) : (countField s off lo len n).hbm = s.hbm := rfl
@[simp] theorem countField_barrel (s : State) (off lo len n : Nat) : (countField s off lo len n).barrel = s.barrel := rfl
@[simp] theorem countField_far (s : State) (off lo len n : Nat) : (countField s off lo len n).far = s.far := rfl
@[simp] theorem countField_tset (s : State) (off lo len n : Nat) : (countField s off lo len n).tset = s.tset := rfl
@[simp] theorem countField_flaws (s : State) (off lo len n : Nat) : (countField s off lo len n).flaws = s.flaws := rfl
@[simp] theorem countField_zipper (s : State) (off lo len n : Nat) : (countField s off lo len n).zipper = s.zipper := rfl
@[simp] theorem countField_gearLog (s : State) (off lo len n : Nat) : (countField s off lo len n).gearLog = s.gearLog := rfl
@[simp] theorem countField_gearScript (s : State) (off lo len n : Nat) : (countField s off lo len n).gearScript = s.gearScript := rfl
@[simp] theorem countField_firewatch (s : State) (off lo len n : Nat) : (countField s off lo len n).firewatch = s.firewatch := rfl
@[simp] theorem countField_hosts (s : State) (off lo len n : Nat) : (countField s off lo len n).hosts = s.hosts := rfl
@[simp] theorem countField_firmware (s : State) (off lo len n : Nat) : (countField s off lo len n).firmware = s.firmware := rfl
@[simp] theorem countField_whistle (s : State) (off lo len n : Nat) : (countField s off lo len n).whistle = s.whistle := rfl
@[simp] theorem countField_lantern (s : State) (off lo len n : Nat) : (countField s off lo len n).lantern = s.lantern := rfl
@[simp] theorem countField_flash (s : State) (off lo len n : Nat) : (countField s off lo len n).flash = s.flash := rfl
@[simp] theorem countField_startup (s : State) (off lo len n : Nat) : (countField s off lo len n).startup = s.startup := rfl
@[simp] theorem countField_log (s : State) (off lo len n : Nat) : (countField s off lo len n).log = s.log := rfl
@[simp] theorem countField_logSeq (s : State) (off lo len n : Nat) : (countField s off lo len n).logSeq = s.logSeq := rfl
@[simp] theorem countField_logged (s : State) (off lo len n : Nat) : (countField s off lo len n).logged = s.logged := rfl
@[simp] theorem countField_out (s : State) (off lo len n : Nat) : (countField s off lo len n).out = s.out := rfl
@[simp] theorem countField_pending (s : State) (off lo len n : Nat) : (countField s off lo len n).pending = s.pending := rfl

@[simp] theorem modRegion_time (s : State) (r : Fin 32) (f : Region → Region) : (modRegion s r f).time = s.time := rfl
@[simp] theorem modRegion_free (s : State) (r : Fin 32) (f : Region → Region) : (modRegion s r f).free = s.free := rfl
@[simp] theorem modRegion_regs (s : State) (r : Fin 32) (f : Region → Region) : (modRegion s r f).regs = s.regs := rfl
@[simp] theorem modRegion_halves (s : State) (r : Fin 32) (f : Region → Region) : (modRegion s r f).halves = s.halves := rfl
@[simp] theorem modRegion_latches (s : State) (r : Fin 32) (f : Region → Region) : (modRegion s r f).latches = s.latches := rfl
@[simp] theorem modRegion_pacer (s : State) (r : Fin 32) (f : Region → Region) : (modRegion s r f).pacer = s.pacer := rfl
@[simp] theorem modRegion_pitch (s : State) (r : Fin 32) (f : Region → Region) : (modRegion s r f).pitch = s.pitch := rfl
@[simp] theorem modRegion_trail (s : State) (r : Fin 32) (f : Region → Region) : (modRegion s r f).trail = s.trail := rfl
@[simp] theorem modRegion_tarp (s : State) (r : Fin 32) (f : Region → Region) : (modRegion s r f).tarp = s.tarp := rfl
@[simp] theorem modRegion_compass (s : State) (r : Fin 32) (f : Region → Region) : (modRegion s r f).compass = s.compass := rfl
@[simp] theorem modRegion_identity (s : State) (r : Fin 32) (f : Region → Region) : (modRegion s r f).identity = s.identity := rfl
@[simp] theorem modRegion_pegTouched (s : State) (r : Fin 32) (f : Region → Region) : (modRegion s r f).pegTouched = s.pegTouched := rfl
@[simp] theorem modRegion_hubIn (s : State) (r : Fin 32) (f : Region → Region) : (modRegion s r f).hubIn = s.hubIn := rfl
@[simp] theorem modRegion_ports (s : State) (r : Fin 32) (f : Region → Region) : (modRegion s r f).ports = s.ports := rfl
@[simp] theorem modRegion_sinks (s : State) (r : Fin 32) (f : Region → Region) : (modRegion s r f).sinks = s.sinks := rfl
@[simp] theorem modRegion_hbm (s : State) (r : Fin 32) (f : Region → Region) : (modRegion s r f).hbm = s.hbm := rfl
@[simp] theorem modRegion_barrel (s : State) (r : Fin 32) (f : Region → Region) : (modRegion s r f).barrel = s.barrel := rfl
@[simp] theorem modRegion_far (s : State) (r : Fin 32) (f : Region → Region) : (modRegion s r f).far = s.far := rfl
@[simp] theorem modRegion_tset (s : State) (r : Fin 32) (f : Region → Region) : (modRegion s r f).tset = s.tset := rfl
@[simp] theorem modRegion_flaws (s : State) (r : Fin 32) (f : Region → Region) : (modRegion s r f).flaws = s.flaws := rfl
@[simp] theorem modRegion_zipper (s : State) (r : Fin 32) (f : Region → Region) : (modRegion s r f).zipper = s.zipper := rfl
@[simp] theorem modRegion_gearLog (s : State) (r : Fin 32) (f : Region → Region) : (modRegion s r f).gearLog = s.gearLog := rfl
@[simp] theorem modRegion_gearScript (s : State) (r : Fin 32) (f : Region → Region) : (modRegion s r f).gearScript = s.gearScript := rfl
@[simp] theorem modRegion_firewatch (s : State) (r : Fin 32) (f : Region → Region) : (modRegion s r f).firewatch = s.firewatch := rfl
@[simp] theorem modRegion_hosts (s : State) (r : Fin 32) (f : Region → Region) : (modRegion s r f).hosts = s.hosts := rfl
@[simp] theorem modRegion_firmware (s : State) (r : Fin 32) (f : Region → Region) : (modRegion s r f).firmware = s.firmware := rfl
@[simp] theorem modRegion_whistle (s : State) (r : Fin 32) (f : Region → Region) : (modRegion s r f).whistle = s.whistle := rfl
@[simp] theorem modRegion_lantern (s : State) (r : Fin 32) (f : Region → Region) : (modRegion s r f).lantern = s.lantern := rfl
@[simp] theorem modRegion_flash (s : State) (r : Fin 32) (f : Region → Region) : (modRegion s r f).flash = s.flash := rfl
@[simp] theorem modRegion_startup (s : State) (r : Fin 32) (f : Region → Region) : (modRegion s r f).startup = s.startup := rfl
@[simp] theorem modRegion_log (s : State) (r : Fin 32) (f : Region → Region) : (modRegion s r f).log = s.log := rfl
@[simp] theorem modRegion_logSeq (s : State) (r : Fin 32) (f : Region → Region) : (modRegion s r f).logSeq = s.logSeq := rfl
@[simp] theorem modRegion_logged (s : State) (r : Fin 32) (f : Region → Region) : (modRegion s r f).logged = s.logged := rfl
@[simp] theorem modRegion_out (s : State) (r : Fin 32) (f : Region → Region) : (modRegion s r f).out = s.out := rfl
@[simp] theorem modRegion_pending (s : State) (r : Fin 32) (f : Region → Region) : (modRegion s r f).pending = s.pending := rfl

@[simp] theorem modRegions_time (s : State) (f : Region → Region) : (modRegions s f).time = s.time := rfl
@[simp] theorem modRegions_free (s : State) (f : Region → Region) : (modRegions s f).free = s.free := rfl
@[simp] theorem modRegions_regs (s : State) (f : Region → Region) : (modRegions s f).regs = s.regs := rfl
@[simp] theorem modRegions_halves (s : State) (f : Region → Region) : (modRegions s f).halves = s.halves := rfl
@[simp] theorem modRegions_latches (s : State) (f : Region → Region) : (modRegions s f).latches = s.latches := rfl
@[simp] theorem modRegions_pacer (s : State) (f : Region → Region) : (modRegions s f).pacer = s.pacer := rfl
@[simp] theorem modRegions_pitch (s : State) (f : Region → Region) : (modRegions s f).pitch = s.pitch := rfl
@[simp] theorem modRegions_trail (s : State) (f : Region → Region) : (modRegions s f).trail = s.trail := rfl
@[simp] theorem modRegions_tarp (s : State) (f : Region → Region) : (modRegions s f).tarp = s.tarp := rfl
@[simp] theorem modRegions_compass (s : State) (f : Region → Region) : (modRegions s f).compass = s.compass := rfl
@[simp] theorem modRegions_identity (s : State) (f : Region → Region) : (modRegions s f).identity = s.identity := rfl
@[simp] theorem modRegions_pegTouched (s : State) (f : Region → Region) : (modRegions s f).pegTouched = s.pegTouched := rfl
@[simp] theorem modRegions_hubIn (s : State) (f : Region → Region) : (modRegions s f).hubIn = s.hubIn := rfl
@[simp] theorem modRegions_ports (s : State) (f : Region → Region) : (modRegions s f).ports = s.ports := rfl
@[simp] theorem modRegions_sinks (s : State) (f : Region → Region) : (modRegions s f).sinks = s.sinks := rfl
@[simp] theorem modRegions_hbm (s : State) (f : Region → Region) : (modRegions s f).hbm = s.hbm := rfl
@[simp] theorem modRegions_barrel (s : State) (f : Region → Region) : (modRegions s f).barrel = s.barrel := rfl
@[simp] theorem modRegions_far (s : State) (f : Region → Region) : (modRegions s f).far = s.far := rfl
@[simp] theorem modRegions_tset (s : State) (f : Region → Region) : (modRegions s f).tset = s.tset := rfl
@[simp] theorem modRegions_flaws (s : State) (f : Region → Region) : (modRegions s f).flaws = s.flaws := rfl
@[simp] theorem modRegions_zipper (s : State) (f : Region → Region) : (modRegions s f).zipper = s.zipper := rfl
@[simp] theorem modRegions_gearLog (s : State) (f : Region → Region) : (modRegions s f).gearLog = s.gearLog := rfl
@[simp] theorem modRegions_gearScript (s : State) (f : Region → Region) : (modRegions s f).gearScript = s.gearScript := rfl
@[simp] theorem modRegions_firewatch (s : State) (f : Region → Region) : (modRegions s f).firewatch = s.firewatch := rfl
@[simp] theorem modRegions_hosts (s : State) (f : Region → Region) : (modRegions s f).hosts = s.hosts := rfl
@[simp] theorem modRegions_firmware (s : State) (f : Region → Region) : (modRegions s f).firmware = s.firmware := rfl
@[simp] theorem modRegions_whistle (s : State) (f : Region → Region) : (modRegions s f).whistle = s.whistle := rfl
@[simp] theorem modRegions_lantern (s : State) (f : Region → Region) : (modRegions s f).lantern = s.lantern := rfl
@[simp] theorem modRegions_flash (s : State) (f : Region → Region) : (modRegions s f).flash = s.flash := rfl
@[simp] theorem modRegions_startup (s : State) (f : Region → Region) : (modRegions s f).startup = s.startup := rfl
@[simp] theorem modRegions_log (s : State) (f : Region → Region) : (modRegions s f).log = s.log := rfl
@[simp] theorem modRegions_logSeq (s : State) (f : Region → Region) : (modRegions s f).logSeq = s.logSeq := rfl
@[simp] theorem modRegions_logged (s : State) (f : Region → Region) : (modRegions s f).logged = s.logged := rfl
@[simp] theorem modRegions_out (s : State) (f : Region → Region) : (modRegions s f).out = s.out := rfl
@[simp] theorem modRegions_pending (s : State) (f : Region → Region) : (modRegions s f).pending = s.pending := rfl

@[simp] theorem modStove_time (s : State) (r : Fin 32) (c : Fin 8) (f : Stove → Stove) : (modStove s r c f).time = s.time := rfl
@[simp] theorem modStove_free (s : State) (r : Fin 32) (c : Fin 8) (f : Stove → Stove) : (modStove s r c f).free = s.free := rfl
@[simp] theorem modStove_regs (s : State) (r : Fin 32) (c : Fin 8) (f : Stove → Stove) : (modStove s r c f).regs = s.regs := rfl
@[simp] theorem modStove_halves (s : State) (r : Fin 32) (c : Fin 8) (f : Stove → Stove) : (modStove s r c f).halves = s.halves := rfl
@[simp] theorem modStove_latches (s : State) (r : Fin 32) (c : Fin 8) (f : Stove → Stove) : (modStove s r c f).latches = s.latches := rfl
@[simp] theorem modStove_pacer (s : State) (r : Fin 32) (c : Fin 8) (f : Stove → Stove) : (modStove s r c f).pacer = s.pacer := rfl
@[simp] theorem modStove_pitch (s : State) (r : Fin 32) (c : Fin 8) (f : Stove → Stove) : (modStove s r c f).pitch = s.pitch := rfl
@[simp] theorem modStove_trail (s : State) (r : Fin 32) (c : Fin 8) (f : Stove → Stove) : (modStove s r c f).trail = s.trail := rfl
@[simp] theorem modStove_tarp (s : State) (r : Fin 32) (c : Fin 8) (f : Stove → Stove) : (modStove s r c f).tarp = s.tarp := rfl
@[simp] theorem modStove_compass (s : State) (r : Fin 32) (c : Fin 8) (f : Stove → Stove) : (modStove s r c f).compass = s.compass := rfl
@[simp] theorem modStove_identity (s : State) (r : Fin 32) (c : Fin 8) (f : Stove → Stove) : (modStove s r c f).identity = s.identity := rfl
@[simp] theorem modStove_pegTouched (s : State) (r : Fin 32) (c : Fin 8) (f : Stove → Stove) : (modStove s r c f).pegTouched = s.pegTouched := rfl
@[simp] theorem modStove_hubIn (s : State) (r : Fin 32) (c : Fin 8) (f : Stove → Stove) : (modStove s r c f).hubIn = s.hubIn := rfl
@[simp] theorem modStove_ports (s : State) (r : Fin 32) (c : Fin 8) (f : Stove → Stove) : (modStove s r c f).ports = s.ports := rfl
@[simp] theorem modStove_sinks (s : State) (r : Fin 32) (c : Fin 8) (f : Stove → Stove) : (modStove s r c f).sinks = s.sinks := rfl
@[simp] theorem modStove_hbm (s : State) (r : Fin 32) (c : Fin 8) (f : Stove → Stove) : (modStove s r c f).hbm = s.hbm := rfl
@[simp] theorem modStove_barrel (s : State) (r : Fin 32) (c : Fin 8) (f : Stove → Stove) : (modStove s r c f).barrel = s.barrel := rfl
@[simp] theorem modStove_far (s : State) (r : Fin 32) (c : Fin 8) (f : Stove → Stove) : (modStove s r c f).far = s.far := rfl
@[simp] theorem modStove_tset (s : State) (r : Fin 32) (c : Fin 8) (f : Stove → Stove) : (modStove s r c f).tset = s.tset := rfl
@[simp] theorem modStove_flaws (s : State) (r : Fin 32) (c : Fin 8) (f : Stove → Stove) : (modStove s r c f).flaws = s.flaws := rfl
@[simp] theorem modStove_zipper (s : State) (r : Fin 32) (c : Fin 8) (f : Stove → Stove) : (modStove s r c f).zipper = s.zipper := rfl
@[simp] theorem modStove_gearLog (s : State) (r : Fin 32) (c : Fin 8) (f : Stove → Stove) : (modStove s r c f).gearLog = s.gearLog := rfl
@[simp] theorem modStove_gearScript (s : State) (r : Fin 32) (c : Fin 8) (f : Stove → Stove) : (modStove s r c f).gearScript = s.gearScript := rfl
@[simp] theorem modStove_firewatch (s : State) (r : Fin 32) (c : Fin 8) (f : Stove → Stove) : (modStove s r c f).firewatch = s.firewatch := rfl
@[simp] theorem modStove_hosts (s : State) (r : Fin 32) (c : Fin 8) (f : Stove → Stove) : (modStove s r c f).hosts = s.hosts := rfl
@[simp] theorem modStove_firmware (s : State) (r : Fin 32) (c : Fin 8) (f : Stove → Stove) : (modStove s r c f).firmware = s.firmware := rfl
@[simp] theorem modStove_whistle (s : State) (r : Fin 32) (c : Fin 8) (f : Stove → Stove) : (modStove s r c f).whistle = s.whistle := rfl
@[simp] theorem modStove_lantern (s : State) (r : Fin 32) (c : Fin 8) (f : Stove → Stove) : (modStove s r c f).lantern = s.lantern := rfl
@[simp] theorem modStove_flash (s : State) (r : Fin 32) (c : Fin 8) (f : Stove → Stove) : (modStove s r c f).flash = s.flash := rfl
@[simp] theorem modStove_startup (s : State) (r : Fin 32) (c : Fin 8) (f : Stove → Stove) : (modStove s r c f).startup = s.startup := rfl
@[simp] theorem modStove_log (s : State) (r : Fin 32) (c : Fin 8) (f : Stove → Stove) : (modStove s r c f).log = s.log := rfl
@[simp] theorem modStove_logSeq (s : State) (r : Fin 32) (c : Fin 8) (f : Stove → Stove) : (modStove s r c f).logSeq = s.logSeq := rfl
@[simp] theorem modStove_logged (s : State) (r : Fin 32) (c : Fin 8) (f : Stove → Stove) : (modStove s r c f).logged = s.logged := rfl
@[simp] theorem modStove_out (s : State) (r : Fin 32) (c : Fin 8) (f : Stove → Stove) : (modStove s r c f).out = s.out := rfl
@[simp] theorem modStove_pending (s : State) (r : Fin 32) (c : Fin 8) (f : Stove → Stove) : (modStove s r c f).pending = s.pending := rfl

@[simp] theorem modKettle_time (s : State) (r : Fin 32) (u : Fin 16) (f : Kettle → Kettle) : (modKettle s r u f).time = s.time := rfl
@[simp] theorem modKettle_free (s : State) (r : Fin 32) (u : Fin 16) (f : Kettle → Kettle) : (modKettle s r u f).free = s.free := rfl
@[simp] theorem modKettle_regs (s : State) (r : Fin 32) (u : Fin 16) (f : Kettle → Kettle) : (modKettle s r u f).regs = s.regs := rfl
@[simp] theorem modKettle_halves (s : State) (r : Fin 32) (u : Fin 16) (f : Kettle → Kettle) : (modKettle s r u f).halves = s.halves := rfl
@[simp] theorem modKettle_latches (s : State) (r : Fin 32) (u : Fin 16) (f : Kettle → Kettle) : (modKettle s r u f).latches = s.latches := rfl
@[simp] theorem modKettle_pacer (s : State) (r : Fin 32) (u : Fin 16) (f : Kettle → Kettle) : (modKettle s r u f).pacer = s.pacer := rfl
@[simp] theorem modKettle_pitch (s : State) (r : Fin 32) (u : Fin 16) (f : Kettle → Kettle) : (modKettle s r u f).pitch = s.pitch := rfl
@[simp] theorem modKettle_trail (s : State) (r : Fin 32) (u : Fin 16) (f : Kettle → Kettle) : (modKettle s r u f).trail = s.trail := rfl
@[simp] theorem modKettle_tarp (s : State) (r : Fin 32) (u : Fin 16) (f : Kettle → Kettle) : (modKettle s r u f).tarp = s.tarp := rfl
@[simp] theorem modKettle_compass (s : State) (r : Fin 32) (u : Fin 16) (f : Kettle → Kettle) : (modKettle s r u f).compass = s.compass := rfl
@[simp] theorem modKettle_identity (s : State) (r : Fin 32) (u : Fin 16) (f : Kettle → Kettle) : (modKettle s r u f).identity = s.identity := rfl
@[simp] theorem modKettle_pegTouched (s : State) (r : Fin 32) (u : Fin 16) (f : Kettle → Kettle) : (modKettle s r u f).pegTouched = s.pegTouched := rfl
@[simp] theorem modKettle_hubIn (s : State) (r : Fin 32) (u : Fin 16) (f : Kettle → Kettle) : (modKettle s r u f).hubIn = s.hubIn := rfl
@[simp] theorem modKettle_ports (s : State) (r : Fin 32) (u : Fin 16) (f : Kettle → Kettle) : (modKettle s r u f).ports = s.ports := rfl
@[simp] theorem modKettle_sinks (s : State) (r : Fin 32) (u : Fin 16) (f : Kettle → Kettle) : (modKettle s r u f).sinks = s.sinks := rfl
@[simp] theorem modKettle_hbm (s : State) (r : Fin 32) (u : Fin 16) (f : Kettle → Kettle) : (modKettle s r u f).hbm = s.hbm := rfl
@[simp] theorem modKettle_barrel (s : State) (r : Fin 32) (u : Fin 16) (f : Kettle → Kettle) : (modKettle s r u f).barrel = s.barrel := rfl
@[simp] theorem modKettle_far (s : State) (r : Fin 32) (u : Fin 16) (f : Kettle → Kettle) : (modKettle s r u f).far = s.far := rfl
@[simp] theorem modKettle_tset (s : State) (r : Fin 32) (u : Fin 16) (f : Kettle → Kettle) : (modKettle s r u f).tset = s.tset := rfl
@[simp] theorem modKettle_flaws (s : State) (r : Fin 32) (u : Fin 16) (f : Kettle → Kettle) : (modKettle s r u f).flaws = s.flaws := rfl
@[simp] theorem modKettle_zipper (s : State) (r : Fin 32) (u : Fin 16) (f : Kettle → Kettle) : (modKettle s r u f).zipper = s.zipper := rfl
@[simp] theorem modKettle_gearLog (s : State) (r : Fin 32) (u : Fin 16) (f : Kettle → Kettle) : (modKettle s r u f).gearLog = s.gearLog := rfl
@[simp] theorem modKettle_gearScript (s : State) (r : Fin 32) (u : Fin 16) (f : Kettle → Kettle) : (modKettle s r u f).gearScript = s.gearScript := rfl
@[simp] theorem modKettle_firewatch (s : State) (r : Fin 32) (u : Fin 16) (f : Kettle → Kettle) : (modKettle s r u f).firewatch = s.firewatch := rfl
@[simp] theorem modKettle_hosts (s : State) (r : Fin 32) (u : Fin 16) (f : Kettle → Kettle) : (modKettle s r u f).hosts = s.hosts := rfl
@[simp] theorem modKettle_firmware (s : State) (r : Fin 32) (u : Fin 16) (f : Kettle → Kettle) : (modKettle s r u f).firmware = s.firmware := rfl
@[simp] theorem modKettle_whistle (s : State) (r : Fin 32) (u : Fin 16) (f : Kettle → Kettle) : (modKettle s r u f).whistle = s.whistle := rfl
@[simp] theorem modKettle_lantern (s : State) (r : Fin 32) (u : Fin 16) (f : Kettle → Kettle) : (modKettle s r u f).lantern = s.lantern := rfl
@[simp] theorem modKettle_flash (s : State) (r : Fin 32) (u : Fin 16) (f : Kettle → Kettle) : (modKettle s r u f).flash = s.flash := rfl
@[simp] theorem modKettle_startup (s : State) (r : Fin 32) (u : Fin 16) (f : Kettle → Kettle) : (modKettle s r u f).startup = s.startup := rfl
@[simp] theorem modKettle_log (s : State) (r : Fin 32) (u : Fin 16) (f : Kettle → Kettle) : (modKettle s r u f).log = s.log := rfl
@[simp] theorem modKettle_logSeq (s : State) (r : Fin 32) (u : Fin 16) (f : Kettle → Kettle) : (modKettle s r u f).logSeq = s.logSeq := rfl
@[simp] theorem modKettle_logged (s : State) (r : Fin 32) (u : Fin 16) (f : Kettle → Kettle) : (modKettle s r u f).logged = s.logged := rfl
@[simp] theorem modKettle_out (s : State) (r : Fin 32) (u : Fin 16) (f : Kettle → Kettle) : (modKettle s r u f).out = s.out := rfl
@[simp] theorem modKettle_pending (s : State) (r : Fin 32) (u : Fin 16) (f : Kettle → Kettle) : (modKettle s r u f).pending = s.pending := rfl

@[simp] theorem modPort_time (s : State) (p : Fin 10) (f : Port → Port) : (modPort s p f).time = s.time := rfl
@[simp] theorem modPort_free (s : State) (p : Fin 10) (f : Port → Port) : (modPort s p f).free = s.free := rfl
@[simp] theorem modPort_regs (s : State) (p : Fin 10) (f : Port → Port) : (modPort s p f).regs = s.regs := rfl
@[simp] theorem modPort_halves (s : State) (p : Fin 10) (f : Port → Port) : (modPort s p f).halves = s.halves := rfl
@[simp] theorem modPort_latches (s : State) (p : Fin 10) (f : Port → Port) : (modPort s p f).latches = s.latches := rfl
@[simp] theorem modPort_pacer (s : State) (p : Fin 10) (f : Port → Port) : (modPort s p f).pacer = s.pacer := rfl
@[simp] theorem modPort_pitch (s : State) (p : Fin 10) (f : Port → Port) : (modPort s p f).pitch = s.pitch := rfl
@[simp] theorem modPort_trail (s : State) (p : Fin 10) (f : Port → Port) : (modPort s p f).trail = s.trail := rfl
@[simp] theorem modPort_tarp (s : State) (p : Fin 10) (f : Port → Port) : (modPort s p f).tarp = s.tarp := rfl
@[simp] theorem modPort_compass (s : State) (p : Fin 10) (f : Port → Port) : (modPort s p f).compass = s.compass := rfl
@[simp] theorem modPort_identity (s : State) (p : Fin 10) (f : Port → Port) : (modPort s p f).identity = s.identity := rfl
@[simp] theorem modPort_regions (s : State) (p : Fin 10) (f : Port → Port) : (modPort s p f).regions = s.regions := rfl
@[simp] theorem modPort_pegTouched (s : State) (p : Fin 10) (f : Port → Port) : (modPort s p f).pegTouched = s.pegTouched := rfl
@[simp] theorem modPort_hubIn (s : State) (p : Fin 10) (f : Port → Port) : (modPort s p f).hubIn = s.hubIn := rfl
@[simp] theorem modPort_sinks (s : State) (p : Fin 10) (f : Port → Port) : (modPort s p f).sinks = s.sinks := rfl
@[simp] theorem modPort_hbm (s : State) (p : Fin 10) (f : Port → Port) : (modPort s p f).hbm = s.hbm := rfl
@[simp] theorem modPort_barrel (s : State) (p : Fin 10) (f : Port → Port) : (modPort s p f).barrel = s.barrel := rfl
@[simp] theorem modPort_far (s : State) (p : Fin 10) (f : Port → Port) : (modPort s p f).far = s.far := rfl
@[simp] theorem modPort_tset (s : State) (p : Fin 10) (f : Port → Port) : (modPort s p f).tset = s.tset := rfl
@[simp] theorem modPort_flaws (s : State) (p : Fin 10) (f : Port → Port) : (modPort s p f).flaws = s.flaws := rfl
@[simp] theorem modPort_zipper (s : State) (p : Fin 10) (f : Port → Port) : (modPort s p f).zipper = s.zipper := rfl
@[simp] theorem modPort_gearLog (s : State) (p : Fin 10) (f : Port → Port) : (modPort s p f).gearLog = s.gearLog := rfl
@[simp] theorem modPort_gearScript (s : State) (p : Fin 10) (f : Port → Port) : (modPort s p f).gearScript = s.gearScript := rfl
@[simp] theorem modPort_firewatch (s : State) (p : Fin 10) (f : Port → Port) : (modPort s p f).firewatch = s.firewatch := rfl
@[simp] theorem modPort_hosts (s : State) (p : Fin 10) (f : Port → Port) : (modPort s p f).hosts = s.hosts := rfl
@[simp] theorem modPort_firmware (s : State) (p : Fin 10) (f : Port → Port) : (modPort s p f).firmware = s.firmware := rfl
@[simp] theorem modPort_whistle (s : State) (p : Fin 10) (f : Port → Port) : (modPort s p f).whistle = s.whistle := rfl
@[simp] theorem modPort_lantern (s : State) (p : Fin 10) (f : Port → Port) : (modPort s p f).lantern = s.lantern := rfl
@[simp] theorem modPort_flash (s : State) (p : Fin 10) (f : Port → Port) : (modPort s p f).flash = s.flash := rfl
@[simp] theorem modPort_startup (s : State) (p : Fin 10) (f : Port → Port) : (modPort s p f).startup = s.startup := rfl
@[simp] theorem modPort_log (s : State) (p : Fin 10) (f : Port → Port) : (modPort s p f).log = s.log := rfl
@[simp] theorem modPort_logSeq (s : State) (p : Fin 10) (f : Port → Port) : (modPort s p f).logSeq = s.logSeq := rfl
@[simp] theorem modPort_logged (s : State) (p : Fin 10) (f : Port → Port) : (modPort s p f).logged = s.logged := rfl
@[simp] theorem modPort_out (s : State) (p : Fin 10) (f : Port → Port) : (modPort s p f).out = s.out := rfl
@[simp] theorem modPort_pending (s : State) (p : Fin 10) (f : Port → Port) : (modPort s p f).pending = s.pending := rfl

@[simp] theorem modHost_time (s : State) (p : Fin 2) (f : HostPort → HostPort) : (modHost s p f).time = s.time := rfl
@[simp] theorem modHost_free (s : State) (p : Fin 2) (f : HostPort → HostPort) : (modHost s p f).free = s.free := rfl
@[simp] theorem modHost_regs (s : State) (p : Fin 2) (f : HostPort → HostPort) : (modHost s p f).regs = s.regs := rfl
@[simp] theorem modHost_halves (s : State) (p : Fin 2) (f : HostPort → HostPort) : (modHost s p f).halves = s.halves := rfl
@[simp] theorem modHost_latches (s : State) (p : Fin 2) (f : HostPort → HostPort) : (modHost s p f).latches = s.latches := rfl
@[simp] theorem modHost_pacer (s : State) (p : Fin 2) (f : HostPort → HostPort) : (modHost s p f).pacer = s.pacer := rfl
@[simp] theorem modHost_pitch (s : State) (p : Fin 2) (f : HostPort → HostPort) : (modHost s p f).pitch = s.pitch := rfl
@[simp] theorem modHost_trail (s : State) (p : Fin 2) (f : HostPort → HostPort) : (modHost s p f).trail = s.trail := rfl
@[simp] theorem modHost_tarp (s : State) (p : Fin 2) (f : HostPort → HostPort) : (modHost s p f).tarp = s.tarp := rfl
@[simp] theorem modHost_compass (s : State) (p : Fin 2) (f : HostPort → HostPort) : (modHost s p f).compass = s.compass := rfl
@[simp] theorem modHost_identity (s : State) (p : Fin 2) (f : HostPort → HostPort) : (modHost s p f).identity = s.identity := rfl
@[simp] theorem modHost_regions (s : State) (p : Fin 2) (f : HostPort → HostPort) : (modHost s p f).regions = s.regions := rfl
@[simp] theorem modHost_pegTouched (s : State) (p : Fin 2) (f : HostPort → HostPort) : (modHost s p f).pegTouched = s.pegTouched := rfl
@[simp] theorem modHost_hubIn (s : State) (p : Fin 2) (f : HostPort → HostPort) : (modHost s p f).hubIn = s.hubIn := rfl
@[simp] theorem modHost_ports (s : State) (p : Fin 2) (f : HostPort → HostPort) : (modHost s p f).ports = s.ports := rfl
@[simp] theorem modHost_sinks (s : State) (p : Fin 2) (f : HostPort → HostPort) : (modHost s p f).sinks = s.sinks := rfl
@[simp] theorem modHost_hbm (s : State) (p : Fin 2) (f : HostPort → HostPort) : (modHost s p f).hbm = s.hbm := rfl
@[simp] theorem modHost_barrel (s : State) (p : Fin 2) (f : HostPort → HostPort) : (modHost s p f).barrel = s.barrel := rfl
@[simp] theorem modHost_far (s : State) (p : Fin 2) (f : HostPort → HostPort) : (modHost s p f).far = s.far := rfl
@[simp] theorem modHost_tset (s : State) (p : Fin 2) (f : HostPort → HostPort) : (modHost s p f).tset = s.tset := rfl
@[simp] theorem modHost_flaws (s : State) (p : Fin 2) (f : HostPort → HostPort) : (modHost s p f).flaws = s.flaws := rfl
@[simp] theorem modHost_zipper (s : State) (p : Fin 2) (f : HostPort → HostPort) : (modHost s p f).zipper = s.zipper := rfl
@[simp] theorem modHost_gearLog (s : State) (p : Fin 2) (f : HostPort → HostPort) : (modHost s p f).gearLog = s.gearLog := rfl
@[simp] theorem modHost_gearScript (s : State) (p : Fin 2) (f : HostPort → HostPort) : (modHost s p f).gearScript = s.gearScript := rfl
@[simp] theorem modHost_firewatch (s : State) (p : Fin 2) (f : HostPort → HostPort) : (modHost s p f).firewatch = s.firewatch := rfl
@[simp] theorem modHost_firmware (s : State) (p : Fin 2) (f : HostPort → HostPort) : (modHost s p f).firmware = s.firmware := rfl
@[simp] theorem modHost_whistle (s : State) (p : Fin 2) (f : HostPort → HostPort) : (modHost s p f).whistle = s.whistle := rfl
@[simp] theorem modHost_lantern (s : State) (p : Fin 2) (f : HostPort → HostPort) : (modHost s p f).lantern = s.lantern := rfl
@[simp] theorem modHost_flash (s : State) (p : Fin 2) (f : HostPort → HostPort) : (modHost s p f).flash = s.flash := rfl
@[simp] theorem modHost_startup (s : State) (p : Fin 2) (f : HostPort → HostPort) : (modHost s p f).startup = s.startup := rfl
@[simp] theorem modHost_log (s : State) (p : Fin 2) (f : HostPort → HostPort) : (modHost s p f).log = s.log := rfl
@[simp] theorem modHost_logSeq (s : State) (p : Fin 2) (f : HostPort → HostPort) : (modHost s p f).logSeq = s.logSeq := rfl
@[simp] theorem modHost_logged (s : State) (p : Fin 2) (f : HostPort → HostPort) : (modHost s p f).logged = s.logged := rfl
@[simp] theorem modHost_out (s : State) (p : Fin 2) (f : HostPort → HostPort) : (modHost s p f).out = s.out := rfl
@[simp] theorem modHost_pending (s : State) (p : Fin 2) (f : HostPort → HostPort) : (modHost s p f).pending = s.pending := rfl

@[simp] theorem emit_time (s : State) (o : Output) : (emit s o).time = s.time := rfl
@[simp] theorem emit_free (s : State) (o : Output) : (emit s o).free = s.free := rfl
@[simp] theorem emit_regs (s : State) (o : Output) : (emit s o).regs = s.regs := rfl
@[simp] theorem emit_halves (s : State) (o : Output) : (emit s o).halves = s.halves := rfl
@[simp] theorem emit_latches (s : State) (o : Output) : (emit s o).latches = s.latches := rfl
@[simp] theorem emit_pacer (s : State) (o : Output) : (emit s o).pacer = s.pacer := rfl
@[simp] theorem emit_pitch (s : State) (o : Output) : (emit s o).pitch = s.pitch := rfl
@[simp] theorem emit_trail (s : State) (o : Output) : (emit s o).trail = s.trail := rfl
@[simp] theorem emit_tarp (s : State) (o : Output) : (emit s o).tarp = s.tarp := rfl
@[simp] theorem emit_compass (s : State) (o : Output) : (emit s o).compass = s.compass := rfl
@[simp] theorem emit_identity (s : State) (o : Output) : (emit s o).identity = s.identity := rfl
@[simp] theorem emit_regions (s : State) (o : Output) : (emit s o).regions = s.regions := rfl
@[simp] theorem emit_pegTouched (s : State) (o : Output) : (emit s o).pegTouched = s.pegTouched := rfl
@[simp] theorem emit_hubIn (s : State) (o : Output) : (emit s o).hubIn = s.hubIn := rfl
@[simp] theorem emit_ports (s : State) (o : Output) : (emit s o).ports = s.ports := rfl
@[simp] theorem emit_sinks (s : State) (o : Output) : (emit s o).sinks = s.sinks := rfl
@[simp] theorem emit_hbm (s : State) (o : Output) : (emit s o).hbm = s.hbm := rfl
@[simp] theorem emit_barrel (s : State) (o : Output) : (emit s o).barrel = s.barrel := rfl
@[simp] theorem emit_far (s : State) (o : Output) : (emit s o).far = s.far := rfl
@[simp] theorem emit_tset (s : State) (o : Output) : (emit s o).tset = s.tset := rfl
@[simp] theorem emit_flaws (s : State) (o : Output) : (emit s o).flaws = s.flaws := rfl
@[simp] theorem emit_zipper (s : State) (o : Output) : (emit s o).zipper = s.zipper := rfl
@[simp] theorem emit_gearLog (s : State) (o : Output) : (emit s o).gearLog = s.gearLog := rfl
@[simp] theorem emit_gearScript (s : State) (o : Output) : (emit s o).gearScript = s.gearScript := rfl
@[simp] theorem emit_firewatch (s : State) (o : Output) : (emit s o).firewatch = s.firewatch := rfl
@[simp] theorem emit_hosts (s : State) (o : Output) : (emit s o).hosts = s.hosts := rfl
@[simp] theorem emit_firmware (s : State) (o : Output) : (emit s o).firmware = s.firmware := rfl
@[simp] theorem emit_whistle (s : State) (o : Output) : (emit s o).whistle = s.whistle := rfl
@[simp] theorem emit_lantern (s : State) (o : Output) : (emit s o).lantern = s.lantern := rfl
@[simp] theorem emit_flash (s : State) (o : Output) : (emit s o).flash = s.flash := rfl
@[simp] theorem emit_startup (s : State) (o : Output) : (emit s o).startup = s.startup := rfl
@[simp] theorem emit_log (s : State) (o : Output) : (emit s o).log = s.log := rfl
@[simp] theorem emit_logSeq (s : State) (o : Output) : (emit s o).logSeq = s.logSeq := rfl
@[simp] theorem emit_logged (s : State) (o : Output) : (emit s o).logged = s.logged := rfl
@[simp] theorem emit_pending (s : State) (o : Output) : (emit s o).pending = s.pending := rfl

/-! ## Registers -/

theorem getReg_setReg_same (s : State) (off : Nat) (v : W64) : getReg (setReg s off v) off = v := by
  unfold getReg setReg
  dsimp only
  split
  · rename_i e; rw [e]; exact storeGet_del_same _ _ _
  · exact storeGet_put_same _ _ _ _

theorem getReg_setReg_other (s : State) {off o : Nat} (h : o ≠ off) (v : W64) : getReg (setReg s off v) o = getReg s o := by
  unfold getReg setReg
  dsimp only
  split
  · exact storeGet_del_other _ _ h
  · exact storeGet_put_other _ _ h _

/-- A register read after a write. -/
theorem getReg_setReg (s : State) (off o : Nat) (v : W64) : getReg (setReg s off v) o = if o = off then v else getReg s o := by
  split
  · rename_i h; rw [h]; exact getReg_setReg_same s off v
  · rename_i h; exact getReg_setReg_other s h v

/-- Registers are read from `regs` alone. -/
theorem getReg_congr {s t : State} (h : t.regs = s.regs) (off : Nat) : getReg t off = getReg s off := by
  unfold getReg; rw [h]

theorem getField_congr {s t : State} (h : t.regs = s.regs) (off lo len : Nat) : getField t off lo len = getField s off lo len := by
  unfold getField; rw [getReg_congr h]

@[simp] theorem getReg_modRegion (s : State) (r : Fin 32) (f : Region → Region) (off : Nat) :
    getReg (modRegion s r f) off = getReg s off := rfl
@[simp] theorem getReg_modRegions (s : State) (f : Region → Region) (off : Nat) : getReg (modRegions s f) off = getReg s off := rfl
@[simp] theorem getReg_modPort (s : State) (p : Fin 10) (f : Port → Port) (off : Nat) : getReg (modPort s p f) off = getReg s off := rfl
@[simp] theorem getReg_modHost (s : State) (p : Fin 2) (f : HostPort → HostPort) (off : Nat) :
    getReg (modHost s p f) off = getReg s off := rfl
@[simp] theorem getReg_emit (s : State) (o : Output) (off : Nat) : getReg (emit s o) off = getReg s off := rfl

/-- Bit i of a register value with one field replaced. -/
theorem withField_getLsbD (v : W64) (lo len x i : Nat) : (withField v lo len x).getLsbD i =
    if lo ≤ i ∧ i < lo + len ∧ i < 64 then x.testBit (i - lo) else v.getLsbD i := by
  unfold withField
  simp only [BitVec.getLsbD_or, BitVec.getLsbD_and, BitVec.getLsbD_not, BitVec.getLsbD_ofNat, Nat.testBit_mul_two_pow,
    Nat.testBit_two_pow_sub_one]
  by_cases h3 : i < 64
  · by_cases h1 : lo ≤ i
    · have e : i - lo < len ↔ i < lo + len := by omega
      by_cases h2 : i < lo + len <;> simp [h1, h2, h3, e]
    · simp [h1, h3]
  · simp [h3, BitVec.getLsbD_of_ge v i (by omega)]

theorem fieldN_testBit (v lo len i : Nat) : (fieldN v lo len).testBit i = (decide (i < len) && v.testBit (lo + i)) := by
  unfold fieldN
  rw [Nat.testBit_mod_two_pow, Nat.testBit_div_two_pow, Nat.add_comm]

/-- A field set reads back, cut to its width. -/
theorem fieldN_withField_same (v : W64) (lo len x : Nat) (h : lo + len ≤ 64) :
    fieldN (withField v lo len x).toNat lo len = x % 2 ^ len := by
  apply Nat.eq_of_testBit_eq
  intro i
  rw [fieldN_testBit, Nat.testBit_mod_two_pow, BitVec.testBit_toNat, withField_getLsbD]
  by_cases hi : i < len
  · simp [hi, show lo ≤ lo + i by omega, show lo + i < 64 by omega]
  · simp [hi]

/-- A field set leaves every disjoint field alone. -/
theorem fieldN_withField_other (v : W64) (lo len x lo' len' : Nat) (h : lo' + len' ≤ lo ∨ lo + len ≤ lo') :
    fieldN (withField v lo len x).toNat lo' len' = fieldN v.toNat lo' len' := by
  apply Nat.eq_of_testBit_eq
  intro i
  rw [fieldN_testBit, fieldN_testBit, BitVec.testBit_toNat, BitVec.testBit_toNat, withField_getLsbD]
  by_cases hi : i < len'
  · rw [if_neg (by omega)]
  · simp [hi]

theorem getField_setField_same (s : State) (off lo len x : Nat) (h : lo + len ≤ 64) :
    getField (setField s off lo len x) off lo len = x % 2 ^ len := by
  unfold getField setField
  rw [getReg_setReg_same, fieldN_withField_same _ _ _ _ h]

theorem getField_setField_disjoint (s : State) (off lo len x lo' len' : Nat) (h : lo' + len' ≤ lo ∨ lo + len ≤ lo') :
    getField (setField s off lo len x) off lo' len' = getField s off lo' len' := by
  unfold getField setField
  rw [getReg_setReg_same, fieldN_withField_other _ _ _ _ _ _ h]

theorem getReg_setField_other (s : State) {off o : Nat} (h : o ≠ off) (lo len x : Nat) :
    getReg (setField s off lo len x) o = getReg s o := getReg_setReg_other s h _

theorem getField_setField_other (s : State) {off o : Nat} (h : o ≠ off) (lo len x lo' len' : Nat) :
    getField (setField s off lo len x) o lo' len' = getField s o lo' len' := by
  unfold getField; rw [getReg_setField_other s h]

/-! ## Regions and ports -/

@[simp] theorem modRegion_regions_val (s : State) (r : Fin 32) (f : Region → Region) : (modRegion s r f).regions[r.val] = f s.regions[r.val] := by
  simp [modRegion]

theorem modRegion_regions_same (s : State) (r : Fin 32) (f : Region → Region) :
    (modRegion s r f).regions[r] = f s.regions[r] := by simp [modRegion]

theorem modRegion_regions_other (s : State) {r q : Fin 32} (h : q ≠ r) (f : Region → Region) :
    (modRegion s r f).regions[q] = s.regions[q] := by
  simp only [modRegion, Fin.getElem_fin, Vector.getElem_set]
  rw [if_neg (fun e => h (Fin.ext e.symm))]

/-- A region read after one is replaced. -/
theorem modRegion_regions_get (s : State) (r q : Fin 32) (f : Region → Region) :
    (modRegion s r f).regions[q] = if q = r then f s.regions[q] else s.regions[q] := by
  split
  · rename_i h; subst h; exact modRegion_regions_same s _ f
  · rename_i h; exact modRegion_regions_other s h f

@[simp] theorem modPort_ports_val (s : State) (p : Fin 10) (f : Port → Port) : (modPort s p f).ports[p.val] = f s.ports[p.val] := by
  simp [modPort]

theorem modPort_ports_same (s : State) (p : Fin 10) (f : Port → Port) : (modPort s p f).ports[p] = f s.ports[p] := by
  simp [modPort]

theorem modPort_ports_other (s : State) {p q : Fin 10} (h : q ≠ p) (f : Port → Port) : (modPort s p f).ports[q] = s.ports[q] := by
  simp only [modPort, Fin.getElem_fin, Vector.getElem_set]
  rw [if_neg (fun e => h (Fin.ext e.symm))]

@[simp] theorem modHost_hosts_val (s : State) (p : Fin 2) (f : HostPort → HostPort) : (modHost s p f).hosts[p.val] = f s.hosts[p.val] := by
  simp [modHost]

theorem modHost_hosts_same (s : State) (p : Fin 2) (f : HostPort → HostPort) : (modHost s p f).hosts[p] = f s.hosts[p] := by
  simp [modHost]

theorem modHost_hosts_other (s : State) {p q : Fin 2} (h : q ≠ p) (f : HostPort → HostPort) :
    (modHost s p f).hosts[q] = s.hosts[q] := by
  simp only [modHost, Fin.getElem_fin, Vector.getElem_set]
  rw [if_neg (fun e => h (Fin.ext e.symm))]

/-! ## Events -/

/-- A pulse touches Whistle alone. -/
theorem pulse_frame (s : State) (n : Nat) : ∃ w, pulse s n = { s with whistle := w } := by
  unfold pulse makePending
  dsimp only
  split
  · exact ⟨_, rfl⟩
  · split
    · exact ⟨_, rfl⟩
    · split <;> exact ⟨_, rfl⟩

/-- An event record touches the log, Whistle and the count of free values. -/
theorem logEvent_frame (s : State) (code : Nat) : ∃ l w, logEvent s code =
    { s with free := s.free + 1, log := l, logSeq := s.logSeq + 1, whistle := w } := by
  unfold logEvent freshWord
  dsimp only
  exact ⟨_, _, (pulse_frame _ _).choose_spec⟩

/-- A Lantern count touches Lantern and, at a wrap, Whistle. -/
theorem lnAdd_frame (s : State) (r k n : Nat) : ∃ l w, lnAdd s r k n = { s with lantern := l, whistle := w } := by
  unfold lnAdd
  dsimp only
  repeat' split
  all_goals first | exact ⟨_, _, rfl⟩ | exact ⟨_, _, (pulse_frame _ _).choose_spec⟩

end Sys2Proof.Machine
end

