-- ==== Sys2Proof/Laws/Issue.lean ====
section
/-!
SUPPORT. Laws/Issue.lean: what an action command does at its issue, said once: the context, the Sack ports it takes, what it
queues, and what a clean read gives.
-/

namespace Sys2Proof.Machine

set_option Elab.async false

/-! ## Composing region updates -/

theorem modRegion_twice (s : State) (r : Fin 32) (f g : Region → Region) :
    modRegion (modRegion s r f) r g = modRegion s r (fun q => g (f q)) := by
  unfold modRegion
  simp

theorem modRegion_id (s : State) (r : Fin 32) (f : Region → Region) (h : f s.regions[r] = s.regions[r]) : modRegion s r f = s := by
  unfold modRegion
  rw [h]
  simp

/-- The context an action command issues in (log entry 11). -/
def issueAt (r : Fin 32) (b : Nat) (c : Instr) : Ctx := { r := r, beat := b, issue := b, slot := actionSlot c }

@[simp] theorem issueAt_r (r : Fin 32) (b : Nat) (c : Instr) : (issueAt r b c).r = r := rfl
@[simp] theorem issueAt_beat (r : Fin 32) (b : Nat) (c : Instr) : (issueAt r b c).beat = b := rfl
@[simp] theorem issueAt_issue (r : Fin 32) (b : Nat) (c : Instr) : (issueAt r b c).issue = b := rfl
@[simp] theorem issueAt_slot (r : Fin 32) (b : Nat) (c : Instr) : (issueAt r b c).slot = actionSlot c := rfl

/-- An action command that validation accepts and no rule refuses issues in the open beat of its region. -/
theorem direct_open (s : State) (r : Fin 32) (b : Nat) (c : Instr) (f : Ctx → State → State) (hc : actionCause c = none)
    (hn : actionRefused (issueAt r b c) s c = false) (hb : beatOpen s r b) :
    direct s r c f = .next (f (issueAt r b c) (lnAction (noteReads s r (actionSlot c) (actionReads c)) r c)) := by
  obtain ⟨h1, h2, h3⟩ := hb
  have hx : issueCtx s r c = some (issueAt r b c) := by
    simp only [issueCtx, beatOf, h1, if_pos (Nat.lt_succ_of_le h2), h3, issueAt]
    simp
  simp only [direct, hc, hx, portReads, hn, Bool.false_eq_true, if_false]
  rfl

/-- The same for THRU. -/
theorem directThru_open (s : State) (r : Fin 32) (b : Nat) (c : Instr) (f : Ctx → State → State) (hc : actionCause c = none)
    (hb : beatOpen s r b) : directThru s r c f = .next (f (issueAt r b c) s) := by
  obtain ⟨h1, h2, h3⟩ := hb
  simp only [directThru, hc, beatOf, h1, if_pos (Nat.lt_succ_of_le h2), issueAt]
  simp

/-- Lantern's count of an issue. -/
theorem lnAction_frame (s : State) (r : Fin 32) (c : Instr) : ∃ l w, lnAction s r c = { s with lantern := l, whistle := w } := by
  unfold lnAction
  dsimp only
  split
  · exact lnAdd_frame ..
  · exact lnAdd_frame ..
  · split
    · exact lnAdd_frame ..
    · exact ⟨_, _, rfl⟩

/-! ## Queued effects -/

/-- An effect for which there is room is queued with its beat, the beat of issue and the slot. -/
theorem later_room (x : Ctx) (s : State) (beat : Nat) (m : Micro) (h : roomTo s x.r beat) : later x s beat m =
    modRegion s x.r fun g => { g with due := g.due ++ [{ beat := beat, issue := x.issue, slot := x.slot, op := m }] } := by
  obtain ⟨h1, h2⟩ := h
  unfold later
  simp only [h1, Bool.false_and, Bool.false_eq_true, if_false]
  cases he : (x.g s).bndBeat with
  | none => simp
  | some e =>
    have := h2 e he
    simp [show ¬ e < beat by omega]

theorem roomTo_mono {s : State} {r : Fin 32} {b b' : Nat} (h : roomTo s r b) (hb : b' ≤ b) : roomTo s r b' :=
  ⟨h.1, fun e he => Nat.le_trans hb (h.2 e he)⟩

theorem roomTo_congr {s t : State} {r : Fin 32} {b : Nat} (h : roomTo s r b) (ht : t.tarp = s.tarp)
    (hg : t.regions[r].bndBeat = s.regions[r].bndBeat) : roomTo t r b := by
  unfold roomTo; rw [ht, hg]; exact h

/-- A list of effects for which there is room is queued in its order. -/
theorem foldl_later {α : Type} (x : Ctx) (l : List α) (at_ : α → Nat) (op : α → Micro) (s : State)
    (h : ∀ a ∈ l, roomTo s x.r (at_ a)) : l.foldl (fun s a => later x s (at_ a) (op a)) s =
    modRegion s x.r fun g => { g with due := g.due ++ l.map fun a =>
      { beat := at_ a, issue := x.issue, slot := x.slot, op := op a } } := by
  induction l generalizing s with
  | nil => exact (modRegion_id s x.r _ (by simp)).symm
  | cons a l ih =>
    rw [List.foldl_cons, later_room x s _ _ (h a (by simp)), ih, modRegion_twice]
    · simp
    · intro c hc
      exact roomTo_congr (h c (by simp [hc])) rfl (by simp)

/-- The effects of successive beats from the one in progress: the first is carried out, the others are queued. -/
theorem foldl_atBeat (x : Ctx) (n : Nat) (step : Nat) (hs : 0 < step) (op : Nat → Micro) (s : State)
    (h : ∀ i, 0 < i → i ≤ n → roomTo (runMicro x s (op 0)) x.r (x.beat + i * step)) :
    (List.range (n + 1)).foldl (fun s i => atBeat x s (x.beat + i * step) (op i)) s =
    modRegion (runMicro x s (op 0)) x.r fun g => { g with due := g.due ++ (List.range n).map fun i =>
      { beat := x.beat + (i + 1) * step, issue := x.issue, slot := x.slot, op := op (i + 1) } } := by
  rw [List.range_succ_eq_map, List.foldl_cons]
  have e : atBeat x s (x.beat + 0 * step) (op 0) = runMicro x s (op 0) := by simp [atBeat]
  rw [e, List.foldl_map]
  have e2 : ∀ (l : List Nat) (t : State), l.foldl (fun s i => atBeat x s (x.beat + i.succ * step) (op i.succ)) t =
      l.foldl (fun s i => later x s (x.beat + (i + 1) * step) (op (i + 1))) t := by
    intro l
    induction l with
    | nil => intro t; rfl
    | cons i l ih =>
      intro t
      rw [List.foldl_cons, List.foldl_cons, ih]
      congr 1
      have : 0 < (i + 1) * step := Nat.mul_pos (Nat.succ_pos i) hs
      unfold atBeat
      rw [if_neg (by simp only [Nat.succ_eq_add_one]; omega)]
  rw [e2, foldl_later x (List.range n) (fun i => x.beat + (i + 1) * step) (fun i => op (i + 1))]
  intro i hi
  exact h (i + 1) (Nat.succ_pos i) (by simp at hi; omega)

/-! ## Places that writes under way may reach -/

theorem sidePlaces_congr {s t : State} (h : ∀ q : Fin 32, t.regions[q].windows = s.regions[q].windows) (r f : Nat) (v : W64) :
    sidePlaces t r f v = sidePlaces s r f v := by
  unfold sidePlaces windowOf
  rw [h]

theorem entryPlaces_congr {s t : State} (h : ∀ q : Fin 32, t.regions[q].windows = s.regions[q].windows)
    (ht : ∀ q : Fin 32, t.regions[q].thrus = s.regions[q].thrus) (fuel n i b : Nat) (v : W64) :
    entryPlaces t fuel n i b v = entryPlaces s fuel n i b v := by
  induction fuel generalizing n i b with
  | zero => rfl
  | succ fuel ih =>
    simp only [entryPlaces, thruFor, ht, sidePlaces_congr h, ih]

theorem microPlaces_congr {s t : State} (h : ∀ q : Fin 32, t.regions[q].windows = s.regions[q].windows)
    (ht : ∀ q : Fin 32, t.regions[q].thrus = s.regions[q].thrus)
    (ha : ∀ (q : Fin 32) (c : Fin 8), (t.regions[q].stoves[c]).act = (s.regions[q].stoves[c]).act) (r b : Nat) (m : Micro) :
    microPlaces t r b m = microPlaces s r b m := by
  have hr : ∀ r f b v, remotePlaces t r f b v = remotePlaces s r f b v := by
    intro r f b v
    unfold remotePlaces
    split
    · rfl
    · split
      · rfl
      · exact entryPlaces_congr h ht ..
  unfold microPlaces
  split <;> first | rfl | exact hr .. | (simp only [ha]; done) | (split <;> first | rfl | exact hr ..)

/-- Whether a write is under way depends on the regions' queued effects, crossings, windows and THRU actions alone. -/
theorem pendingWrite_congr {s t : State} (x : Ctx) (p : Place)
    (h : ∀ q : Fin 32, t.regions[q].windows = s.regions[q].windows) (ht : ∀ q : Fin 32, t.regions[q].thrus = s.regions[q].thrus)
    (hd : ∀ q : Fin 32, t.regions[q].due = s.regions[q].due) (hx : ∀ q : Fin 32, t.regions[q].xings = s.regions[q].xings)
    (ha : ∀ (q : Fin 32) (c : Fin 8), (t.regions[q].stoves[c]).act = (s.regions[q].stoves[c]).act) :
    pendingWrite x t p = pendingWrite x s p := by
  unfold pendingWrite crossingPending Ctx.g
  simp only [hd, hx, microPlaces_congr h ht ha, entryPlaces_congr h ht]

/-- A part of the regions that a region update keeps. -/
theorem modRegion_keeps {α : Type} (s : State) (r : Fin 32) (f : Region → Region) (part : Region → α)
    (h : ∀ g, part (f g) = part g) (q : Fin 32) : part (modRegion s r f).regions[q] = part s.regions[q] := by
  rw [modRegion_regions_get]
  split
  · exact h _
  · rfl

/-- What a read meets of the ways that writes under way take. -/
structure SameWays (s t : State) : Prop where
  windows : ∀ q : Fin 32, t.regions[q].windows = s.regions[q].windows
  thrus : ∀ q : Fin 32, t.regions[q].thrus = s.regions[q].thrus
  due : ∀ q : Fin 32, t.regions[q].due = s.regions[q].due
  xings : ∀ q : Fin 32, t.regions[q].xings = s.regions[q].xings
  acts : ∀ (q : Fin 32) (c : Fin 8), (t.regions[q].stoves[c]).act = (s.regions[q].stoves[c]).act
  flaws : t.flaws = s.flaws

theorem SameWays.modRegion {s t : State} (h : SameWays s t) (r : Fin 32) (f : Region → Region)
    (hw : ∀ g, (f g).windows = g.windows) (ht : ∀ g, (f g).thrus = g.thrus) (hd : ∀ g, (f g).due = g.due)
    (hx : ∀ g, (f g).xings = g.xings) (ha : ∀ g (c : Fin 8), ((f g).stoves[c]).act = (g.stoves[c]).act) :
    SameWays s (modRegion t r f) :=
  ⟨fun q => (modRegion_keeps t r f (·.windows) hw q).trans (h.windows q),
   fun q => (modRegion_keeps t r f (·.thrus) ht q).trans (h.thrus q),
   fun q => (modRegion_keeps t r f (·.due) hd q).trans (h.due q),
   fun q => (modRegion_keeps t r f (·.xings) hx q).trans (h.xings q),
   fun q c => (modRegion_keeps t r f (fun g => (g.stoves[c]).act) (fun g => ha g c) q).trans (h.acts q c), h.flaws⟩

theorem checkSackEcc_clean (x : Ctx) (s : State) (k line : Nat) (h : ∀ w ue, Flaw.sack x.r.val k line w ue ∉ s.flaws) :
    checkSackEcc x s k line = s := by
  unfold checkSackEcc
  have key : ∀ (l : List Flaw) (t : State), (∀ w ue, Flaw.sack x.r.val k line w ue ∉ l) → l.foldl (fun s f =>
      match f with
      | .sack r' k' l' w ue =>
        if r' = x.r.val ∧ k' = k ∧ l' = line then
          let s := countField s (Reg.RG_SACK_ECC x.r.val) (if ue then 0 else 16) 16 1
          let s := setReg s (Reg.RG_SACK_ECC_LOC x.r.val)
            (BitVec.ofNat 64 (k * 2 ^ 27 + line * 2 ^ 14 + w * 2 ^ 10 + bit1 ue * 2 ^ 9))
          if ue then faultOf x s 0x2506 else lnAdd (logEvent s 0x0505) x.r.val 22 1
        else s
      | _ => s) t = t := by
    intro l
    induction l with
    | nil => intro t _; rfl
    | cons f l ih =>
      intro t hl
      rw [List.foldl_cons]
      have hl' : ∀ w ue, Flaw.sack x.r.val k line w ue ∉ l := fun w ue hm => hl w ue (by simp [hm])
      cases f with
      | sack r' k' l' w ue =>
        have hn : ¬ (r' = x.r.val ∧ k' = k ∧ l' = line) := by
          rintro ⟨rfl, rfl, rfl⟩
          exact hl w ue (by simp)
        simp only [hn, if_false]
        exact ih t hl'
      | _ => exact ih t hl'
  exact key s.flaws s h

theorem sackUe_clean (s : State) (r : Fin 32) (k line : Nat) (h : ∀ w ue, Flaw.sack r.val k line w ue ∉ s.flaws) :
    sackUe s r k line = false := by
  unfold sackUe
  rw [List.any_eq_false]
  intro f hf
  cases f with
  | sack r' k' l' w ue =>
    have hn : ¬ (r' = r.val ∧ k' = k ∧ l' = line) := by
      rintro ⟨rfl, rfl, rfl⟩
      exact h w ue hf
    simp [hn]
  | _ => simp

/-- A read port with at most one use in the beat has no clash (R123). -/
theorem portClash_clean (x : Ctx) (s : State) (k : Nat) (h : ((x.g s).readers.filter (fun u => u.1 == k)).length ≤ 1) :
    portClash x s k = (false, s) := by
  unfold portClash
  dsimp only
  rw [if_neg (by omega)]

/-- A clean read that an action makes at its issue gives the line as it stands, and changes nothing (R122). -/
theorem readSack_clean (s t : State) (r : Fin 32) (b : Nat) (c : Instr) (k line : Nat) (h : readsClean s r b c k line)
    (hw : SameWays s t) (hr : t.regions[r].readers = s.regions[r].readers ++ (actionReads c).map (fun k => (k, actionSlot c)))
    (hk : ((actionReads c).filter (· == k)).length ≤ 1) :
    readSack (issueAt r b c) t k line = (sackLine t.regions[r] k line, t) := by
  obtain ⟨h1, h2, h3⟩ := h
  have hu : ((t.regions[r].readers).filter (fun u => u.1 == k)).length ≤ 1 := by
    rw [hr, List.filter_append, List.length_append, List.filter_map, List.length_map]
    have : (s.regions[r].readers).filter (fun u => u.1 == k) = [] := by
      rw [List.filter_eq_nil_iff]
      intro u hu
      simpa using h1 u hu
    rw [this]
    simpa [Function.comp_def] using hk
  have hp : pendingWrite (issueAt r b c) t (.sack r.val k line) = false := by
    rw [pendingWrite_congr (s := s) _ _ hw.windows hw.thrus hw.due hw.xings hw.acts]
    exact h2
  have hf : ∀ w ue, Flaw.sack r.val k line w ue ∉ t.flaws := by rw [hw.flaws]; exact h3
  unfold readSack
  have hu' : portClash (issueAt r b c) t k = (false, t) := portClash_clean _ _ _ (by simpa [Ctx.g, issueAt] using hu)
  have hp' : ¬ pendingWrite (issueAt r b c) t (.sack (issueAt r b c).r.val k line) = true := by
    simpa [issueAt] using hp
  have hf' : ¬ sackUe t (issueAt r b c).r k line = true := by
    simp [issueAt, sackUe_clean t r k line hf]
  simp only [hu', hp', hf', Bool.false_eq_true, if_false, checkSackEcc_clean (issueAt r b c) t k line hf]
  rfl

/-- The effects of successive beats from the one in progress, one a beat. -/
theorem foldl_atBeat_one (x : Ctx) (n : Nat) (op : Nat → Micro) (s : State)
    (h : ∀ i, 0 < i → i ≤ n → roomTo (runMicro x s (op 0)) x.r (x.beat + i)) :
    (List.range (n + 1)).foldl (fun s i => atBeat x s (x.beat + i) (op i)) s =
    modRegion (runMicro x s (op 0)) x.r fun g => { g with due := g.due ++ (List.range n).map fun i =>
      { beat := x.beat + (i + 1), issue := x.issue, slot := x.slot, op := op (i + 1) } } := by
  have := foldl_atBeat x n 1 Nat.one_pos op s (by simpa using h)
  simpa using this

/-- An action that breaks no rule has its effect. -/
theorem unlessFault_ok (x : Ctx) (s : State) (i : Instr) (f : State → State) (h : stoveFault x s i = none) :
    unlessFault x s i f = f s := by
  unfold unlessFault
  rw [h]

/-- Checks that all pass name no fault. -/
theorem firstFault_none (checks : List (Bool × Nat)) (h : ∀ e ∈ checks, e.1 = false) : firstFault checks = none := by
  unfold firstFault
  have : checks.find? (·.1) = none := by
    rw [List.find?_eq_none]
    intro e he
    simp [h e he]
  rw [this]
  rfl

/-- The state in which an action of an open beat has its effect: the read ports are taken and Lantern has counted. -/
theorem issue_state (s : State) (r : Fin 32) (c : Instr) : ∃ n w,
    lnAction (noteReads s r (actionSlot c) (actionReads c)) r c = modRegion { s with lantern := n, whistle := w } r fun g =>
      { g with readers := g.readers ++ (actionReads c).map (fun k => (k, actionSlot c)) } := by
  obtain ⟨n, w, e⟩ := lnAction_frame (noteReads s r (actionSlot c) (actionReads c)) r c
  exact ⟨n, w, e⟩

/-- How `issued` is shown: the state as one update of the region. -/
theorem issued_mk {s t : State} {r : Fin 32} {c : Instr} {b : Nat} {f h : Region → Region} {l : List (Nat × Micro)} {n : Lantern}
    {w : Whistle} (ht : t = modRegion { s with lantern := n, whistle := w } r h)
    (hh : h s.regions[r] = f { s.regions[r] with
      readers := s.regions[r].readers ++ (actionReads c).map (fun k => (k, actionSlot c))
      due := s.regions[r].due ++ l.map (fun e => { beat := e.1, issue := b, slot := actionSlot c, op := e.2 }) }) :
    issued s t r c b f l := by
  refine ⟨n, w, ?_⟩
  rw [ht, ← hh]
  rfl

/-- Room is not lost by an update of the region that keeps its CBND beat. -/
theorem roomTo_modRegion {s : State} {r : Fin 32} {b : Nat} (h : roomTo s r b) (n : Lantern) (w : Whistle) (f : Region → Region)
    (hf : ∀ g, (f g).bndBeat = g.bndBeat) : roomTo (modRegion { s with lantern := n, whistle := w } r f) r b := by
  refine roomTo_congr h rfl ?_
  rw [modRegion_regions_same, hf]

/-- The same for what a read meets. -/
theorem sameWays_modRegion (s : State) (n : Lantern) (w : Whistle) (r : Fin 32) (f : Region → Region)
    (hw : ∀ g, (f g).windows = g.windows) (ht : ∀ g, (f g).thrus = g.thrus) (hd : ∀ g, (f g).due = g.due)
    (hx : ∀ g, (f g).xings = g.xings) (ha : ∀ g (c : Fin 8), ((f g).stoves[c]).act = (g.stoves[c]).act) :
    SameWays s (modRegion { s with lantern := n, whistle := w } r f) :=
  SameWays.modRegion (s := s) (t := { s with lantern := n, whistle := w })
    ⟨fun _ => rfl, fun _ => rfl, fun _ => rfl, fun _ => rfl, fun _ _ => rfl, rfl⟩ r f hw ht hd hx ha

/-- A clean read after one update of the region. -/
theorem readSack_issue {s : State} {r : Fin 32} {b : Nat} {c : Instr} {k line : Nat} (h : readsClean s r b c k line) (n : Lantern)
    (w : Whistle) (f : Region → Region) (hk : ((actionReads c).filter (· == k)).length ≤ 1)
    (hr : (f s.regions[r]).readers = s.regions[r].readers ++ (actionReads c).map (fun k => (k, actionSlot c)))
    (hs : (f s.regions[r]).sacks = s.regions[r].sacks)
    (hw : ∀ g, (f g).windows = g.windows) (ht : ∀ g, (f g).thrus = g.thrus) (hd : ∀ g, (f g).due = g.due)
    (hx : ∀ g, (f g).xings = g.xings) (ha : ∀ g (c : Fin 8), ((f g).stoves[c]).act = (g.stoves[c]).act) :
    readSack (issueAt r b c) (modRegion { s with lantern := n, whistle := w } r f) k line =
      (sackLine s.regions[r] k line, modRegion { s with lantern := n, whistle := w } r f) := by
  rw [readSack_clean s _ r b c k line h (sameWays_modRegion s n w r f hw ht hd hx ha) (by rw [modRegion_regions_same]; exact hr) hk]
  rw [modRegion_regions_same]
  unfold sackLine
  rw [hs]

/-- A region with effects of command c, issued in beat b, queued. -/
def queue (b : Nat) (c : Instr) (l : List (Nat × Micro)) (g : Region) : Region :=
  { g with due := g.due ++ l.map (fun e => { beat := e.1, issue := b, slot := actionSlot c, op := e.2 }) }

/-- A region whose Sack read ports command c has taken. -/
def takePorts (c : Instr) (g : Region) : Region :=
  { g with readers := g.readers ++ (actionReads c).map (fun k => (k, actionSlot c)) }

/-! ### Fields of a region under these updates -/

@[simp] theorem queue_begun (b : Nat) (c : Instr) (l : List (Nat × Micro)) (g : Region) : (queue b c l g).begun = g.begun := rfl
@[simp] theorem queue_completed (b : Nat) (c : Instr) (l : List (Nat × Micro)) (g : Region) : (queue b c l g).completed = g.completed := rfl
@[simp] theorem queue_acked (b : Nat) (c : Instr) (l : List (Nat × Micro)) (g : Region) : (queue b c l g).acked = g.acked := rfl
@[simp] theorem queue_rowWait (b : Nat) (c : Instr) (l : List (Nat × Micro)) (g : Region) : (queue b c l g).rowWait = g.rowWait := rfl
@[simp] theorem queue_hangFrom (b : Nat) (c : Instr) (l : List (Nat × Micro)) (g : Region) : (queue b c l g).hangFrom = g.hangFrom := rfl
@[simp] theorem queue_begunAt (b : Nat) (c : Instr) (l : List (Nat × Micro)) (g : Region) : (queue b c l g).begunAt = g.begunAt := rfl
@[simp] theorem queue_permitWait (b : Nat) (c : Instr) (l : List (Nat × Micro)) (g : Region) : (queue b c l g).permitWait = g.permitWait := rfl
@[simp] theorem queue_slackWait (b : Nat) (c : Instr) (l : List (Nat × Micro)) (g : Region) : (queue b c l g).slackWait = g.slackWait := rfl
@[simp] theorem queue_waits (b : Nat) (c : Instr) (l : List (Nat × Micro)) (g : Region) : (queue b c l g).waits = g.waits := rfl
@[simp] theorem queue_held (b : Nat) (c : Instr) (l : List (Nat × Micro)) (g : Region) : (queue b c l g).held = g.held := rfl
@[simp] theorem queue_guard (b : Nat) (c : Instr) (l : List (Nat × Micro)) (g : Region) : (queue b c l g).guard = g.guard := rfl
@[simp] theorem queue_readers (b : Nat) (c : Instr) (l : List (Nat × Micro)) (g : Region) : (queue b c l g).readers = g.readers := rfl
@[simp] theorem queue_writers (b : Nat) (c : Instr) (l : List (Nat × Micro)) (g : Region) : (queue b c l g).writers = g.writers := rfl
@[simp] theorem queue_faces (b : Nat) (c : Instr) (l : List (Nat × Micro)) (g : Region) : (queue b c l g).faces = g.faces := rfl
@[simp] theorem queue_fetch (b : Nat) (c : Instr) (l : List (Nat × Micro)) (g : Region) : (queue b c l g).fetch = g.fetch := rfl
@[simp] theorem queue_rowsBegun (b : Nat) (c : Instr) (l : List (Nat × Micro)) (g : Region) : (queue b c l g).rowsBegun = g.rowsBegun := rfl
@[simp] theorem queue_bndBeat (b : Nat) (c : Instr) (l : List (Nat × Micro)) (g : Region) : (queue b c l g).bndBeat = g.bndBeat := rfl
@[simp] theorem queue_sacks (b : Nat) (c : Instr) (l : List (Nat × Micro)) (g : Region) : (queue b c l g).sacks = g.sacks := rfl
@[simp] theorem queue_stoves (b : Nat) (c : Instr) (l : List (Nat × Micro)) (g : Region) : (queue b c l g).stoves = g.stoves := rfl
@[simp] theorem queue_kettles (b : Nat) (c : Instr) (l : List (Nat × Micro)) (g : Region) : (queue b c l g).kettles = g.kettles := rfl
@[simp] theorem queue_pegs (b : Nat) (c : Instr) (l : List (Nat × Micro)) (g : Region) : (queue b c l g).pegs = g.pegs := rfl
@[simp] theorem queue_pegLater (b : Nat) (c : Instr) (l : List (Nat × Micro)) (g : Region) : (queue b c l g).pegLater = g.pegLater := rfl
@[simp] theorem queue_windows (b : Nat) (c : Instr) (l : List (Nat × Micro)) (g : Region) : (queue b c l g).windows = g.windows := rfl
@[simp] theorem queue_thrus (b : Nat) (c : Instr) (l : List (Nat × Micro)) (g : Region) : (queue b c l g).thrus = g.thrus := rfl
@[simp] theorem queue_xings (b : Nat) (c : Instr) (l : List (Nat × Micro)) (g : Region) : (queue b c l g).xings = g.xings := rfl
@[simp] theorem queue_occPeak (b : Nat) (c : Instr) (l : List (Nat × Micro)) (g : Region) : (queue b c l g).occPeak = g.occPeak := rfl
@[simp] theorem queue_tracks (b : Nat) (c : Instr) (l : List (Nat × Micro)) (g : Region) : (queue b c l g).tracks = g.tracks := rfl
@[simp] theorem queue_banks (b : Nat) (c : Instr) (l : List (Nat × Micro)) (g : Region) : (queue b c l g).banks = g.banks := rfl
@[simp] theorem queue_xregs (b : Nat) (c : Instr) (l : List (Nat × Micro)) (g : Region) : (queue b c l g).xregs = g.xregs := rfl
@[simp] theorem queue_cap (b : Nat) (c : Instr) (l : List (Nat × Micro)) (g : Region) : (queue b c l g).cap = g.cap := rfl
@[simp] theorem queue_idleOf (b : Nat) (c : Instr) (l : List (Nat × Micro)) (g : Region) : (queue b c l g).idleOf = g.idleOf := rfl
@[simp] theorem queue_asleep (b : Nat) (c : Instr) (l : List (Nat × Micro)) (g : Region) : (queue b c l g).asleep = g.asleep := rfl
@[simp] theorem queue_waking (b : Nat) (c : Instr) (l : List (Nat × Micro)) (g : Region) : (queue b c l g).waking = g.waking := rfl

@[simp] theorem takePorts_begun (c : Instr) (g : Region) : (takePorts c g).begun = g.begun := rfl
@[simp] theorem takePorts_completed (c : Instr) (g : Region) : (takePorts c g).completed = g.completed := rfl
@[simp] theorem takePorts_acked (c : Instr) (g : Region) : (takePorts c g).acked = g.acked := rfl
@[simp] theorem takePorts_rowWait (c : Instr) (g : Region) : (takePorts c g).rowWait = g.rowWait := rfl
@[simp] theorem takePorts_hangFrom (c : Instr) (g : Region) : (takePorts c g).hangFrom = g.hangFrom := rfl
@[simp] theorem takePorts_begunAt (c : Instr) (g : Region) : (takePorts c g).begunAt = g.begunAt := rfl
@[simp] theorem takePorts_permitWait (c : Instr) (g : Region) : (takePorts c g).permitWait = g.permitWait := rfl
@[simp] theorem takePorts_slackWait (c : Instr) (g : Region) : (takePorts c g).slackWait = g.slackWait := rfl
@[simp] theorem takePorts_waits (c : Instr) (g : Region) : (takePorts c g).waits = g.waits := rfl
@[simp] theorem takePorts_held (c : Instr) (g : Region) : (takePorts c g).held = g.held := rfl
@[simp] theorem takePorts_guard (c : Instr) (g : Region) : (takePorts c g).guard = g.guard := rfl
@[simp] theorem takePorts_due (c : Instr) (g : Region) : (takePorts c g).due = g.due := rfl
@[simp] theorem takePorts_writers (c : Instr) (g : Region) : (takePorts c g).writers = g.writers := rfl
@[simp] theorem takePorts_faces (c : Instr) (g : Region) : (takePorts c g).faces = g.faces := rfl
@[simp] theorem takePorts_fetch (c : Instr) (g : Region) : (takePorts c g).fetch = g.fetch := rfl
@[simp] theorem takePorts_rowsBegun (c : Instr) (g : Region) : (takePorts c g).rowsBegun = g.rowsBegun := rfl
@[simp] theorem takePorts_bndBeat (c : Instr) (g : Region) : (takePorts c g).bndBeat = g.bndBeat := rfl
@[simp] theorem takePorts_sacks (c : Instr) (g : Region) : (takePorts c g).sacks = g.sacks := rfl
@[simp] theorem takePorts_stoves (c : Instr) (g : Region) : (takePorts c g).stoves = g.stoves := rfl
@[simp] theorem takePorts_kettles (c : Instr) (g : Region) : (takePorts c g).kettles = g.kettles := rfl
@[simp] theorem takePorts_pegs (c : Instr) (g : Region) : (takePorts c g).pegs = g.pegs := rfl
@[simp] theorem takePorts_pegLater (c : Instr) (g : Region) : (takePorts c g).pegLater = g.pegLater := rfl
@[simp] theorem takePorts_windows (c : Instr) (g : Region) : (takePorts c g).windows = g.windows := rfl
@[simp] theorem takePorts_thrus (c : Instr) (g : Region) : (takePorts c g).thrus = g.thrus := rfl
@[simp] theorem takePorts_xings (c : Instr) (g : Region) : (takePorts c g).xings = g.xings := rfl
@[simp] theorem takePorts_occPeak (c : Instr) (g : Region) : (takePorts c g).occPeak = g.occPeak := rfl
@[simp] theorem takePorts_tracks (c : Instr) (g : Region) : (takePorts c g).tracks = g.tracks := rfl
@[simp] theorem takePorts_banks (c : Instr) (g : Region) : (takePorts c g).banks = g.banks := rfl
@[simp] theorem takePorts_xregs (c : Instr) (g : Region) : (takePorts c g).xregs = g.xregs := rfl
@[simp] theorem takePorts_cap (c : Instr) (g : Region) : (takePorts c g).cap = g.cap := rfl
@[simp] theorem takePorts_idleOf (c : Instr) (g : Region) : (takePorts c g).idleOf = g.idleOf := rfl
@[simp] theorem takePorts_asleep (c : Instr) (g : Region) : (takePorts c g).asleep = g.asleep := rfl
@[simp] theorem takePorts_waking (c : Instr) (g : Region) : (takePorts c g).waking = g.waking := rfl

@[simp] theorem withStove_begun (c : Fin 8) (f : Stove → Stove) (g : Region) : (withStove c f g).begun = g.begun := rfl
@[simp] theorem withStove_completed (c : Fin 8) (f : Stove → Stove) (g : Region) : (withStove c f g).completed = g.completed := rfl
@[simp] theorem withStove_acked (c : Fin 8) (f : Stove → Stove) (g : Region) : (withStove c f g).acked = g.acked := rfl
@[simp] theorem withStove_rowWait (c : Fin 8) (f : Stove → Stove) (g : Region) : (withStove c f g).rowWait = g.rowWait := rfl
@[simp] theorem withStove_hangFrom (c : Fin 8) (f : Stove → Stove) (g : Region) : (withStove c f g).hangFrom = g.hangFrom := rfl
@[simp] theorem withStove_begunAt (c : Fin 8) (f : Stove → Stove) (g : Region) : (withStove c f g).begunAt = g.begunAt := rfl
@[simp] theorem withStove_permitWait (c : Fin 8) (f : Stove → Stove) (g : Region) : (withStove c f g).permitWait = g.permitWait := rfl
@[simp] theorem withStove_slackWait (c : Fin 8) (f : Stove → Stove) (g : Region) : (withStove c f g).slackWait = g.slackWait := rfl
@[simp] theorem withStove_waits (c : Fin 8) (f : Stove → Stove) (g : Region) : (withStove c f g).waits = g.waits := rfl
@[simp] theorem withStove_held (c : Fin 8) (f : Stove → Stove) (g : Region) : (withStove c f g).held = g.held := rfl
@[simp] theorem withStove_guard (c : Fin 8) (f : Stove → Stove) (g : Region) : (withStove c f g).guard = g.guard := rfl
@[simp] theorem withStove_due (c : Fin 8) (f : Stove → Stove) (g : Region) : (withStove c f g).due = g.due := rfl
@[simp] theorem withStove_readers (c : Fin 8) (f : Stove → Stove) (g : Region) : (withStove c f g).readers = g.readers := rfl
@[simp] theorem withStove_writers (c : Fin 8) (f : Stove → Stove) (g : Region) : (withStove c f g).writers = g.writers := rfl
@[simp] theorem withStove_faces (c : Fin 8) (f : Stove → Stove) (g : Region) : (withStove c f g).faces = g.faces := rfl
@[simp] theorem withStove_fetch (c : Fin 8) (f : Stove → Stove) (g : Region) : (withStove c f g).fetch = g.fetch := rfl
@[simp] theorem withStove_rowsBegun (c : Fin 8) (f : Stove → Stove) (g : Region) : (withStove c f g).rowsBegun = g.rowsBegun := rfl
@[simp] theorem withStove_bndBeat (c : Fin 8) (f : Stove → Stove) (g : Region) : (withStove c f g).bndBeat = g.bndBeat := rfl
@[simp] theorem withStove_sacks (c : Fin 8) (f : Stove → Stove) (g : Region) : (withStove c f g).sacks = g.sacks := rfl
@[simp] theorem withStove_kettles (c : Fin 8) (f : Stove → Stove) (g : Region) : (withStove c f g).kettles = g.kettles := rfl
@[simp] theorem withStove_pegs (c : Fin 8) (f : Stove → Stove) (g : Region) : (withStove c f g).pegs = g.pegs := rfl
@[simp] theorem withStove_pegLater (c : Fin 8) (f : Stove → Stove) (g : Region) : (withStove c f g).pegLater = g.pegLater := rfl
@[simp] theorem withStove_windows (c : Fin 8) (f : Stove → Stove) (g : Region) : (withStove c f g).windows = g.windows := rfl
@[simp] theorem withStove_thrus (c : Fin 8) (f : Stove → Stove) (g : Region) : (withStove c f g).thrus = g.thrus := rfl
@[simp] theorem withStove_xings (c : Fin 8) (f : Stove → Stove) (g : Region) : (withStove c f g).xings = g.xings := rfl
@[simp] theorem withStove_occPeak (c : Fin 8) (f : Stove → Stove) (g : Region) : (withStove c f g).occPeak = g.occPeak := rfl
@[simp] theorem withStove_tracks (c : Fin 8) (f : Stove → Stove) (g : Region) : (withStove c f g).tracks = g.tracks := rfl
@[simp] theorem withStove_banks (c : Fin 8) (f : Stove → Stove) (g : Region) : (withStove c f g).banks = g.banks := rfl
@[simp] theorem withStove_xregs (c : Fin 8) (f : Stove → Stove) (g : Region) : (withStove c f g).xregs = g.xregs := rfl
@[simp] theorem withStove_cap (c : Fin 8) (f : Stove → Stove) (g : Region) : (withStove c f g).cap = g.cap := rfl
@[simp] theorem withStove_idleOf (c : Fin 8) (f : Stove → Stove) (g : Region) : (withStove c f g).idleOf = g.idleOf := rfl
@[simp] theorem withStove_asleep (c : Fin 8) (f : Stove → Stove) (g : Region) : (withStove c f g).asleep = g.asleep := rfl
@[simp] theorem withStove_waking (c : Fin 8) (f : Stove → Stove) (g : Region) : (withStove c f g).waking = g.waking := rfl

@[simp] theorem withKettle_begun (u : Fin 16) (f : Kettle → Kettle) (g : Region) : (withKettle u f g).begun = g.begun := rfl
@[simp] theorem withKettle_completed (u : Fin 16) (f : Kettle → Kettle) (g : Region) : (withKettle u f g).completed = g.completed := rfl
@[simp] theorem withKettle_acked (u : Fin 16) (f : Kettle → Kettle) (g : Region) : (withKettle u f g).acked = g.acked := rfl
@[simp] theorem withKettle_rowWait (u : Fin 16) (f : Kettle → Kettle) (g : Region) : (withKettle u f g).rowWait = g.rowWait := rfl
@[simp] theorem withKettle_hangFrom (u : Fin 16) (f : Kettle → Kettle) (g : Region) : (withKettle u f g).hangFrom = g.hangFrom := rfl
@[simp] theorem withKettle_begunAt (u : Fin 16) (f : Kettle → Kettle) (g : Region) : (withKettle u f g).begunAt = g.begunAt := rfl
@[simp] theorem withKettle_permitWait (u : Fin 16) (f : Kettle → Kettle) (g : Region) : (withKettle u f g).permitWait = g.permitWait := rfl
@[simp] theorem withKettle_slackWait (u : Fin 16) (f : Kettle → Kettle) (g : Region) : (withKettle u f g).slackWait = g.slackWait := rfl
@[simp] theorem withKettle_waits (u : Fin 16) (f : Kettle → Kettle) (g : Region) : (withKettle u f g).waits = g.waits := rfl
@[simp] theorem withKettle_held (u : Fin 16) (f : Kettle → Kettle) (g : Region) : (withKettle u f g).held = g.held := rfl
@[simp] theorem withKettle_guard (u : Fin 16) (f : Kettle → Kettle) (g : Region) : (withKettle u f g).guard = g.guard := rfl
@[simp] theorem withKettle_due (u : Fin 16) (f : Kettle → Kettle) (g : Region) : (withKettle u f g).due = g.due := rfl
@[simp] theorem withKettle_readers (u : Fin 16) (f : Kettle → Kettle) (g : Region) : (withKettle u f g).readers = g.readers := rfl
@[simp] theorem withKettle_writers (u : Fin 16) (f : Kettle → Kettle) (g : Region) : (withKettle u f g).writers = g.writers := rfl
@[simp] theorem withKettle_faces (u : Fin 16) (f : Kettle → Kettle) (g : Region) : (withKettle u f g).faces = g.faces := rfl
@[simp] theorem withKettle_fetch (u : Fin 16) (f : Kettle → Kettle) (g : Region) : (withKettle u f g).fetch = g.fetch := rfl
@[simp] theorem withKettle_rowsBegun (u : Fin 16) (f : Kettle → Kettle) (g : Region) : (withKettle u f g).rowsBegun = g.rowsBegun := rfl
@[simp] theorem withKettle_bndBeat (u : Fin 16) (f : Kettle → Kettle) (g : Region) : (withKettle u f g).bndBeat = g.bndBeat := rfl
@[simp] theorem withKettle_sacks (u : Fin 16) (f : Kettle → Kettle) (g : Region) : (withKettle u f g).sacks = g.sacks := rfl
@[simp] theorem withKettle_stoves (u : Fin 16) (f : Kettle → Kettle) (g : Region) : (withKettle u f g).stoves = g.stoves := rfl
@[simp] theorem withKettle_pegs (u : Fin 16) (f : Kettle → Kettle) (g : Region) : (withKettle u f g).pegs = g.pegs := rfl
@[simp] theorem withKettle_pegLater (u : Fin 16) (f : Kettle → Kettle) (g : Region) : (withKettle u f g).pegLater = g.pegLater := rfl
@[simp] theorem withKettle_windows (u : Fin 16) (f : Kettle → Kettle) (g : Region) : (withKettle u f g).windows = g.windows := rfl
@[simp] theorem withKettle_thrus (u : Fin 16) (f : Kettle → Kettle) (g : Region) : (withKettle u f g).thrus = g.thrus := rfl
@[simp] theorem withKettle_xings (u : Fin 16) (f : Kettle → Kettle) (g : Region) : (withKettle u f g).xings = g.xings := rfl
@[simp] theorem withKettle_occPeak (u : Fin 16) (f : Kettle → Kettle) (g : Region) : (withKettle u f g).occPeak = g.occPeak := rfl
@[simp] theorem withKettle_tracks (u : Fin 16) (f : Kettle → Kettle) (g : Region) : (withKettle u f g).tracks = g.tracks := rfl
@[simp] theorem withKettle_banks (u : Fin 16) (f : Kettle → Kettle) (g : Region) : (withKettle u f g).banks = g.banks := rfl
@[simp] theorem withKettle_xregs (u : Fin 16) (f : Kettle → Kettle) (g : Region) : (withKettle u f g).xregs = g.xregs := rfl
@[simp] theorem withKettle_cap (u : Fin 16) (f : Kettle → Kettle) (g : Region) : (withKettle u f g).cap = g.cap := rfl
@[simp] theorem withKettle_idleOf (u : Fin 16) (f : Kettle → Kettle) (g : Region) : (withKettle u f g).idleOf = g.idleOf := rfl
@[simp] theorem withKettle_asleep (u : Fin 16) (f : Kettle → Kettle) (g : Region) : (withKettle u f g).asleep = g.asleep := rfl
@[simp] theorem withKettle_waking (u : Fin 16) (f : Kettle → Kettle) (g : Region) : (withKettle u f g).waking = g.waking := rfl

theorem withStove_act (c : Fin 8) (f : Stove → Stove) (hf : ∀ q, (f q).act = q.act) (g : Region) (d : Fin 8) :
    ((withStove c f g).stoves[d]).act = (g.stoves[d]).act := by
  unfold withStove
  simp only [Fin.getElem_fin, Vector.getElem_set]
  split
  · next h => simp [hf, h]
  · rfl

/-! ### Effects of an action command -/

theorem later_issue {s : State} {r : Fin 32} {b : Nat} {c : Instr} {beat : Nat} {m : Micro} (h : roomTo s r beat) :
    later (issueAt r b c) s beat m = modRegion s r (queue b c [(beat, m)]) := later_room (issueAt r b c) s beat m h

theorem foldl_later_issue {α : Type} {r : Fin 32} {b : Nat} {c : Instr} (l : List α) (at_ : α → Nat) (op : α → Micro) {s : State}
    (h : ∀ a ∈ l, roomTo s r (at_ a)) : l.foldl (fun s a => later (issueAt r b c) s (at_ a) (op a)) s =
    modRegion s r (queue b c (l.map fun a => (at_ a, op a))) := by
  rw [foldl_later (issueAt r b c) l at_ op s h]
  unfold queue
  simp [Function.comp_def]

theorem foldl_atBeat_issue {r : Fin 32} {b : Nat} {c : Instr} (n : Nat) (op : Nat → Micro) {s : State}
    (h : ∀ i, 0 < i → i ≤ n → roomTo (runMicro (issueAt r b c) s (op 0)) r (b + i)) :
    (List.range (n + 1)).foldl (fun s i => atBeat (issueAt r b c) s (b + i) (op i)) s =
    modRegion (runMicro (issueAt r b c) s (op 0)) r (queue b c ((List.range n).map fun i => (b + (i + 1), op (i + 1)))) := by
  have := foldl_atBeat_one (issueAt r b c) n op s h
  unfold queue
  simpa [Function.comp_def] using this

/-- The state in which an action of an open beat has its effect. -/
theorem issue_ports (s : State) (r : Fin 32) (c : Instr) : ∃ n w,
    lnAction (noteReads s r (actionSlot c) (actionReads c)) r c = modRegion { s with lantern := n, whistle := w } r (takePorts c) :=
  issue_state s r c

/-- How `issued` is shown. -/
theorem issued_of {s t : State} {r : Fin 32} {c : Instr} {b : Nat} {f h : Region → Region} {l : List (Nat × Micro)} {n : Lantern}
    {w : Whistle} (ht : t = modRegion { s with lantern := n, whistle := w } r h)
    (hh : ∀ g, h g = f (queue b c l (takePorts c g))) : issued s t r c b f l :=
  issued_mk ht (hh _)

theorem modStove_eq (s : State) (r : Fin 32) (c : Fin 8) (f : Stove → Stove) : modStove s r c f = modRegion s r (withStove c f) := rfl
theorem modKettle_eq (s : State) (r : Fin 32) (u : Fin 16) (f : Kettle → Kettle) : modKettle s r u f = modRegion s r (withKettle u f) :=
  rfl

/-- Lines queued one a beat from `j` on. -/
theorem foldl_lines {r : Fin 32} {b : Nat} {c : Instr} (l : List Line) (base : Nat) (op : Nat → Line → Micro) (j : Nat) {s : State}
    (h : roomTo s r (base + j + l.length)) :
    (l.foldl (fun (st : State × Nat) v => (later (issueAt r b c) st.1 (base + st.2) (op st.2 v), st.2 + 1)) (s, j)).1 =
    modRegion s r (queue b c (l.mapIdx fun i v => (base + (j + i), op (j + i) v))) := by
  induction l generalizing s j with
  | nil => exact (modRegion_id s r _ (by simp [queue])).symm
  | cons v l ih =>
    rw [List.foldl_cons]
    dsimp only
    rw [later_issue (roomTo_mono h (by simp)), ih]
    · rw [modRegion_twice]
      unfold queue
      simp [List.mapIdx_cons, Nat.add_assoc, Nat.add_comm 1]
    · refine roomTo_congr (roomTo_mono h (by simp; omega)) rfl ?_
      rw [modRegion_regions_same]; rfl

theorem foldl_atBeat_step {r : Fin 32} {b : Nat} {c : Instr} (n step : Nat) (hs : 0 < step) (op : Nat → Micro) {s : State}
    (h : ∀ i, 0 < i → i ≤ n → roomTo (runMicro (issueAt r b c) s (op 0)) r (b + i * step)) :
    (List.range (n + 1)).foldl (fun s i => atBeat (issueAt r b c) s (b + i * step) (op i)) s =
    modRegion (runMicro (issueAt r b c) s (op 0)) r (queue b c ((List.range n).map fun i => (b + (i + 1) * step, op (i + 1)))) := by
  have := foldl_atBeat (issueAt r b c) n step hs op s h
  unfold queue
  simpa [Function.comp_def] using this

end Sys2Proof.Machine
end

