-- ==== Sys2Proof/Laws/Strike.lean ====
section
/-!
SUPPORT. Laws/Strike.lean: what a strike leaves (R260, R264): what TR_FAULT and TARP_STRIKE say, the pacer ARMED, the holds gone.
-/

namespace Sys2Proof.Machine

set_option Elab.async false

/-- A register that no step of a strike but the latching writes. -/
def strikeSpares (k : Nat) : Prop :=
  (∀ p : Fin 10, k ≠ Reg.GL_LINK_ERR p.val ∧ k ≠ Reg.GL_INQ_FULL p.val) ∧ k ≠ Reg.LN_STAT ∧ k ≠ Reg.CR_WSTAT ∧
    ∀ i < 2048, k ≠ Reg.AD_SLOT i

/-- A fold of steps that keep a part of the state keeps it. -/
theorem foldl_part {α β : Type} (l : List α) (f : State → α → State) (part : State → β) (h : ∀ s, ∀ x ∈ l, part (f s x) = part s)
    (s : State) : part (l.foldl f s) = part s := by
  induction l generalizing s with
  | nil => rfl
  | cons x xs ih =>
    rw [List.foldl_cons, ih (fun s y hy => h s y (List.mem_cons_of_mem _ hy)), h s x List.mem_cons_self]

/-- A fold of steps that keep a register keeps it. -/
theorem foldl_getReg {α : Type} (l : List α) (f : State → α → State) (k : Nat) (h : ∀ s x, getReg (f s x) k = getReg s k) (s : State) :
    getReg (l.foldl f s) k = getReg s k := foldl_part l f (getReg · k) (fun s x _ => h s x) s

theorem logEvent_getReg (s : State) (code k : Nat) : getReg (logEvent s code) k = getReg s k := by
  obtain ⟨l, w, e⟩ := logEvent_frame s code
  rw [e]; rfl

theorem pulse_getReg (s : State) (n k : Nat) : getReg (pulse s n) k = getReg s k := by
  obtain ⟨w, e⟩ := pulse_frame s n
  rw [e]; rfl

/-- An operation that touches no register keeps each. -/
theorem Same.getReg {m : Mask} {s t : State} (h : Same m s t) (hm : m.regs = false) (k : Nat) : getReg t k = Machine.getReg s k :=
  getReg_congr (h.regs hm) k

theorem sendSymbol_getReg (s : State) (p : Fin 10) (type : Nat) (pl : BitVec 40) {k : Nat} (hk : k ≠ Reg.GL_LINK_ERR p.val) :
    getReg (sendSymbol s p type pl) k = getReg s k := by
  have hput : getReg (putSymbol s p type pl) k = getReg s k :=
    Same.getReg (m := { ports := true, out := true }) (putSymbol_same s p type pl (Same.refl s)) rfl k
  have hlim : ∀ t, getReg (limitedEvent t p 0x0903) k = getReg t k := fun t =>
    Same.getReg (m := { free := true, whistle := true, log := true, logSeq := true, ports := true })
      (limitedEvent_same t p 0x0903 (Same.refl t)) rfl k
  have hset : ∀ t n, getReg (setBits t (Reg.GL_LINK_ERR p.val) n) k = getReg t k := fun t n => getReg_setReg_other _ hk _
  have hlost : ∀ t, getReg (symbolLost t p) k = getReg t k := fun t => by unfold symbolLost; rw [hlim, hset]
  unfold sendSymbol
  dsimp only
  have hmod : ∀ f, getReg (modPort s p f) k = getReg s k := fun _ => rfl
  generalize s.ports[p].mode = md
  cases md <;> dsimp only <;> (repeat' split) <;> simp only [hput, hmod, hlost, hset]

theorem sendCamp_getReg (s : State) (n : Option (Fin 10)) (type : Nat) (pl : BitVec 40) {k : Nat} (hk : strikeSpares k) :
    getReg (sendCamp s n type pl) k = getReg s k := by
  unfold sendCamp forPorts
  refine foldl_getReg _ _ k (fun t p => ?_) s
  dsimp only
  split
  · exact sendSymbol_getReg t p type pl (hk.1 p).1
  · rfl

theorem touchWeights_getReg (s : State) (a n : Nat) {k : Nat} (hk : k ≠ Reg.CR_WSTAT) : getReg (touchWeights s a n) k = getReg s k := by
  unfold touchWeights
  split
  · rw [logEvent_getReg, getReg_setField_other _ hk, getReg_setField_other _ hk]
  · rfl

/-- The slots that an HBM range touches are among the 256 (R200). -/
theorem slotsIn_lt (s : State) (a n k : Nat) (h : k ∈ slotsIn s a n) : k < 256 := by
  unfold slotsIn at h
  split at h
  · simp at h
  · dsimp only at h
    rw [List.mem_eraseDups, List.mem_filterMap] at h
    obtain ⟨i, _, hi⟩ := h
    unfold slotAt at hi
    dsimp only at hi
    split at hi
    · simp at hi
    · split at hi
      · rename_i hc
        injection hi with hi
        subst hi
        omega
      · simp at hi

theorem emptySlot_getReg (s : State) (n : Nat) (hn : n < 256) {k : Nat} (hk : strikeSpares k) : getReg (emptySlot s n) k = getReg s k := by
  have h := hk.2.2.2
  unfold emptySlot
  refine (foldl_part _ _ (getReg · k) (fun t i hi => ?_) _).trans ?_
  · exact getReg_setReg_other _ (h _ (by simp at hi; omega)) _
  · exact getReg_setField_other _ (h _ (by omega)) _ _ _

theorem storeHbm_getReg (s : State) (a : Nat) (bs : List Byte) {k : Nat} (hk : strikeSpares k) :
    getReg (storeHbm s a bs) k = getReg s k := by
  unfold storeHbm
  refine (foldl_part _ _ (getReg · k) (fun t n hn => emptySlot_getReg t n (slotsIn_lt _ _ _ _ hn) hk) _).trans ?_
  unfold putHbm
  rw [touchWeights_getReg _ _ _ hk.2.2.1]
  rfl

theorem undefine_getReg (s : State) (p : Place) {k : Nat} (hk : strikeSpares k) : getReg (undefine s p) k = getReg s k := by
  cases p with
  | hbm a => unfold undefine; dsimp only; rw [storeHbm_getReg _ _ _ hk]; rfl
  | _ => exact Same.getReg (m := { free := true, regions := true, flaws := true, far := true }) (by unfold undefine; simp (maxDischargeDepth := 30) +contextual [Same.refl]) rfl k

theorem undefineAll_getReg (s : State) (ps : List Place) {k : Nat} (hk : strikeSpares k) : getReg (undefineAll s ps) k = getReg s k :=
  foldl_getReg _ _ k (fun t p => undefine_getReg t p hk) s

theorem settleRegion_getReg (s : State) (r : Fin 32) {k : Nat} (hk : strikeSpares k) : getReg (settleRegion s r) k = getReg s k := by
  unfold settleRegion
  extract_lets g late ents ps t
  have h : getReg t k = getReg (undefineAll s ps) k :=
    Same.getReg (m := { hubIn := true }) (setHubEntries_same _ _ _ (Same.refl _)) rfl k
  exact h.trans (undefineAll_getReg s ps hk)

theorem dropLater_getReg (s : State) (r : Fin 32) {k : Nat} (hk : strikeSpares k) : getReg (dropLater s r) k = getReg s k := by
  unfold dropLater
  exact undefineAll_getReg _ _ hk

theorem discardRecords_getReg (s : State) (a b : Bool) {k : Nat} (hk : strikeSpares k) : getReg (discardRecords s a b) k = getReg s k := by
  unfold discardRecords forPorts
  refine foldl_getReg _ _ k (fun t p => ?_) s
  unfold discardPort countField
  exact getReg_setField_other _ (hk.1 p).2 _ _ _

theorem cancelArm_getReg (s : State) {k : Nat} (hk : k ≠ Reg.LN_STAT) : getReg (cancelArm s) k = getReg s k := by
  unfold cancelArm
  split
  · rw [logEvent_getReg]; exact getReg_setField_other _ hk _ _ _
  · rfl

/-! ## Beats begun and completed -/

/-- The beats that a region has begun and completed. -/
def beats (s : State) (q : Fin 32) : Nat × Nat := (s.regions[q].begun, s.regions[q].completed)

theorem modRegion_beats (s : State) (r : Fin 32) (f : Region → Region)
    (h : ∀ g, ((f g).begun, (f g).completed) = (g.begun, g.completed)) (q : Fin 32) : beats (modRegion s r f) q = beats s q :=
  modRegion_keeps s r f (fun g => (g.begun, g.completed)) h q

theorem Same.beats {m : Mask} {s t : State} (h : Same m s t) (hm : m.regions = false) (q : Fin 32) : beats t q = Machine.beats s q := by
  unfold Machine.beats; rw [h.regions hm]

theorem undefine_beats (s : State) (p : Place) (q : Fin 32) : beats (undefine s p) q = beats s q := by
  have m : ∀ (t : State) (r : Fin 32) (f : Region → Region), (∀ g, ((f g).begun, (f g).completed) = (g.begun, g.completed)) →
      beats t q = beats s q → beats (modRegion t r f) q = beats s q := fun t r f h e => (modRegion_beats t r f h q).trans e
  cases p with
  | hbm a => exact Same.beats (m := { free := true, hbm := true, flaws := true, far := true, regs := true, whistle := true, log := true
                                      logSeq := true }) (by unfold undefine; simp (maxDischargeDepth := 30) +contextual [Same.refl]) rfl q
  | hubLine a w n =>
    exact Same.beats (m := { free := true, far := true }) (by unfold undefine; simp (maxDischargeDepth := 30) +contextual [Same.refl]) rfl q
  | sack r k l =>
    exact m (freshLine s).2 (regionFin r) (fun g => { g with sacks := storeSet 0 g.sacks (sackKey k l) (freshLine s).1 }) (fun _ => rfl) rfl
  | bank r c b =>
    unfold undefine
    refine foldl_part _ _ (beats · q) (fun t i _ => ?_) s
    dsimp only [modStove]
    refine (modRegion_beats _ _ _ ?_ q).trans ?_
    · intro g; rfl
    · rfl
  | scales r c pl =>
    unfold undefine
    refine foldl_part _ _ (beats · q) (fun t i _ => ?_) s
    dsimp only [modStove]
    refine (modRegion_beats _ _ _ ?_ q).trans ?_
    · intro g; rfl
    · rfl
  | asb r c =>
    unfold undefine
    refine foldl_part _ _ (beats · q) (fun t i _ => ?_) s
    dsimp only [modStove]
    refine (modRegion_beats _ _ _ ?_ q).trans ?_
    · intro g; rfl
    · rfl
  | _ =>
    dsimp only [undefine, modStove, modKettle, setPeg]
    refine m _ _ _ ?_ ?_
    · intro g; rfl
    · rfl

theorem undefineAll_beats (s : State) (ps : List Place) (q : Fin 32) : beats (undefineAll s ps) q = beats s q :=
  foldl_part _ _ (beats · q) (fun t p _ => undefine_beats t p q) s

theorem settleRegion_beats (s : State) (r : Fin 32) (q : Fin 32) : beats (settleRegion s r) q = beats s q := by
  unfold settleRegion
  extract_lets g late ents ps t
  have h : beats t q = beats (undefineAll s ps) q :=
    Same.beats (m := { hubIn := true }) (setHubEntries_same _ _ _ (Same.refl _)) rfl q
  exact ((modRegion_beats t r _ (by intro g; rfl) q).trans h).trans (undefineAll_beats s ps q)

theorem dropLater_beats (s : State) (r : Fin 32) (q : Fin 32) : beats (dropLater s r) q = beats s q := by
  unfold dropLater
  exact (undefineAll_beats _ _ q).trans (modRegion_beats s r _ (by intro g; rfl) q)

/-- Every region stands between beats, by what each has begun and completed. -/
theorem all_between (s : State) :
    s.regions.toList.all (fun g => g.completed == g.begun) = true ↔ ∀ r : Fin 32, (beats s r).2 = (beats s r).1 := by
  rw [List.all_eq_true]
  constructor
  · intro h r
    have := h s.regions[r] (by rw [Vector.mem_toList_iff]; exact Vector.getElem_mem _)
    simpa [beats] using this
  · intro h g hg
    rw [Vector.mem_toList_iff, Vector.mem_iff_getElem] at hg
    obtain ⟨i, hi, e⟩ := hg
    have := h ⟨i, hi⟩
    simp only [beats, Fin.getElem_fin] at this
    rw [e] at this
    simpa using this

/-! ## The end of a struck job -/

/-- The fields that the settling of a strike may change. -/
def settled : Mask :=
  { free := true, regs := true, regions := true, hubIn := true, far := true, hbm := true, flaws := true, ports := true, whistle := true
    lantern := true, log := true, logSeq := true }

/-- Where the Trail is at fault the launch Peg starts nothing. -/
theorem evalLaunchPeg_fault (s : State) (h : s.trail.mode = .fault) :
    Same { free := true, whistle := true, log := true, logSeq := true } s (evalLaunchPeg s) := by
  unfold evalLaunchPeg
  simp only [launchable, h]
  simp
  split
  · exact Same.refl s
  · exact pulse_same _ _ (pulse_same _ _ (logEvent_same s 0x0C0A (Same.refl s)))

/-- A struck job's pacer enters ARMED where every region stands between beats, and stays as it is where one does not (R260). -/
theorem settleStrike_spec (s : State) (h : s.tarp.struck = true) (hf : s.trail.mode = .fault) :
    (settleStrike s).tarp = s.tarp ∧
    (settleStrike s).pacer = { s.pacer with mode := if pacing s = true ∧ (∀ r : Fin 32, (beats s r).2 = (beats s r).1) then .armed
      else s.pacer.mode } ∧
    (settleStrike s).trail = s.trail ∧ ∀ k, strikeSpares k → getReg (settleStrike s) k = getReg s k := by
  unfold settleStrike
  simp only [h, Bool.true_and, Bool.and_eq_true, all_between]
  split
  · generalize hu : ({ s with pacer := { s.pacer with mode := .armed } } : State) = u
    have hc := cancelArm_same (m := settled) u (Same.refl u)
    have hw := evalLaunchPeg_fault (cancelArm u) (by rw [hc.trail rfl, ← hu]; exact hf)
    refine ⟨?_, ?_, ?_, fun k hk => ?_⟩
    · rw [hw.tarp rfl, hc.tarp rfl, ← hu]
    · rw [hw.pacer rfl, hc.pacer rfl, ← hu]
    · rw [hw.trail rfl, hc.trail rfl, ← hu]
    · rw [Same.getReg hw rfl k, cancelArm_getReg _ hk.2.1, ← hu]; rfl
  · exact ⟨rfl, rfl, rfl, fun _ _ => rfl⟩

theorem strike_tail_same (s : State) :
    Same settled s (pulse (discardRecords (forRegions s (fun r s => dropLater (settleRegion s r) r)) true true) 147) := by
  exact pulse_same _ _ (discardRecords_same _ _ _
    (foldl_same _ _ _ (Same.refl s) (fun t r h => dropLater_same _ _ (settleRegion_same _ _ h))))

theorem strike_tail_getReg (s : State) {k : Nat} (hk : strikeSpares k) :
    getReg (pulse (discardRecords (forRegions s (fun r s => dropLater (settleRegion s r) r)) true true) 147) k = getReg s k := by
  rw [pulse_getReg, discardRecords_getReg _ _ _ hk]
  exact foldl_getReg _ _ k (fun t r => by dsimp only; rw [dropLater_getReg _ _ hk, settleRegion_getReg _ _ hk]) s

theorem strike_tail_beats (s : State) (q : Fin 32) :
    beats (pulse (discardRecords (forRegions s (fun r s => dropLater (settleRegion s r) r)) true true) 147) q = beats s q := by
  have h : ∀ t : State, Same { ports := true, regs := true, whistle := true, free := true } t (pulse (discardRecords t true true) 147) :=
    fun t => pulse_same _ _ (discardRecords_same _ _ _ (Same.refl t))
  rw [Same.beats (h _) rfl q]
  exact foldl_part _ _ (beats · q) (fun t r _ => (dropLater_beats _ r q).trans (settleRegion_beats t r q)) s

/-- What a strike of code `code` leaves (R260): the job has ended, no hold is left, and a pacer that runs or is held is ARMED once every
region stands between beats. -/
theorem strikeSteps_spec (s : State) (code origin : Nat) :
    let t := strikeSteps s code origin .fault
    t.tarp = { s.tarp with struck := true, holds := [], best := none, resume := none, released := [] } ∧
    t.pacer = { s.pacer with mode := if pacing s = true ∧ (∀ r : Fin 32, (beats s r).2 = (beats s r).1) then .armed else s.pacer.mode } ∧
    t.trail = { s.trail with mode := .fault, crossroad := none } ∧
    ∀ k, strikeSpares k → getReg t k =
      if k = Reg.TARP_STRIKE then BitVec.ofNat 64 (code * 2 ^ 16 + 2 ^ 15 + origin % 2 ^ 15) else getReg s k := by
  dsimp only
  unfold strikeSteps
  dsimp only
  generalize hs : setReg s Reg.TARP_STRIKE (BitVec.ofNat 64 (code * 2 ^ 16 + 2 ^ 15 + origin % 2 ^ 15)) = s0
  have e0 : s0.tarp = s.tarp ∧ s0.pacer = s.pacer ∧ s0.trail = s.trail ∧ s0.regions = s.regions := by subst hs; exact ⟨rfl, rfl, rfl, rfl⟩
  have e1 : ∀ k, getReg s0 k = if k = Reg.TARP_STRIKE then BitVec.ofNat 64 (code * 2 ^ 16 + 2 ^ 15 + origin % 2 ^ 15) else getReg s k := by
    intro k; subst hs; exact getReg_setReg s _ k _
  clear hs
  generalize hu : modRegions { s0 with
    tarp := { s0.tarp with struck := true, holds := [], best := none, resume := none, released := [] }
    trail := { s0.trail with mode := .fault, crossroad := none }
    firewatch := { s0.firewatch with voteWait := none } }
    (fun g => { (if g.completed = g.begun then closeWindows g else g) with waits := [], held := 0, asleep := 0 }) = u
  have f0 : u.tarp = { s.tarp with struck := true, holds := [], best := none, resume := none, released := [] } ∧ u.pacer = s.pacer ∧
    u.trail = { s.trail with mode := .fault, crossroad := none } ∧ (∀ k, getReg u k = getReg s0 k) ∧ ∀ q, beats u q = beats s q := by
    subst hu
    refine ⟨?_, ?_, ?_, fun k => rfl, fun q => ?_⟩
    · rw [← e0.1]; rfl
    · rw [← e0.2.1]; rfl
    · rw [← e0.2.2.1]; rfl
    · unfold beats modRegions
      simp only [Fin.getElem_fin, Vector.getElem_map, ← e0.2.2.2]
      split <;> rfl
  clear hu
  generalize hv : pulse (discardRecords (forRegions u (fun r s => dropLater (settleRegion s r) r)) true true) 147 = v
  have g0 := strike_tail_same u
  have g1 : ∀ k, strikeSpares k → getReg v k = getReg u k := fun k hk => by rw [← hv]; exact strike_tail_getReg u hk
  have g2 : ∀ q, beats v q = beats s q := fun q => by rw [← hv, strike_tail_beats, f0.2.2.2.2]
  rw [hv] at g0
  have b1 : v.tarp = { s.tarp with struck := true, holds := [], best := none, resume := none, released := [] } := (g0.tarp rfl).trans f0.1
  have b2 : v.pacer = s.pacer := (g0.pacer rfl).trans f0.2.1
  have b3 : v.trail = { s.trail with mode := .fault, crossroad := none } := (g0.trail rfl).trans f0.2.2.1
  obtain ⟨h1, h2, h3, h4⟩ := settleStrike_spec v (by rw [b1]) (by rw [b3])
  have hp : pacing v = pacing s := by unfold pacing; rw [b2]
  refine ⟨h1.trans b1, ?_, h3.trans b3, fun k hk => ?_⟩
  · rw [h2, b2, hp]; simp only [g2]
  · rw [h4 k hk, g1 k hk, f0.2.2.2.1, e1]

theorem latchFault_mask (s : State) (code : Nat) (a : FaultAt) : Same { regs := true } s (latchFault s code a) := by
  unfold latchFault
  split
  · exact setReg_same _ _ _ (setReg_same _ _ _ (Same.refl s))
  · exact Same.refl s

/-- The event and the latch of a level-2 fault. -/
theorem latched_same (s : State) (code : Nat) (a : FaultAt) :
    Same { free := true, regs := true, whistle := true, log := true, logSeq := true } s (latchFault (logEvent s code) code a) :=
  (logEvent_same s code (Same.refl s)).trans (latchFault_mask (logEvent s code) code a).mono

theorem raise_level2 (s : State) (code : Nat) (a : FaultAt) (hc : code / 4096 = 2) (hst : s.tarp.struck = false) :
    raise s code a = strike (latchFault (logEvent s code) code a) code := by
  have h : (latchFault (logEvent s code) code a).tarp.struck = false := by rw [(latched_same s code a).tarp rfl]; exact hst
  simp only [raise, hc, h, Bool.false_eq_true, if_false]

theorem spares_of (k : Nat) (h : 0xB00000 ≤ k ∨ k < 0x600000) (h1 : k ≠ Reg.LN_STAT) (h2 : ∀ p : Fin 10, k ≠ Reg.GL_LINK_ERR p.val ∧ k ≠ Reg.GL_INQ_FULL p.val)
    (h3 : k ≠ Reg.CR_WSTAT) : strikeSpares k :=
  ⟨h2, h1, h3, fun i hi => by show k ≠ 0xa01000 + 8 * i; omega⟩
theorem spares_fault : strikeSpares Reg.TR_FAULT := spares_of _ (by decide) (by decide) (by decide) (by decide)
theorem spares_beat : strikeSpares Reg.TR_FAULT_BEAT := spares_of _ (by decide) (by decide) (by decide) (by decide)
theorem spares_strike : strikeSpares Reg.TARP_STRIKE := spares_of _ (by decide) (by decide) (by decide) (by decide)

/-- A level-2 fault of a module that is not struck, with nothing latched since launch (R260, R264). -/
theorem raise_struck (s : State) (code : Nat) (a : FaultAt) (hc : code / 4096 = 2) (hst : s.tarp.struck = false)
    (hf : getReg s Reg.TR_FAULT = 0) : struckBy s (raise s code a) code a.region a.slot a.kind a.beat := by
  rw [raise_level2 s code a hc hst]
  generalize hu : latchFault (logEvent s code) code a = u
  have hl : Same { free := true, whistle := true, log := true, logSeq := true } s (logEvent s code) := logEvent_same s code (Same.refl s)
  have h0 : getReg (logEvent s code) Reg.TR_FAULT = 0 := by rw [logEvent_getReg, hf]
  have hu' : u = setReg (setReg (logEvent s code) Reg.TR_FAULT
      (BitVec.ofNat 64 (code * 2 ^ 48 + a.region * 2 ^ 43 + a.slot * 2 ^ 37 + a.kind * 2 ^ 33))) Reg.TR_FAULT_BEAT (BitVec.ofNat 64 a.beat) := by
    rw [← hu]; unfold latchFault; rw [if_pos h0]
  have e : u.tarp = s.tarp ∧ u.pacer = s.pacer ∧ u.trail = s.trail ∧ u.regions = s.regions := by
    refine ⟨?_, ?_, ?_, ?_⟩
    · rw [hu', setReg_tarp, setReg_tarp, hl.tarp rfl]
    · rw [hu', setReg_pacer, setReg_pacer, hl.pacer rfl]
    · rw [hu', setReg_trail, setReg_trail, hl.trail rfl]
    · rw [hu', setReg_regions, setReg_regions, hl.regions rfl]
  have eself : selfIndex u = selfIndex s := by
    have : getReg u Reg.TARP_SELF = getReg s Reg.TARP_SELF := by
      rw [hu', getReg_setReg_other _ (by decide), getReg_setReg_other _ (by decide), logEvent_getReg]
    unfold selfIndex getField; rw [this]
  unfold strike
  rw [e.1, hst]
  simp only [Bool.false_eq_true, if_false]
  rw [eself]
  have hcamp := sendCamp_same (m := { free := true, regs := true, ports := true, whistle := true, log := true, logSeq := true, out := true })
    u none 16 (strikePayload code (selfIndex s)) (Same.refl u)
  obtain ⟨h1, h2, h3, h4⟩ := strikeSteps_spec (sendCamp u none 16 (strikePayload code (selfIndex s))) code (selfIndex s)
  have k1 := spares_fault
  have k2 := spares_beat
  have k3 := spares_strike
  refine ⟨?_, ?_, ?_, ?_, ?_, ?_⟩
  · rw [h1, hcamp.tarp rfl, e.1]
  · rw [h2]
    have hb : ∀ r : Fin 32, beats (sendCamp u none 16 (strikePayload code (selfIndex s))) r = beats s r := fun r => by
      unfold beats; rw [hcamp.regions rfl, e.2.2.2]
    have hp : pacing (sendCamp u none 16 (strikePayload code (selfIndex s))) = pacing s := by
      unfold pacing; rw [hcamp.pacer rfl, e.2.1]
    simp only [hb, hp, hcamp.pacer rfl, e.2.1]
    rfl
  · rw [h3, hcamp.trail rfl, e.2.2.1]
  · rw [h4 _ k1, if_neg (by decide), sendCamp_getReg _ _ _ _ k1, hu', getReg_setReg_other _ (by decide), getReg_setReg_same]
  · rw [h4 _ k2, if_neg (by decide), sendCamp_getReg _ _ _ _ k2, hu', getReg_setReg_same]
  · rw [h4 _ k3, if_pos rfl]

end Sys2Proof.Machine
end

