-- ==== Sys2Proof/Laws/Holds.lean ====
section
/-!
SUPPORT. Laws/Holds.lean: what raising a hold does (R248, R251).
-/

namespace Sys2Proof.Machine

set_option Elab.async false

/-- A running pacer is HELD at once, x the last permit released; nothing else of the Tarp but what a release had set changes. -/
theorem enterHeld_spec (s : State) :
    (enterHeld s).tarp.holds = s.tarp.holds ∧ (enterHeld s).tarp.struck = s.tarp.struck ∧ (enterHeld s).regions = s.regions ∧
    (∀ k, k ≠ Reg.TARP_COUNT → getReg (enterHeld s) k = getReg s k) ∧
    (s.pacer.mode = .run → s.tarp.struck = false → (enterHeld s).pacer = { s.pacer with mode := .held } ∧ (enterHeld s).tarp.x = s.pacer.released - 1) := by
  unfold enterHeld
  split
  · rename_i h
    refine ⟨rfl, rfl, rfl, fun k hk => ?_, fun _ _ => ⟨rfl, rfl⟩⟩
    exact getReg_setField_other _ hk _ _ _
  · rename_i h
    exact ⟨rfl, rfl, rfl, fun _ _ => rfl, fun e e' => absurd ⟨e, e'⟩ h⟩

/-- The fields that the symbols, the event and the capture of a hold may change. -/
def holding : Mask :=
  { free := true, regs := true, compass := true, ports := true, whistle := true, log := true, logSeq := true, out := true }

/-- A hold of a beat that has none of this module's yet, and fewer than sixteen outstanding. -/
theorem raiseHold_spec (s : State) (a : Nat) (c : HoldCause) (hs : s.tarp.struck = false)
    (hn : ∀ h ∈ s.tarp.holds, h.own = true → h.a ≠ a) (hl : s.tarp.holds.length < 16) :
    (raiseHold s a c).tarp.holds = s.tarp.holds ++ [{ origin := selfIndex s, a := a, own := true, causes := [c] }] ∧
    (raiseHold s a c).regions = s.regions ∧
    (s.pacer.mode = .run → (raiseHold s a c).pacer = { s.pacer with mode := .held } ∧ (raiseHold s a c).tarp.x = s.pacer.released - 1) := by
  obtain ⟨h1, h2, h3, h4, h5⟩ := enterHeld_spec s
  have hself : selfIndex (enterHeld s) = selfIndex s := by
    unfold selfIndex getField; rw [h4 _ (by decide)]
  unfold raiseHold
  rw [hs]
  dsimp only
  have hany : (enterHeld s).tarp.holds.any (fun h => h.own && decide (h.a = a)) = false := by
    rw [h1, List.any_eq_false]
    intro h hm
    simp only [Bool.and_eq_true, decide_eq_true_eq, not_and]
    exact hn h hm
  rw [hany]
  simp only [Bool.false_eq_true, if_false, h1]
  rw [if_neg (by omega)]
  generalize hu : ({ enterHeld s with tarp := { (enterHeld s).tarp with
        holds := s.tarp.holds ++ [{ origin := selfIndex (enterHeld s), a := a, own := true, causes := [c] }]
        newest := (selfIndex (enterHeld s), a)
        resume := none
        repeatAt := nowTicks (enterHeld s) + getField (enterHeld s) Reg.TARP_REPEAT 0 16 } } : State) = u
  have hc := capture_same (m := holding) (a := u) _ 2 a (logEvent_same _ 0x0120 (sendCamp_same (countField u Reg.TARP_COUNT 0 16 1) none 8
      (holdPayload (selfIndex (countField u Reg.TARP_COUNT 0 16 1)) a) (countField_same u _ _ _ _ (Same.refl u))))
  refine ⟨?_, ?_, fun hr => ⟨?_, ?_⟩⟩
  · rw [hc.tarp rfl, ← hu, ← hself]
  · rw [hc.regions rfl, ← hu]; exact h3
  · rw [hc.pacer rfl, ← hu]; exact (h5 hr hs).1
  · rw [hc.tarp rfl, ← hu]; exact (h5 hr hs).2

end Sys2Proof.Machine
end

