-- ==== Sys2Proof/Laws/Reset.lean ====
section
/-!
SUPPORT. Laws/Reset.lean: what a level-3 fault leaves of a module that is ready for a Pitch (R395, R396).
-/

namespace Sys2Proof.Machine

set_option Elab.async false

/-- Registers copied from one state into another. -/
theorem foldl_copy_getReg (s : State) (l : List Nat) (t : State) (k : Nat) :
    getReg (l.foldl (fun t k => setReg t k (getReg s k)) t) k = if k ∈ l then getReg s k else getReg t k := by
  induction l generalizing t with
  | nil => simp
  | cons x xs ih =>
    rw [List.foldl_cons, ih, getReg_setReg]
    by_cases h : k ∈ xs <;> by_cases e : k = x <;> simp [h, e]

/-- Such copying touches the registers alone. -/
theorem foldl_copy_same (s : State) (l : List Nat) (t : State) :
    Same { regs := true } t (l.foldl (fun t k => setReg t k (getReg s k)) t) :=
  foldl_same _ _ _ (Same.refl t) (fun u k h => setReg_same _ _ _ h)

theorem setRegBytes_getReg (s : State) (f : Nat → Nat) (bs : List Byte) (k : Nat) (h : ∀ i < 8, k ≠ f i) :
    getReg (setRegBytes s f bs) k = getReg s k := by
  unfold setRegBytes
  suffices ∀ l : List Nat, (∀ i ∈ l, i < 8) → ∀ s, getReg (l.foldl (fun s i => setReg s (f i) (BitVec.ofNat 64 (leField bs (4 * i) 4))) s) k =
      getReg s k from this _ (fun i hi => by simpa using hi) s
  intro l hl
  induction l with
  | nil => intro s; rfl
  | cons x xs ih =>
    intro s
    rw [List.foldl_cons, ih (fun i hi => hl i (List.mem_cons_of_mem _ hi)),
      getReg_setReg_other _ (h x (hl x List.mem_cons_self))]

theorem mergeMap_getReg (s : State) {k : Nat} (h1 : ∀ r < 32, k ≠ Reg.HUB_MAP r ∧ k ≠ Reg.HUB_MAP_PEND r)
    (h2 : ∀ i < 8, k ≠ Reg.HUB_MAP_DIGEST i) (h3 : k ≠ Reg.HUB_MAP_STAT) : getReg (mergeMap s) k = getReg s k := by
  unfold mergeMap
  split
  · dsimp only
    rw [logEvent_getReg]
    unfold refreshMap
    rw [setRegBytes_getReg _ _ _ _ h2, getReg_setReg_other _ h3]
    have : ∀ l : List Nat, (∀ i ∈ l, i < 32) → ∀ s, getReg (l.foldl (fun s r =>
      setReg (setReg s (Reg.HUB_MAP r) (getReg s (Reg.HUB_MAP r) ||| getReg s (Reg.HUB_MAP_PEND r))) (Reg.HUB_MAP_PEND r) 0) s) k = getReg s k := by
      intro l
      induction l with
      | nil => intros; rfl
      | cons x xs ih =>
        intro hl s
        rw [List.foldl_cons, ih (fun i hi => hl i (List.mem_cons_of_mem _ hi)),
          getReg_setReg_other _ (h1 x (hl x List.mem_cons_self)).2, getReg_setReg_other _ (h1 x (hl x List.mem_cons_self)).1]
    exact this _ (fun i hi => by simpa using hi) s
  · rfl

/-- The state that a restart copies registers into. -/
def restartBase (s : State) (power : PowerState) : State :=
  { State.reset with
    pacer := { State.reset.pacer with localFrom := s.time, voltAt := s.time }
    time := s.time, free := s.free, identity := s.identity, flash := s.flash, flaws := s.flaws, log := s.log
    logSeq := s.logSeq, out := s.out, pending := s.pending
    startup := { Startup.reset with
      power := power, stepFrom := s.time, mapSeq := s.startup.mapSeq, mapCount := s.startup.mapCount
      ramps := s.startup.ramps, pairsFrom := s.startup.pairsFrom, probes := s.startup.probes } }

theorem restartBase_reset (s : State) (power : PowerState) :
    (restartBase s power).regions = State.reset.regions ∧ (restartBase s power).pitch = none ∧
    (restartBase s power).trail = State.reset.trail ∧
    (restartBase s power).pacer = { State.reset.pacer with localFrom := s.time, voltAt := s.time } ∧
    (restartBase s power).hbm = State.reset.hbm ∧ (restartBase s power).barrel = State.reset.barrel := ⟨rfl, rfl, rfl, rfl, rfl, rfl⟩

theorem restartBase_kept (s : State) (power : PowerState) : (restartBase s power).identity = s.identity ∧
    (restartBase s power).flash = s.flash ∧ (restartBase s power).pending = s.pending := ⟨rfl, rfl, rfl⟩

/-- Registers that a restart keeps. -/
def restartKept : List Nat :=
  [Reg.HUB_CAL_T, Reg.HUB_RESET, Reg.PE_LAST, Reg.HUB_MAP_STAT, Reg.PE_STAT, Reg.LAMP_OPEN] ++
    tab 32 Reg.HUB_MAP ++ tab 8 Reg.HUB_MAP_DIGEST ++ tab 4 Reg.PE_PAIR ++ tab 8 Reg.LAMP_STAT ++ tab 8 Reg.LAMP_SER

theorem restart_eq (s : State) (power : PowerState) (step : Nat) : restart s power step =
    setField (setField (restartKept.foldl (fun t k => setReg t k (getReg (mergeMap s) k)) (restartBase (mergeMap s) power))
      Reg.SEC_STAT 28 1 (getField (mergeMap s) Reg.SEC_STAT 28 1)) Reg.HUB_BOOT 28 4 step := rfl

theorem restart_same (s : State) (power : PowerState) (step : Nat) :
    Same { regs := true } (restartBase (mergeMap s) power) (restart s power step) := by
  rw [restart_eq]
  exact setField_same _ _ _ _ _ (setField_same _ _ _ _ _ (foldl_copy_same _ _ _))

theorem restart_step (s : State) (power : PowerState) : getField (restart s power 2) Reg.HUB_BOOT 28 4 = 2 := by
  rw [restart_eq, getField_setField_same _ _ _ _ _ (by decide)] <;> rfl

theorem reset_kept : Reg.HUB_RESET ∈ restartKept := by decide

theorem restart_code (s : State) (power : PowerState) : getReg (restart s power 2) Reg.HUB_RESET = getReg s Reg.HUB_RESET := by
  rw [restart_eq, getReg_setField_other _ (by decide), getReg_setField_other _ (by decide), foldl_copy_getReg, if_pos reset_kept]
  exact mergeMap_getReg s (by decide) (by decide) (by decide)

theorem noteReset_code (s : State) (code : Nat) (hc : code < 65536) : fieldN (getReg (noteReset s code) Reg.HUB_RESET).toNat 48 16 = code := by
  have : getReg (noteReset s code) Reg.HUB_RESET =
      BitVec.ofNat 64 (code * 2 ^ 48 + min 65535 (getField s Reg.HUB_RESET 32 16 + 1) * 2 ^ 32) := getReg_setReg_same _ _ _
  rw [this, fieldN, BitVec.toNat_ofNat]
  have : min 65535 (getField s Reg.HUB_RESET 32 16 + 1) ≤ 65535 := Nat.min_le_left _ _
  omega

theorem moduleReset_eq (s : State) (code : Nat) (hb : code / 256 % 16 ≠ 15) (hr : getField s Reg.HUB_BOOT 22 2 = 1) :
    ∃ u : Startup, moduleReset s code = { restart (noteReset s code) s.startup.power 2 with startup := u } := by
  refine ⟨{ (restart (noteReset s code) s.startup.power 2).startup with thermal := decide (code = 0x3B06) }, ?_⟩
  simp only [moduleReset, if_neg hb, hr]
  rfl

theorem resetBy_startup {s x : State} {code : Nat} (u : Startup) (h : resetBy s x code) : resetBy s { x with startup := u } code :=
  ⟨h.1, h.2.1, h.2.2.1, h.2.2.2.1, h.2.2.2.2.1, h.2.2.2.2.2.1, h.2.2.2.2.2.2.1, h.2.2.2.2.2.2.2.1, h.2.2.2.2.2.2.2.2.1,
    h.2.2.2.2.2.2.2.2.2.1, h.2.2.2.2.2.2.2.2.2.2⟩

theorem restart_resetBy (s : State) (power : PowerState) :
    resetBy s (restart s power 2) (fieldN (getReg s Reg.HUB_RESET).toNat 48 16) := by
  have h := restart_same s power 2
  have hm := mergeMap_same (m := { free := true, regs := true, startup := true, whistle := true, log := true, logSeq := true }) s (Same.refl s)
  obtain ⟨b1, b2, b3, b4, b5, b6⟩ := restartBase_reset (mergeMap s) power
  obtain ⟨e1, e2, e3⟩ := restartBase_kept (mergeMap s) power
  refine ⟨(h.regions rfl).trans b1, (h.pitch rfl).trans b2, (h.trail rfl).trans b3, ?_, (h.hbm rfl).trans b5,
    (h.barrel rfl).trans b6, ?_, ?_, ?_, restart_step s power, ?_⟩
  · rw [h.pacer rfl, b4, hm.time rfl]
  · rw [h.identity rfl, e1, hm.identity rfl]
  · rw [h.flash rfl, e2, hm.flash rfl]
  · rw [h.pending rfl, e3, hm.pending rfl]
  · unfold getField; rw [restart_code]

/-- A module that is ready for a Pitch resets at once. -/
theorem moduleReset_spec (s : State) (code : Nat) (hb : code / 256 % 16 ≠ 15) (hc : code < 65536)
    (hr : getField s Reg.HUB_BOOT 22 2 = 1) : resetBy s (moduleReset s code) code := by
  obtain ⟨u, hu⟩ := moduleReset_eq s code hb hr
  rw [hu]
  apply resetBy_startup
  have h := restart_resetBy (noteReset s code) s.startup.power
  rw [noteReset_code s code hc] at h
  have hn : Same { regs := true } s (noteReset s code) := setReg_same _ _ _ (Same.refl s)
  obtain ⟨h1, h2, h3, h4, h5, h6, h7, h8, h9, h10, h11⟩ := h
  exact ⟨h1, h2, h3, by rw [h4, hn.time rfl], h5, h6, h7.trans (hn.identity rfl), h8.trans (hn.flash rfl), h9.trans (hn.pending rfl), h10, h11⟩

/-- A level-3 fault raised in such a module. -/
theorem raise_reset (s : State) (code : Nat) (a : FaultAt) (h3 : code / 4096 = 3) (hb : code / 256 % 16 ≠ 15)
    (hr : getField s Reg.HUB_BOOT 22 2 = 1) : resetBy s (raise s code a) code := by
  have e : raise s code a = moduleReset (logEvent s code) code := by simp only [raise, h3]
  have hl : Same { free := true, whistle := true, log := true, logSeq := true } s (logEvent s code) := logEvent_same s code (Same.refl s)
  have h := moduleReset_spec (logEvent s code) code hb (by omega) (by rw [getField_congr (hl.regs rfl), hr])
  obtain ⟨h1, h2, h3, h4, h5, h6, h7, h8, h9, h10, h11⟩ := h
  rw [e]
  exact ⟨h1, h2, h3, by rw [h4, hl.time rfl], h5, h6, h7.trans (hl.identity rfl), h8.trans (hl.flash rfl), h9.trans (hl.pending rfl), h10, h11⟩

end Sys2Proof.Machine
end

