-- ==== Sys2Proof/Tests/Slice0.lean ====
section
/-!
SUPPORT. Tests/Slice0.lean: the tests of the model: what well-formedness refuses, action words read back, and a witness for the
hypotheses of each statement.
-/

namespace Sys2Proof.Tests

open Sys2Proof Sys2Proof.Machine

/-! ## Well-formedness: each check refuses an ill-formed term -/

/-- Kettle operands that every instruction without FUNC accepts: registers 1, 2, 3 and 4. -/
def kops : KOps :=
  { dm := false, dp := false, d := 1, am := false, ap := false, a := 2, b := 3, c := 0, nega := false, negx := false, func := 0 }

theorem test_wf_stove :
    actionCause (.sfmt 0 0 0xD 1 false false 0 0) = some 0x17 ∧ actionCause (.sfmt 0 0 1 0xF false false 0 0) = some 0x17 ∧
    actionCause (.sout 0 0 0 0 0 0xC false false false 0 0) = some 0x17 ∧
    actionCause (.sout 0 0 0 0 0 1 false false false 0 5) = some 0x17 := by decide

theorem test_wf_kettle_layout :
    actionCause (.kadd 0 0 { kops with dp := true }) = some 0x17 ∧ actionCause (.kadd 0 0 { kops with d := 32 }) = some 0x17 ∧
    actionCause (.kadd 0 0 { kops with ap := true }) = some 0x17 ∧ actionCause (.kadd 0 0 { kops with a := 32 }) = some 0x17 ∧
    actionCause (.krng 0 0 { kops with b := 0 }) = some 0x17 ∧ actionCause (.kexp2 0 0 kops) = some 0x17 ∧
    actionCause (.kadd 0 0 { kops with c := 1 }) = some 0x17 ∧ actionCause (.kmul 0 0 kops) = none := by decide

theorem test_wf_kettle_signs :
    actionCause (.ksel 0 0 { kops with nega := true }) = some 0x17 ∧
    actionCause (.kcmp 0 0 { kops with nega := true, func := 8 }) = some 0x17 ∧
    actionCause (.kcvt 0 0 { kops with b := 0, nega := true, func := 2 }) = some 0x17 ∧
    actionCause (.kmerge 0 0 { kops with nega := true }) = some 0x17 ∧
    actionCause (.kcmp 0 0 { kops with negx := true }) = some 0x17 ∧ actionCause (.kmax 0 0 { kops with negx := true }) = none := by
  decide

theorem test_wf_kettle_func :
    actionCause (.kadd 0 0 { kops with func := 1 }) = some 0x17 ∧ actionCause (.kfma 0 0 { kops with func := 1 }) = some 0x17 ∧
    actionCause (.kmax 0 0 { kops with func := 2 }) = some 0x17 ∧ actionCause (.kmin 0 0 { kops with func := 2 }) = some 0x17 ∧
    actionCause (.kcmp 0 0 { kops with func := 5 }) = some 0x17 ∧ actionCause (.kcmp 0 0 { kops with func := 12 }) = some 0x17 ∧
    actionCause (.ksum 0 0 { kops with b := 0, func := 0 }) = some 0x17 ∧
    actionCause (.kmerge 0 0 { kops with d := 30 }) = some 0x17 ∧ actionCause (.kidxArgmax 0 0 { kops with func := 1 }) = some 0x17 ∧
    actionCause (.kidxCumsel 0 0 kops) = some 0x17 ∧ actionCause (.krng 0 0 { kops with a := 0, b := 0, func := 16 }) = some 0x17 := by
  decide

theorem test_wf_kettle_convert :
    actionCause (.kcvt 0 0 { kops with b := 0, func := 7 }) = some 0x17 ∧
    actionCause (.kcvt 0 0 { kops with b := 0, func := 0x10 }) = some 0x17 ∧
    actionCause (.kcvt 0 0 { kops with b := 0, func := 8 }) = some 0x17 ∧
    actionCause (.kcvt 0 0 { kops with b := 0, func := 0xC }) = some 0x17 ∧
    actionCause (.kcvt 0 0 { kops with b := 0, func := 0x40 }) = some 0x17 := by decide

theorem test_wf_kettle_rest :
    [actionCause (.klog2 0 0 kops), actionCause (.krcp 0 0 kops), actionCause (.krsq 0 0 kops), actionCause (.ktanh 0 0 kops),
     actionCause (.kmul 0 0 { kops with func := 1 }), actionCause (.ksel 0 0 { kops with func := 1 })].all (fun c => c == some 0x17) =
      true := by decide

theorem test_wf_movement :
    actionCause (.sgath 0 0 0 0 0 0 14 0) = some 0x17 ∧ actionCause (.sgath 0 0 0 0 0 255 8 0) = some 0x17 ∧
    actionCause (.pass 0 6 0 0 0 0 0) = some 0x17 ∧ actionCause (.pass 0 0 0 0 0 0 0) = some 0x13 ∧
    actionCause (.send 1 6 0 0 0 0 0) = some 0x13 ∧ actionCause (.rwinOpen 1 4 0 0 0 0 0) = some 0x13 ∧
    actionCause (.rwinClose 0 0 0) = some 0x13 := by decide

theorem test_wf_thru :
    actionCause (.thru 0 1 7 0 0) = some 0x17 ∧ actionCause (.thru 0 1 1 0 0) = some 0x17 ∧ actionCause (.thru 0 6 1 0 0) = some 0x17 ∧
    actionCause (.thru 0 1 6 0 0) = some 0x17 ∧ actionCause (.thru 0 1 2 0 3) = some 0x17 ∧ actionCause (.thru 0 0 1 0 0) = some 0x13 ∧
    actionCause (.thruGuyline 0 6 7 0 0) = some 0x17 ∧ actionCause (.thruGuyline 0 6 6 0 0) = some 0x17 ∧
    actionCause (.thruGuyline 0 1 2 0 0) = some 0x17 ∧ actionCause (.thruGuyline 1 6 1 0 0) = some 0x13 := by decide

theorem test_wf_control :
    actionCause (.pinc 0 0 0) = some 0x17 ∧ actionCause (.pwait 0 0 false true 1) = some 0x17 ∧ actionCause (.cidle 0 0) = some 0x17 ∧
    actionCause (.crep 0 0 1) = some 0x17 ∧ actionCause (.crep 0 1 0) = some 0x17 := by decide

theorem test_wf_tracks :
    actionCause (.tact 0 24 0 0 false 0) = some 0x17 ∧ actionCause (.trd 0 24 0 0 0 0 0 false) = some 0x17 ∧
    actionCause (.trd 0 0 0 8 8 0 0 false) = some 0x17 ∧ actionCause (.twr 0 0 0 15 1 0 0 false) = some 0x17 ∧
    actionCause (.twr 0 24 0 0 0 0 0 false) = some 0x17 ∧
    actionCause (.tpre 0 24 0 false) = some 0x17 ∧ actionCause (.tpre 0 0 1 true) = some 0x17 ∧
    actionCause (.tslotRefresh 0 0 0) = some 0x17 ∧ actionCause (.tslotFar 0 0 0) = some 0x17 ∧
    actionCause (.tidxColumn 0 24 0 0 0 0 0 0) = some 0x17 ∧ actionCause (.tidxLoadIndex 0 0 0 0 0 16384 4) = some 0x17 := by decide

theorem test_wf_words : wordCause 0 0 = some 0x17 ∧ wordCause 1 (actionWord 62 1 0) = some 0x13 ∧ wordCause 0 (actionWord 56 1 0) = some 0x13 ∧
    wordCause 0 (actionWord 61 1 (2 ^ 25 + 1)) = some 0x17 ∧ wordCause 0 (actionWord 61 1 (2 ^ 25)) = none := by decide

theorem test_wf_accesses :
    (Instr.bar0OddAccess .ranger 4 .b4 false 0).wf = false ∧ (Instr.bar0OddAccess .ranger 8 .b8 false 0).wf = false ∧
    (Instr.vestibuleWrite 0 0 [] false).wf = false ∧ (Instr.vestibuleWrite 0 (BitVec.allOnes 36) [0, 0] false).wf = false ∧
    (Instr.vestibuleRead 0 0 4097).wf = false ∧ (Instr.weightLoadWrite 0 0 []).wf = false := by decide

theorem test_wf_lists :
    (Instr.packReceive 0 [] 0 0).wf = false ∧ (Instr.packReceive 0 (List.replicate 8 (0, [0])) 0 0).wf = false ∧ (Instr.referenceFrame [] 0).wf = false ∧ (Instr.entryLimitUpdate 0 []).wf = false ∧
    (Instr.selftestComplete [] []).wf = false ∧ (Instr.recalibration { delays := [], caps := [] }).wf = false ∧
    (Instr.firewatchEpoch { input := [], junction := List.replicate 32 0, die := List.replicate 7 0, hbm := List.replicate 24 0
                            rail := List.replicate 8 0 }).wf = false ∧
    (Instr.thermalTrip [] (List.replicate 24 0)).wf = false ∧ (Instr.thermalRecovery (List.replicate 32 0) []).wf = false := by
  decide

theorem test_wf_bring_up :
    (Instr.bringUpStep (.power true 0 true [] true false none [])).wf = false ∧ (Instr.bringUpStep (.memory [] [])).wf = false ∧
    (Instr.bringUpStep (.calibrate { delays := [], caps := [] } [])).wf = false ∧ (Instr.bringUpStep (.lanes [] [])).wf = false ∧
    (Instr.bringUpStep (.pcie [])).wf = false ∧ (Instr.bringUpStep .guyline).wf = true := by decide

/-! ## Action words, written out from the tables of the encodings -/

/-- SLOAD of 128 rows from Sack 2, line 3, in Stove 1: UNIT 000001, OP 00000001, SACK 10, LINE 3, NROWS 127 (Table 4.6). -/
theorem test_word_sload : decodeAction 4 0b0000010000000110000000000001111111110000000000000000000000000000 =
    some (.sloadWeights 4 1 2 3 127) := by decide

/-- KADD in Kettle 1, D 1, A 2, B 3: UNIT 001001, OP 00000001 (Table 5.3). -/
theorem test_word_kadd : decodeAction 0 0b0010010000000100000000000000100000000000001000011000000000000000 =
    some (.kadd 0 1 { kops with func := 0 }) := by decide

/-- PINC of Peg 5 by 1: UNIT 111101, OP 00000001, PEG 5 at bit 41, AMOUNT at bit 25 (Table 6.10). -/
theorem test_word_pinc : decodeAction 0 0b1111010000000100000010100000000000000010000000000000000000000000 = some (.pinc 0 5 1) := by decide

/-- TACT of track 3, bank 2, row 1: UNIT 111100, OP 00000001 (Table 7.4). -/
theorem test_word_tact : decodeAction 0 0b1111000000000100011001000000000000000010000000000000000000000000 =
    some (.tact 0 3 2 1 false 0) := by decide

/-- CBND of Peg 513, SHIFT 4: UNIT 111111, OP 00000011 (Table 3.7). -/
theorem test_word_cbnd : decodeAction 1 0b1111110000001100001000000001001000000000000000000000000000000000 =
    some (.cbnd 1 513 4) := by decide

/-! ## Witnesses: each statement's hypotheses met together -/

/-- Region 0 in beat 0, its arrivals in. -/
def w0 : State := { State.reset with regions := State.reset.regions.set 0 { Region.reset with begun := 1 } }

theorem w0_open : beatOpen w0 0 0 := ⟨by decide, by decide, by decide⟩
theorem w0_room (b : Nat) : roomTo w0 0 b := ⟨rfl, fun _ h => by cases h⟩
theorem w0_clean (c : Instr) (k line : Nat) : readsClean w0 0 0 c k line := by
  refine ⟨fun u h => ?_, ?_, fun _ _ h => ?_⟩
  · cases h
  · rfl
  · cases h

theorem test_hyp_StepRunsCommand : State.reset.pending = [] ∧
    ({ State.reset with pending := [.powerOn] } : State).pending = .powerOn :: [] := by decide

theorem test_hyp_StepKeeps : memoryWf State.reset = true ∧ ∃ t, step State.reset = .next t := ⟨by decide, _, rfl⟩

theorem test_hyp_Actions : encodeAction (.cidle 0 5) ≠ 0 ∧ actionCause (.cidle 0 5) = none ∧
    decodeAction 0 (encodeAction (.cidle 0 5)) = some (.cidle 0 5) ∧
    encodeAction (.sfmt 0 0 0xD 1 false false 0 0) ≠ 0 ∧ actionCause (.sfmt 0 0 0xD 1 false false 0 0) = some 0x17 := by decide

theorem test_hyp_StoveLoads :
    (beatOpen w0 0 0 ∧ actionCause (.sloadWeights 0 0 0 8191 0) = none ∧ roomTo w0 0 (0 + 1 + 2) ∧ w0.regions[0].stoves[0].lFree ≤ 0 ∧
      w0.regions[0].stoves[0].inUse true 0 = false ∧ readsClean w0 0 0 (.sloadWeights 0 0 0 8191 0) 0 8191) ∧
    (actionCause (.sloadRawAdd 0 0 0 8191 0 3) = none ∧ readsClean w0 0 0 (.sloadRawAdd 0 0 0 8191 0 3) 0 8191) ∧
    actionCause (.smxsAsb 0 0 0 8191) = none := by
  refine ⟨⟨w0_open, by decide, w0_room _, by decide, by decide, w0_clean _ _ _⟩, ⟨by decide, w0_clean _ _ _⟩, by decide⟩

/-- A state with Stove 0 of region 0 as given, in beat 0. -/
def wStove (q : Stove) : State :=
  { State.reset with regions := State.reset.regions.set 0 { Region.reset with begun := 1, stoves := Region.reset.stoves.set 0 q } }

theorem wStove_clean (q : Stove) (c : Instr) (k line : Nat) : readsClean (wStove q) 0 0 c k line := by
  refine ⟨fun u h => ?_, ?_, fun _ _ h => ?_⟩
  · cases h
  · rfl
  · cases h

theorem test_hyp_StoveLoads_scales : let q : Stove := { Stove.launch with plane1 := { Plane.launch with wfmt := 7 } }
    beatOpen (wStove q) 0 0 ∧ actionCause (.smxsWeightScales 0 0 0 8184) = none ∧ roomTo (wStove q) 0 10 ∧
    (wStove q).regions[0].stoves[0].lFree ≤ 0 ∧ (wStove q).regions[0].stoves[0].inUse true 0 = false ∧
    fmtMx ((wStove q).regions[0].stoves[0].plane true).wfmt = true ∧
    8184 + scaleLines ((wStove q).regions[0].stoves[0].plane true).wfmt ≤ 8192 ∧
    readsClean (wStove q) 0 0 (.smxsWeightScales 0 0 0 8184) 0 8184 :=
  ⟨⟨by decide, by decide, by decide⟩, by decide, ⟨rfl, fun _ h => by cases h⟩, by decide, by decide, by decide, by decide,
    wStove_clean _ _ _ _⟩

theorem test_hyp_StoveFormatsAndMultiplies : let q : Stove := { Stove.launch with
      plane0 := { Plane.launch with wfmt := 1, elemOk := true, scaleOk := true }, afmt := 1 }
    (beatOpen w0 0 0 ∧ actionCause (.sfmt 0 0 1 1 false true 0 5) = none ∧ roomTo w0 0 3 ∧ w0.regions[0].stoves[0].lFree ≤ 0 ∧
      w0.regions[0].stoves[0].landing ≤ 0 ∧ readsClean w0 0 0 (.sfmt 0 0 1 1 false true 0 5) 0 5) ∧
    ∃ cls, beatOpen (wStove q) 0 0 ∧ actionCause (.smac 0 0 0 8191 15 0 0 false) = none ∧
      roomTo (wStove q) 0 (0 + 2 + 1 * cls.bpv) ∧ fmtClass ((wStove q).regions[0].stoves[0].afmt) = some cls ∧
      fmtClass ((wStove q).regions[0].stoves[0].plane false).wfmt = some cls ∧ ((wStove q).regions[0].stoves[0].plane false).elemOk = true ∧
      ((wStove q).regions[0].stoves[0].plane false).scaleOk = true ∧ readsClean (wStove q) 0 0 (.smac 0 0 0 8191 15 0 0 false) 0 8191 :=
  ⟨⟨w0_open, by decide, w0_room _, by decide, by decide, w0_clean _ _ _⟩,
    _, ⟨by decide, by decide, by decide⟩, by decide, ⟨rfl, fun _ h => by cases h⟩, rfl, rfl, rfl, rfl, wStove_clean _ _ _ _⟩

theorem test_hyp_StoveResults : ∃ o, ofmtOf (1 : BitVec 4).toNat = some o ∧ 0 + o.lines ≤ 8192 ∧
    actionCause (.sout 0 0 0 0 0 1 false false false 0 0) = none ∧ beatOpen w0 0 0 ∧ w0.regions[0].stoves[0].oFree ≤ 0 ∧
    (∀ b, roomTo w0 0 b) ∧ actionCause (.sclr 0 0 0xFFFF true true true) = none ∧ w0.regions[0].stoves[0].inUse false 0 = false :=
  ⟨_, rfl, by decide, by decide, w0_open, by decide, w0_room, by decide, by decide⟩

theorem test_hyp_KettleCommands : let o := { kops with b := 0, am := true, a := 8191, c := 0 }
    (kettleForm (.kexp2 0 0 o) = some (0, 0, .kexp2, o) ∧ beatOpen w0 0 0 ∧ actionCause (.kexp2 0 0 o) = none ∧ roomTo w0 0 2 ∧
      ∀ e ∈ kettleLines 0 .kexp2 o, readsClean w0 0 0 (.kexp2 0 0 o) e.1 e.2) ∧
    actionCause (.ksrSackToRegister 0 0 0 8191 31 true) = none ∧ actionCause (.ksrRegisterToSack 0 0 0 8191 31 true) = none ∧
    actionCause (.ksrRegisterCopy 0 0 31 0 true 63) = none ∧ actionCause (.ksrKeyLoad 0 0 3 8191) = none :=
  ⟨⟨rfl, w0_open, by decide, w0_room _, fun _ _ => w0_clean _ _ _⟩, by decide, by decide, by decide, by decide⟩

theorem test_hyp_Sacks : beatOpen w0 0 0 ∧ (∀ b, roomTo w0 0 b) ∧ actionCause (.swrFill 0 0 8191 0 7) = none ∧
    actionCause (.swrPegSnapshot 0 0 8191 511) = none ∧ actionCause (.srd 0 0 3 8191 0 0) = none ∧
    readsClean w0 0 0 (.srd 0 0 3 8191 0 0) 0 8191 ∧ actionCause (.sgath 0 0 8191 31 8160 0 13 31) = none ∧
    readsClean w0 0 0 (.sgath 0 0 8191 31 8160 0 13 31) 0 8191 ∧
    let w : BitVec 64 := BitVec.ofNat 64 (24 * 2 ^ 58 + 2 * 2 ^ 50 + 2 * 2 ^ 22)
    24 ≤ (wordField w 58 6).toNat ∧ wordField w 50 8 = 2 ∧ 2 ≤ (wordField w 22 2).toNat :=
  ⟨w0_open, w0_room, by decide, by decide, by decide, w0_clean _ _ _, by decide, w0_clean _ _ _, by decide, by decide, by decide⟩

theorem test_hyp_FaceSends : beatOpen w0 0 0 ∧ actionCause (.pass 0 1 0 0 0 0 0) = none ∧ readsClean w0 0 0 (.pass 0 1 0 0 0 0 0) 0 0 ∧
    crossingFree w0 0 0 1 1 3 ∧ detourBeats w0 0 (sackCluster 0) none = 0 ∧ actionCause (.send 0 1 0 0 0 0 0) = none ∧
    actionCause (.send 0 6 0 0 0 0 0) = none := by
  refine ⟨w0_open, by decide, w0_clean _ _ _, ⟨by decide, by decide, fun u h => ?_, fun e h => ?_, rfl, fun _ h => ?_⟩, by decide, by decide,
    by decide⟩ <;> cases h

/-- Region 0 in beat 0 under a Pitch that detours its cluster 0 to region 1. -/
def wDetour : State :=
  { w0 with pitch := some {
      strict := false, debug := false, detourOk := true, relaxed := false, gearPin := 0, gearMax := 0, paceN := 1311, origin := [0, 0, 0]
      extent := [1, 1, 1], wrap := 0, horizon := 64, coord := [0, 0, 0], self := 0, roles := [], clmap := []
      detours := [{ home := 0, cluster := 0, lender := 1, phys := 8 }], alloc := [], hostw := [], enable := [], period := [], phase := []
      farq := [], bounds := [], bunkBase := 0, bunkCount := 0, topoBase := 0, topoCount := 0, slotBase := 0, slotSize := 0, slotCount := 0
      trailDigest := [], entrySeg := 0, entryGear := 0, digest := [], ldigest := [], cdigest := [] } }

theorem test_hyp_FaceSends_detour : beatOpen wDetour 0 0 ∧ roomTo wDetour 0 21 ∧ readsClean wDetour 0 0 (.pass 0 1 0 0 0 0 0) 0 0 ∧
    detourBeats wDetour 0 (sackCluster 0) none ≠ 0 ∧ wDetour.regions[0].faces = [] :=
  ⟨⟨by decide, by decide, by decide⟩, ⟨rfl, fun _ h => by cases h⟩, ⟨fun u h => (by cases h), rfl, fun _ _ h => by cases h⟩,
    by decide, by decide⟩

theorem test_hyp_WindowsAndThru : beatOpen w0 0 0 ∧ actionCause (.rwinOpen 0 1 7 31 8190 1 0) = none ∧ w0.tarp.struck = false ∧
    actionCause (.rwinClose 0 1 7) = none ∧ actionCause (.thru 0 1 2 255 0) = none :=
  ⟨w0_open, by decide, by decide, by decide, by decide⟩

theorem test_hyp_PegActionsAndEffects : beatOpen w0 0 0 ∧ (∀ b, roomTo w0 0 b) ∧ actionCause (.pinc 0 511 1) = none ∧
    actionCause (.psetCount 0 511 1) = none ∧ actionCause (.psetMark 0 511 1) = none ∧ actionCause (.perrSet 0 511) = none ∧
    actionCause (.perrClear 0 511) = none ∧ actionCause (.parmArm 0 511 true 1 9) = none ∧ actionCause (.parmDisarm 0 511) = none ∧
    (pegOf w0.regions[0] 511).count.toNat + 7 < 2 ^ 32 ∧ pegHostw w0 0 511 = false :=
  ⟨w0_open, w0_room, by decide, by decide, by decide, by decide, by decide, by decide, by decide, by decide, by decide⟩

/-- A Pitch of one module that gives every Peg to the Trail, and Peg 0 of every region to hosts where `h`. -/
def wPitch (h : Bool) : Pitch :=
  { strict := false, debug := false, detourOk := false, relaxed := false, gearPin := 0, gearMax := 0, paceN := 1311, origin := [0, 0, 0],
    extent := [1, 1, 1], wrap := 0, horizon := 64, coord := [0, 0, 0], self := 0, roles := List.replicate 10 0, clmap := [], detours := [],
    alloc := List.replicate 32 (BitVec.allOnes 512), hostw := List.replicate 32 (if h then 1 else 0), enable := [], period := [], phase := [],
    farq := [], bounds := [], bunkBase := 0, bunkCount := 0, topoBase := 0, topoCount := 0, slotBase := 0, slotSize := 0, slotCount := 0,
    trailDigest := [], entrySeg := 0, entryGear := 0, digest := [], ldigest := [], cdigest := [] }

/-- A state with region 0 as given. -/
def wReg (g : Region) : State := { State.reset with regions := State.reset.regions.set 0 g }

/-- A Peg with a count and an ERR bit. -/
def wPeg (n : W32) (e : Bool) : Peg := { Peg.zero with count := n, err := e }

/-- Region 0 in beat 0 with Peg 3 as given, under a Pitch, the pacer RUN. -/
def wPegs (q : Peg) : State :=
  { wReg { Region.reset with begun := 1, pegs := storePut [] 3 q } with
    pitch := some (wPitch false), pacer := { State.reset.pacer with mode := .run, released := 1 } }

theorem test_hyp_PegWaits :
    (beatOpen (wPegs (wPeg 9 false)) 0 0 ∧ actionCause (.pwait 0 3 true true 9) = none ∧
      pegAlloc (wPegs (wPeg 9 false)) 0 3 = true ∧ (pegOf (wPegs (wPeg 9 false)).regions[0] 3).err = false ∧
      waitOk (pegOf (wPegs (wPeg 9 false)).regions[0] 3) true 9 = true) ∧
    (waitOk (pegOf (wPegs (wPeg 8 false)).regions[0] 3) true 9 = false ∧ (wPegs (wPeg 8 false)).tarp.struck = false ∧
      (wPegs (wPeg 8 false)).tarp.holds = []) ∧
    ((pegOf (wPegs (wPeg 8 true)).regions[0] 3).err = true ∧ unstruck (wPegs (wPeg 8 true))) :=
  ⟨⟨⟨by decide, by decide, by decide⟩, by decide, by decide +kernel, by decide, by decide⟩, ⟨by decide, by decide, by decide⟩,
    by decide, by decide, by decide⟩

theorem test_hyp_PegWaits_waiting : let g := { Region.reset with begun := 1, waits := [(61, .pwait 3 false false 0 0)] }
    let s := { setField (wReg g) (Reg.RG_PEG_WLIM 0) 0 32 1 with time := 256 }
    s.regions[0].waits = [(61, .pwait 3 false false 0 0)] ∧ s.tarp.struck = false ∧ (pegOf s.regions[0] 3).err = false ∧
    waitOk (pegOf s.regions[0] 3) false 0 = true ∧ s.regions[0].rowWait = false ∧ s.regions[0].held.getLsbD 61 = false ∧
    s.regions[0].asleep.getLsbD 61 = false ∧
    s.regions[0].acked.getLsbD 0 = false ∧ getField s (Reg.RG_PEG_WLIM 0) 0 32 ≠ 0 ∧
    getField s (Reg.RG_PEG_WLIM 0) 0 32 * 256 ≤ s.time - (Wait.pwait 3 false false 0 0).since ∧ getReg s Reg.TR_FAULT = 0 := by decide

/-- A pacer in RUN since beat 0. -/
def wRun : State := { State.reset with pacer := { State.reset.pacer with mode := .run, n := 1311 } }

theorem test_hyp_PacerRuns_permit : let s := { wRun with pacer := { wRun.pacer with anchorEnd := 262144 } }
    s.pacer.mode = .run ∧ s.tarp.struck = false ∧ s.pacer.stopAt = none ∧ s.pacer.resuming = false ∧
    (enterCal s).pacer.mode = .cal ∧ ∃ u, permitTime s = some u ∧ u ≤ pacerNow s := by
  refine ⟨rfl, rfl, rfl, rfl, rfl, ?_⟩
  exact ⟨_, rfl, by decide⟩

theorem test_hyp_PacerRuns_epoch : let s (n : Nat) : State := { State.reset with
      pitch := some (wPitch false), compass := { Compass.reset with valid := true, count := 1024 }
      pacer := { State.reset.pacer with mode := .run, n := 1311, base := some (0, 0), released := 1311, pend := some (n, 1) } }
    let u := s 1311
    nowUnits u % 262144 < 256 ∧ nowUnits u / 262144 = 1 ∧ u.pacer.epochSeen ≠ some 1 ∧ u.compass.valid = true ∧ u.pacer.stopAt = none ∧
    u.pacer.resuming = false ∧ u.tarp.struck = false ∧ u.pacer.base = some (0, 0) ∧ u.pacer.released ≤ 0 + u.pacer.n ∧
    u.pitch.isSome = true ∧ u.pacer.pend = some (1311, 1) ∧ u.pacer.n ≤ (1311#15).toNat ∧ (s 2000).pacer.n < 2000 ∧
    decide (capNeeded (s 2000) ≤ (1311#15).toNat) = false := by decide +kernel

theorem test_hyp_PacerRuns_arm : let s := setField State.reset Reg.PACE_NEXT 0 14 1311; let u := setField State.reset Reg.PACE_NEXT 0 14 1310
    s.pitch = none ∧ 1311 ≤ getField s Reg.PACE_NEXT 0 14 ∧ getField s Reg.PACE_NEXT 0 14 ≤ gradeMax s ∧
    nowEpoch s + 4 ≤ fieldN (4 : W64).toNat 0 54 ∧ u.pitch = none ∧ getField u Reg.PACE_NEXT 0 14 < 1311 := by decide

theorem test_hyp_LagAndHang : let s := { wRun with pacer := { wRun.pacer with released := 66 } }
    let u := { setField (wReg { Region.reset with begun := 1 }) Reg.HUB_BOOT 22 2 1 with time := 2 ^ 40 }
    s.pacer.mode = .run ∧ s.tarp.struck = false ∧ getField s Reg.PACE_LAG_MAX 0 11 < (moduleLag s).1 ∧ s.tarp.holds = [] ∧
    u.regions[0].completed < u.regions[0].begun ∧ u.regions[0].waits = [] ∧ u.regions[0].held = 0 ∧ u.regions[0].asleep = 0 ∧
    getField u Reg.PACE_HANG 0 24 * 256 ≤ u.time - u.regions[0].hangFrom ∧ getField u Reg.HUB_BOOT 22 2 = 1 := by decide +kernel

theorem test_hyp_BeatGuards : let s := { State.reset with pacer := { wRun.pacer with released := 1 } }
    let g := { Region.reset with begun := 1, acked := BitVec.allOnes 64 - 1 }
    (∃ t, exec (.beginBeat 0) s = .next t) ∧ (wReg g).regions[0].completed < (wReg g).regions[0].begun ∧ g.rowWait = false ∧
    (withheld g).getLsbD 0 = false ∧ g.acked ||| (1#64 <<< 0) = BitVec.allOnes 64 ∧ (wReg g).pacer.stopAt = none ∧
    (wReg g).tarp.holds = [] ∧ (wReg g).trail.crossroad = none ∧ (wReg g).trail.logDue = none ∧ zipWindows (wReg g) = false ∧
    g.waking = [] ∧ (0#64 ||| (1#64 <<< 5)).getLsbD 63 = false :=
  ⟨⟨_, rfl⟩, by decide, by decide, by decide, by decide, by decide, by decide, by decide, by decide, by decide, by decide, by decide⟩

theorem test_hyp_BeatsRun_begin : let s := { State.reset with pacer := { wRun.pacer with released := 1 } }; let g := s.regions[0]
    g.completed = g.begun ∧ g.rowWait = false ∧ beatBarred s g 0 = false ∧ 0 < s.pacer.released ∧ slackOk s 0 0 = true ∧ g.due = [] ∧
    g.banks = [] ∧ g.waits = [] ∧ g.pegLater = [] ∧ g.fetch.active = false ∧ s.trail.nexts = [] ∧ arrivalDue g 0 = false ∧ zipWindows s = false ∧
    gapClear s 0 [0] 8 = true := by decide

/-- An entry for line 5 of Sack 2, due at beat 0. -/
def wEntry : Entry :=
  { data := 77, side := sealSide (sideLine 2 5) 77, made := 0, slot := 0, issue := 0, due := 0, alt := none }

theorem test_hyp_BeatsRun_arrival : let x := Region.reset.xings.set 0 [wEntry]
    let g := { Region.reset with begun := 1, rowWait := true, xings := x.set 1 [wEntry] }; let s := wReg g
    s.regions[0].rowWait = true ∧ s.regions[0].xings[0] = [wEntry] ∧ wEntry.due = lastBeat g ∧ wEntry.alt = none ∧ sideKind wEntry.side = 1 ∧
    parityHolds wEntry.side wEntry.data = true ∧
    g.thrus = [] ∧ detourBeats s 0 (sackCluster 2) none = 0 ∧ g.writers = [] ∧ guylineOwned g 2 = false ∧
    arrivalDue { g with xings := g.xings.set 0 [] } (lastBeat g) = true ∧
    (let u := { Region.reset with xings := x }; arrivalDue u 0 = true) := by decide +kernel

theorem test_hyp_RegionControl : beatOpen w0 0 0 ∧ actionCause (.cidle 0 65535) = none ∧ actionCause (.crep 0 1 2) = none ∧
    actionCause (.chlt 0 true 3 4095) = none ∧ ∀ p, homePort (0 : Fin 32).val = some p → w0.ports[Fin.ofNat 10 p].through = [] := by
  refine ⟨w0_open, by decide, by decide, by decide, fun p h => ?_⟩
  have : ∀ q : Fin 10, w0.ports[q].through = [] := by decide
  exact this _

/-- Region 0 in beat 0 of a segment whose only successor word is `e`, Peg 3 as given. -/
def wBound (q : Peg) (e : W64) : State :=
  let g := { Region.reset with
    begun := 1, pegs := storePut [] 3 q, fetch := { Fetch.none with active := true } }
  { wReg g with trail := { State.reset.trail with segs := storePut [] 0 { Segment.none with lens := [8], succ := [e] } } }

theorem test_hyp_BoundaryTaken : let ok := wBound (wPeg 0 false) 0
    beatOpen ok 0 0 ∧ actionCause (.cbnd 0 3 0) = none ∧ ok.regions[0].due = [] ∧ (∀ j : Fin 6, ok.regions[0].xings[j] = []) ∧
    hubEntries ok 0 = [] ∧ (3 : BitVec 14).toNat / 512 = 0 ∧ (512 : BitVec 14).toNat / 512 ≠ 0 ∧ ok.trail.nexts = [] ∧
    (pegOf ok.regions[0] 3).err = false ∧ 0 < (segOf ok 0).succ.length ∧ strictOn ok = false ∧ holdsVote ok 0 0 = false ∧
    zipWindows ok = false ∧ ok.tarp.stopAt = none ∧ (∀ p : Fin 10, ok.ports[p].through = []) ∧
    (pegOf (wBound (wPeg 0 true) 0).regions[0] 3).err = true ∧ unstruck ok ∧
    (segOf (wBound (wPeg 1 false) 0) 0).succ.length ≤ ((wPeg 1 false).count >>> 0).toNat % 16 ∧
    fieldN (BitVec.ofNat 64 (2 * 2 ^ 62)).toNat 62 2 = 2 :=
  ⟨⟨by decide, by decide, by decide⟩, by decide, by decide, by decide, by decide, by decide, by decide, by decide, by decide, by decide,
    by decide, by decide, by decide, by decide, by decide, by decide, ⟨by decide, by decide⟩, by decide, by decide⟩

/-- A powered module, ready, host port 0 its steward. -/
def wOn : State :=
  let s := setField (setField State.reset Reg.HUB_BOOT 22 2 1) Reg.HST_LEASE 30 2 1
  { s with startup := { Startup.reset with power := .on } }

theorem test_hyp_StewardWrites : writerOf (.paceCancel (.host 0)) = some (.host 0) ∧ ready State.reset = false ∧ ready wOn = true ∧
    isSteward wOn 0 = true ∧ writerOf (.trailLoad (.host 1)) = some (.host 1) ∧ isSteward wOn 1 = false ∧
    asFirmware (.trailLoad (.host 0)) = some (.trailLoad .ranger) := by decide +kernel

theorem test_hyp_RegisterAccessRules : (∃ sp ∈ regTable, plainReg Reg.FW_MCFG 32 sp) ∧ Reg.FW_MCFG % 4 = 0 ∧ powered wOn = true ∧
    (∃ sp ∈ regTable, plainReg Reg.PE_LAST 64 sp ∧ sp.rc = 0) ∧ Reg.PE_LAST % 8 = 0 ∧ notServed wOn .ranger Reg.PE_LAST = false ∧
    latched { wOn with latches := [(.ranger, Reg.PE_LAST, 5)] } .ranger Reg.PE_LAST = some 5 ∧ regSpec? (Reg.PE_LAST + 4) = none ∧
    Reg.PE_LAST + 4 < 2 ^ 26 ∧ inPegWindow 0x300001 = false ∧ accessAligned 0x300001 false = false := by
  simp only [plainReg]
  decide +kernel

/-- A far request of queue 0 with a descriptor, not done, that track 0 serves. -/
def wReq (d : Nat) : FarReq :=
  { id := 0, queue := 0, owner := 0, beat := 0, desc := BitVec.ofNat 1024 d, win := none, done := false, poison := none
    served := [(0, none)] }

/-- A module with a Barrel of 1 MiB and host port 0 up, that holds one far request. -/
def wHolds (q : FarReq) : State :=
  let s := setField (setField (setReg State.reset Reg.BR_SIZE (BitVec.ofNat 64 (2 ^ 20))) (Reg.HST_LINK 0) 28 4 2) (Reg.HST_LINK 0) 18 1 1
  { s with far := { Far.reset with seq := 1, reqs := [q] } }

/-- A module whose one far request has a descriptor. -/
def wFar (d : Nat) : State := wHolds (wReq d)

/-- The descriptor of 128 bytes from 0 to 0, of an operation. -/
def wDesc (op : Nat) : Nat := op * 2 ^ 60 + 128 * 2 ^ 192

theorem test_hyp_FarTransfers : ∀ op : Fin 5, 1 ≤ op.val → farDue (wFar (wDesc op.val)) 0 0 op.val (wReq (wDesc op.val)) ∧
    (wReq (wDesc op.val)).slotLoad = false ∧ (wReq (wDesc op.val)).win = none ∧
    tracksServe (wFar (wDesc op.val)) (wReq (wDesc op.val)) (rangeTracks 0 128) ∧
    (wReq (wDesc op.val)).dst = 0 ∧ (wReq (wDesc op.val)).src = 0 ∧ (wReq (wDesc op.val)).len = 128 ∧
    (slotsIn (wFar (wDesc op.val)) (wReq (wDesc op.val)).dst 128).any (fun n => (listedSlots (wFar (wDesc op.val))).contains n) = false ∧
    barrelSize (wFar (wDesc op.val)) ≠ 0 ∧ hostUp (wFar (wDesc op.val)) (wReq (wDesc op.val)).hport = true := by
  simp only [farDue, tracksServe]
  decide +kernel

theorem test_hyp_FarTransfers_slot : let p := { wPitch false with enable := 1 :: List.replicate 31 0, slotCount := 1, slotSize := 32768 }
    ∀ op : Fin 5, op.val = 1 ∨ op.val = 3 → let q := wReq (wDesc op.val + 2 ^ 59)
      let s := { wHolds q with pitch := some p }
      farDue s 0 0 op.val q ∧ q.slotLoad = true ∧ tracksServe s q (enabledTracks p) ∧
      (listedSlots s).contains q.aslot = false ∧ barrelSize s ≠ 0 ∧ hostUp s q.hport = true := by
  simp only [farDue, tracksServe]
  decide +kernel

theorem test_hyp_FarTransfers_window : ∀ op : Fin 5, op.val = 2 ∨ op.val = 4 →
    let w : HubWin := { hub := 0, wid := 0, len := 1, opens := 0, isOpen := false, count := 1, lines := [(0, 5)], undef := false }
    let q := { wReq (wDesc op.val) with win := some w }
    farDue (wHolds q) 0 0 op.val q ∧ q.win = some w ∧ w.isOpen = false ∧ w.undef = false ∧ barrelSize (wHolds q) ≠ 0 ∧
    hostUp (wHolds q) q.hport = true := by
  simp only [farDue]
  decide +kernel

theorem test_hyp_FarTransfers_absent : ∀ op : Fin 5, 1 ≤ op.val →
    farDue { wFar (wDesc op.val) with regs := [] } 0 0 op.val (wReq (wDesc op.val)) ∧ barrelSize { wFar (wDesc op.val) with regs := [] } = 0 ∧
    hostUp { wFar (wDesc op.val) with regs := [] } (wReq (wDesc op.val)).hport = false := by
  simp only [farDue]
  decide +kernel

/-- The Bunk entry of session 0: one page, its entry the first of the Topo table. -/
def wBunk : BunkEntry := { bytes := (List.replicate 256 (0 : Byte)).set 76 1, changed := false }

/-- Bounds that let a region read and write HBM and the Barrel from 0 to a limit. -/
def wBounds (limit : Nat) : List Bound :=
  [{ kind := 1, r := true, w := true, hport := 0, base := 0, limit := limit }, { kind := 2, r := true, w := true, hport := 0, base := 0, limit := limit }]

/-- A Pitch with one session, one Topo entry, and its first MiB of HBM and Barrel in bounds. -/
def wSess : Pitch :=
  { wPitch false with bunkCount := 1, topoCount := 1, bunkBase := 4096, topoBase := 8192, bounds := List.replicate 32 (wBounds (2 ^ 20)) }

/-- A module with one page request of session 0 whose page lies at ADDR `a`. -/
def wPage (op a : Nat) : State :=
  let s := wFar (op * 2 ^ 60)
  { s with pitch := some wSess, far := { s.far with bunks := [(0, wBunk)], topo := [(0, topoEntry a 0 0 0 1)] } }

theorem test_hyp_PagesMove : ∀ op : Fin 8, 5 ≤ op.val → let a := if op.val = 5 then 2 ^ 63 else 0; let s := wPage op.val a
    let q := wReq (op.val * 2 ^ 60); let here := pageAt (topoField (topoEntry a 0 0 0 1) 64 64)
    pageDue s wSess q 0 (topoEntry a 0 0 0 1) ∧ topoField (topoEntry a 0 0 0 1) 16 8 = 1 ∧ farDue s 0 0 op.val q ∧
    here.barrel = decide (op.val = 5) ∧ pageInUse s here = false ∧ pageInUse s { barrel := false, addr := q.dst } = false ∧
    pageInBounds s q false here = true ∧ pageInBounds s q true here = true ∧ tracksServe s q [0] ∧
    (op.val = 5 ∨ here.tracks = [0]) ∧ ({ barrel := false, addr := q.dst } : PageAt).tracks = [0] ∧ barrelSize s ≠ 0 := by
  simp only [farDue, pageDue, tracksServe]
  decide +kernel

theorem test_hyp_PagesMove_bounds : let p := { wSess with bounds := [] }; let s := { wPage 5 (2 ^ 63) with pitch := some p }
    let q := wReq (5 * 2 ^ 60); let here := pageAt (topoField (topoEntry (2 ^ 63) 0 0 0 1) 64 64)
    pageDue s p q 0 (topoEntry (2 ^ 63) 0 0 0 1) ∧ farDue s 0 0 5 q ∧ here.barrel = true ∧ pageInBounds s q false here = false ∧
    tracksServe s q ({ barrel := false, addr := q.dst } : PageAt).tracks ∧ s.tarp.struck = false := by
  simp only [farDue, pageDue, tracksServe]
  decide +kernel

theorem test_hyp_FarEnds_cairn : let s := wPage 8 0; let t := { s with far := { s.far with running := [0] } }
    farDue t 0 0 8 (wReq (8 * 2 ^ 60)) ∧ (wReq (8 * 2 ^ 60)).emit = false ∧ t.far.running.contains (wReq (8 * 2 ^ 60)).session = true ∧
    t.far.bunks.any (fun b => b.1 == (wReq (8 * 2 ^ 60)).session) = true ∧ t.far.bunks = [(0, wBunk)] ∧ wBunk.bytes.length = 256 := by
  simp only [farDue]
  decide +kernel

theorem test_hyp_FarEnds_completion : let q := { wReq (wDesc 1) with done := true }
    let s := { wRun with far := { Far.reset with reqs := [q] } }
    (s.far.reqs.filter (fun r => r.queue == 0))[0]? = some q ∧ q.done = true ∧ (∀ r : Fin 32, s.regions[r].waits = []) ∧
    s.pacer.mode = .run ∧ s.tarp.struck = false := by decide +kernel

theorem test_hyp_FarEnds_window :
    let e : Entry := { data := 5, side := sealSide (sideWin 0 3) 5, made := 0, slot := 0, issue := 0, due := 1, alt := none }
    let w : HubWin := { hub := 0, wid := 0, len := 4, opens := 0, isOpen := true, count := 0, lines := [], undef := false }
    let q := { wReq (wDesc 2) with win := some w }
    let s := { State.reset with
      regions := State.reset.regions.set 9 { Region.reset with begun := 2 }, hubIn := [[e], []], far := { Far.reset with reqs := [q] } }
    s.hubIn.getD 0 [] = [e] ∧ e.due < (s.regions[hubRegion 0]).begun ∧ sideKind e.side = 2 ∧ e.alt = none ∧
    parityHolds e.side e.data = true ∧ s.far.reqs = [q] ∧
    w.wid = fieldN e.side.toNat 35 3 ∧ w.opens < e.due ∧ fieldN e.side.toNat 19 16 < w.len ∧
    w.lines.any (fun l => l.1 == fieldN e.side.toNat 19 16) = false := by decide +kernel

theorem test_hyp_FarQueueing_switch : let s := setReg State.reset (Reg.FQ_CFG 63) (BitVec.ofNat 64 (2 ^ 31))
    let t := setField State.reset (Reg.FQ_STAT 63) 30 2 0; let u := setField State.reset (Reg.FQ_STAT 63) 30 2 1
    (getReg s (Reg.FQ_CFG 63)).getLsbD 31 = true ∧ getField t (Reg.FQ_STAT 63) 30 2 = 0 ∧ outstanding t 63 = 0 ∧ t.pacer.mode = .off ∧
    getField u (Reg.FQ_STAT 63) 30 2 = 1 ∧ outstanding u 63 = 0 ∧ outstanding (wFar (wDesc 1)) 0 ≠ 0 ∧
    ∀ r : Fin 32, (wFar (wDesc 1)).regions[r].waits = [] := by decide +kernel

/-- Region 0 in beat 0, a descriptor of a 128-byte BREAD in line 5 of Sack 0, queue 0 allowing all. -/
def wPost (d : Nat) : State :=
  let s := wReg { Region.reset with begun := 1, sacks := storePut [] (8192 * 0 + 5) (BitVec.ofNat 1024 d) }
  let p := { wPitch false with bounds := List.replicate 32 (wBounds 4096) }
  setField (setReg { s with pitch := some p } (Reg.FQ_CFG 0) (BitVec.ofNat 64 (2 ^ 32 - 1))) (Reg.FQ_STAT 0) 30 2 0

theorem wPost_open (d : Nat) : beatOpen (wPost d) 0 0 := ⟨rfl, Nat.le_refl _, rfl⟩

theorem test_hyp_FarQueueing_post : let s := wPost (wDesc 1); let v := sackLine s.regions[0] 0 5
    let q : FarReq := { id := s.far.seq, queue := 0, owner := 0, beat := 0, desc := v, win := none, done := false, poison := none }
    actionCause (.fqpost 0 0 0 5) = none ∧ outstanding s 0 < 32 ∧ descClean q = true ∧ descPegOk s q = true ∧ descShapeOk s q = true ∧
    q.srcw = false ∧ (getReg s (Reg.FQ_CFG 0)).getLsbD 31 = true ∧ (getReg s (Reg.FQ_CFG 0)).getLsbD (26 - q.op) = true ∧
    getField s (Reg.FQ_STAT 0) 30 2 ≠ 2 ∧ descBoundsOk s q = true ∧ s.regions[0].readers = [] ∧ s.flaws = [] := by decide +kernel

theorem test_hyp_FarQueueing_full : let s := { wPost (wDesc 1) with far := { Far.reset with reqs := List.replicate 32 (wReq (wDesc 1)) } }
    32 ≤ outstanding s 0 ∧ s.tarp.struck = false ∧ s.tarp.holds = [] ∧ getReg s Reg.TR_FAULT = 0 ∧
    descClean { wReq (wDesc 1) with desc := BitVec.ofNat 1024 (wDesc 1 + 1) } = false := by decide +kernel

theorem test_hyp_BunkStore_stage : let s := { State.reset with pitch := some wSess }
    let t := setField { s with far := { Far.reset with bunks := [(0, wBunk)] } } Reg.BK_COUNT 0 7 1
    s.far.loading = none ∧ s.pacer.mode ≠ .run ∧ s.pacer.mode ≠ .held ∧ s.flaws = [] ∧ t.flaws = [] ∧
    (∀ i ∈ launchList (setField s Reg.BK_COUNT 0 7 0), listCause s wSess [] i = none) ∧ 0 < (launchList t).length ∧
    listCause t wSess (launchList t) ((launchList t).getD 0 0) = some 1 := by decide +kernel

theorem test_hyp_BunkStore_rest : let s := { State.reset with pitch := some wSess }
    let t := { s with far := { Far.reset with bunks := [(0, wBunk)] } }
    let u := { s with far := { Far.reset with loading := some [0] } }
    u.far.loading = some [0] ∧ u.far.bunkWait = false ∧ bunkRefused s 0 = false ∧ s.far.bunks.any (fun b => b.1 == 0) = false ∧
    t.far.bunks.find? (fun e => e.1 == 0) = some (0, wBunk) ∧ bunkRefused t 0 = false ∧ t.far.bunks = [(0, wBunk)] ∧
    t.pitch.isSome = true ∧ t.far.loading = none ∧ t.flaws = [] ∧ 1 ≤ (64 : W32).toNat % 128 ∧ (64 : W32).toNat % 128 ≤ 64 := by decide +kernel

/-- A state with port 0 as given. -/
def wLink (g : Port) : State := { State.reset with ports := State.reset.ports.set 0 g }

/-- A port in UP with all lanes, VERIFIED. -/
def wUp : Port := { Port.reset with mode := .up, good := 0xFFFF, width := 16, idstat := 1 }

/-- A channel with `n` credits, its packs `tx`, its messages `rx`. -/
def wChan (n : Nat) (tx : List (List Byte)) (rx : List Message) : Channel := { Channel.idle with cap := n, tx := tx, rx := rx }

/-- The first copy of a symbol as a port takes it. -/
theorem w_heard (s : State) (g : Port) (type : Nat) (pl : BitVec 40) (hs : s.ports[(0 : Fin 10)] = g) (hn : g.rxSer = none)
    (h : (if type = 3 ∨ type = 4 then g.mode ≠ .off ∧ g.mode ≠ .down else g.live = true) ∧
      fieldN (symbolWord g type 0 0 pl).toNat 58 6 = type ∧
      symbolCheck (symbolEpoch g type) ((symbolWord g type 0 0 pl).toNat / 2 ^ 12) = (symbolWord g type 0 0 pl).toNat % 2 ^ 12 ∧
      pl = BitVec.ofNat 40 ((symbolWord g type 0 0 pl).toNat / 2 ^ 12)) : heard s 0 type (symbolWord g type 0 0 pl) pl := by
  unfold heard
  rw [hs]
  refine ⟨h.1, h.2.1, h.2.2.1, fun l hl => ?_, h.2.2.2⟩
  rw [hn] at hl
  cases hl

/-- A sent pack. -/
def wPack (n : Nat) : SentPack := { seq := n, chan := 1, bytes := paddedSched, sentAt := 0 }

/-- A record of window 0. -/
def wRec : OutRec := { wid := 0, seq := 0, sbeat := 0, data := 3 }

theorem test_hyp_PacksMove_send :
    (let s := wLink { wUp with replay := [7], buffer := [wPack 7] };
      s.ports[0].live = true ∧ s.ports[0].buffer = [] ++ wPack 7 :: [] ∧ s.ports[0].replay.contains (wPack 7).seq = true ∧
      ((wPack 7).chan = 1 → s.ports[0].idstat = 1)) ∧
    (let g := { wUp with egress := [wRec] };
      g.live = true ∧ g.replay = [] ∧ g.buffer.length < 2048 ∧ g.egress ≠ [] ∧ g.idstat = 1 ∧ g.blocked = []) ∧
    (let g := { wUp with channels := wUp.channels.set 2 (wChan 1 [[5]] []) };
      g.live = true ∧ g.replay = [] ∧ g.egress = [] ∧ readyChannel g = some 2 ∧ g.channels[2].tx = [[5]]) ∧
    wUp.live = true ∧ wUp.replay = [] ∧ wUp.egress = [] ∧ readyChannel wUp = none := by decide +kernel

/-- The first 248 bytes of a pack of channel 2 that is a message of its own, and the whole pack under epoch 0. -/
def wBody : List Byte := leBytes 8 (2 * 2 ^ 60 + 2 ^ 59 + 2 ^ 58) ++ List.replicate 240 0
/-- The whole pack. -/
def wBytes : List Byte := wBody ++ leBytes 8 (packCheck 0 0 wBody)

theorem w_crc (p : Nat) (hp : p < 2 ^ 64) : ∀ n v c, c < 2 ^ 64 → crcMsb 64 p n v c < 2 ^ 64
  | 0, _, _, h => h
  | n + 1, v, c, _ => by
    unfold crcMsb
    refine w_crc p hp n v _ ?_
    split
    · exact Nat.xor_lt_two_pow (Nat.mod_lt _ (by decide)) hp
    · exact Nat.mod_lt _ (by decide)

theorem w_crc64 (bs : List Byte) : ∀ c, c < 2 ^ 64 → crc64 c bs < 2 ^ 64 := by
  induction bs with
  | nil => exact fun c h => h
  | cons b bs ih => exact fun c h => ih _ (w_crc _ (by decide) _ _ _ h)

theorem w_packCheck (e : W32) (n : Nat) (bs : List Byte) : packCheck e n bs < 2 ^ 64 :=
  Nat.xor_lt_two_pow (w_crc64 _ _ (by decide)) (by decide)

theorem w_leNat (n v : Nat) (h : v < 256 ^ n) : leNat (leBytes n v) = v := by
  induction n generalizing v with
  | zero => simp at h; subst h; rfl
  | succ n ih =>
    have : v / 256 < 256 ^ n := by omega
    simp only [leBytes, leNat, ih _ this, BitVec.toNat_ofNat]
    omega

/-- The pack's units, one a lane. -/
def wUnits : List (Fin 16 × List Byte) :=
  [(0, (wBytes.drop 0).take 32), (1, (wBytes.drop 32).take 32), (2, (wBytes.drop 64).take 32), (3, (wBytes.drop 96).take 32),
   (4, (wBytes.drop 128).take 32), (5, (wBytes.drop 160).take 32), (6, (wBytes.drop 192).take 32), (7, wBytes.drop 224)]

theorem w_join (l : List Byte) (n : Nat) : (l.drop n).take 32 ++ l.drop (n + 32) = l.drop n := by
  rw [← List.drop_drop, List.take_append_drop]

theorem wUnits_bytes : wUnits.flatMap (fun u => u.2) = wBytes := by
  simp only [wUnits, List.flatMap_cons, List.flatMap_nil, List.append_nil]
  rw [w_join wBytes 192, w_join wBytes 160, w_join wBytes 128, w_join wBytes 96, w_join wBytes 64, w_join wBytes 32, w_join wBytes 0]
  rfl

theorem test_hyp_PacksMove_receive : wUp.live = true ∧ onLanes wUp.lanes wUnits = true ∧
    wUnits.flatMap (fun u => u.2) = wBytes ∧ wBytes.length = 256 ∧
    packCheck wUp.epoch wUp.rxNext (wBytes.take 248) = leField wBytes 248 8 ∧ packHeaderOk (leField wBytes 0 8) = true ∧
    2 ≤ fieldN (leField wBytes 0 8) 60 4 ∧ fieldN (leField wBytes 0 8) 60 4 ≤ 5 ∧ wUp.channels[0].held < 64 ∧
    fieldN (leField wBytes 0 8) 59 1 = 1 ∧ packCheck wUp.epoch wUp.rxNext ([] : List Byte) ≠ leField [] 248 8 ∧ (1 : BitVec 8) ≠ 0 := by
  have hl : wBody.length = 248 := by decide +kernel
  have h8 : ∀ v, (leBytes 8 v).length = 8 := fun v => rfl
  have hc : packCheck wUp.epoch wUp.rxNext (wBytes.take 248) = leField wBytes 248 8 := by
    have e : wBytes.take 248 = wBody := by simp [wBytes, ← hl]
    have f : leField wBytes 248 8 = packCheck 0 0 wBody := by
      simp only [leField, wBytes, ← hl, List.drop_left]
      rw [List.take_of_length_le (by simp [h8])]
      exact w_leNat 8 _ (by have := w_packCheck 0 0 wBody; omega)
    rw [e, f]
    rfl
  exact ⟨rfl, by simp only [wUnits]; decide +kernel, wUnits_bytes, by simp [wBytes, hl, h8], hc, by decide +kernel, by decide +kernel,
    by decide +kernel, by decide +kernel, by decide +kernel, by decide +kernel, by decide⟩

theorem test_hyp_AcksAndCredits : let g := { wUp with txNext := 8, buffer := [wPack 7] }
    let c := { Channel.idle with stallSince := some 0 }
    let st := { wLink { wUp with channels := wUp.channels.set 0 c } with time := 2 ^ 60 }
    (wUp.live = true ∧ wUp.ackAt + nsTime 1000 ≤ st.time) ∧
    (heard (wLink g) 0 1 (symbolWord g 1 0 0 (BitVec.ofNat 40 (8 * 2 ^ 8))) (BitVec.ofNat 40 (8 * 2 ^ 8)) ∧ g.blocked = [] ∧
      ((BitVec.ofNat 40 (8 * 2 ^ 8)).toNat / 2 ^ 8 + 2 ^ 32 - (g.txNext + 2 ^ 32 - g.buffer.length) % 2 ^ 32) % 2 ^ 32 ≤ g.buffer.length) ∧
    (g.replay = [] ∧ (wPack 7).sentAt + replayTimeout { wLink g with time := 2 ^ 60 } 0 ≤ 2 ^ 60) ∧
    (st.ports[0].channels[0].toldAt + nsTime 1000 ≤ st.time) ∧
    heard (wLink wUp) 0 2 (symbolWord wUp 2 0 0 (BitVec.ofNat 40 (2 ^ 37 + 4 * 2 ^ 21))) (BitVec.ofNat 40 (2 ^ 37 + 4 * 2 ^ 21)) ∧
    st.ports[0].channels[0].stallSince = some 0 ∧ 0 + nsTime (getField st (Reg.GL_CRED_TMO 0) 0 32) ≤ st.time := by
  refine ⟨by decide +kernel, ⟨w_heard _ _ _ _ rfl rfl (by decide +kernel), by decide +kernel⟩, by decide +kernel, by decide +kernel,
    w_heard _ _ _ _ rfl rfl (by decide +kernel), by decide +kernel⟩

/-- A port in a state, its phase begun at 0. -/
def wMode (m : LinkMode) : Port := { wUp with mode := m }

theorem test_hyp_LinkStates : let late (g : Port) : State := { wLink g with time := 2 ^ 60 }
    (wUp.live = true ∧ wUp.good.getLsbD 15 = true ∧ activeWidth (laneCount (wUp.good &&& ~~~(1#16 <<< 15))) ≠ 0) ∧
    ((wMode .retrain).mode = .retrain ∧ (wMode .retrain).phaseAt + nsTime (getField (late (wMode .retrain)) (Reg.GL_RETRAIN_TMO 0) 0 32) ≤
        (late (wMode .retrain)).time ∧ (wMode .retrain).failed < 2 ∧ 2 ≤ ({ wMode .retrain with failed := 2 } : Port).failed) ∧
    (wMode .training).mode ≠ .off ∧ (wMode .training).mode ≠ .down ∧
    ((wMode .down).phaseAt + nsTime (getField (late (wMode .down)) (Reg.GL_DOWN_RETRY 0) 0 32) ≤ (late (wMode .down)).time) ∧
    Port.reset.mode = .off ∧ flyLit (setField State.reset (Reg.LAMP_STAT 0) 30 2 3) (portFly 0) = true ∧
    halfSpeed (wLink wUp) 0 ≠ true ∧ (wMode .training).training.passed = false ∧ (wMode .training).identified = false ∧ activeWidth (laneCount (0xFFFF &&& ~~~(wMode .training).removed)) ≠ 0 := by decide +kernel

theorem test_hyp_LinkExchange : let g := wMode .retrain; let ack := BitVec.ofNat 40 (2 ^ 36)
    let agreed : Port := { g with training := { g.training with agreed := true } }
    let res := BitVec.ofNat 40 (2 * 2 ^ 36 + 0xFFFF * 2 ^ 20)
    (heard (wLink wUp) 0 3 (symbolWord wUp 3 0 0 0) 0 ∧ fieldN (0 : BitVec 40).toNat 36 4 = 0) ∧
    (heard (wLink g) 0 3 (symbolWord g 3 0 0 ack) ack ∧ fieldN ack.toNat 36 4 = 1) ∧
    (heard (wLink g) 0 3 (symbolWord g 3 0 0 res) res ∧ fieldN res.toNat 36 4 = 2 ∧ g.training.agreed = false) ∧
    heard (wLink agreed) 0 3 (symbolWord agreed 3 0 0 res) res ∧
    activeWidth (laneCount (agreed.good &&& BitVec.ofNat 16 (fieldN res.toNat 20 16))) ≠ 0 := by
  refine ⟨⟨w_heard _ _ _ _ rfl rfl (by decide +kernel), by decide⟩, ⟨w_heard _ _ _ _ rfl rfl (by decide +kernel), by decide +kernel⟩,
    ⟨w_heard _ _ _ _ rfl rfl (by decide +kernel), by decide +kernel⟩, w_heard _ _ _ _ rfl rfl (by decide +kernel), by decide +kernel⟩

/-- A port whose partner's words 0 to 5 have come, its own lanes passed. -/
def wWords (m : LinkMode) : Port :=
  { wMode m with ident := (List.range 6).map (fun i => (i, (0 : W32))), training := { (wMode m).training with passed := true } }

theorem test_hyp_LinkExchange_ident : let id6 := BitVec.ofNat 40 (6 * 2 ^ 36)
    (heard (wLink wUp) 0 4 (symbolWord wUp 4 0 0 id6) id6 ∧ fieldN id6.toNat 36 4 ≤ 6 ∧
      (List.range 7).all (fun i => (storePut wUp.ident 6 (0 : W32)).any (fun e => e.1 == i)) = false) ∧
    (heard (wLink (wWords .up)) 0 4 (symbolWord (wWords .up) 4 0 0 id6) id6 ∧ (wWords .up).live = true) ∧
    (heard (wLink (wWords .ident)) 0 4 (symbolWord (wWords .ident) 4 0 0 id6) id6 ∧ (wWords .ident).training.passed = true) ∧
    (heard (wLink (wWords .retrain)) 0 4 (symbolWord (wWords .retrain) 4 0 0 id6) id6 ∧
      (wWords .retrain).training.agreed = false ∧ (wWords .retrain).training.resume = none) ∧
    (List.range 7).all (fun i => (storePut (wWords .up).ident (fieldN id6.toNat 36 4) (BitVec.ofNat 32 id6.toNat)).any (fun e => e.1 == i)) =
      true := by
  refine ⟨⟨w_heard _ _ _ _ rfl rfl (by decide +kernel), by decide +kernel⟩, ⟨w_heard _ _ _ _ rfl rfl (by decide +kernel), by decide +kernel⟩,
    ⟨w_heard _ _ _ _ rfl rfl (by decide +kernel), by decide +kernel⟩, ⟨w_heard _ _ _ _ rfl rfl (by decide +kernel), by decide +kernel⟩,
    by decide +kernel⟩

theorem test_hyp_RecordsLand : let q : InRec := { wid := 0, seq := 3, data := 9, since := 0 }
    let w : Window := { isOpen := true, dsack := 0, base := 0, len := 4, peg := 3, drop := false }
    let g := { Region.reset with begun := 1, windows := storePut [] 48 w }
    let s := { wReg g with ports := State.reset.ports.set 0 { wUp with landing := [q] } }
    let t := { s with regions := s.regions.set 0 { g with completed := 1 }, pacer := { State.reset.pacer with mode := .held } }
    regionFin (portHome 0) = 0 ∧ s.ports[0].landing = [q] ∧ t.ports[0].landing = [q] ∧ regionStopped t 0 = true ∧
    (windowOf t.regions[0] 6 0).isOpen = true ∧ (windowOf s.regions[0] 6 0).isOpen = true ∧
    q.seq < (windowOf t.regions[0] 6 0).len ∧ t.tarp.struck = false ∧ pegHostw t 0 3 = false ∧
    (pegOf t.regions[0] 3).count.toNat + 1 < 2 ^ 32 ∧ regionStopped s 0 = false ∧ beatOf s.regions[0] = some 0 ∧ q.since ≤ 0 ∧
    s.ports[0].landBeat ≠ some 0 ∧ s.regions[0].bndBeat = none := by decide +kernel

/-- Region 0 in beat 8, a record in its port since beat 0. -/
def wThru : State :=
  { wReg { Region.reset with begun := 9, completed := 8 } with
    ports := State.reset.ports.set 0 { wUp with through := [{ wid := 0, seq := 3, data := 9, since := 0 }] } }

theorem test_hyp_RecordsLand_thru : actionCause (.thruGuyline 0 6 2 255 0) = none ∧ actionCause (.thruGuyline 0 1 6 255 0) = none ∧
    homePort 0 = some 0 ∧ w0.ports[0].through = [] ∧ w0.tarp.holds = [] ∧ beatOpen wThru 0 8 ∧ roomTo wThru 0 300 ∧
    wThru.ports[0].through = [{ wid := 0, seq := 3, data := 9, since := 0 }] ∧ crossingFree wThru 0 8 1 1 3 := by
  refine ⟨by decide, by decide, rfl, by decide, rfl, ⟨by decide, by decide, by decide⟩, ⟨rfl, fun _ h => by cases h⟩, rfl, ?_⟩
  refine ⟨by decide, by decide, fun u h => ?_, fun e h => ?_, rfl, fun _ h => ?_⟩ <;> cases h

/-- A state with a Pitch, the pacer in a mode. -/
def wJob (m : PacerMode) : State :=
  { State.reset with pitch := some (wPitch true), pacer := { State.reset.pacer with mode := m, n := 1311, released := 1 } }

theorem test_hyp_PitchMoves : State.reset.pitch = none ∧ State.reset.pacer.mode = .off ∧
    (wJob .armed).pitch.isSome = true ∧ (wJob .armed).pacer.mode = .armed ∧ (wJob .armed).far.bunks = [] ∧
    (wJob .run).pacer.mode = .run ∧ (wJob .run).tarp.struck = false ∧ getReg (wJob .run) Reg.TR_FAULT = 0 := by decide +kernel

theorem test_hyp_TrailMoves : let s := wJob .armed
    let t := { s with trail := { s.trail with loadResult := some (0, storePut [] 0 Segment.none, 1) } }
    let u := { s with trail := { s.trail with loadResult := some (0x11, [], 0) } }
    s.pitch = some (wPitch true) ∧ s.trail.mode = .empty ∧
    t.trail.loadResult = some (0, storePut [] 0 Segment.none, 1) ∧ u.trail.loadResult = some (0x11, [], 0) ∧ (0x11 : Nat) ≠ 0 ∧
    { s with trail := { s.trail with mode := .running } }.trail.mode = .running := by decide +kernel

/-- A module that may launch at count 5, its Compass LOCKED. -/
def wLaunch : State :=
  let s := setField (setCompassState (wJob .armed) 2) Reg.BK_STAT 31 1 1
  { s with compass := { Compass.reset with valid := true, count := 5 }
           trail := { s.trail with mode := .loaded, launchArm := some 5, nseg := 1, segs := storePut [] 0 { Segment.none with lens := [8] } } }

theorem test_hyp_Launches : launchDue wLaunch .register 5 ∧ wLaunch.pitch = some (wPitch true) ∧ canLaunch wLaunch = true ∧
    wLaunch.far.loading = none ∧ getField wLaunch Reg.BK_STAT 31 1 = 1 ∧ (∀ q, portReady wLaunch q = true) ∧ wLaunch.startup.test = none ∧
    wLaunch.far.staged = [] ∧ launchDue { wLaunch with trail := { wLaunch.trail with pegArm := some 5 } } .peg 5 ∧
    nowUnits wLaunch ≤ (5 : W64).toNat * 256 ∧ compassState wLaunch ≠ 0 ∧ compassState State.reset = 0 := by
  simp only [launchDue]
  decide +kernel

theorem test_hyp_Launches_cycle : let s := setField (setCompassState (wJob .run) 2) (Reg.CMP_CYC_CFG 0) 30 1 1
    let t := { s with compass := { Compass.reset with valid := true, count := 5, cycles := [some 5, none, none, none] } }
    t.compass.cycles[0]? = some (some 5) ∧ compassState t ≠ 0 ∧ 5 ≤ nowTicks t ∧ t.tarp.struck = false ∧
    getField t (Reg.CMP_CYC_CFG 0) 30 1 = 1 ∧ getField t (Reg.CMP_CYC_CFG 0) 16 14 = 0 ∧ pegHostw t 0 0 = true ∧ t.pacer.mode = .run ∧
    t.regions[0].waits = [] ∧ getField t (Reg.CMP_CYC_CFG 1) 30 1 = 0 := by decide +kernel

/-- A module of a camp of two on port 0, in a pacer mode with 5,000 permits released. -/
def wCamp (m : PacerMode) : State :=
  let p := { wPitch false with origin := [0, 0, 0, 0, 0], extent := [2, 1, 1, 1, 1], roles := 1 :: List.replicate 9 0 }
  { wLink wUp with pitch := some p, pacer := { State.reset.pacer with mode := m, n := 1311, released := 5000 } }

theorem w_heardCamp (m : PacerMode) (tarp : Tarp) (type : Nat) (pl : BitVec 40)
    (h : (if type = 3 ∨ type = 4 then wUp.mode ≠ .off ∧ wUp.mode ≠ .down else wUp.live = true) ∧
      fieldN (symbolWord wUp type 0 0 pl).toNat 58 6 = type ∧
      symbolCheck (symbolEpoch wUp type) ((symbolWord wUp type 0 0 pl).toNat / 2 ^ 12) = (symbolWord wUp type 0 0 pl).toNat % 2 ^ 12 ∧
      pl = BitVec.ofNat 40 ((symbolWord wUp type 0 0 pl).toNat / 2 ^ 12)) :
    heardCamp { wCamp m with tarp := tarp } 0 type (symbolWord wUp type 0 0 pl) pl :=
  ⟨w_heard _ _ _ _ rfl rfl h, by
    have : campPort (wCamp .run) 0 = true := by decide +kernel
    exact this⟩

theorem test_hyp_TarpHolds : let pl := holdPayload 1 4999; let far := holdPayload 1 2; let h : Hold := { origin := 1, a := 4999, own := false, causes := [] }
    let rel := releasePayload 1 4999 7
    heardCamp (wCamp .run) 0 8 (symbolWord wUp 8 0 0 pl) pl ∧ running (wCamp .run) = true ∧ (wCamp .run).tarp.holds = [] ∧
    recover (fieldN pl.toNat 0 25) 25 (wCamp .run).pacer.released = 4999 ∧
    (wCamp .run).pacer.released - 1 ≤ 4999 + getField (wCamp .run) Reg.TARP_H 0 15 ∧
    heardCamp (wCamp .run) 0 8 (symbolWord wUp 8 0 0 far) far ∧
    recover (fieldN far.toNat 0 25) 25 (wCamp .run).pacer.released + getField (wCamp .run) Reg.TARP_H 0 15 < (wCamp .run).pacer.released - 1 ∧
    unstruck (wCamp .run) ∧
    heardCamp { wCamp .held with tarp := { State.reset.tarp with holds := [h] } } 0 9 (symbolWord wUp 9 0 0 rel) rel ∧
    ([h].find? (fun h => h.origin == fieldN rel.toNat 25 15 && h.a % 256 == fieldN rel.toNat 17 8 && !h.own) = some h) := by
  refine ⟨w_heardCamp .run State.reset.tarp _ _ (by decide +kernel), by decide, by decide, by decide +kernel, by decide +kernel,
    w_heardCamp .run State.reset.tarp _ _ (by decide +kernel), by decide +kernel, ⟨by decide, by decide +kernel⟩,
    w_heardCamp .held _ _ _ (by decide +kernel), by decide +kernel⟩

theorem test_hyp_TarpResume : let s := { wCamp .held with tarp := { State.reset.tarp with resume := some (0, 0, 0), x := 99 } }
    let t := { wCamp .held with tarp := { State.reset.tarp with resume := some (0, 0, 2 ^ 40), x := 99 } }
    let own : Hold := { origin := 0, a := 9, own := true, causes := [.lag] }
    s.pacer.mode = .held ∧ s.tarp.holds = [] ∧ (0 : Int) < resumeTime 0 0 (max 1 s.pacer.n) (s.tarp.x + 1) ∧ 0 ≤ nowTicks s ∧
    s.pacer.stopAt = none ∧ resumeTime 0 0 (max 1 t.pacer.n) (t.tarp.x + 1) ≤ (2 ^ 40 : Int) ∧ t.tarp.struck = false ∧
    own.own = true ∧ s.tarp.repeatAt ≤ nowTicks s ∧ nowTicks s < 1 := by decide +kernel

theorem test_hyp_TarpSymbols : let bnd := BitVec.ofNat 40 (5 * 2 ^ 32 + 77); let str := fmPayload 2 (0x2601 * 2 ^ 16 + 1); let stop := fmPayload 1 9
    let strict := { wPitch false with strict := true, origin := [0, 0, 0, 0, 0], extent := [2, 1, 1, 1, 1], roles := 1 :: List.replicate 9 0 }
    let s := { wCamp .run with pitch := some strict }
    (heard s 0 11 (symbolWord wUp 11 0 0 bnd) bnd ∧ campPort s 0 = true ∧ strictOn s = true ∧ role1 s 0 = true ∧
      ([(5, (77 : W32), (0 : BitVec 10))].find? (fun e => e.1 % 256 == fieldN bnd.toNat 32 8) = some (5, 77, 0)) ∧ s.tarp.own = []) ∧
    (heardCamp (wCamp .run) 0 16 (symbolWord wUp 16 0 0 str) str ∧ fieldN str.toNat 32 8 = 2 ∧
      ∀ r : Fin 32, (wCamp .run).regions[r].completed = (wCamp .run).regions[r].begun) ∧
    heardCamp { wCamp .armed with tarp := { State.reset.tarp with struck := true } } 0 16 (symbolWord wUp 16 0 0 str) str ∧
    (heardCamp (wCamp .run) 0 16 (symbolWord wUp 16 0 0 stop) stop ∧ fieldN stop.toNat 32 8 = 1 ∧ (wCamp .run).tarp.stopSeen = none ∧
      (wCamp .run).tarp.lastRest = none ∧ recover (fieldN stop.toNat 0 32) 32 (getReg (wCamp .run) Reg.TR_BND).toNat ≤ 9) ∧
    (wCamp .run).pitch.isSome = true ∧ running (wCamp .run) = true := by
  refine ⟨⟨w_heard _ _ _ _ rfl rfl (by decide +kernel), by decide +kernel, by decide +kernel, by decide +kernel, by decide +kernel, by decide⟩,
    ⟨w_heardCamp .run State.reset.tarp _ _ (by decide +kernel), by decide +kernel⟩, w_heardCamp .armed _ _ _ (by decide +kernel),
    ⟨w_heardCamp .run State.reset.tarp _ _ (by decide +kernel), by decide +kernel, by decide, by decide, by decide +kernel⟩, by decide, by decide⟩

theorem test_hyp_TarpSymbols_down : let g := { wUp with mode := .down, badSince := some 0 }
    let s := { wCamp .run with ports := State.reset.ports.set 0 g, time := 2 ^ 60 }; let t := setField s Reg.TARP_DOWN_LIM 0 32 1
    t.ports[0].badSince = some 0 ∧ running t = true ∧ role1 t 0 = true ∧ getField t Reg.TARP_DOWN_LIM 0 32 ≠ 0 ∧
    0 + getField t Reg.TARP_DOWN_LIM 0 32 * 256 ≤ t.time ∧ t.tarp.struck = false ∧ getReg t Reg.TR_FAULT = 0 := by decide +kernel

theorem test_hyp_MessagesMove : let m (d : Nat) : Message := { packs := [leBytes 16 (d * 2 ^ 113)], complete := true, esc := false, since := 0, counted := 0 }
    let s (d : Nat) : State := { wLink { wUp with channels := wUp.channels.set 2 (wChan 8 [] [m d]) } with time := 2 ^ 60 }
    let go := packCoord [1, 0, 0, 0, 0]
    (s go).ports[0].channels[2].rx = [m go] ∧ (m go).complete = true ∧
    (routePort (selfCoord (s go)) (coordOf ((m go).field 113 15)) false).isSome = true ∧ (m go).field 89 6 < 62 ∧
    routePort (selfCoord (s 0)) (coordOf ((m 0).field 113 15)) false = none ∧ (s 0).sinks = [] ∧ (m go).since = 0 ∧ (m go).esc = false ∧
    0 + nsTime (getField (s go) Reg.GL_ESC_TMO 0 32) ≤ (s go).time := by decide +kernel

theorem test_hyp_MessagesMove_sink : let m : Message := { packs := [], complete := true, esc := false, since := 0, counted := 0 }
    let s := wLink { wUp with channels := wUp.channels.set 2 (wChan 8 [] [m]) }
    (s.ports[0].channels[2].rx = [m] ∧ routePort (selfCoord s) (coordOf (m.field 113 15)) m.esc = none ∧ s.sinks = []) ∧
    m.packs.length ≤ Config.sinkPacks := ⟨by decide +kernel, Nat.zero_le _⟩

/-- Region 0 in beat 1,000, bank 0 of track 0 as given, under a Pitch that gives HBM to Trails. -/
def wBank (q : Bank) : State :=
  let b : Bound := { kind := 1, r := true, w := true, hport := 0, base := 0, limit := 2 ^ 40 }
  { wReg { Region.reset with begun := 1001, completed := 1000, banks := storePut [] 0 q } with
    pitch := some { wPitch false with bounds := List.replicate 32 [b], enable := List.replicate 32 (BitVec.allOnes 24) } }

/-- A bank with row 3 open since beat 0. -/
def wOpened : Bank := { Bank.idle with row := some 3, actAt := 0 }

theorem wBank_clean (q : Bank) (c : Instr) (k line : Nat) : readsClean (wBank q) 0 1000 c k line := by
  refine ⟨fun u h => ?_, ?_, fun _ _ h => ?_⟩
  · cases h
  · rfl
  · cases h

theorem wBank_room (q : Bank) (b : Nat) : roomTo (wBank q) 0 b := ⟨rfl, fun _ h => by cases h⟩

theorem test_hyp_TrackCommands_tact : let s := wBank Bank.idle; let g := s.regions[0]; let q := bankOf g 0 0
    beatOpen s 0 1000 ∧ actionCause (.tact 0 0 0 65535 true 7) = none ∧ q.mode 1000 (tkRp s 0) = .closed ∧ trackFree g 0 1000 ∧
    q.refAt ≤ 1000 ∧ (trackOf g 0).acts = [] ∧
    (bankOf (wBank wOpened).regions[0] 0 0).mode 1000 (tkRp (wBank wOpened) 0) = .opened 3 ∧ unstruck (wBank wOpened) := by
  simp only [beatOpen, trackFree, unstruck]
  decide +kernel

theorem test_hyp_TrackCommands_tpre : let s := wBank wOpened; let g := s.regions[0]
    beatOpen s 0 1000 ∧ actionCause (.tpre 0 0 0 true) = none ∧ trackFree g 0 1000 ∧
    ((bankOf g 0 0).actAt + tkRas s 0 ≤ 1000 ∧ (bankOf g 0 0).wrEnd ≤ 1000) ∧
    ∀ k : Fin 16, k.val ≠ 0 → (bankOf g 0 k.val).mode 1000 (tkRp s 0) = .closed := by
  simp only [beatOpen, trackFree]
  decide +kernel

theorem test_hyp_TrackCommands_columns : let s := wBank wOpened
    (beatOpen s 0 1000 ∧ actionCause (.trd 0 0 0 7 8 0 8183 true) = none ∧ actionCause (.twr 0 0 0 7 8 0 8183 true) = none ∧
      columnReady s 0 1000 0 0 3 false ∧ columnReady s 0 1000 0 0 3 true ∧ (8183 : BitVec 13).toNat + 9 ≤ 8192 ∧ s.flaws = [] ∧
      s.far.weights.pages = []) ∧
    (∀ i : Fin 9, ∀ w : Bool, inBounds s 0 1 w 0 (hbmAddr 0 0 3 0 (7 + i.val)) 128 = true) ∧
    roomTo s 0 (1000 + tkRdl s 0 + busBeats s 9 + 12) ∧ readsClean s 0 1000 (.twr 0 0 0 7 8 0 8183 true) 0 8183 := by
  refine ⟨?_, by decide +kernel, wBank_room _ _, wBank_clean _ _ _ _⟩
  simp only [beatOpen, columnReady, trackFree]
  decide +kernel

theorem test_hyp_SlotsAndIndices : let s := wBank Bank.idle; let u := wBank wOpened
    (beatOpen s 0 1000 ∧ actionCause (.tslotRefresh 0 (BitVec.allOnes 24) 7) = none ∧ actionCause (.tslotFar 0 (BitVec.allOnes 24) 255) = none ∧
      (∀ p ∈ s.pitch, maskEnabled p 0 (BitVec.allOnes 24) = true) ∧
      ∀ k : Fin 24, trackFree s.regions[0] k.val 1000 ∧ (trackOf s.regions[0] k.val).busFree ≤ 1000 ∧
        ∀ j : Fin 16, (bankOf s.regions[0] k.val j.val).mode 1000 (tkRp s 0) = .closed) ∧
    (actionCause (.tidxColumn 0 0 0 3 5 2 4 8188) = none ∧ columnReady u 0 1002 0 0 3 false ∧ (8188 : BitVec 13).toNat + 2 ^ 2 ≤ 8192 ∧
      actionCause (.tidxLoadIndex 0 7 3 5 31 128 100) = none) ∧
    readsClean u 0 1000 (.tidxColumn 0 0 0 3 5 2 4 8188) 3 5 ∧ roomTo u 0 1002 ∧
    readsClean u 0 1000 (.tidxLoadIndex 0 7 3 5 31 128 100) 3 5 ∧ roomTo u 0 1003 := by
  refine ⟨?_, ?_, wBank_clean _ _ _ _, wBank_room _ _, wBank_clean _ _ _ _, wBank_room _ _⟩
  · simp only [beatOpen, trackFree]
    decide +kernel
  · simp only [columnReady, trackFree]
    decide +kernel

theorem test_hyp_TracksInTime_refresh : let s (m : PacerMode) : State := { wBank wOpened with time := 2 ^ 40, pacer := { State.reset.pacer with mode := m } }
    (s .run).pacer.mode = .run ∧ refreshInterval (trackOf (s .run).regions[0] 0) ≤ (s .run).time - (bankOf (s .run).regions[0] 0 0).refreshed ∧
    strictOn (s .run) = false ∧ (s .held).pacer.mode = .held ∧ (s .off).pacer.mode = .off ∧
    refreshInterval (trackOf (s .held).regions[0] 0) ≤ (s .held).time - (bankOf (s .held).regions[0] 0 0).refreshed ∧
    (let t : State := { s .run with pitch := some { wPitch false with strict := true } }; strictOn t = true ∧ unstruck t) := by
  simp only [unstruck]
  decide +kernel

theorem test_hyp_TracksInTime_far : let k : Track := { Track.idle with saved := [(0, wOpened)] }
    let g := { Region.reset with tracks := storePut [] 0 k }; let s := wReg g
    let t : State := { wReg { g with held := 1 <<< 60 } with pacer := { State.reset.pacer with mode := .held }
                                                             far := { Far.reset with waits := [{ track := 0, id := 0 }] } }
    (trackOf s.regions[0] 0).saved = [(0, wOpened)] ∧ trackServes t 0 0 = true ∧ t.far.waits = [{ track := 0, id := 0 }] ∧
    (∀ p : Fin 2, t.hosts[p].posted = [] ∧ t.hosts[p].reads = []) ∧ awake t = true ∧ getField t Reg.FW_STAT 28 2 = 0 ∧
    bankMode (wBank wOpened) 0 0 0 = .opened 3 ∧ t.regions[0].asleep.getLsbD 60 = false ∧ s.pacer.mode = .off ∧ t.regions[0].held.getLsbD 60 = true ∧
    t.regions[0].acked.getLsbD 63 = false ∧ t.regions[0].guard ≤ t.time ∧ t.regions[0].rowWait = false ∧ t.regions[0].waits = [] ∧
    unstruck t ∧ ready wOn = true ∧
    (let u : State := { s with trail := { State.reset.trail with pegArm := some 512 } }; armedCount u = some 512 ∧ 512 ≤ nowTicks u + 512) := by
  simp only [unstruck]
  decide +kernel

/-- A reference frame of count `c`. -/
def wFrame (c : Nat) : List Byte :=
  let b := leBytes 8 c ++ List.replicate 5 0 ++ [1, 0]
  b ++ leBytes 4 (crc32c b)

/-- A Compass in a state with a count. -/
def wCompass (st c : Nat) : State :=
  let s := setField (setCompassState State.reset st) Reg.CMP_CTL 1 1 0
  { s with compass := { Compass.reset with valid := true, count := BitVec.ofNat 64 c, good := 1, first := some 70000 } }

theorem test_hyp_CompassMoves_frames : getField (wCompass 1 0) Reg.CMP_CTL 1 1 = 0 ∧ frameBad [] 0 = true ∧ frameBad (wFrame 135536) 1 = true ∧
    frameBad (wFrame 135536) 0 = false ∧ leField (wFrame 135536) 0 8 = 135536 ∧ compassState (wCompass 1 0) = 1 ∧
    (wCompass 1 0).compass.first = some (135536 - 65536) ∧ compassState (wCompass 2 0) = 2 ∧ compassState (wCompass 3 0) = 3 ∧
    1 ≤ (wCompass 3 0).compass.good ∧ pacing (wCompass 3 0) = false ∧ nowUnits (wCompass 3 0) ≤ 135536 * 256 ∧
    (setCompassState State.reset 1).compass.valid = false ∧ compassState (setCompassState State.reset 1) = 1 ∧
    pacing (setCompassState State.reset 1) = false ∧ pacing { setCompassState State.reset 1 with pacer := (wJob .run).pacer } = true := by
  decide +kernel

theorem test_hyp_CompassMoves_lock : let s := setField State.reset Reg.CMP_CTL 0 1 1; let h := setField (wCompass 3 0) Reg.CMP_SKEW_LIM 0 10 0
    let f : State := { h with trail := { State.reset.trail with mode := .running } }
    (compassState s = 0 ∧ getField s Reg.CMP_CTL 0 1 = 1) ∧ (f.trail.mode = .running ∧ getField f Reg.CMP_SKEW_LIM 0 10 < holdError f ∧ unstruck f) ∧
    State.reset.compass.diff = 0 ∧ getField (setField s Reg.CMP_CTL 2 1 1) Reg.CMP_CTL 2 1 = 1 ∧ 3 < State.reset.compass.cycles.length ∧
    (let u : State := { State.reset with trail := { State.reset.trail with launchArm := some 5 } };
      earliest (wakeCounts u) = some 5 ∧ 5 ≤ nowTicks u + getField u Reg.CMP_WAKE_LEAD 0 24 ∧ u.compass.wokeFor ≠ some 5) ∧
    State.reset.compass.capture = [] := by
  simp only [unstruck]
  decide +kernel

/-- Zipper on at port 0, of windows or of boundaries. -/
def wZip (scope : Nat) (s : State) : State := setField s Reg.ZP_CTL 30 2 scope

theorem test_hyp_ZipperCompares_window : let s := wZip 2 { w0 with regions := State.reset.regions.set 0 { Region.reset with begun := 64, completed := 64 } }
    zipWindows s = true ∧ boundaryOpen s s.regions[0] = false ∧ 64 * (storeGet 0 s.zipper.done 0 + 1) ≤ s.regions[0].completed ∧
    0 < s.zipper.crcs.length ∧ s.zipper.peer = [] := by decide +kernel

theorem test_hyp_ZipperCompares_boundary : let n : NextSeg := { beat := 7, seg := 0, gear := 0, bnd := 0, index := 0, kind := 0, stop := false }
    let s := wZip 3 { wReg { Region.reset with begun := 10, completed := 10, bndBeat := some 7 } with
      trail := { State.reset.trail with nexts := [n] } }
    zipBoundaries s = true ∧ boundaryTaken s s.regions[0] = some n ∧ n.beat + 2 < s.regions[0].begun ∧ s.regions[0].begun ≤ n.beat + 128 ∧
    storeGet 0 s.zipper.done 0 ≤ n.bnd ∧ s.regions[0].windows = [] ∧ s.zipper.peer = [] := by decide +kernel

theorem test_hyp_ZipperCompares_symbol : let pl := BitVec.ofNat 40 77; let e : WinDigest := { region := 0, window := 0, digest := 77 }
    let s := setField (wZip 2 (wCamp .run)) Reg.ZP_CTL 31 1 1; let t (d : Nat) : State := { s with zipper := { s.zipper with own := [{ e with digest := d }] } }
    heard s 0 12 (symbolWord wUp 12 0 0 pl) pl ∧ zipAllowed s 0 = true ∧ getField s Reg.ZP_CTL 31 1 = 1 ∧ (0 : Fin 10) = zipPort s ∧
    recover (fieldN pl.toNat 24 11) 11 (s.regions[regionFin (fieldN pl.toNat 35 5)].completed / 64) = 0 ∧ s.zipper.own = [] ∧
    s.zipper.peer = [] ∧ (t 77).zipper.own.find? (fun e => e.region == 0 && e.window == 0) = some e ∧
    (t 78).zipper.own.find? (fun e => e.region == 0 && e.window == 0) = some { e with digest := 78 } ∧
    getField (t 78) Reg.ZP_STAT 30 2 ≠ 2 ∧ getField (t 78) Reg.ZP_CTL 29 1 = 0 := by
  refine ⟨w_heard _ _ _ _ rfl rfl (by decide +kernel), by decide +kernel⟩

theorem w_weightAddr (s : State) (k : Nat) (hk : k < 768) (hp : getField s (Reg.HUB_MAP (k / 24)) (16 + k % 24) 1 = 0)
    (hr : getField s Reg.HST_WLOAD 0 16 < 65536) : (weightAddr s (presentTracks s) 0).isSome = true := by
  have h : k ∈ presentTracks s := List.mem_filter.mpr ⟨List.mem_range.mpr hk, decide_eq_true hp⟩
  have h0 : ¬(presentTracks s).length = 0 := fun e => by rw [List.length_eq_zero_iff.mp e] at h; cases h
  simp [weightAddr, h0, hr]

theorem test_hyp_WeightsAndGears : let s := setField wOn Reg.CR_WSTAT 30 1 1
    let full : State := { State.reset with gearScript := List.replicate 1024 (0, 0), gearLog := [(0, 5)] }
    (full.gearLog = [(0, 5)] ∧ State.reset.gearLog = [] ∧ State.reset.gearScript.length < 1024 ∧ 1024 ≤ full.gearScript.length ∧
      pacing State.reset = false ∧ pacing (wJob .run) = true ∧ weightOpen s = true ∧ ready s = true ∧ weightSource s 0 = true ∧
      (s.hosts[0].posted = [] ∧ s.hosts[0].reads = [] ∧ awake s = true ∧ getField s Reg.FW_STAT 28 2 ≤ 2) ∧ getField s Reg.HST_WPAGE 0 5 * 2 ^ 36 + (0 : BitVec 36).toNat + [(7 : Byte)].length - 1 = 0) ∧
    (weightAddr s (presentTracks s) 0).isSome = true := by
  refine ⟨by decide +kernel, w_weightAddr _ 0 (by decide) (by decide +kernel) (by decide +kernel)⟩

theorem test_hyp_VestibuleMoves : let s := wOn; let b := setField (setReg wOn Reg.BR_SIZE (BitVec.ofNat 64 (2 ^ 20))) (Reg.HST_VEST 0) 63 1 1
    let r : VestRead := { id := 0, req := 0, barrel := false, priv := 0, addr := 0, len := 8, since := 0 }
    let t : State := { wOn with hosts := wOn.hosts.set 0 { wOn.hosts[0] with reads := [r] }, time := 2 ^ 60 }
    (ready s = true ∧ weightSource s 0 = false ∧ [(7 : Byte)].length ≤ toGib (BitVec.ofNat 36 (2 ^ 30 - 1)).toNat ∧ postedWrites s.hosts[0] < 256 ∧
      vestFits s 0 (vestAddr s 0 (2 ^ 30 - 1)) 1 = true ∧ vestBarrel s 0 = false ∧ getField s Reg.FW_STAT 28 2 ≤ 2) ∧
    (ready b = true ∧ weightSource b 0 = false ∧ vestBarrel b 0 = true ∧ vestFits b 0 (vestAddr b 0 0) 4096 = true ∧
      getField b Reg.FW_STAT 28 2 ≤ 1 ∧ awake b = true ∧ b.flaws = [] ∧ b.far.waits = [] ∧ b.hosts[0].posted = [] ∧
      b.hosts[0].reads = [] ∧ 4096 ≤ toGib (BitVec.ofNat 36 0).toNat) ∧
    s.hosts[0].posted = [] ∧ s.hosts[0].reads = [] ∧ t.hosts[0].reads = [r] ∧
    r.since + getField t (Reg.HST_VEST_TMO 0) 0 32 * 40000 ≤ t.time := by decide +kernel

theorem test_hyp_PegWindow : let s : State := { wOn with pitch := some (wPitch true), pacer := { wOn.pacer with mode := .run } }
    ready s = true ∧ s.hosts[0].posted = [] ∧ s.hosts[0].reads = [] ∧ pegHostw s 0 0 = true ∧ s.pacer.mode = .run ∧
    s.regions[0].waits = [] ∧ s.tarp.struck = false ∧ (0 : BitVec 17).toNat / 8 = 0 ∧ (4 : BitVec 17).toNat / 8 = 0 ∧ (4 : BitVec 17).toNat % 8 = 4 ∧
    pegHostw s 0 1 = false ∧ pegAligned 8 .b8 = true ∧ pegAligned 4 .b8 = false := by decide +kernel

/-- An emergency hold raised in epoch 0. -/
def wEmergency (power : Bool) (want : Nat) : Emergency := { raised := some 0, power := power, want := want, atFloor := false, gated := false }

/-- Samples of an input far above its limit. -/
def wHot : Sensors := { input := List.replicate 66 (65535, 65535), junction := [459], die := [], hbm := [99], rail := [] }

theorem test_hyp_FirewatchRuns_epoch : tripAt wHot.junction (wHot.hbm.map (·.setWidth 8)) = false ∧ tripAt [460] [] = true ∧
    tripAt [] [100] = true ∧ tripAt [459] [99] = false ∧
    (let i := inputSum (wHot.input.drop (wHot.input.length - 10)); 34000000 * i.2 < i.1) ∧ (wJob .run).pitch.isSome = true ∧
    running (wJob .run) = true ∧ ready wOn = true ∧ (∀ v ∈ [(380 : BitVec 10)], v.toNat ≤ 380) ∧ (∀ v ∈ [(80 : BitVec 8)], v.toNat ≤ 80) ∧
    (∃ v ∈ [(381 : BitVec 10)], 380 < v.toNat) ∧ ∃ v ∈ [(81 : BitVec 8)], 80 < v.toNat := by decide +kernel

theorem test_hyp_FirewatchRuns_hold : let e := wEmergency true 1000; let s (m : PacerMode) (now : Nat) : State := { wJob m with
      firewatch := { State.reset.firewatch with ehold := some e }, time := now }
    let own : Hold := { origin := selfIndex (s .run 0), a := 0, own := true, causes := [.lag] }
    let u : State := { s .off 0 with tarp := { State.reset.tarp with holds := [own] }
                                     regions := Vector.replicate 32 { Region.reset with begun := 1, completed := 1 } }
    let hot := setField (s .run 0) Reg.FW_STAT 30 2 3
    let low : State := { setField (s .run 0) Reg.FW_EHOLD 0 16 0 with
      firewatch := { State.reset.firewatch with ehold := some (wEmergency true 1311) } }
    ((s .off 0).firewatch.ehold = some e ∧ e.raised = some 0 ∧ getField (s .off 0) Reg.FW_STAT 30 2 ≠ 3 ∧ running (s .off 0) = false ∧
      (s .off 0).tarp.holds = []) ∧ (u.tarp.holds = [own] ∧ allCompleted u 0 = true ∧ running u = false) ∧
    (getField low Reg.FW_STAT 30 2 ≠ 3 ∧ 0 + getField low Reg.FW_EHOLD 0 16 ≤ nowEpoch low ∧ low.pacer.n ≤ 1311) ∧ getField hot Reg.FW_STAT 30 2 = 3 ∧ hot.firewatch.ehold = some e ∧
    (running (s .run 0) = true ∧ nowEpoch (s .run 0) < 0 + getField (s .run 0) Reg.FW_EHOLD 0 16) ∧
    (e.power = true ∧ e.want < (s .run 0).pacer.n ∧ e.atFloor = false) := by decide +kernel

theorem test_hyp_FirewatchRuns_wake : let g : Region := { Region.reset with waking := [(1, 0)] }; let a : Region := { g with asleep := 2 }
    let d : Region := { Region.reset with idleOf := [(1, 2)] }; let up : State := { wReg { d with asleep := 2 } with pacer := (wJob .run).pacer }
    (g.waking.find? (fun e => e.1 == (1 : Fin 64).val) = some (1, 0) ∧ 0 ≤ (wReg g).time ∧ g.asleep.getLsbD 1 = false) ∧
    (a.waking.find? (fun e => e.1 == (1 : Fin 64).val) = some (1, 0) ∧ a.asleep.getLsbD 1 = true ∧ a.held.getLsbD 1 = false ∧
      a.acked.getLsbD 63 = false ∧ a.rowWait = false ∧ a.waits = []) ∧
    (storeGet 0 d.idleOf 1 = 2 ∧ d.waking.find? (fun e => e.1 == (1 : Fin 64).val) = none ∧ running (wReg d) = false ∧
      getField (wReg d) Reg.FW_STAT 28 2 = 0) ∧
    (running up = true ∧ ∃ i ∈ idleGroup 1 2, up.regions[(0 : Fin 32)].asleep.getLsbD i = true) ∧ pacing (wJob .run) = true ∧
    (let m := setField State.reset Reg.FW_MCFG 0 2 1; pacing m = false ∧ wakeCounts m = [] ∧ getField m Reg.FW_MCFG 0 2 = 1) := by
  decide +kernel

/-- A UFM message of a type in this module's sink. -/
def wUfm (type : Nat) (body : List Byte) : Nat × List (List Byte) := (2, [leBytes 16 (type * 2 ^ 69) ++ body])

theorem w_ufmHead (s : State) (type : Nat) (body : List Byte) (hs : s.sinks = [wUfm type body])
    (h : [wUfm type body].find? (fun e => e.1 == 2 && fieldN (leField e.2.flatten 0 16) 69 8 == type) = some (wUfm type body)) :
    ufmHead s type (wUfm type body) (coordOf (fieldN (leField (wUfm type body).2.flatten 0 16) 98 15))
      ((wUfm type body).2.flatten.drop 16) := ⟨by rw [hs]; exact h, rfl, rfl⟩

/-- A camp whose pace by design is 1,311. -/
def wPaced : State := setField (wCamp .run) Reg.PACE_DESIGN 0 14 1311

theorem test_hyp_PaceVotes : let ask := leBytes 2 1000 ++ leBytes 6 0 ++ leBytes 8 3; let low := leBytes 2 1310 ++ leBytes 2 0 ++ leBytes 4 1 ++ leBytes 8 4
    let ok := leBytes 2 1311 ++ leBytes 2 0 ++ leBytes 4 1 ++ leBytes 8 4; let ack := leBytes 4 1 ++ [0]
    let s (m : Nat × List (List Byte)) : State := { wPaced with sinks := [m], firewatch := { State.reset.firewatch with pend := some (1, 1311, 1) } }
    let src (m : Nat × List (List Byte)) : List Nat := coordOf (fieldN (leField m.2.flatten 0 16) 98 15)
    let body (m : Nat × List (List Byte)) : List Byte := m.2.flatten.drop 16
    let l : State := { wPaced with firewatch := { State.reset.firewatch with asks := [(1, (1000, 0, 0))] } }
    (ufmHead (s (wUfm 0x21 ask)) 0x21 (wUfm 0x21 ask) (src (wUfm 0x21 ask)) (body (wUfm 0x21 ask)) ∧
      ufmHead (s (wUfm 0x22 low)) 0x22 (wUfm 0x22 low) (src (wUfm 0x22 low)) (body (wUfm 0x22 low)) ∧
      ufmHead (s (wUfm 0x22 ok)) 0x22 (wUfm 0x22 ok) (src (wUfm 0x22 ok)) (body (wUfm 0x22 ok)) ∧
      ufmHead (s (wUfm 0x23 ack)) 0x23 (wUfm 0x23 ack) (src (wUfm 0x23 ack)) (body (wUfm 0x23 ack))) ∧
    wPaced.pitch.isSome = true ∧ isLookout wPaced = true ∧ (s (wUfm 0x22 ok)).firewatch.serSeen < leField ok 4 4 ∧
    1311 ≤ leField ok 0 2 ∧ leField ok 0 2 ≤ gradeMax wPaced ∧ leField ok 0 2 ≤ getField wPaced Reg.PACE_DESIGN 0 14 ∧
    nowEpoch wPaced + 4 ≤ leField ok 8 8 ∧ leField low 0 2 < 1311 ∧ unstruck wPaced ∧ leField ack 0 4 = 1 ∧ leField ack 4 1 = 0 ∧
    (l.firewatch.pend = none ∧ 1000 ≤ getField l Reg.PACE_DESIGN 0 14 ∧ (∀ i : Fin 2, 1000 ≤ knownWant l i.val) ∧ 1000 = knownWant l 1 ∧
      1000 ≠ l.pacer.n ∧ ∀ i : Fin 2, 1311 = knownWant wPaced i.val) ∧
    (nowEpoch (s (wUfm 0x21 ask)) < 1 ∧ (s (wUfm 0x21 ask)).firewatch.acks.length < 2 ∧
      1 ≤ nowEpoch (s (wUfm 0x21 ask)) + ceilDiv (getField (s (wUfm 0x21 ask)) Reg.FW_PACE_LEAD 0 8) 2) := by
  refine ⟨⟨w_ufmHead _ _ _ rfl (by decide +kernel), w_ufmHead _ _ _ rfl (by decide +kernel), w_ufmHead _ _ _ rfl (by decide +kernel),
    w_ufmHead _ _ _ rfl (by decide +kernel)⟩, ?_⟩
  simp only [unstruck]
  decide +kernel

theorem test_hyp_GearVotes : let g := { Region.reset with begun := 1, fetch := { Fetch.none with active := true } }
    let s : State := { wReg g with
      pitch := some (wPitch false), pacer := { State.reset.pacer with mode := .run, n := 1311, released := 1 }
      trail := { State.reset.trail with mode := .running, segs := storePut [] 0 { Segment.none with lens := [8193] } } }
    let pl := gearPayload 1 0 0 0
    (segmentNow s = (0, 0, 8192) ∧ running s = true ∧ s.regions[(0 : Fin 32)].fetch.active = true ∧ s.firewatch.voteCast = false ∧
      strictOn s = false ∧ holdsVote s 0 0 = true ∧ 8192 < s.regions[(0 : Fin 32)].begun + 8192 ∧ s.gearScript = []) ∧
    (heardCamp (wCamp .run) 0 10 (symbolWord wUp 10 0 0 pl) pl ∧ running (wCamp .run) = true ∧ strictOn (wCamp .run) = false ∧
      recover (fieldN pl.toNat 0 11) 11 (bndCount (wCamp .run)) = bndCount (wCamp .run) ∧ fieldN pl.toNat 11 12 = votingSeg (wCamp .run) ∧
      (wCamp .run).firewatch.votes = [] ∧ (wCamp .run).trail.crossroad = none) ∧
    (let t : State := { wCamp .run with firewatch := { State.reset.firewatch with voteWait := some 0 }, time := 2 ^ 60 };
      t.firewatch.voteWait = some 0 ∧ 0 + getField t Reg.FW_VOTE_TMO 0 32 * 256 ≤ t.time ∧ t.tarp.struck = false ∧ getReg t Reg.TR_FAULT = 0) := by
  refine ⟨by decide +kernel, ⟨w_heardCamp .run State.reset.tarp _ _ (by decide +kernel), by decide +kernel⟩, by decide +kernel⟩

theorem test_hyp_HostLinks : let up := setField (setField wOn (Reg.HST_LINK 0) 28 4 2) (Reg.HST_LINK 0) 18 1 1
    let h : HostPort := { wOn.hosts[0] with msix := true, pba := 1, table := storePut [] 3 0 }
    let s : State := { up with hosts := up.hosts.set 0 h }
    reached (setField wOn Reg.HUB_BOOT 28 4 6) 6 = true ∧ getField up (Reg.HST_LINK 0) 28 4 = 2 ∧ getField wOn (Reg.HST_LINK 0) 28 4 ≠ 2 ∧
    (∀ r : Fin 32, up.regions[r].waits = []) ∧ up.far.reqs = [] ∧ s.hosts[0].pba.getLsbD 0 = true ∧
    msixOpen s 0 .link 0 = true := by decide +kernel

theorem test_hyp_LeaseAndEthernet : let free := setField wOn Reg.HST_LEASE 30 2 0; let up := setField wOn (Reg.ETH_LINK 0) 28 4 1
    (ready free = true ∧ getField free Reg.HST_LEASE 30 2 = 0) ∧ (ready wOn = true ∧ getField wOn Reg.HST_LEASE 30 2 ≠ 0 ∧ isSteward wOn 0 = true ∧
      isSteward wOn 1 = false ∧ leaseEnd { wOn with time := 2 ^ 60 } ≤ 2 ^ 60 ∧ wOn.time < leaseEnd (setField wOn Reg.HST_LEASE_TERM 0 14 1)) ∧
    reached (setField wOn Reg.HUB_BOOT 28 4 7) 7 = true ∧ getField up (Reg.ETH_LINK 0) 28 4 ≠ 0 ∧ ptpMessage [] = none ∧ ([] : List Byte).length ≤ 9216 ∧
    (let f : List Byte := List.replicate 12 0 ++ [0x88, 0xF7, 0x10]; let u := setField up Reg.CMP_CTL 2 1 1;
      ptpMessage f = some [0x10] ∧ beField [(0x10 : Byte)] 0 1 % 16 = 0 ∧ getField u Reg.CMP_CTL 2 1 = 1 ∧
      getField u (Reg.ETH_LINK 0) 28 4 ≠ 0) := by decide +kernel

theorem test_hyp_WhistleDelivers : let cfg (v : Nat) := setReg wOn (Reg.WH_SRC_CFG 700) (BitVec.ofNat 64 v)
    let line : State := { cfg (2 ^ 28) with whistle := { Whistle.reset with pend := 1#1024 <<< 700 } }
    let msg := setField (setField { cfg (2 ^ 29) with whistle := { Whistle.reset with pend := 1#1024 <<< 700 } } (Reg.HST_LINK 0) 28 4 2) (Reg.HST_LINK 0) 18 1 1
    let t : State := { msg with hosts := msg.hosts.set 0 { msg.hosts[0] with msix := true, table := storePut [] 3 0 } }
    let r : State := { cfg (2 ^ 28) with whistle := { Whistle.reset with latched := 1#1024 <<< 700, retained := true } }
    let c : State := { setReg wOn (Reg.WH_SRC_CTIME 700) 1 with whistle := { Whistle.reset with timers := [(700, 0)] }, time := 256 }
    (fieldN (line.whistle.pend.toNat) 700 1 = 1 ∧ line.whistle.pend.getLsbD 700 = true ∧ line.whistle.insv.getLsbD 700 = false ∧
      line.whistle.retained = false ∧ fieldN (srcCfg line 700) 28 2 = 1) ∧
    (2 ≤ fieldN (srcCfg t 700) 28 2 ∧ msixBlocked t 0 (fieldN (srcCfg t 700) 16 11) = false ∧ t.whistle.pend.getLsbD 700 = true) ∧
    (r.whistle.retained = true ∧ r.whistle.latched.getLsbD 700 = true ∧ fieldN (srcCfg r 700) 28 2 ≠ 0) ∧
    (c.whistle.timers.find? (fun e => e.1 == 700) = some (700, 0) ∧ reservedSource 700 = false ∧ srcTime c 700 ≠ 0 ∧
      0 + srcTime c 700 * 256 ≤ c.time ∧ stateSource? c 700 = none) ∧
    fieldN ((0x100 : W32).toNat) 8 8 ≠ 0 ∧ fieldN ((0x100 : W32).toNat) 28 2 ≠ 1 ∧ fieldN ((0 : W32).toNat) 8 8 = 0 ∧
    fieldN ((0x10040000 : W32).toNat) 28 2 = 1 ∧ 3 < fieldN ((0x10040000 : W32).toNat) 16 11 := by decide +kernel

theorem test_hyp_WhistleDelivers_level : let s := setField State.reset (Reg.HST_LINK 0) 28 4 2
    let cfg (v : Nat) := setReg wOn (Reg.WH_SRC_CFG 700) (BitVec.ofNat 64 v)
    let b : State := { cfg (2 ^ 28) with whistle := { Whistle.reset with pend := 1#1024 <<< 700, insv := 1#1024 <<< 700 } }
    (stateSources s).any (fun e => e.2 && srcTime s e.1 == 0) = true ∧ s.whistle.retained = false ∧
    ((settleSources b).whistle.pend.getLsbD 700 = true ∧ b.whistle.insv.getLsbD 700 = true ∧ b.whistle.retained = false ∧
      (700 / 32 = (21 : Fin 32).val ∧ ((1#32 <<< 28).getLsbD (700 % 32)) = true) ∧ fieldN (srcCfg b 700) 28 2 = 1 ∧
      stateSource? b 700 = none) := by decide +kernel

/-- A tagged row of region 0. -/
def wTag : TagRow :=
  { region := 0, beat := 0, last := 0, seg := 0, gear := 0, row := 0, issued := 0, fetched := 0, held := false, lag := false, wake := false,
    guard := false, ended := some 7 }

theorem test_hyp_LanternCounts : let k := wTag
    let n : Lantern := { Lantern.reset with tagged := [k], arm := some (7, true), snapped := BitVec.allOnes 32 }
    let s : State := { wReg { Region.reset with begun := 1, completed := 1 } with lantern := n, compass := { Compass.reset with count := 2 ^ 40 } }
    let m := setField s Reg.LN_BW_WIN 0 24 1
    (0x8000000000000000#64).getLsbD 63 = true ∧ pacing State.reset = false ∧ pacing (wJob .run) = true ∧ (7#64).getLsbD 63 = false ∧
    (formHalf (wJob .armed) .ranger Reg.LN_FREEZE (.whole 7)).1 = 7 ∧ (wJob .armed).pacer.mode = .armed ∧ (wJob .run).pacer.mode ≠ .armed ∧
    fieldN (7 : Nat) 0 48 < (wJob .run).pacer.released + 256 ∧ s.lantern.arm = some (7, true) ∧ s.lantern.snapped = BitVec.allOnes 32 ∧
    m.lantern.bwWin < nowTicks m / max 1 (getField m Reg.LN_BW_WIN 0 24) * max 1 (getField m Reg.LN_BW_WIN 0 24) ∧
    nextRecord s = some k ∧ k.region = 0 ∧
    getField s Reg.LN_TRACE_STAT 31 1 = 0 ∧ getField s Reg.LN_TRACE_STAT 16 11 < 2047 ∧
    getField (setField s Reg.LN_TRACE_STAT 31 1 1) Reg.LN_TRACE_STAT 31 1 = 1 := by decide +kernel

/-- The command register's argument 0 set. -/
def wArg (a : Nat) : State := setReg wOn (Reg.FC_ARG 0) (BitVec.ofNat 64 a)

theorem test_hyp_FirmwareAnswers : let busy := setField wOn Reg.FC_STAT 31 1 1; let pit : State := { wOn with pitch := some (wPitch false) }
    let x : SelfTest := { ticket := 5, kind := 1, timeout := 0, since := 0, running := false, began := 0, measured := false
                          forced := false }
    let cmd := Instr.coord 0 1
    (fcCommand cmd = some (0, 1, 0x03, true) ∧ powered State.reset = false ∧ powered busy = true ∧ fcBusy busy = true ∧
      (let e := setField wOn Reg.HUB_BOOT 22 2 0; powered e = true ∧ fcBusy e = false ∧ ready e = false ∧ fcEarly e 0x03 = false)) ∧
    (fcBusy wOn = false ∧ ready wOn = true ∧ isSteward wOn 1 = false) ∧
    (∀ op : Fin 32, ∀ c : Bool, fcAccepts wOn 0 op.val c) ∧ wOn.pitch = none ∧ pit.pitch.isSome = true ∧ fcArg (wArg 1) 0 = 1 ∧
    fcArg (wArg 2) 0 = 2 ∧ fcArg (wArg 10000) 0 = 10000 ∧ fcArg (wArg 10001) 0 = 10001 ∧ fcAccepts (wArg 10001) 0 0x08 true ∧
    keyOk (setField wOn Reg.SEC_STAT 30 1 1) = true ∧ keyOk (setField wOn Reg.SEC_STAT 30 1 0) = false ∧
    (let s : State := { wArg 5 with startup := { wOn.startup with test := some x } }; s.startup.test = some x ∧ x.ticket = fcArg s 0) ∧
    (let s : State := { wArg 5 with startup := { wOn.startup with results := [(5, 3, 0)] } };
      s.startup.results.find? (fun e => e.1 == fcArg s 0) = some (5, 3, 0)) := by
  simp only [fcAccepts]
  decide +kernel

theorem test_hyp_FirmwareTransfers : let far := setReg wOn (Reg.FC_ARG 1) (BitVec.ofNat 64 (768 * 2 ^ 31 + 1))
    let run (op a : Nat) : FcRun := { op := op, id := 0, port := 0, seq := 0, args := [BitVec.ofNat 64 a, 8], data := [] }
    let s (op a : Nat) : State := { wOn with firmware := { wOn.firmware with run := some (run op a) } }
    let w : State := { s 6 0 with far := { Far.reset with waits := [{ track := 0, id := 0 }] } }
    pacing wOn = false ∧ pacing { wOn with pitch := some (wPitch true), pacer := (wJob .run).pacer } = true ∧ fcAccepts wOn 0 0x06 true ∧
    netRange (fcArg wOn 0) (fcArg wOn 1) = (false, 0, 0) ∧ fcAccepts far 0 0x06 true ∧
    (netRange (fcArg far 0) (fcArg far 1)).2.2 = 768 * 2 ^ 31 + 1 ∧ (s 6 0).firmware.run = some (run 6 0) ∧
    netRange ((run 6 0).args.getD 0 0).toNat ((run 6 0).args.getD 1 0).toNat = (false, 0, 8) ∧
    netRange ((run 7 (2 ^ 63)).args.getD 0 0).toNat ((run 7 (2 ^ 63)).args.getD 1 0).toNat = (true, 0, 8) ∧
    tracksDone (s 6 0) 0 = true ∧ tracksDone w 0 = false ∧ (s 6 0).flaws = [] := by
  simp only [fcAccepts]
  decide +kernel

/-- A pending self-test of a kind. -/
def wTest (kind : Nat) (running measured : Bool) : SelfTest :=
  { ticket := 5, kind := kind, timeout := 1, since := 0, running := running, began := 0, measured := measured, forced := false }

/-- A ready module with a self-test. -/
def wTested (x : SelfTest) : State := { wOn with startup := { wOn.startup with test := some x } }

theorem test_hyp_FirmwareUpdates : let staged := setField (wArg 1) Reg.SEC_STAT 26 1 1; let old : State := { wOn with flash := { wOn.flash with fused := 2 ^ 16 } }
    let sent : State := { wOn with firmware := { wOn.firmware with tlm := some (1, [], 10) } }
    fcAccepts wOn 0 0x13 true ∧ ready (wArg 1) = true ∧ fcArg (wArg 1) 0 = 1 ∧ fcArg (setReg wOn (Reg.FC_ARG 1) 4097) 1 = 4097 ∧
    fcArg (setReg wOn (Reg.FC_ARG 2) 1) 2 % 2 = 1 ∧ (∀ img, imageOk old img = false) ∧
    getField (setField wOn Reg.SEC_STAT 26 1 0) Reg.SEC_STAT 26 1 = 0 ∧ getField staged Reg.SEC_STAT 26 1 = 1 ∧ fcArg staged 1 % 2 = 0 ∧
    fcArg (setReg staged (Reg.FC_ARG 1) 1) 1 % 2 = 1 ∧ pacing staged = false ∧ ready staged = true ∧ fcAccepts staged 0 0x14 true ∧
    (wTested (wTest 1 false false)).startup.test.isSome = true ∧ wOn.startup.test = none ∧ wOn.pacer.mode = .off ∧
    pacing { wOn with pitch := some (wPitch true), pacer := (wJob .run).pacer } = true ∧ (wTest 1 false false).running = false ∧
    sent.firmware.tlm = some (1, [], 10) ∧ sent.time < 10 ∧ getField (setField wOn (Reg.ETH_LINK 0) 28 4 1) (Reg.ETH_LINK 0) 28 4 = 1 ∧
    10 + msTime 1 ≤ { sent with time := 2 ^ 60 }.time ∧ getField sent (Reg.ETH_LINK 0) 28 4 ≠ 1 := by
  have h : ∀ img, imageOk { wOn with flash := { wOn.flash with fused := 2 ^ 16 } } img = false := fun img => by
    have : ¬2 ^ 16 ≤ (Config.imageSvn img).toNat := Nat.not_le.mpr (Config.imageSvn img).isLt
    simp only [imageOk, decide_eq_false this, Bool.and_false]
  simp only [fcAccepts, h, implies_true, true_and]
  decide +kernel

theorem test_hyp_PowerAndPairs : let off (k : PowerState) : State := { wOn with startup := { wOn.startup with power := k } }
    let one := setField (setField (setField wOn Reg.PE_STAT 28 1 1) Reg.PE_STAT 29 1 0) Reg.PE_STAT 30 2 0
    let two := setField one Reg.PE_STAT 29 1 1; let good : Pair := { volt := 5000, amp := 0 }; let bad : Pair := { volt := 4000, amp := 0 }
    let late : State := { one with time := msTime 1000 }; let under := setField (off .input) Reg.PE_LAST 48 16 0x3F04
    let above := setField (off .input) Reg.PE_LAST 48 16 0x3F05
    (one.startup.pairsFrom + msTime 1000 ≤ late.time ∧ one.time < one.startup.pairsFrom + msTime 1 ∧
      getField under Reg.PE_LAST 48 16 = 0x3F04 ∧ getField above Reg.PE_LAST 48 16 = 0x3F05 ∧ under.startup.power = .input ∧
      (classify [good, bad])[(1 : Fin 4).val]? = some false ∧ (classify [good, bad])[(0 : Fin 4).val]? = some true) ∧
    powered State.reset = false ∧ powered wOn = true ∧ (goodPairs one).length < 2 ∧ 2 ≤ (goodPairs two).length ∧
    (off .input).startup.power = .input ∧ (off .pairs).startup.power = .pairs ∧ ready wOn = true ∧ 0x3000 + (0x007 : BitVec 12).toNat ∈ resetCodes ∧
    (0x007 : BitVec 12).toNat / 256 ≠ 15 ∧ 0x3000 + (0x001 : BitVec 12).toNat ∉ resetCodes ∧ getField one Reg.PE_STAT (28 + 0) 1 = 1 ∧
    getField one Reg.PE_STAT (28 + 3) 1 = 0 := by decide +kernel

theorem test_hyp_LampsAndFibres : let lamps := setField (setField wOn (Reg.LAMP_STAT 0) 30 2 3) (Reg.LAMP_STAT 1) 30 2 3
    let ramp : State := { wOn with startup := { wOn.startup with ramps := [(0, 0)] }, time := 2 ^ 60 }; let opened := setField lamps Reg.LAMP_OPEN 0 1 1
    let lit := [0, 2, 4, 6].foldl (fun s l => setField s (Reg.LAMP_STAT l) 30 2 3) wOn
    lampGood lamps 0 = true ∧ lampGood lamps (partner 0) = true ∧ lampGood wOn 0 = false ∧ getField lamps (Reg.LAMP_STAT 0) 31 1 = 1 ∧
    getField wOn (Reg.LAMP_STAT 0) 31 1 = 0 ∧ ramp.startup.ramps.any (fun e => e.1 == 0 && decide (e.2 + msTime 2000 ≤ ramp.time)) = true ∧
    flyLit lit (pairFly 0) = true ∧ flyLit lit (pairFly 54) = true ∧ getField lit Reg.LAMP_OPEN 0 1 = 0 ∧ flyLit wOn (pairFly 0) = false ∧
    getField opened Reg.LAMP_OPEN 0 1 = 1 ∧ storeGet 0 opened.startup.probes 0 ≤ opened.time ∧
    (let w : State := { opened with startup := { opened.startup with probes := [(0, 9)] } }; w.time < storeGet 0 w.startup.probes 0) ∧
    lampGood (setField wOn (Reg.LAMP_STAT 0) 30 2 3) 0 = true ∧
    lampGood (setField wOn (Reg.LAMP_STAT 0) 30 2 3) (partner 0) = false ∧ portFly 0 = 0 / 2 ∧ portFly 2 ≠ 0 / 2 := by decide +kernel

/-- A powered module at a bring-up step. -/
def wBoot (k : Nat) : State :=
  { setField State.reset Reg.HUB_BOOT 28 4 k with startup := { Startup.reset with power := .on } }

theorem test_hyp_BringUpRuns : (∀ k : Fin 10, booting (wBoot k.val) k.val = true) ∧ (3999 : BitVec 16).toNat < 4000 ∧ 6000 < (6001 : BitVec 16).toNat ∧
    (∀ img, imageOk { wBoot 2 with flash := { wOn.flash with fused := 2 ^ 16 } } img = false) ∧
    (∀ k : Fin 10, 1 ≤ k.val → (wBoot k.val).time < (wBoot k.val).startup.stepFrom + msTime (stepBudget k.val) ∧
      (wBoot k.val).startup.stepFrom + msTime (stepBudget k.val) ≤ { wBoot k.val with time := 2 ^ 60 }.time) ∧
    ready wOn = true ∧ clusterGood wOn 0 8 = true ∧ mapped wOn 0 8 = false ∧ getField wOn Reg.FW_STAT 28 2 ≤ 1 ∧
    getField wOn Reg.FW_STAT 30 2 ≤ 1 := by
  have h : ∀ img, imageOk { wBoot 2 with flash := { wOn.flash with fused := 2 ^ 16 } } img = false := fun img => by
    have : ¬2 ^ 16 ≤ (Config.imageSvn img).toNat := Nat.not_le.mpr (Config.imageSvn img).isLt
    simp only [imageOk, decide_eq_false this, Bool.and_false]
  simp only [h, implies_true, true_and]
  decide +kernel

theorem test_hyp_FusesAdvance : booting (wBoot 9) 9 = true ∧ (wBoot 9).flash.fused < getField (setField (wBoot 9) Reg.SEC_SVN 16 16 1) Reg.SEC_SVN 16 16 ∧
    getField (wBoot 9) Reg.SEC_SVN 16 16 ≤ (wBoot 9).flash.fused ∧ booting (wBoot 2) 2 = true ∧
    ∀ img, (Config.imageSvn img).toNat < ({ wBoot 2 with flash := { wOn.flash with fused := 2 ^ 16 } } : State).flash.fused :=
  ⟨by decide +kernel, by decide +kernel, by decide +kernel, by decide +kernel, fun img => (Config.imageSvn img).isLt⟩

theorem test_hyp_SelfTests : let s := wTested (wTest 1 false false); let r := wTested (wTest 1 true true); let z := wTested (wTest 2 true false)
    let good : Measure := { delays := List.replicate 192 (List.replicate 5 0), caps := [] }; let c := [(1 : BitVec 9)]
    let p : State := { r with pitch := some (wPitch false) }
    wOn.startup.test = none ∧ (s.startup.test = some (wTest 1 false false) ∧ s.pacer.mode = .off ∧ (wTest 1 false false).timeout ≠ 0 ∧
      0 + (wTest 1 false false).timeout * 40000000 ≤ { s with time := 2 ^ 60 }.time) ∧ r.startup.test = some (wTest 1 true true) ∧
    z.startup.test = some (wTest 2 true false) ∧ (∀ c ∈ crossings, (chooseStages good c.1 c.2).isSome = true) ∧
    chooseStages { delays := [], caps := [] } 0 0 = none ∧ ready wOn = true ∧ calibrationDue (setField wOn Reg.HUB_CAL_PERIOD 0 17 0) = false ∧
    p.pitch.isSome = true ∧ unstruck p ∧ failsMapped p c = true ∧
    (let x := { wTest 1 false false with forced := true }; let f : State := { wTested x with pacer := (wJob .armed).pacer };
      f.startup.test = some x ∧ f.pacer.mode = .armed ∧ x.forced = true ∧ x.kind ≤ 3 ∧ x.ticket < 256) := by
  simp only [unstruck]
  decide +kernel

end Sys2Proof.Tests
end

/-!
Plain registers: what BAR0 accesses of block 3 (Firewatch and power entry) do. No register of that block has an action of its
own, so an access meets the access codes alone (R7 to R10). Offsets are narrowed to the block once, then each stage of an access has one equation.
-/

namespace Sys2Proof.Machine

/-! ## An offset of block 3 is in no special window -/

section Block3

variable {off : Nat} (hb : off / 0x100000 = 3)
include hb

theorem block3_bounds : 0x300000 ≤ off ∧ off < 0x400000 := by omega

theorem inPegWindow_block3 : inPegWindow off = false := by
  have := block3_bounds hb
  simp only [inPegWindow, Bool.and_eq_false_iff, decide_eq_false_iff_not]
  omega

theorem lnRegister_block3 (s : State) (q : Requester) (cls n : Nat) : lnRegister s q cls off n = s := by
  have := block3_bounds hb
  exact if_neg (by omega)

theorem regView_block3 (s : State) : regView s off = firewatchView s off (getReg s off) := by
  simp only [regView, hb]

theorem commandHeld_block3 (s : State) : commandHeld s off = false := by
  have := block3_bounds hb
  simp only [commandHeld, Reg.FC_ARG, Bool.and_eq_false_iff, Bool.or_eq_false_iff, decide_eq_false_iff_not]
  omega

/-- Block 3 has no error bit and no event for a write out of range (R9). -/
theorem rangeRefused_block3 (s : State) : rangeRefused s off = s := by
  have := block3_bounds hb
  rw [rangeRefused, if_neg (by omega), if_neg (by omega), if_neg (by omega), if_neg (by omega)]

/-- A read of block 3 takes nothing but the RC bits (R7, R8). -/
theorem clearRead_block3 (s : State) (sp : RegSpec) (hw : W64) :
    clearRead s sp off hw = if sp.rc = 0 then s
      else setReg s off ((getReg s off &&& ~~~(BitVec.ofNat 64 sp.rc)) ||| (hw &&& BitVec.ofNat 64 sp.rc)) := by
  have := block3_bounds hb
  have hne : ∀ o, ¬(0x300000 ≤ o ∧ o < 0x400000) → off ≠ o := by omega
  rw [clearRead, if_neg (hne _ (by decide)), if_neg (hne _ (by decide)), if_neg (hne _ (by decide)), if_neg (hne _ (by decide)),
    if_neg (by omega), if_neg (by omega), if_neg (by omega)]

theorem write32_block3 (s : State) (q : Requester) (sp : RegSpec) (v : W32) (hw : W64) :
    write32 s q sp off v hw = codedWrite s sp off (v.setWidth 64) hw := by
  simp [write32, hb]

theorem write4_block3 (s : State) (q : Requester) {sp : RegSpec} (hsp : regSpec? off = some sp) (hwd : sp.width = 32) (v : W32) (hw : W64) :
    write4 s q off v hw = codedWrite s sp off (v.setWidth 64) hw := by
  have := block3_bounds hb
  rw [write4, if_neg (by omega), commandHeld_block3 hb, if_neg (by decide), if_neg (by omega), hsp]
  simp only [hwd, if_true, write32_block3 hb]

theorem codedWrite_block3 (s : State) (sp : RegSpec) (v hw : W64) :
    codedWrite s sp off v hw =
      if rangeOk s off (codedValue s sp (getReg s off) v hw) then setReg s off (codedValue s sp (getReg s off) v hw) else s := by
  simp only [codedWrite, rangeRefused_block3 hb]

end Block3

/-! ## Access codes bit by bit -/

/-- What a write by access codes makes of bit i (R7, R8). -/
theorem codedValue_getLsbD (s : State) (sp : RegSpec) (old v hw : W64) {i : Nat} (hi : i < 64) :
    (codedValue s sp old v hw).getLsbD i =
      ((if sp.rw.testBit i || (sp.rwl.testBit i && s.pitch.isNone) then v.getLsbD i else old.getLsbD i) &&
        !(sp.w1c.testBit i && v.getLsbD i) || (sp.w1s.testBit i && v.getLsbD i) ||
        ((sp.w1c.testBit i || sp.w1s.testBit i) && hw.getLsbD i)) := by
  have hwr : (sp.rw ||| (if s.pitch.isSome then 0 else sp.rwl)).testBit i = (sp.rw.testBit i || (sp.rwl.testBit i && s.pitch.isNone)) := by
    cases s.pitch <;> simp [Nat.testBit_or]
  simp only [codedValue, BitVec.getLsbD_or, BitVec.getLsbD_and, BitVec.getLsbD_not, BitVec.getLsbD_ofNat, hi, decide_true,
    Bool.true_and, hwr]
  cases sp.rw.testBit i || (sp.rwl.testBit i && s.pitch.isNone) <;>
    simp [Bool.and_comm]

/-- What a read leaves of bit i: an RC bit is what the hardware sets in that moment (R7, R8). -/
theorem cleared_getLsbD (old hw : W64) (rc : Nat) {i : Nat} (hi : i < 64) :
    ((old &&& ~~~(BitVec.ofNat 64 rc)) ||| (hw &&& BitVec.ofNat 64 rc)).getLsbD i =
      if rc.testBit i then hw.getLsbD i else old.getLsbD i := by
  simp only [BitVec.getLsbD_or, BitVec.getLsbD_and, BitVec.getLsbD_not, BitVec.getLsbD_ofNat, hi, decide_true, Bool.true_and]
  cases rc.testBit i <;> simp

/-! ## A register after a write and after a read -/

/-- Every register after a coded write: the value formed, if it is in range (R9). -/
theorem getReg_codedWrite_block3 (s : State) (sp : RegSpec) {off : Nat} (hb : off / 0x100000 = 3) (v hw : W64) (k : Nat) :
    getReg (codedWrite s sp off v hw) k = if k = off ∧ rangeOk s off (codedValue s sp (getReg s off) v hw)
      then codedValue s sp (getReg s off) v hw else getReg s k := by
  rw [codedWrite_block3 hb]
  by_cases hr : rangeOk s off (codedValue s sp (getReg s off) v hw) <;> simp [hr, getReg_setReg]

theorem codedWrite_block3_same (s : State) (sp : RegSpec) {off : Nat} (hb : off / 0x100000 = 3) (v hw : W64) :
    Same { regs := true } s (codedWrite s sp off v hw) := by
  rw [codedWrite_block3 hb]
  split
  · exact setReg_same s off _ (Same.refl s)
  · exact Same.refl s

theorem getReg_clearRead_other (s : State) (sp : RegSpec) {off k : Nat} (hb : off / 0x100000 = 3) (hw : W64) (hk : k ≠ off) :
    getReg (clearRead s sp off hw) k = getReg s k := by
  rw [clearRead_block3 hb]
  split
  · rfl
  · exact getReg_setReg_other s hk _

theorem getReg_clearRead_getLsbD (s : State) (sp : RegSpec) {off i : Nat} (hb : off / 0x100000 = 3) (hw : W64) (hi : i < 64) :
    (getReg (clearRead s sp off hw) off).getLsbD i = if sp.rc.testBit i then hw.getLsbD i else (getReg s off).getLsbD i := by
  rw [clearRead_block3 hb]
  split
  next hrc => simp [hrc]
  next => rw [getReg_setReg_same, cleared_getLsbD _ _ _ hi]

theorem clearRead_block3_same (s : State) (sp : RegSpec) {off : Nat} (hb : off / 0x100000 = 3) (hw : W64) :
    Same { regs := true } s (clearRead s sp off hw) := by
  rw [clearRead_block3 hb]
  split
  · exact Same.refl s
  · exact setReg_same s off _ (Same.refl s)

/-! ## Latches -/

/-- A latch set, or ended, reads back. -/
theorem latched_setLatch_same (s : State) (q : Requester) (off : Nat) (v : Option W32) : latched (setLatch s q off v) q off = v := by
  have hrest : (s.latches.filter fun e => !(decide (e.1 = q) && decide (e.2.1 = off))).find?
      (fun e => decide (e.1 = q) && decide (e.2.1 = off)) = none := by
    rw [List.find?_eq_none]
    intro e he
    exact Bool.eq_false_iff.mp ((Bool.not_eq_true' _).mp (List.mem_filter.mp he).2)
  simp only [latched, setLatch, List.find?_append, hrest]
  cases v <;> simp

/-- A latch is one requester's, of one register. -/
theorem latched_setLatch_other (s : State) {q p : Requester} {off k : Nat} (h : p ≠ q ∨ k ≠ off) (v : Option W32) :
    latched (setLatch s q off v) p k = latched s p k := by
  have hrest : (s.latches.filter fun e => !(decide (e.1 = q) && decide (e.2.1 = off))).find?
      (fun e => decide (e.1 = p) && decide (e.2.1 = k)) = s.latches.find? fun e => decide (e.1 = p) && decide (e.2.1 = k) := by
    rw [List.find?_filter]
    refine congrArg (List.find? · _) (funext fun e => ?_)
    grind
  have hnew : (decide (q = p) && decide (off = k)) = false := by grind
  simp only [latched, setLatch, List.find?_append, hrest]
  cases v <;> simp [hnew]

@[simp] theorem latched_answer (s : State) (n v : Nat) (q : Requester) (off : Nat) : latched (answer s n v) q off = latched s q off := rfl

/-! ## Requesters -/

@[simp] theorem hostBytes_out (s : State) (q : Requester) (out inn : Nat) : (hostBytes s q out inn).out = s.out := by
  cases q <;> rfl

@[simp] theorem getReg_hostBytes (s : State) (q : Requester) (out inn k : Nat) : getReg (hostBytes s q out inn) k = getReg s k := by
  cases q <;> rfl

@[simp] theorem latched_hostBytes (s : State) (q p : Requester) (out inn k : Nat) :
    latched (hostBytes s q out inn) p k = latched s p k := by
  cases q <;> rfl

@[simp] theorem notServed_hostBytes (s : State) (q p : Requester) (out inn off : Nat) :
    notServed (hostBytes s q out inn) p off = notServed s p off := by
  cases q <;> rfl

/-- A powered module serves the Rangers' accesses (R381). -/
theorem notServed_ranger {s : State} (hp : powered s = true) (off : Nat) : notServed s .ranger off = false := by
  simp [notServed, hp]

theorem writeBarred_ranger {s : State} (hp : powered s = true) (off : Nat) : writeBarred s .ranger off = none := by
  simp [writeBarred, notServed_ranger hp]

/-- Service does not tell one offset of block 3 from another. -/
theorem notServed_block3 (s : State) (q : Requester) {off off' : Nat} (hb : off / 0x100000 = 3) (hb' : off' / 0x100000 = 3) :
    notServed s q off' = notServed s q off := by
  have := block3_bounds hb
  have := block3_bounds hb'
  cases q with
  | ranger => rfl
  | host p =>
    simp [notServed, show ¬off < 0x100000 by omega, show ¬0xC00000 ≤ off by omega, show ¬off' < 0x100000 by omega,
      show ¬0xC00000 ≤ off' by omega]

/-! ## Accesses of plain registers -/

/-- A plain register reads as it is stored, but for its WO bits (R7). -/
theorem readable_plain {off w : Nat} {sp : RegSpec} (h : plainReg off w sp) (s : State) :
    readable s sp off = getReg s off &&& ~~~(BitVec.ofNat 64 sp.wo) := by
  obtain ⟨hb, -, -, hstat, hvote⟩ := h
  rw [readable, regView_block3 hb, firewatchView, if_neg hstat, if_neg hvote]

/-- A 4-byte read that block 3 serves at an aligned offset. -/
theorem readAccess_block3 {s : State} {q : Requester} {off : Nat} (hb : off / 0x100000 = 3) (ha : off % 4 = 0)
    (hs : notServed s q off = false) (hw : W64) :
    readAccess s q off false hw =
      answer (read4 (hostBytes s q 4 0) q off hw).2 4 (read4 (hostBytes s q 4 0) q off hw).1 := by
  simp [readAccess, hs, accessAligned, ha, inPegWindow_block3 hb, lnRegister_block3 hb]

/-- Firmware's write of a plain 32-bit register is the access codes' (R7, R8, R9). -/
theorem writeAccess_plain {s : State} {off : Nat} {sp : RegSpec} (h : plainReg off 32 sp) (ha : off % 4 = 0) (hp : powered s = true)
    (v hw : W64) : writeAccess s .ranger off false v hw = codedWrite s sp off ((v.setWidth 32).setWidth 64) hw := by
  obtain ⟨hb, hsp, hwd, -, -⟩ := h
  simp [writeAccess, inPegWindow_block3 hb, hostBytes, writeBarred_ranger hp, accessAligned, ha, writeServed, lnRegister_block3 hb,
    write4_block3 hb _ _ hsp hwd]

theorem read4_plain32 (s : State) (q : Requester) {off : Nat} {sp : RegSpec} (h : plainReg off 32 sp) (hw : W64) :
    read4 s q off hw = ((getReg s off &&& ~~~(BitVec.ofNat 64 sp.wo)).toNat % 2 ^ 32, clearRead s sp off hw) := by
  have hr := readable_plain h s
  obtain ⟨-, hsp, hwd, -, -⟩ := h
  simp only [read4, hsp, hwd, hr, if_true]

/-- A read of a lower half latches the upper (R10). -/
theorem read4_plain_lower (s : State) (q : Requester) {off : Nat} {sp : RegSpec} (h : plainReg off 64 sp) (hrc : sp.rc = 0) (hw : W64) :
    read4 s q off hw =
      ((getReg s off &&& ~~~(BitVec.ofNat 64 sp.wo)).toNat % 2 ^ 32,
        setLatch s q off (some (BitVec.ofNat 32 ((getReg s off &&& ~~~(BitVec.ofNat 64 sp.wo)).toNat / 2 ^ 32)))) := by
  have hr := readable_plain h s
  obtain ⟨hb, hsp, hwd, -, -⟩ := h
  have hbuf : off / 0x1000 ≠ 0xC09 := by omega
  simp [read4, hsp, hwd, hr, clearRead_block3 hb, hrc, hbuf]

/-- A read of an upper half returns what was latched and ends the latch (R10). -/
theorem read4_plain_upper {s : State} {q : Requester} {off : Nat} {sp : RegSpec} (h : plainReg off 64 sp) (ha : off % 8 = 0)
    {u : W32} (hu : latched s q off = some u) (hup : regSpec? (off + 4) = none) (hw : W64) :
    read4 s q (off + 4) hw = (u.toNat, setLatch s q off none) := by
  obtain ⟨-, hsp, hwd, -, -⟩ := h
  have h8 : (off + 4) % 8 = 4 := by omega
  simp [read4, hup, h8, hsp, hwd, hu]

/-! ## The commands -/

theorem exec_registerWrite_plain {s : State} {off : BitVec 26} {sp : RegSpec} (h : plainReg off.toNat 32 sp) (ha : off.toNat % 4 = 0)
    (hp : powered s = true) (v hw : W64) :
    exec (.registerWrite .ranger off false v hw) s = .next (codedWrite s sp off.toNat ((v.setWidth 32).setWidth 64) hw) :=
  congrArg Host.Outcome.next (writeAccess_plain h ha hp v hw)

theorem exec_registerReadClear_plain {s : State} {off : BitVec 26} {sp : RegSpec} (h : plainReg off.toNat 32 sp) (ha : off.toNat % 4 = 0)
    (hp : powered s = true) (hw : W64) :
    exec (.registerReadClear .ranger off false hw) s = .next (answer (clearRead s sp off.toNat hw) 4
      ((getReg s off.toNat &&& ~~~(BitVec.ofNat 64 sp.wo)).toNat % 2 ^ 32)) := by
  refine congrArg Host.Outcome.next ((readAccess_block3 h.1 ha (notServed_ranger hp _) hw).trans ?_)
  rw [read4_plain32 _ _ h]
  rfl

theorem exec_lowerHalfReadLatch_lower {s : State} {q : Requester} {off : BitVec 26} {sp : RegSpec} (h : plainReg off.toNat 64 sp)
    (ha : off.toNat % 8 = 0) (hrc : sp.rc = 0) (hs : notServed s q off.toNat = false) :
    exec (.lowerHalfReadLatch q off) s = .next (answer
      (setLatch (hostBytes s q 4 0) q off.toNat
        (some (BitVec.ofNat 32 ((getReg s off.toNat &&& ~~~(BitVec.ofNat 64 sp.wo)).toNat / 2 ^ 32))))
      4 ((getReg s off.toNat &&& ~~~(BitVec.ofNat 64 sp.wo)).toNat % 2 ^ 32)) := by
  refine congrArg Host.Outcome.next ((readAccess_block3 h.1 (by omega) hs 0).trans ?_)
  rw [read4_plain_lower _ _ h hrc, getReg_hostBytes]

theorem exec_lowerHalfReadLatch_upper {s : State} {q : Requester} {off : BitVec 26} {sp : RegSpec} (h : plainReg off.toNat 64 sp)
    (ha : off.toNat % 8 = 0) (hs : notServed s q off.toNat = false) {u : W32} (hu : latched s q off.toNat = some u)
    (hup : regSpec? (off.toNat + 4) = none) (hlt : off.toNat + 4 < 2 ^ 26) :
    exec (.lowerHalfReadLatch q (off + 4)) s = .next (answer (setLatch (hostBytes s q 4 0) q off.toNat none) 4 u.toNat) := by
  have hb := h.1
  have hoff : (off + 4).toNat = off.toNat + 4 := BitVec.toNat_add_of_lt hlt
  have hb' : (off.toNat + 4) / 0x100000 = 3 := by omega
  have hs' : notServed s q (off.toNat + 4) = false := (notServed_block3 s q hb hb').trans hs
  refine congrArg Host.Outcome.next ?_
  rw [hoff, readAccess_block3 hb' (by omega) hs', read4_plain_upper h ha ((latched_hostBytes ..).trans hu) hup]

/-- An odd access outside the Peg window has no effect but its answer (R10). -/
theorem exec_bar0OddAccess_ignored {s : State} {off : BitVec 26} {size : Size} (hp : powered s = true)
    (hw : inPegWindow off.toNat = false)
    (hodd : size = .b1 ∨ size = .b2 ∨ accessAligned off.toNat (decide (size = .b8)) = false) (write : Bool) (v : W64) :
    exec (.bar0OddAccess .ranger off size write v) s = .next (if write then s else answer s (Size.bytes size) 0) := by
  have hord : ¬((size = .b4 ∨ size = .b8) ∧ accessAligned off.toNat (decide (size = .b8))) := by
    rintro ⟨hsz, hal⟩
    rcases hodd with rfl | rfl | hno
    · simp at hsz
    · simp at hsz
    · rw [hno] at hal; contradiction
  refine congrArg Host.Outcome.next ((if_neg hord).trans ?_)
  cases write <;> simp [oddAccess, hw, writeBarred_ranger hp, hostBytes]

/-! ## The statement -/

/-- Settles O25: it holds. Each of the four families follows from the equation of its command, with what the coded write, the clearing
read and the latch do to one register. -/
theorem registerAccessRules : Obligations.RegisterAccessRules := by
  unfold Obligations.RegisterAccessRules
  refine ⟨⟨?write, ?read⟩, ⟨?halves, ?odd⟩⟩
  case write =>
    intro s off sp v hw h ha hp
    refine ⟨_, codedValue s sp (getReg s off.toNat) ((v.setWidth 32).setWidth 64) hw, exec_registerWrite_plain h ha hp v hw,
      codedWrite_block3_same s sp h.1 _ hw, fun k hk => ?_, ?_, fun i hi => ?_⟩
    · rw [getReg_codedWrite_block3 s sp h.1, if_neg (fun e => hk e.1)]
    · simp only [getReg_codedWrite_block3 s sp h.1, true_and]
    · have hi64 : i < 64 := by omega
      have hv : ((v.setWidth 32).setWidth 64).getLsbD i = v.getLsbD i := by simp [hi, hi64]
      rw [codedValue_getLsbD _ _ _ _ _ hi64, hv]
  case read =>
    intro s off sp hw h ha hp
    have hsame := clearRead_block3_same s sp h.1 hw
    refine ⟨_, exec_registerReadClear_plain h ha hp hw, answer_same _ _ _ hsame.mono, ?_, fun k hk => ?_, fun i hi => ?_⟩
    · exact congrArg (· ++ _) (hsame.out rfl)
    · exact getReg_clearRead_other s sp h.1 hw hk
    · exact getReg_clearRead_getLsbD s sp h.1 hw hi
  case halves =>
    intro s q off sp h ha hrc hs
    refine ⟨⟨_, exec_lowerHalfReadLatch_lower h ha hrc hs, ?_, ?_, ?_, fun p k hpk => ?_⟩, fun u hu hup hlt =>
      ⟨_, exec_lowerHalfReadLatch_upper h ha hs hu hup hlt, ?_, ?_⟩⟩
    · exact answer_same _ _ _ (setLatch_same _ _ _ _ (hostBytes_same _ _ _ _ (Same.refl s)))
    · exact congrArg (· ++ _) (hostBytes_out s q 4 0)
    · rw [latched_answer, latched_setLatch_same]
    · rw [latched_answer, latched_setLatch_other _ hpk, latched_hostBytes]
    · exact congrArg (· ++ _) (hostBytes_out s q 4 0)
    · rw [latched_answer, latched_setLatch_same]
  case odd =>
    intro s off size v hp hw hodd
    exact ⟨exec_bar0OddAccess_ignored hp hw hodd true v, exec_bar0OddAccess_ignored hp hw hodd false v⟩

end Sys2Proof.Machine

/-!
Stove commands: what SLOAD, SMXS, SFMT, SMAC, SOUT and SCLR do at their issue (chapter 04). An accepted Stove action takes its read
ports, sets its Stove and queues effects: `stoveIssued` is the state after that, and each stage of an issue has one equation on it.
-/

namespace Sys2Proof.Machine

/-! ## A clean read does not depend on the Stoves -/

section Ways

variable {s t : State} (hw : ∀ q : Fin 32, t.regions[q].windows = s.regions[q].windows)
  (ht : ∀ q : Fin 32, t.regions[q].thrus = s.regions[q].thrus)
include hw ht

theorem remotePlaces_congr (r f b : Nat) (v : W64) : remotePlaces t r f b v = remotePlaces s r f b v := by
  simp only [remotePlaces, entryPlaces_congr hw ht]

/-- Of the effects only SFMT's asks a Stove what it writes, and it writes no Sack line. -/
theorem microPlaces_sack_congr (r b : Nat) (m : Micro) (q k line : Nat) :
    (microPlaces t r b m).contains (.sack q k line) = (microPlaces s r b m).contains (.sack q k line) := by
  cases m with
  | stoveFmt c wf af both =>
    have hno : ∀ u : State, (microPlaces u r b (.stoveFmt c wf af both)).contains (.sack q k line) = false := by
      intro u
      rw [← Bool.not_eq_true, List.contains_iff_mem]
      simp only [microPlaces, List.mem_append, List.mem_flatMap, List.mem_cons]
      grind
    rw [hno, hno]
  | facePut f side used v => exact congrArg (List.contains · _) (remotePlaces_congr hw ht ..)
  | move src line dest =>
    cases dest with
    | face f side extra => exact congrArg (List.contains · _) (remotePlaces_congr hw ht ..)
    | _ => rfl
  | _ => rfl

/-- What `pendingWrite` says of a Sack line depends on windows, THRU actions, queued effects and crossings alone. -/
theorem pendingWrite_sack_congr (hd : ∀ q : Fin 32, t.regions[q].due = s.regions[q].due)
    (hx : ∀ q : Fin 32, t.regions[q].xings = s.regions[q].xings) (x : Ctx) (q k line : Nat) :
    pendingWrite x t (.sack q k line) = pendingWrite x s (.sack q k line) := by
  simp only [pendingWrite, crossingPending, Ctx.g, hd, hx, microPlaces_sack_congr hw ht, entryPlaces_congr hw ht]

end Ways

theorem readsClean_modStove {s : State} {r : Fin 32} {b : Nat} {i : Instr} {k line : Nat} (h : readsClean s r b i k line) (c : Fin 8)
    (F : Stove → Stove) : readsClean (modStove s r c F) r b i k line := by
  obtain ⟨hread, hpend, hflaw⟩ := h
  have keeps : ∀ {α : Type} (part : Region → α), (∀ g, part (withStove c F g) = part g) →
      ∀ q : Fin 32, part (modStove s r c F).regions[q] = part s.regions[q] := modRegion_keeps s r (withStove c F)
  refine ⟨fun u hu => hread u ?_, ?_, hflaw⟩
  · rwa [← keeps (·.readers) (fun _ => rfl) r]
  · rw [pendingWrite_sack_congr (keeps (·.windows) fun _ => rfl) (keeps (·.thrus) fun _ => rfl) (keeps (·.due) fun _ => rfl)
      (keeps (·.xings) fun _ => rfl)]
    exact hpend

/-! ## The state that a Stove command builds up at its issue -/

/-- Command i of Stove c, issued in beat b, so far: its read ports are taken, its Stove is changed by F, effects l are queued, and
Lantern and Whistle are as counting the issue leaves them. -/
def stoveIssued (s : State) (n : Lantern) (w : Whistle) (r : Fin 32) (c : Fin 8) (b : Nat) (i : Instr) (F : Stove → Stove)
    (l : List (Nat × Micro)) : State :=
  modRegion { s with lantern := n, whistle := w } r fun g => withStove c F (queue b i l (takePorts i g))

section Stages

variable {s : State} {n : Lantern} {w : Whistle} {r : Fin 32} {c : Fin 8} {b : Nat} {i : Instr} {F : Stove → Stove}
  {l : List (Nat × Micro)}

@[simp] theorem withStove_id (c : Fin 8) : (withStove c fun q => q) = fun g => g := by
  funext g
  simp [withStove]

@[simp] theorem withStove_stoves_same (g : Region) : (withStove c F g).stoves[c] = F g.stoves[c] := by
  simp [withStove]

@[simp] theorem queue_nil (g : Region) : queue b i [] g = g := by
  simp [queue]

theorem queue_queue (l l' : List (Nat × Micro)) (g : Region) : queue b i l' (queue b i l g) = queue b i (l ++ l') g := by
  simp [queue]

theorem stoveIssued_ports : stoveIssued s n w r c b i (fun q => q) [] =
    modRegion { s with lantern := n, whistle := w } r (takePorts i) := by
  simp [stoveIssued]

theorem stoveIssued_stoves : (stoveIssued s n w r c b i F l).regions[r].stoves[c] = F s.regions[r].stoves[c] := by
  rw [stoveIssued, modRegion_regions_same, withStove_stoves_same]
  rfl

theorem stoveOf_stoveIssued : stoveOf (issueAt r b i) (stoveIssued s n w r c b i F l) c = F s.regions[r].stoves[c] := stoveIssued_stoves

theorem modStove_stoveIssued (G : Stove → Stove) :
    modStove (stoveIssued s n w r c b i F l) r c G = stoveIssued s n w r c b i (fun q => G (F q)) l := by
  simp [stoveIssued, modStove_eq, modRegion_twice, withStove]

theorem roomTo_stoveIssued {e : Nat} (h : roomTo s r e) : roomTo (stoveIssued s n w r c b i F l) r e :=
  roomTo_congr h rfl (by rw [stoveIssued, modRegion_regions_same]; rfl)

theorem queue_stoveIssued (l' : List (Nat × Micro)) :
    modRegion (stoveIssued s n w r c b i F l) r (queue b i l') = stoveIssued s n w r c b i F (l ++ l') := by
  rw [stoveIssued, modRegion_twice]
  exact congrArg (modRegion _ r) (funext fun g => congrArg (withStove c F) (queue_queue l l' (takePorts i g)))

theorem later_stoveIssued {e : Nat} (h : roomTo s r e) (m : Micro) :
    later (issueAt r b i) (stoveIssued s n w r c b i F l) e m = stoveIssued s n w r c b i F (l ++ [(e, m)]) := by
  rw [later_issue (roomTo_stoveIssued h), queue_stoveIssued]

/-- The line that a Stove command reads at its issue is the one that stands in the Sack. -/
theorem readSack_stoveIssued {k line : Nat} (h : readsClean s r b i k line) (hk : actionReads i = [k]) :
    readSack (issueAt r b i) (stoveIssued s n w r c b i F []) k line =
      (sackLine s.regions[r] k line, stoveIssued s n w r c b i F []) := by
  have hst : stoveIssued s n w r c b i F [] =
      modRegion { modStove s r c F with lantern := n, whistle := w } r (takePorts i) := by
    simp only [stoveIssued, queue_nil]
    exact (modRegion_twice { s with lantern := n, whistle := w } r (withStove c F) (takePorts i)).symm
  have hread := readSack_issue (readsClean_modStove h c F) n w (takePorts i) (by simp [hk]) rfl rfl (fun _ => rfl)
    (fun _ => rfl) (fun _ => rfl) (fun _ => rfl) (fun _ _ => rfl)
  rw [hst]
  refine hread.trans (Prod.ext ?_ rfl)
  simp [modStove_eq, sackLine]

/-- Lines read one every `step` beats: the first at once, its effect `first` due d beats on; the others at their beats. -/
theorem foldl_reads_stoveIssued {k line m step d : Nat} {op : Nat → Micro} {first : Micro} (h : readsClean s r b i k line)
    (hk : actionReads i = [k]) (hstep : 0 < step) (hroom : roomTo s r (b + d)) (hroom' : roomTo s r (b + m * step))
    (hop : ∀ t, readSack (issueAt r b i) t k line = (sackLine s.regions[r] k line, t) →
      runMicro (issueAt r b i) t (op 0) = later (issueAt r b i) t (b + d) first) :
    (List.range (m + 1)).foldl (fun s j => atBeat (issueAt r b i) s (b + j * step) (op j)) (stoveIssued s n w r c b i F []) =
      stoveIssued s n w r c b i F ((b + d, first) :: (List.range m).map fun j => (b + (j + 1) * step, op (j + 1))) := by
  have hfirst : runMicro (issueAt r b i) (stoveIssued s n w r c b i F []) (op 0) = stoveIssued s n w r c b i F [(b + d, first)] := by
    rw [hop _ (readSack_stoveIssued h hk), later_stoveIssued hroom]
    rfl
  rw [foldl_atBeat_step m step hstep, hfirst, queue_stoveIssued]
  · rfl
  · intro j _ hj
    rw [hfirst]
    exact roomTo_stoveIssued (roomTo_mono hroom' (Nat.add_le_add_left (Nat.mul_le_mul_right step hj) b))

/-- The same with a line read every beat. -/
theorem foldl_reads_stoveIssued_one {k line m d : Nat} {op : Nat → Micro} {first : Micro} (h : readsClean s r b i k line)
    (hk : actionReads i = [k]) (hroom : roomTo s r (b + d)) (hroom' : roomTo s r (b + m))
    (hop : ∀ t, readSack (issueAt r b i) t k line = (sackLine s.regions[r] k line, t) →
      runMicro (issueAt r b i) t (op 0) = later (issueAt r b i) t (b + d) first) :
    (List.range (m + 1)).foldl (fun s j => atBeat (issueAt r b i) s (b + j) (op j)) (stoveIssued s n w r c b i F []) =
      stoveIssued s n w r c b i F ((b + d, first) :: (List.range m).map fun j => (b + (j + 1), op (j + 1))) := by
  have := foldl_reads_stoveIssued (n := n) (w := w) (c := c) (F := F) h hk Nat.one_pos hroom (m := m) (by simpa using hroom') hop
  simpa using this

/-- Lines queued one a beat from `base` on. -/
theorem foldl_lines_stoveIssued {lines : List Line} (base : Nat) (op : Nat → Line → Micro) (h : roomTo s r (base + lines.length)) :
    (lines.foldl (fun (st : State × Nat) v => (later (issueAt r b i) st.1 (base + st.2) (op st.2 v), st.2 + 1))
      (stoveIssued s n w r c b i F [], 0)).1 = stoveIssued s n w r c b i F (lines.mapIdx fun j v => (base + j, op j v)) := by
  rw [foldl_lines lines base op 0 (roomTo_stoveIssued h), queue_stoveIssued]
  simp

end Stages

/-! ## What a read that is queued does when it is carried out -/

section Reads

variable {x : Ctx} {s : State} {k line : Nat} {v : Line} (h : readSack x s k line = (v, s))
include h

theorem runMicro_planeRead (c : Fin 8) (p : Bool) (row : Nat) :
    runMicro x s (.planeRead c p row k line) = later x s (x.beat + 2) (.planePut c p row v) := by
  simp only [runMicro, h]

theorem runMicro_rawRead (c : Fin 8) (bank row : Nat) :
    runMicro x s (.rawRead c bank row k line) = later x s (x.beat + 4) (.accAdd c bank row [accOfRaw v]) := by
  simp only [runMicro, h]

theorem runMicro_scaleRead (c : Fin 8) (p : Bool) (n : Nat) :
    runMicro x s (.scaleRead c p n k line) = later x s (x.beat + 2) (.scalePut c p n v) := by
  simp only [runMicro, h]

theorem runMicro_macRead (c : Fin 8) (p : Bool) (wf : Nat) {af : Nat} {cls : FmtClass} (haf : fmtClass af = some cls) (bank asb : Nat) :
    runMicro x s (.macRead c p wf af bank asb k line) =
      later x s (x.beat + 2) (.macArrive c p wf af bank asb (3 + cls.bpv) v) := by
  simp only [runMicro, h, haf]

end Reads

/-! ## The issue -/

/-- Command i is an action of Stove c: only the Stove's own rules can refuse it (R102). -/
structure StoveAction (c : Fin 8) (i : Instr) : Prop where
  fault : ∀ x s, stoveFault x s i = firstFault (stoveFaults (x.g s).stoves[c] x.beat i)
  past : pastEnd i = false
  track : ∀ x s, trackFaults x s i = []

section Issue

variable {s : State} {r : Fin 32} {b : Nat} {c : Fin 8} {i : Instr}

/-- Whether a rule of its Stove refuses a command is asked of the Stove as it stood before the issue. -/
theorem StoveAction.stoveFault_none (ha : StoveAction c i) {t : State} (ht : t.regions[r].stoves[c] = s.regions[r].stoves[c])
    (hok : ∀ e ∈ stoveFaults s.regions[r].stoves[c] b i, e.1 = false) : stoveFault (issueAt r b i) t i = none := by
  rw [ha.fault]
  refine firstFault_none _ ?_
  rw [show ((issueAt r b i).g t).stoves[c] = s.regions[r].stoves[c] from ht]
  exact hok

/-- A Stove command that breaks no rule issues, once its own work on the Stove and the queue is known. -/
theorem StoveAction.issues (ha : StoveAction c i) {f : Ctx → State → State} {F : Stove → Stove} {l : List (Nat × Micro)}
    (hb : beatOpen s r b) (hc : actionCause i = none) (hok : ∀ e ∈ stoveFaults s.regions[r].stoves[c] b i, e.1 = false)
    (hf : ∀ n w, stoveFault (issueAt r b i) (stoveIssued s n w r c b i (fun q => q) []) i = none →
      f (issueAt r b i) (stoveIssued s n w r c b i (fun q => q) []) = stoveIssued s n w r c b i F l) :
    ∃ t, direct s r i f = .next t ∧ issued s t r i b (withStove c F) l := by
  have hn : actionRefused (issueAt r b i) s i = false := by
    simp [actionRefused, ha.stoveFault_none rfl hok, ha.past, ha.track, firstFault]
  obtain ⟨n, w, hports⟩ := issue_ports s r i
  have hstate := hf n w (ha.stoveFault_none stoveIssued_stoves hok)
  rw [stoveIssued_ports] at hstate
  refine ⟨_, direct_open s r b i f hc hn hb, ?_⟩
  rw [hports, hstate]
  exact issued_of rfl fun _ => rfl

end Issue

/-! ## Loads -/

/-- An MX format has at least one scale line (R95). -/
theorem scaleLines_eq_succ (f : Nat) : ∃ m, scaleLines f = m + 1 := by
  unfold scaleLines
  split
  · exact ⟨7, rfl⟩
  · exact ⟨3, rfl⟩

/-- Settles O8: it holds. The three loads of consecutive lines are `foldl_reads_stoveIssued_one` with the effect of their first
read; the ASB line is one read. -/
theorem stoveLoads : Obligations.StoveLoads := by
  unfold Obligations.StoveLoads
  dsimp only
  refine ⟨?weights, ?rawAdd, ?scales, ?asb⟩
  case weights =>
    intro s r b c sack line nrows hb hc hroom hfree huse hlines hclean
    refine StoveAction.issues ⟨fun _ _ => rfl, rfl, fun _ _ => rfl⟩ hb hc
      (by simp [-Fin.getElem_fin, stoveFaults, hfree, huse, hlines]) fun n w hno => ?_
    simp only [issueSloadWeights, unlessFault_ok _ _ _ _ hno, stoveOf_stoveIssued, modStove_stoveIssued, issueAt_beat, issueAt_r]
    rw [foldl_reads_stoveIssued_one hclean rfl (roomTo_mono hroom (by omega)) (roomTo_mono hroom (by omega))
      fun t ht => runMicro_planeRead ht .., later_stoveIssued hroom]
    rfl
  case rawAdd =>
    intro s r b c sack line nrows acc hb hc hroom hfree hlines hclean
    refine StoveAction.issues ⟨fun _ _ => rfl, rfl, fun _ _ => rfl⟩ hb hc
      (by simp [-Fin.getElem_fin, stoveFaults, hfree, hlines]) fun n w hno => ?_
    simp only [issueSloadRawAdd, unlessFault_ok _ _ _ _ hno, modStove_stoveIssued, issueAt_beat, issueAt_r]
    rw [foldl_reads_stoveIssued_one hclean rfl (roomTo_mono hroom (by omega)) (roomTo_mono hroom (by omega))
      fun t ht => runMicro_rawRead ht ..]
  case scales =>
    intro s r b c sack line hb hc hroom hfree huse hmx hlines hclean
    refine StoveAction.issues ⟨fun _ _ => rfl, rfl, fun _ _ => rfl⟩ hb hc
      (by simp [-Fin.getElem_fin, stoveFaults, hfree, huse, hmx, hlines]) fun n w hno => ?_
    simp only [issueSmxsWeightScales, unlessFault_ok _ _ _ _ hno, stoveOf_stoveIssued, modStove_stoveIssued, issueAt_beat, issueAt_r]
    let q := s.regions[r].stoves[c]
    obtain ⟨m, hm⟩ := scaleLines_eq_succ (q.plane !q.act).wfmt
    rw [hm] at hroom ⊢
    rw [foldl_reads_stoveIssued_one hclean rfl (roomTo_mono hroom (by omega)) (roomTo_mono hroom (by omega))
      fun t ht => runMicro_scaleRead ht .., later_stoveIssued hroom]
    rfl
  case asb =>
    intro s r b c sack line hb hc hroom hfree hclean
    refine StoveAction.issues ⟨fun _ _ => rfl, rfl, fun _ _ => rfl⟩ hb hc
      (by simp [-Fin.getElem_fin, stoveFaults, hfree]) fun n w hno => ?_
    simp only [issueSmxsAsb, unlessFault_ok _ _ _ _ hno, modStove_stoveIssued, issueAt_beat, issueAt_r,
      readSack_stoveIssued hclean rfl, later_stoveIssued hroom]
    rfl

/-! ## Formats and multiplies -/

theorem FmtClass.bpv_pos (cls : FmtClass) : 0 < cls.bpv := by
  cases cls <;> decide

/-- Settles O9: it holds. FLIP changes the Stove before the first vector is read, which `readSack_stoveIssued` allows, since no Stove
decides whether a write to the line is under way. -/
theorem stoveFormatsAndMultiplies : Obligations.StoveFormatsAndMultiplies := by
  unfold Obligations.StoveFormatsAndMultiplies
  dsimp only
  refine ⟨?formats, ?multiplies⟩
  case formats =>
    intro s r b c wfmt afmt both keyld sack line hb hc hroom hfree hclean
    rw [← withStove_id c]
    refine StoveAction.issues ⟨fun _ _ => rfl, rfl, fun _ _ => rfl⟩ hb hc ?_ fun n w hno => ?_
    · simpa [-Fin.getElem_fin, stoveFaults] using hfree
    cases keyld with
    | false =>
      simp [issueSfmt, unlessFault_ok _ _ _ _ hno, later_stoveIssued (roomTo_mono hroom (show b + 1 ≤ b + 3 by omega))]
    | true =>
      simp [issueSfmt, unlessFault_ok _ _ _ _ hno, later_stoveIssued (roomTo_mono hroom (show b + 1 ≤ b + 3 by omega)),
        readSack_stoveIssued (hclean rfl) rfl, later_stoveIssued hroom]
  case multiplies =>
    intro s r b c sack line acc nvec asb flip cls hb hc hroom hfree helem hscale hafmt hwfmt hlines hclean
    refine StoveAction.issues ⟨fun _ _ => rfl, rfl, fun _ _ => rfl⟩ hb hc
      (by simp [-Fin.getElem_fin, stoveFaults, hfree, helem, hscale, hafmt, hwfmt, hlines]) fun n w hno => ?_
    simp only [issueSmac, unlessFault_ok _ _ _ _ hno, stoveOf_stoveIssued, modStove_stoveIssued, issueAt_beat, issueAt_r, hafmt]
    have hlast : b + nvec.toNat * cls.bpv ≤ b + 2 + (nvec.toNat + 1) * cls.bpv := by
      have := Nat.mul_le_mul_right cls.bpv (Nat.le_add_right nvec.toNat 1)
      omega
    exact foldl_reads_stoveIssued hclean rfl cls.bpv_pos (roomTo_mono hroom (by omega)) (roomTo_mono hroom hlast)
      fun t ht => by simpa using runMicro_macRead ht c _ _ hafmt _ _

/-! ## Results -/

/-- A plane cleared (R99). -/
def clearPlane (p : Plane) : Plane := { p with rows := [], scales := [], elemOk := false, scaleOk := false }

/-- A Stove as SCLR leaves it (R99). -/
def clearStove (banks : BitVec 16) (asb planes key : Bool) (q : Stove) : Stove :=
  { q with
    acc := q.acc.filter (fun e => !banks.getLsbD (e.1 / 128))
    asb := if asb then [] else q.asb
    plane0 := if planes then clearPlane q.plane0 else q.plane0
    plane1 := if planes then clearPlane q.plane1 else q.plane1
    k0 := if key then 0 else q.k0
    k1 := if key then 0 else q.k1
    tid := if key then 0 else q.tid
    eidx := if key then 0 else q.eidx }

theorem clearStove_plane (banks : BitVec 16) (asb planes key : Bool) (q : Stove) (p : Bool) :
    (clearStove banks asb planes key q).plane p = if planes then clearPlane (q.plane p) else q.plane p := by
  cases p <;> rfl

/-- SCLR's work on its Stove is `clearStove`. -/
theorem issueSclr_clears {x : Ctx} {s : State} {c : Fin 8} {banks : BitVec 16} {asb planes key : Bool}
    (h : stoveFault x s (.sclr x.r c banks asb planes key) = none) :
    issueSclr c banks asb planes key x s = modStove s x.r c (clearStove banks asb planes key) := by
  rw [issueSclr, unlessFault_ok _ _ _ _ h]
  cases asb <;> cases planes <;> cases key <;> rfl

/-- Settles O10: it holds. SOUT's element lines are queued by `foldl_lines_stoveIssued` and its scale bytes after them; SCLR changes
its Stove by `clearStove` and queues nothing. -/
theorem stoveResults : Obligations.StoveResults := by
  unfold Obligations.StoveResults
  dsimp only
  refine ⟨?rounds, ?clears⟩
  case rounds =>
    intro s r b c acc sack line ofmt rmode sat clr oscale sline o hb hc hroom hfree hofmt hlines
    refine StoveAction.issues ⟨fun _ _ => rfl, rfl, fun _ _ => rfl⟩ hb hc
      (by simp [-Fin.getElem_fin, stoveFaults, hofmt, hfree, hlines]) fun n w hno => ?_
    have hscale : roomTo s r (b + 4 + o.width) := roomTo_mono hroom (by omega)
    simp only [issueSout, hofmt, unlessFault_ok _ _ _ _ hno, stoveOf_stoveIssued, modStove_stoveIssued, issueAt_beat, issueAt_r]
    rw [foldl_lines_stoveIssued (b + 5) (fun j v => .sackPut (clusterSack c.val sack) (line.toNat + j) v fullMask)
      (roomTo_mono hroom (Nat.le_add_right _ _))]
    rw [later_stoveIssued hscale]
    cases o.mx with
    | false => simp
    | true => rfl
  case clears =>
    intro s r b c banks asb planes key hb hc hfree
    have hok : ∀ e ∈ stoveFaults s.regions[r].stoves[c] b (.sclr r c banks asb planes key), e.1 = false := by
      cases planes with
      | false => simp [stoveFaults]
      | true => simp [-Fin.getElem_fin, stoveFaults, hfree rfl]
    obtain ⟨t, ht, hi⟩ := StoveAction.issues (f := issueSclr c banks asb planes key) (F := clearStove banks asb planes key) (l := [])
      ⟨fun _ _ => rfl, rfl, fun _ _ => rfl⟩ hb hc hok fun n w hno => (issueSclr_clears hno).trans (modStove_stoveIssued _)
    refine ⟨t, clearStove banks asb planes key, ht, hi, rfl, rfl, ⟨fun hp p => ?_, fun hp p => ?_⟩, ?_, rfl⟩
    · rw [clearStove_plane, if_pos hp, clearPlane]
    · rw [clearStove_plane, if_neg (by simp [hp])]
    · cases key <;> rfl

end Sys2Proof.Machine

/-!
Kettle commands: what the common layout and the moves of KSR do at their issue (chapter 05). No rule refuses an accepted one, so
it takes its read ports, reads its Sack lines as they stand, and queues what it does later.
-/

namespace Sys2Proof.Machine

/-! ## The issue of a command that no rule refuses -/

/-- A state in which a command of region r is issuing: the region is changed by F so far, and Lantern and Whistle are as counting the
issue leaves them. -/
def issuing (s : State) (n : Lantern) (w : Whistle) (r : Fin 32) (F : Region → Region) : State :=
  modRegion { s with lantern := n, whistle := w } r F

section Issuing

variable {s : State} {n : Lantern} {w : Whistle} {r : Fin 32} {b : Nat} {i : Instr} {F : Region → Region}

/-- A command that no rule refuses issues, once its work from the taking of its ports on is known. -/
theorem direct_issues {f : Ctx → State → State} {l : List (Nat × Micro)} (hb : beatOpen s r b) (hc : actionCause i = none)
    (hn : actionRefused (issueAt r b i) s i = false)
    (hf : ∀ n w, f (issueAt r b i) (issuing s n w r (takePorts i)) = issuing s n w r fun g => F (queue b i l (takePorts i g))) :
    ∃ t, direct s r i f = .next t ∧ issued s t r i b F l := by
  obtain ⟨n, w, hports⟩ := issue_ports s r i
  refine ⟨_, direct_open s r b i f hc hn hb, ?_⟩
  rw [hports]
  exact issued_of (hf n w) fun _ => rfl

/-- The read of a line, the ports being taken, gives it as it stands. -/
theorem readSack_issuing {k line : Nat} (h : readsClean s r b i k line) (hk : (actionReads i).Nodup) :
    readSack (issueAt r b i) (issuing s n w r (takePorts i)) k line =
      (sackLine s.regions[r] k line, issuing s n w r (takePorts i)) := by
  have hone : ((actionReads i).filter (· == k)).length ≤ 1 := by
    rw [← List.count_eq_length_filter, hk.count]
    split <;> decide
  exact readSack_issue h n w (takePorts i) hone rfl rfl (fun _ => rfl) (fun _ => rfl) (fun _ => rfl) (fun _ => rfl) (fun _ _ => rfl)

/-- An effect is queued after updates of the region that keep the room for it. -/
theorem later_issuing {e : Nat} (h : roomTo s r e) (m : Micro) (hF : ∀ g, (F g).bndBeat = g.bndBeat) :
    later (issueAt r b i) (issuing s n w r F) e m = issuing s n w r fun g => queue b i [(e, m)] (F g) := by
  rw [issuing, later_issue (roomTo_modRegion h n w F hF), modRegion_twice, issuing]

theorem modKettle_issuing (u : Fin 16) (f : Kettle → Kettle) :
    modKettle (issuing s n w r F) r u f = issuing s n w r fun g => withKettle u f (F g) := by
  rw [issuing, modKettle_eq, modRegion_twice, issuing]

theorem issuing_region : (issuing s n w r F).regions[r] = F s.regions[r] := modRegion_regions_same _ r F

end Issuing

/-! ## The commands of the common layout -/

section CommonLayout

variable {r : Fin 32} {u : Fin 16} {op : KOp} {o : KOps} {i : Instr}

theorem exec_kettleForm (h : kettleForm i = some (r, u, op, o)) (s : State) : exec i s = direct s r i (issueKettle op u o) := by
  revert h
  fun_cases kettleForm i <;> rintro ⟨⟩ <;> rfl

/-- The rules that refuse an action at its issue are those of Stoves, of movement and of tracks (R102, R124, R153). -/
theorem actionRefused_kettleForm (h : kettleForm i = some (r, u, op, o)) (x : Ctx) (s : State) : actionRefused x s i = false := by
  revert h
  fun_cases kettleForm i <;> rintro ⟨⟩ <;> rfl

theorem kopsOk_of_accepted (h : kettleForm i = some (r, u, op, o)) (hc : actionCause i = none) : kopsOk op o = true := by
  revert h hc
  fun_cases kettleForm i <;> rintro ⟨⟩ <;> simp +contextual [actionCause, causeIf]

/-- KMERGE and KRNG have no operand in Sacks (Table 5.4). -/
theorem kopsOk_am_false (h : kopsOk op o = true) (hop : op = .kmerge ∨ op = .krng) : o.am = false := by
  rcases hop with rfl | rfl
  · simp_all [kopsOk, funcOk]
  · simp_all [kopsOk, usesA]

/-- The ports that a Kettle command takes are those of the Sacks of its operand A. -/
theorem actionReads_kettleForm (h : kettleForm i = some (r, u, op, o)) (hc : actionCause i = none) :
    actionReads i = (kettleLines u op o).map Prod.fst := by
  have hok := kopsOk_of_accepted h hc
  have hlines : (kettleLines u op o).map Prod.fst = if !o.am then [] else
      if op = .kcvt && 0xC ≤ o.func.toNat % 16 then [pairSack u o.ap (o.func.toNat / 16 % 2 = 1)]
      else [pairSack u o.ap false, pairSack u o.ap true] := by
    unfold kettleLines
    split
    · rfl
    · split <;> rfl
  have hnone : op = .kmerge ∨ op = .krng → (kettleLines u op o).map Prod.fst = [] := fun hop => by
    rw [hlines, kopsOk_am_false hok hop]
    rfl
  revert h
  fun_cases kettleForm i <;> rintro ⟨⟩
  case case15 => exact (hnone (.inl rfl)).symm -- KMERGE
  case case18 => exact (hnone (.inr rfl)).symm -- KRNG
  all_goals exact hlines.symm

theorem pairSack_high (u : Fin 16) (p : Bool) : pairSack u p true = pairSack u p false + 1 := rfl

/-- The two Sacks of a pair are different, so no port is taken twice. -/
theorem kettleLines_sacks_nodup (u : Fin 16) (op : KOp) (o : KOps) : ((kettleLines u op o).map Prod.fst).Nodup := by
  unfold kettleLines
  split
  · exact List.Pairwise.nil
  · split
    · exact List.pairwise_singleton _ _
    · refine List.nodup_cons.mpr ⟨fun hmem => ?_, List.pairwise_singleton _ _⟩
      have heq : pairSack u o.ap false = pairSack u o.ap true := List.mem_singleton.mp hmem
      rw [pairSack_high] at heq
      omega

/-- Operand A is what its lines give, where each read gives the line as it stands. -/
theorem readOperandA_clean {x : Ctx} {s : State} {g : Region}
    (h : ∀ e ∈ kettleLines u op o, readSack x s e.1 e.2 = (sackLine g e.1 e.2, s)) :
    readOperandA u op o x s = (kettleOperand g u op o, s) := by
  revert h
  unfold readOperandA kettleOperand kettleLines
  split
  · exact fun _ => rfl
  · split
    · intro h
      have hread := h _ (List.mem_singleton_self _)
      simp only [hread]
    · intro h
      obtain ⟨hlow, hrest⟩ := List.forall_mem_cons.mp h
      have hhigh := hrest _ (List.mem_singleton_self _)
      simp only [hlow, hhigh]

theorem withKettle_id (u : Fin 16) (g : Region) : withKettle u (fun k => k) g = g := by
  simp [withKettle]

/-- What the issue does once operand A is known: KRNG takes its counter and key, ADV moves EIDX on, and the operation is queued. -/
theorem issueKettle_issuing {s : State} {n : Lantern} {w : Whistle} {b : Nat} {a : Option Vec}
    (ha : readOperandA u op o (issueAt r b i) (issuing s n w r (takePorts i)) = (a, issuing s n w r (takePorts i)))
    (hroom : roomTo s r (b + 2)) :
    let k := s.regions[r].kettles[u]
    let key := if op = .krng then some (indexCtr k.eidx k.stream k.step, k.k0, k.k1) else none
    let adv : Bool := op = .krng && o.func.toNat / 8 % 2 = 1
    issueKettle op u o (issueAt r b i) (issuing s n w r (takePorts i)) = issuing s n w r fun g =>
      withKettle u (fun k => if adv then { k with eidx := k.eidx + 64 } else k)
        (queue b i [(b + 2, .kexec u op o a key)] (takePorts i g)) := by
  intro k key adv
  have hk : ((issueAt r b i).g (issuing s n w r (takePorts i))).kettles[u] = k := by
    change (issuing s n w r (takePorts i)).regions[r].kettles[u] = k
    rw [issuing_region]
    rfl
  simp only [issueKettle, ha, hk, issueAt_beat, issueAt_r]
  change later _ (if adv = true then _ else _) _ _ = _
  cases adv with
  | false =>
    simp only [Bool.false_eq_true, if_false, withKettle_id]
    exact later_issuing hroom _ fun _ => rfl
  | true =>
    simp only [if_true, modKettle_issuing]
    exact later_issuing hroom _ fun _ => rfl

end CommonLayout

/-- Settles O11: it holds. For the common layout `readOperandA_clean` gives operand A and `issueKettle_issuing` the rest; each mode of KSR
queues one effect, modes 0 and 3 with the line they read. -/
theorem kettleCommands : Obligations.KettleCommands := by
  unfold Obligations.KettleCommands
  dsimp only
  refine ⟨?common, ?sackToRegister, ?registerToSack, ?copy, ?keyLoad⟩
  case common =>
    intro s r b u op o i hi hb hc hroom hclean
    rw [exec_kettleForm hi]
    refine direct_issues hb hc (actionRefused_kettleForm hi _ s) fun n w => ?_
    have hports : (actionReads i).Nodup := by
      rw [actionReads_kettleForm hi hc]
      exact kettleLines_sacks_nodup u op o
    exact issueKettle_issuing (readOperandA_clean fun e he => readSack_issuing (hclean e he) hports) hroom
  case sackToRegister =>
    intro s r b u sack line reg half hb hc hroom hclean
    refine direct_issues hb hc rfl fun n w => ?_
    rw [issueKsrSackToRegister, readSack_issuing hclean (List.pairwise_singleton _ _)]
    exact later_issuing hroom _ fun _ => rfl
  case registerToSack =>
    intro s r b u sack line reg half hb hc hroom
    exact direct_issues hb hc rfl fun n w => later_issuing hroom _ fun _ => rfl
  case copy =>
    intro s r b u dst src bcast lane hb hc hroom
    exact direct_issues hb hc rfl fun n w => later_issuing hroom _ fun _ => rfl
  case keyLoad =>
    intro s r b u sack line hb hc hroom hclean
    refine direct_issues hb hc rfl fun n w => ?_
    rw [issueKsrKeyLoad, readSack_issuing hclean (List.pairwise_singleton _ _)]
    exact later_issuing hroom _ fun _ => rfl

end Sys2Proof.Machine
